-- ==== Sys2Proof/Word.lean ====
section
/-! DEFINITION. The word types of the block: 64-bit registers (R13), bytes (R8), 64 B lines (R260), and the keyed
lists in which sparse data is held. -/

namespace Sys2Proof

/-- A register or qword, 64 bits (R13). -/
abbrev Word := BitVec 64

/-- A byte of memory (R8). -/
abbrev Byte := BitVec 8

/-- A 64 B line as one little-endian number: byte k is bits [8k+7:8k] (R8, R260). -/
abbrev Line := BitVec 512

/-- A descriptor as fetched, 64 B or 256 B, byte k in bits [8k+7:8k] (R39). -/
abbrev Desc := BitVec 2048

/-- Sparse data by a numeric key: a list of pairs in strictly rising order of key. -/
abbrev NMap (α : Type) := List (Nat × α)

end Sys2Proof
end

