-- ==== Sys2Proof/Syntax.lean ====
section
/-! DEFINITION. The commands of the block: one constructor of Instr for each row of spec/opcode_table.json, with
the operands the row's rule gives the event: in the table's order the rows with operands, then those without. -/

namespace Sys2Proof

/-- Which part of a 64-bit register a BAR0 or doorbell access covers (R13, R58). -/
inductive Half where
  | full
  | low
  | high
deriving DecidableEq, Repr

/-- The way by which a doorbell write reaches the block (R57, R60, R304), with the page it names. -/
inductive DbOrigin where
  | pf (page : BitVec 10)
  | vf (fn : BitVec 8) (page : BitVec 4)
  | port (port : Fin 16) (page : BitVec 10)
  | peer (node : BitVec 8) (dbFunction : BitVec 8) (page : BitVec 10)
  | batcher (page : BitVec 10)
deriving DecidableEq, Repr

/-- One doorbell write: entry `index` of its page; `half` is the part written, none for a size the page refuses
(R57, R58, R304). -/
structure Doorbell where
  origin : DbOrigin
  index  : BitVec 6
  half   : Option Half
  value  : Word
deriving DecidableEq, Repr

/-- A REQ message of a Fabric Port (Table 3 of spec/17), without its opcode, which is the command's row. `port` is the
port it arrives at (R430). -/
structure Req where
  port     : Fin 16
  addr     : BitVec 42
  bullpen  : BitVec 5
  crdValid : Bool
  scope    : Bool
  rsv      : Bool
  zero     : Bool
  aop      : BitVec 4
  size     : BitVec 3
  offset   : BitVec 6
  thread   : BitVec 16
  context  : BitVec 12
  txn      : BitVec 10
  engine   : BitVec 2
  core     : BitVec 8
  agent    : BitVec 4
deriving DecidableEq, Repr

/-- A DAT slot from an agent (Table 8 of spec/17). -/
structure Dat where
  port    : Fin 16
  mask    : BitVec 64
  poison  : Bool
  dirty   : Bool
  homeTag : BitVec 12
  dest    : BitVec 5
  txn     : BitVec 10
  agent   : BitVec 4
  data    : Line
deriving DecidableEq, Repr

/-- A snoop answer on RSP (Table 7 of spec/17), without its opcode. -/
structure Rsp where
  port    : Fin 16
  homeTag : BitVec 12
  agent   : BitVec 4
deriving DecidableEq, Repr

/-- The MetaValue of a CXL.mem request (R210): I, S or A. -/
inductive MetaValue where
  | i
  | s
  | a
deriving DecidableEq, Repr

/-- A host CXL.mem request (R210, R305): its host physical line address, MetaValue, tag and, for a write, its data. -/
structure MemReq where
  hpa    : BitVec 52
  metaV  : MetaValue
  noOp   : Bool
  tag    : BitVec 16
  data   : Line
  mask   : BitVec 64
  poison : Bool
deriving DecidableEq, Repr

/-- The kinds of CXL.mem request the block does not support (R306). -/
inductive MemOther where
  | specRd
  | read (tag : BitVec 16)
  | write (tag : BitVec 16)
  | metaField (tag : BitVec 16)
deriving DecidableEq, Repr

/-- The state in which the host grants a line to the device cache (R222). -/
inductive Grant where
  | s
  | e
  | m
deriving DecidableEq, Repr

/-- An IPL packet (Table 2 of spec/10), without its opcode. `rsvd` says that a reserved field is not 0, or that the opcode is one that Table 3 does
not have and no row carries; `poison` is the mark that travels with a payload (R221, R387; log entry 113); `port` is the port it arrives on. -/
structure IplPkt where
  port    : Fin 4
  dst     : BitVec 8
  src     : BitVec 8
  flow    : BitVec 7
  seq     : BitVec 16
  cum     : Bool
  status  : BitVec 4
  subop   : BitVec 4
  len     : BitVec 11
  addr    : BitVec 48
  rsvd    : Bool
  poison  : Bool
  payload : List Line
deriving DecidableEq, Repr

/-- The answer to an ATS Translation Request (R176): the range it covers and what it grants. `log2` is the range's
size as a power of two, 12 to 30. -/
structure AtsAnswer where
  log2  : BitVec 5
  target : BitVec 52
  read  : Bool
  write : Bool
deriving DecidableEq, Repr

/-- The page a translation is for: function, PASID when the segment carries one, and 4 KiB page of the IOVA (R176,
R182). -/
structure AtsKey where
  fn    : BitVec 8
  pasid : Option (BitVec 20)
  page  : Nat
deriving DecidableEq, Repr

/-- The answers of a PRG Response (R181). -/
inductive PrgCode where
  | success
  | invalid
  | failure
deriving DecidableEq, Repr

/-- What drains at the end of a commit (R175, R198, R282, R303). -/
inductive DrainKind where
  | chCmd
  | window
  | bar2
deriving DecidableEq, Repr

/-- The non-posted upstream requests that can time out (R312). -/
inductive TimedOut where
  | work (id : Nat)
  | slot (q : BitVec 16)
  | shadow (q : BitVec 16)
  | translation (key : AtsKey)
  | head (r : BitVec 16)
deriving DecidableEq, Repr

/-- A CXL.io memory request into the HDM range or BAR2 (R197, R224, R303, R305). -/
inductive HdmAccess where
  | read
  | write (data : List Byte) (poison : Bool)
  | atomic (aop : BitVec 4) (size8 : Bool) (operand compare : Word)
  /-- A 128-bit CAS, which no target supports (R296, R310). -/
  | cas128
deriving DecidableEq, Repr

/-- A configuration request (R300, R301): a read, or a write of the bytes that `be` selects of one dword. -/
inductive CfgAccess where
  | read
  | write (be : BitVec 4) (value : BitVec 32)
deriving DecidableEq, Repr

/-- What step 4 and step 5 of bring-up read from an expander (R326 Table 3). -/
structure ExpanderId where
  speed      : BitVec 4
  width      : BitVec 4
  responds   : Bool
  memCapable : Bool
  hdmCount   : BitVec 4
  hdmDecoder : Bool
  bars       : List Nat
  msix       : Bool
  msi        : Bool
deriving DecidableEq, Repr

/-- The steps of bring-up that can fail (R326 Table 3), with the code that REASON records. -/
inductive BringStep where
  | power
  | link
  | noResponse
  | notMemory
  | notActive
  | decoder
deriving DecidableEq, Repr

/-- An error occurrence at a source (R388, R390): the bit of ERR_STATUS of window `blk`, the unit it lies in, and what
is captured. `redo` says that the redo or second read also fails, where R391 performs one at once. -/
structure ErrEvent where
  blk     : Fin 18
  bit     : BitVec 6
  unit    : BitVec 16
  address : Word
  space   : BitVec 4
  access  : BitVec 4
  cls     : BitVec 4
  index   : BitVec 16
  context : Option (BitVec 12)
  symbol  : BitVec 8
  redo    : Bool
deriving DecidableEq, Repr

/-- A monitor report of the AVFS loop (R369): the domain and its lowest slack in the period. -/
structure Slack where
  domain : Fin 96
  slack  : BitVec 8
deriving DecidableEq, Repr

/-- A source that wakes a domain (R374 Table 7). -/
inductive WakeSource where
  | crossing
  | floor
  | timer
  | portEvent
deriving DecidableEq, Repr

/-- A wake source as its domain sees it (R376): `final` in the final window of an entry. -/
structure WakeEvent where
  source : WakeSource
  final  : Bool
deriving DecidableEq, Repr

/-- The new level of a wake input, which its domain sees in the final window of an entry or not (R375, R376). -/
structure WakeLevel where
  level : Bool
  final : Bool
deriving DecidableEq, Repr

/-- A place in BAR0 of a function (R301, R302). -/
structure BarPlace where
  fn     : BitVec 8
  offset : BitVec 26
deriving DecidableEq, Repr

/-- The lanes of an optical link that came up (R270): all eight, or the upper or the lower four. -/
structure LinkLanes where
  x8   : Bool
  high : Bool
deriving DecidableEq, Repr

/-- What the load finds at the flash (R343): whether the SFDP lists a 64 KiB erase, and whether the reads of copy A and of copy B complete. -/
structure FlashReads where
  erase64 : Bool
  readA   : Bool
  readB   : Bool
deriving DecidableEq, Repr

/-- The commands: one constructor for each row of spec/opcode_table.json. -/
inductive Instr where
  /-- REGISTER_WRITE (R10). -/
  | registerWrite (place : BarPlace) (size : BitVec 7) (value : Word)
  /-- QCFG_WRITE (R36). -/
  | qcfgWrite (k : BitVec 2) (half : Half) (value : Word)
  /-- DRAIN_END (R75). -/
  | drainEnd (q : BitVec 16)
  /-- SQ_TAIL (R59). -/
  | sqTail (d : Doorbell)
  /-- CQ_HEAD (R59). -/
  | cqHead (d : Doorbell)
  /-- BATCH_SQ (R61). -/
  | batchSq (d : Doorbell)
  /-- TAIL_SHADOW_READ (R61). -/
  | tailShadowRead (q : BitVec 16)
  /-- CORE_DONE (R56). -/
  | coreDone (d : Doorbell)
  /-- QUEUE_GRANT (R63). -/
  | queueGrant (bank : BitVec 2)
  /-- SLOT_FETCH (R41). -/
  | slotFetch (q : BitVec 16)
  /-- STALE_RETRY (R73). -/
  | staleRetry (q : BitVec 16)
  /-- DESCRIPTOR_COMPLETE (R69). -/
  | descriptorComplete (work : Nat)
  /-- DEFERRED_ENTRY_WRITE (R454). -/
  | deferredEntryWrite (q : BitVec 16)
  /-- INT_TIME_EXPIRY (R47). -/
  | intTimeExpiry (q : BitVec 16)
  /-- CTR_VALUE_WRITE (R70). -/
  | ctrValueWrite (half : Half) (value : Word)
  /-- CTR_CFG_WRITE (R65). -/
  | ctrCfgWrite (half : Half) (value : Word)
  /-- HTAB_BASE_WRITE (R51). -/
  | htabBaseWrite (half : Half) (value : Word)
  /-- NOP (R49). -/
  | nop (q : BitVec 16)
  /-- COPY (R49). -/
  | copy (q : BitVec 16)
  /-- FILL (R49). -/
  | fill (q : BitVec 16)
  /-- WRITE_INLINE (R49). -/
  | writeInline (q : BitVec 16)
  /-- HANDLE_UPDATE (R52). -/
  | handleUpdate (q : BitVec 16)
  /-- LAUNCH (R54). -/
  | launch (q : BitVec 16)
  /-- DISPATCH_TAKEN (R432). -/
  | dispatchTaken (g : BitVec 4)
  /-- CONVERT (R92). -/
  | convert (q : BitVec 16)
  /-- REDUCE (R98). -/
  | reduce (q : BitVec 16)
  /-- YXP_COMPRESS (R104). -/
  | yxpCompress (q : BitVec 16)
  /-- YXP_DECOMPRESS (R105). -/
  | yxpDecompress (q : BitVec 16)
  /-- PIECE_DISPATCH (R95). -/
  | pieceDispatch (u : Fin 8)
  /-- PIECE_COMPLETE (R96). -/
  | pieceComplete (u : Fin 8)
  /-- REDUCE_WRITE_APPLY (R99). -/
  | reduceWriteApply (u : Fin 8)
  /-- MOVE_JOB (R128). -/
  | moveJob (move : Nat)
  /-- IB_ENABLE (R134). -/
  | ibEnable (half : Half) (value : Word)
  /-- PAGE_DEMOTE_DONE (R118). -/
  | pageDemoteDone (page : Nat)
  /-- PAGE_FETCH_DONE (R118). -/
  | pageFetchDone (page : Nat)
  /-- REQUEST_CLOSE (R133). -/
  | requestClose (r : BitVec 16)
  /-- SERVE_CONFIG (R136). -/
  | serveConfig (q : BitVec 16)
  /-- OPEN_REQUEST (R140). -/
  | openRequest (q : BitVec 16)
  /-- CANCEL_REQUEST (R143). -/
  | cancelRequest (q : BitVec 16)
  /-- SAMPLE (R156). -/
  | sample (q : BitVec 16)
  /-- STEP (R160). -/
  | step (q : BitVec 16)
  /-- ROW_HANDOUT (R161). -/
  | rowHandout (u : Fin 4)
  /-- ROW_SAMPLED (R146). -/
  | rowSampled (u : Fin 4)
  /-- TOKEN_RECORD_WRITE (R155). -/
  | tokenRecordWrite (r : BitVec 16)
  /-- HEAD_READ (R154). -/
  | headRead (r : BitVec 16)
  /-- RING_POLL_EXPIRY (R154). -/
  | ringPollExpiry (r : BitVec 16)
  /-- DEADLINE_EXPIRY (R164). -/
  | deadlineExpiry (r : BitVec 16)
  /-- PREFETCH (R194). -/
  | prefetch (q : BitVec 16)
  /-- ADVISE (R195). -/
  | advise (q : BitVec 16)
  /-- COMMIT_DRAIN_END (R175). -/
  | commitDrainEnd (kind : DrainKind)
  /-- ATS_TRANSLATION_COMPLETION (R176). -/
  | atsTranslationCompletion (key : AtsKey) (answer : Option AtsAnswer)
  /-- PRG_CLOSE (R180). -/
  | prgClose (group : Nat)
  /-- PRG_RESPONSE (R181). -/
  | prgResponse (group : Nat) (code : PrgCode)
  /-- PRI_TIMEOUT (R181). -/
  | priTimeout (group : Nat)
  /-- PRI_CTRL_WRITE (R181). -/
  | priCtrlWrite (half : Half) (value : Word)
  /-- ATS_INVALIDATE (R178). -/
  | atsInvalidate (fn : BitVec 8) (pasid : Option (BitVec 20)) (base : Word) (log2 : BitVec 7)
  /-- ATS_DRAIN_TIMEOUT (R178). -/
  | atsDrainTimeout (fn : BitVec 8)
  /-- FRAME_ZERO (R185). -/
  | frameZero (pool : BitVec 4) (frame : Nat)
  /-- MOVE_DONE (R189). -/
  | moveDone (move : Nat)
  /-- RD_SHARED (R209). -/
  | rdShared (m : Req)
  /-- RD_OWN (R209). -/
  | rdOwn (m : Req)
  /-- RD_CUR (R209). -/
  | rdCur (m : Req)
  /-- RD_OWN_NODATA (R209). -/
  | rdOwnNodata (m : Req)
  /-- EVICT_CLEAN (R209). -/
  | evictClean (m : Req)
  /-- EVICT_DIRTY (R218). -/
  | evictDirty (m : Req)
  /-- ATOMIC (R224). -/
  | atomic (m : Req)
  /-- WR_UC (R424). -/
  | wrUc (m : Req)
  /-- WR_NT (R254). -/
  | wrNt (m : Req)
  /-- FENCE (R252). -/
  | fence (m : Req)
  /-- RSV_CHECK (R263). -/
  | rsvCheck (m : Req)
  /-- NT_ENTRY_TIMEOUT (R254). -/
  | ntEntryTimeout (port : Fin 16) (line : BitVec 42)
  /-- RSP_I (R207). -/
  | rspI (m : Rsp)
  /-- RSP_S (R207). -/
  | rspS (m : Rsp)
  /-- RSP_FWD_S (R207). -/
  | rspFwdS (m : Rsp)
  /-- RSP_FWD_F (R207). -/
  | rspFwdF (m : Rsp)
  /-- RSP_FWD_I (R207). -/
  | rspFwdI (m : Rsp)
  /-- RSP_I_WB (R207). -/
  | rspIWb (m : Rsp)
  /-- RSP_FWD_V (R207). -/
  | rspFwdV (m : Rsp)
  /-- FLUSH_DONE (R431). -/
  | flushDone (port : Fin 16) (agent : BitVec 4) (slice : Fin 16)
  /-- DAT_WRITE (R424). -/
  | datWrite (d : Dat)
  /-- DAT_SNOOP (R424). -/
  | datSnoop (d : Dat)
  /-- SNOOP_TIMEOUT (R220). -/
  | snoopTimeout (slice : Fin 16) (tag : BitVec 8) (agent : BitVec 5)
  /-- BULLPEN_EXPIRY (R216). -/
  | bullpenExpiry (slice : Fin 16) (credit : BitVec 5)
  /-- MEMRD (R210). -/
  | memRd (m : MemReq)
  /-- MEMINV (R210). -/
  | memInv (m : MemReq)
  /-- MEMWR (R210). -/
  | memWr (m : MemReq)
  /-- MEMCLNEVCT (R210). -/
  | memClnEvct (m : MemReq)
  /-- MEM_UNSUPPORTED (R306). -/
  | memUnsupported (k : MemOther)
  /-- BIRSP (R209). -/
  | biRsp (line : BitVec 42)
  /-- BICONFLICT (R219). -/
  | biConflict (line : BitVec 42)
  /-- SNPDATA (R223). -/
  | snpData (line : BitVec 42)
  /-- SNPINV (R223). -/
  | snpInv (line : BitVec 42)
  /-- SNPCUR (R223). -/
  | snpCur (line : BitVec 42)
  /-- HOST_FILL_DATA (R241). -/
  | hostFillData (line : BitVec 42) (grant : Grant) (data : Line) (poison : Bool)
  /-- GO_WRITEPULL (R242). -/
  | goWritePull (line : BitVec 42)
  /-- SF_PRED_WRITE (R226). -/
  | sfPredWrite (half : Half) (value : Word)
  /-- PRELOAD_LOCK (R235). -/
  | preloadLock (half : Half) (value : Word)
  /-- UNLOCK (R235). -/
  | unlock (half : Half) (value : Word)
  /-- FLUSH (R236). -/
  | flush (half : Half) (value : Word)
  /-- FLUSH_CONTEXT (R236). -/
  | flushContext (half : Half) (value : Word)
  /-- IPL_WRITE (R286). -/
  | iplWrite (m : IplPkt)
  /-- IPL_READ (R286). -/
  | iplRead (m : IplPkt)
  /-- IPL_ATOMIC (R286). -/
  | iplAtomic (m : IplPkt)
  /-- IPL_REDUCE_WRITE (R294). -/
  | iplReduceWrite (m : IplPkt)
  /-- IPL_SYNC (R286). -/
  | iplSync (m : IplPkt)
  /-- IPL_RDATA (R287). -/
  | iplRdata (m : IplPkt)
  /-- IPL_ATOMIC_DATA (R287). -/
  | iplAtomicData (m : IplPkt)
  /-- IPL_CMP (R287). -/
  | iplCmp (m : IplPkt)
  /-- IPL_NAK (R289). -/
  | iplNak (m : IplPkt)
  /-- ACK_TIMER (R287). -/
  | ackTimer (node : BitVec 8) (flow : BitVec 7)
  /-- RETX_TIMEOUT (R289). -/
  | retxTimeout (node : BitVec 8) (flow : BitVec 7)
  /-- WINDOW_COMMIT (R282). -/
  | windowCommit (half : Half) (value : Word)
  /-- LINK_BLOCK_FAIL (R271). -/
  | linkBlockFail (port : Fin 4) (retrained : Bool)
  /-- LINK_DOWN (R271). -/
  | linkDown (port : Fin 4)
  /-- LINK_UP (R270). -/
  | linkUp (port : Fin 4) (lanes : LinkLanes)
  /-- OL_READY (R435). -/
  | olReady (port : Fin 4)
  /-- OL_LOS (R435). -/
  | olLos (port : Fin 4) (lane : BitVec 3)
  /-- OL_FAULT (R435). -/
  | olFault (port : Fin 4)
  /-- PL_CTRL_WRITE (R273). -/
  | plCtrlWrite (half : Half) (value : Word)
  /-- CONFIG_REQUEST (R300). -/
  | configRequest (fn : BitVec 8) (reg : BitVec 10) (access : CfgAccess)
  /-- BAR2_ACCESS (R303). -/
  | bar2Access (offset : BitVec 32) (len : BitVec 13) (access : HdmAccess)
  /-- BAR2_MAP_WRITE (R303). -/
  | bar2MapWrite (half : Half) (value : Word)
  /-- HDM_COMMIT (R305). -/
  | hdmCommit (n : Bool) (base size skip : Word) (ways : BitVec 4) (lock : Bool)
  /-- HDM_IO_REQUEST (R197). -/
  | hdmIoRequest (requester : BitVec 16) (pasid : Option (BitVec 20)) (hpa : BitVec 52) (len : BitVec 13) (access : HdmAccess)
  /-- FLR (R315). -/
  | flr (fn : BitVec 8)
  /-- BME_CLEAR (R315). -/
  | bmeClear (fn : BitVec 8)
  /-- D3HOT (R315). -/
  | d3hot (fn : BitVec 8)
  /-- QUIESCE_COMPLETE (R315). -/
  | quiesceComplete (fn : BitVec 8)
  /-- FLR_READ_ABANDON (R315). -/
  | flrReadAbandon (fn : BitVec 8)
  /-- RESUME_FN (R317). -/
  | resumeFn (fn : BitVec 8)
  /-- DISCARD_FN (R317). -/
  | discardFn (fn : BitVec 8)
  /-- MSIX_UNMASK (R308). -/
  | msixUnmask (fn : BitVec 8) (vector : BitVec 11)
  /-- COMPLETION_TIMEOUT (R312). -/
  | completionTimeout (what : TimedOut)
  /-- PTM_DIALOGUE (R314). -/
  | ptmDialogue (offset : Word)
  /-- POWER_ON (R326). -/
  | powerOn (p : Fin 8) (value : Word)
  /-- EVACUATE (R333). -/
  | evacuate (p : Fin 8) (value : Word)
  /-- POWER_OFF (R334). -/
  | powerOff (p : Fin 8) (value : Word)
  /-- EVAC_DONE (R333). -/
  | evacDone (p : Fin 8)
  /-- POWER_GOOD (R326). -/
  | powerGood (p : Fin 8)
  /-- RESET_HOLD_EXPIRY (R326). -/
  | resetHoldExpiry (p : Fin 8)
  /-- DN_LINK_UP (R326). -/
  | dnLinkUp (p : Fin 8) (x : ExpanderId)
  /-- MEMORY_ACTIVE (R326). -/
  | memoryActive (p : Fin 8) (size : Word) (decoderOk : Bool)
  /-- BRINGUP_TIMEOUT (R326). -/
  | bringupTimeout (p : Fin 8) (at_ : BringStep)
  /-- PRESENCE_CHANGE (R329). -/
  | presenceChange (p : Fin 8) (present : Bool)
  /-- POWER_FAULT (R331). -/
  | powerFault (p : Fin 8)
  /-- ATTN_BUTTON (R330). -/
  | attnButton (p : Fin 8)
  /-- BUTTON_WINDOW_EXPIRY (R330). -/
  | buttonWindowExpiry (p : Fin 8)
  /-- DN_CPL_TIMEOUT (R332). -/
  | dnCplTimeout (p : Fin 8) (id : Nat)
  /-- EXPANDER_COMPLETION (R323). -/
  | expanderCompletion (p : Fin 8) (id : Nat) (poison : Bool)
  /-- UNEXPECTED_S2M (R324). -/
  | unexpectedS2m (p : Fin 8)
  /-- EXPANDER_MESSAGE (R328). -/
  | expanderMessage (p : Fin 8)
  /-- XACC_ACCESS (R328). -/
  | xaccAccess (half : Half) (value : Word)
  /-- XACC_DONE (R328). -/
  | xaccDone (data : Word) (ok : Bool)
  /-- POOL_ENABLE (R327). -/
  | poolEnable (p : Fin 8) (chamois : Bool) (half : Half) (value : Word)
  /-- EQ_PERIOD (R336). -/
  | eqPeriod (i : Fin 9) (margin : BitVec 8) (lane : BitVec 4) (corrected : Nat)
  /-- EQ_QUIET_REDO (R337). -/
  | eqQuietRedo (p : Fin 8)
  /-- EQ_REDO_END (R337). -/
  | eqRedoEnd (p : Fin 8) (best : Option (BitVec 2)) (inL0 : Bool)
  /-- FUNDAMENTAL_RESET (R340). -/
  | fundamentalReset (por : Bool)
  /-- PUF_READ (R340). -/
  | pufRead (response : List Byte)
  /-- FLASH_LOAD_READ (R343): whether the flash responds with its SFDP, whether the SFDP lists octal mode, and what else the load finds. -/
  | flashLoadRead (responds octal : Bool) (reads : FlashReads)
  /-- FLASH_READ (R352). -/
  | flashRead (half : Half) (value : Word)
  /-- FLASH_PROGRAM (R352). -/
  | flashProgram (half : Half) (value : Word)
  /-- FLASH_ERASE (R352). -/
  | flashErase (half : Half) (value : Word)
  /-- FLASH_CMD_DONE (R352). -/
  | flashCmdDone (ok : Bool)
  /-- GET_CERTIFICATE (R357). -/
  | getCertificate (slot : BitVec 4) (offset length : BitVec 16)
  /-- CHALLENGE (R357). -/
  | challenge (slot : BitVec 4) (nonce : List Byte)
  /-- GET_MEASUREMENTS (R357). -/
  | getMeasurements (index : BitVec 8) (signed : Bool) (nonce : List Byte)
  /-- KEY_EXCHANGE (R357). -/
  | keyExchange (slot : BitVec 4) (random exchange : List Byte)
  /-- FINISH (R357). -/
  | spdmFinish (session : BitVec 32) (verify : List Byte)
  /-- HEARTBEAT (R357). -/
  | heartbeat (session : BitVec 32)
  /-- KEY_UPDATE (R357). -/
  | keyUpdate (session : BitVec 32) (both : Bool)
  /-- END_SESSION (R357). -/
  | endSession (session : BitVec 32)
  /-- KEY_PROG (R358). -/
  | keyProg (session : BitVec 32) (stream : BitVec 8) (keySet : Bool) (tx : Bool) (sub : BitVec 4) (key : BitVec 256)
  /-- K_SET_GO (R358). -/
  | kSetGo (session : BitVec 32) (stream : BitVec 8) (keySet : Bool) (tx : Bool) (sub : BitVec 4)
  /-- K_SET_STOP (R358). -/
  | kSetStop (session : BitVec 32) (stream : BitVec 8) (keySet : Bool) (tx : Bool) (sub : BitVec 4)
  /-- QUERY (R358). -/
  | query (session : BitVec 32) (stream : BitVec 8)
  /-- LEVEL_CHANGE (R366). -/
  | levelChange (half : Half) (value : Word)
  /-- VREG_ACK (R436). -/
  | vregAck (rail : BitVec 2)
  /-- VREG_TIMEOUT (R367). -/
  | vregTimeout (rail : BitVec 2)
  /-- AVFS_PERIOD (R369). -/
  | avfsPeriod (samples : List Slack)
  /-- DROOP (R370). -/
  | droop (domain : Fin 96) (slack : BitVec 8)
  /-- IDLE_TIMER_EXPIRY (R372). -/
  | idleTimerExpiry (d : Fin 96)
  /-- NAP_TIMER_EXPIRY (R372). -/
  | napTimerExpiry (d : Fin 96)
  /-- OFF_TIMER_EXPIRY (R372). -/
  | offTimerExpiry (d : Fin 96)
  /-- ENTRY_COMMIT (R376). -/
  | entryCommit (d : Fin 96)
  /-- SAVE_WRITE_DONE (R373). -/
  | saveWriteDone (bank : BitVec 2) (ok : Bool)
  /-- DOMAIN_WAKE (R372). -/
  | domainWake (d : Fin 96) (event : WakeEvent)
  /-- WAKE_COMPLETE (R372). -/
  | wakeComplete (d : Fin 96)
  /-- WAKE_TIMEOUT (R378). -/
  | wakeTimeout (d : Fin 96)
  /-- PM_WAKE_INPUT (R375). -/
  | pmWakeInput (i : Fin 8) (change : WakeLevel)
  /-- DBG_HOLD (R377). -/
  | dbgHold (d : Fin 96) (level : Bool)
  /-- DOM_STAT_READ (R10). -/
  | domStatRead (d : Fin 96)
  /-- ERROR_DETECTED (R388). -/
  | errorDetected (e : ErrEvent)
  /-- PM_FENCE (R392). -/
  | pmFence (half : Half) (value : Word)
  /-- CROSSING_RELEASE (R397). -/
  | crossingRelease (half : Half) (value : Word)
  /-- ERR_REG_PARITY (R398). -/
  | errRegParity (blk : Fin 18)
  /-- ERR_INJECT_ARM (R400). -/
  | errInjectArm (blk : Fin 18) (half : Half) (value : Word)
  /-- BIND (R406). -/
  | bind (half : Half) (value : Word)
  /-- QUIESCE (R407). -/
  | quiesce (half : Half) (value : Word)
  /-- CONTEXT_RESUME (R409). -/
  | contextResume (half : Half) (value : Word)
  /-- CHECKPOINT (R412). -/
  | checkpoint (half : Half) (value : Word)
  /-- REBIND (R410). -/
  | rebind (half : Half) (value : Word)
  /-- RESTORE (R413). -/
  | restore (half : Half) (value : Word)
  /-- CONTEXT_RELEASE (R411). -/
  | contextRelease (half : Half) (value : Word)
  /-- RB_CTX_WRITE (R10). -/
  | rbCtxWrite (half : Half) (value : Word)
  /-- RECORD (R415). -/
  | record (half : Half) (value : Word)
  /-- REPLAY (R419). -/
  | replay (half : Half) (value : Word)
  /-- MODE_OFF (R416). -/
  | modeOff (half : Half) (value : Word)
  /-- CRD_INIT (R426). -/
  | crdInit (port : Fin 16)
  /-- CRD_RETURN (R425). -/
  | crdReturn (port : Fin 16) (snp : BitVec 4)
  /-- DN_DL_DOWN (R331). -/
  | dnDlDown (p : Fin 8)
  /-- UP_LINK_TRAINED (R322). -/
  | upLinkTrained (speed : BitVec 4) (width : BitVec 5) (flit cxl : Bool) (slotPower : BitVec 16)
  /-- RDOWNNODATA_GO (R222). -/
  | rdOwnNoDataGo (line : BitVec 42) (grant : Grant)
  /-- FIRST_PASS_END (R158). -/
  | firstPassEnd (u : Fin 4)
  /-- IPL_CREDIT_RETURN (R284). -/
  | iplCreditReturn (port : Fin 4) (cls : BitVec 2) (credits : BitVec 12)
  /-- RB_CMD_END (R414). -/
  | rbCmdEnd (ok : Bool)
  /-- VREG_ACK_FALL (R436). -/
  | vregAckFall (rail : BitVec 2)
  /-- ENABLE (R38). -/
  | enable
  /-- DISABLE (R75). -/
  | disable
  /-- QUEUE_RESUME (R38). -/
  | queueResume
  /-- RESET_POINTERS (R38). -/
  | resetPointers
  /-- SKIP_HEAD (R38). -/
  | skipHead
  /-- FENCE_WATCHDOG (R71). -/
  | fenceWatchdog
  /-- INVAL (R51). -/
  | inval
  /-- STEP_BUILD (R159). -/
  | stepBuild
  /-- SEG_COMMIT (R175). -/
  | segCommit
  /-- REGION_COMMIT (R198). -/
  | regionCommit
  /-- CHAMOIS_SWEEP (R187). -/
  | chamoisSweep
  /-- MIGRATION_MOVE_START (R188). -/
  | migrationMoveStart
  /-- QUIET_END (R360). -/
  | quietEnd
  /-- PRED_RESET (R226). -/
  | predReset
  /-- DC_CMD_END (R236). -/
  | dcCmdEnd
  /-- RESYNC (R289). -/
  | resync
  /-- VF_ENABLE_SET (R307). -/
  | vfEnableSet
  /-- VF_ENABLE_CLEAR (R315). -/
  | vfEnableClear
  /-- HOT_RESET (R318). -/
  | hotReset
  /-- DL_DOWN (R318). -/
  | dlDown
  /-- ATTACH (R319). -/
  | attach
  /-- ATTACH_RESUME (R319). -/
  | attachResume
  /-- PARK (R319). -/
  | park
  /-- L1_IDLE_EXPIRY (R313). -/
  | l1IdleExpiry
  /-- L0S_ENTRY (R313). -/
  | l0sEntry
  /-- PLL_LOCK (R340). -/
  | pllLock
  /-- ARRAY_INIT_DONE (R340). -/
  | arrayInitDone
  /-- IMAGE_APPLY (R349). -/
  | imageApply
  /-- KEY_DERIVE (R354). -/
  | keyDerive
  /-- CONFIG_COMPLETE (R340). -/
  | configComplete
  /-- PERST_RELEASE (R341). -/
  | perstRelease
  /-- CONFIG_LOCK (R11). -/
  | configLock
  /-- ENROL (R355). -/
  | enrol
  /-- ENTROPY_FAIL (R359). -/
  | entropyFail
  /-- GET_VERSION (R357). -/
  | getVersion
  /-- GET_CAPABILITIES (R357). -/
  | getCapabilities
  /-- NEGOTIATE_ALGORITHMS (R357). -/
  | negotiateAlgorithms
  /-- GET_DIGESTS (R357). -/
  | getDigests
  /-- PLL_UNLOCK (R363). -/
  | pllUnlock
  /-- PLL_RELOCK (R363). -/
  | pllRelock
  /-- PLL_FAIL (R363). -/
  | pllFail
  /-- QUIESCED (R408). -/
  | quiesced
  /-- RECORD_EVENT (R417). -/
  | recordEvent
  /-- REPLAY_RECORD (R419). -/
  | replayRecord
  /-- DIVERGE_TIMEOUT (R420). -/
  | divergeTimeout
  /-- L1_EXIT (R313). -/
  | l1Exit
  /-- POR_N_ASSERT (R438). -/
  | porNAssert
deriving DecidableEq, Repr

end Sys2Proof
end

