-- ==== Sys2Proof/Config.lean ====
section
/-! DEFINITION. The configuration of the model: the figures of the member it models (R1: Fliavane), and the values the
spec leaves open. Each open value is an opaque constant: nothing can evaluate it or prove a value of it. -/

namespace Sys2Proof.Config

/-- Cache slices (R1 Table 1). -/
def slices : Nat := 16
/-- Queue pairs (R1 Table 1, R35). -/
def queuePairs : Nat := 65536
/-- Gazelles (R1 Table 1). -/
def gazelles : Nat := 8
/-- Springboks (R1 Table 1). -/
def springboks : Nat := 4
/-- Downstream ports (R1 Table 1). -/
def downPorts : Nat := 8
/-- Bits [31:0] of ID_BUILD_PARAMS in Fliavane (R444, spec/18 Table 13). -/
def buildParams : Nat := 0x08481004

/-- Yarlum's PCI-SIG vendor ID and the silicon stepping, which the manual does not print (R361 Table 13). -/
opaque vendorId : BitVec 16
opaque stepping : BitVec 8

/-- The k-th free value drawn: a value the spec leaves open, applied to the model's counter of draws (log entry 6). -/
opaque freeWord : Nat → Word
/-- The k-th free line: bytes the spec leaves unpredictable (log entry 6). -/
opaque freeLine : Nat → Line
/-- What a byte of memory holds, and whether a line reads as poisoned, after a fundamental reset, by a draw and the address (R267, log entry
32). -/
opaque resetByte : Nat → Nat → Byte
opaque resetPoison : Nat → Nat → Bool
/-- What a byte of a save area holds once a bank's records have been written there, by a draw and the address (R373, log entry 69). -/
opaque saveByte : Nat → Nat → Byte
/-- What the sampling arithmetic leaves open within its bounds (R150), as a function of everything a row is sampled from, so that
every Springbok computes the same (R151): the inputs as numbers, and an index (log entry 6). -/
opaque sampleFree : List Nat → Nat → Word
/-- Draws of the entropy source (R319, R357, R359). -/
opaque entropy : Nat → BitVec 384
/-- Whether an address of the expander behind a port lies in its MSI or MSI-X capability or its HDM decoder registers (R328): where they
lie is the expander's (log entry 6). -/
opaque expanderGuard : Nat → Bool → Nat → Bool
/-- The fuzzy extractor of R354: the seed that a PUF response and helper data give, none for a response too damaged (log entry 6). -/
opaque fuzzySeed : List Byte → List Byte → Option (BitVec 256)
/-- An ECDSA signature by a private key over the k-th message signed, and the verify data of the k-th session (R357, log entry 6). -/
opaque signature : Nat → Nat → BitVec 768
opaque verifyData : Nat → BitVec 384
/-- Whether the host's FINISH of a session verifies: its keys are derived from the host's secret (R357, log entry 6). -/
opaque finishVerifies : Nat → List Byte → Bool

end Sys2Proof.Config
end

