-- ==== Sys2Proof/Machine/RegTable.lean ====
section
/-! DEFINITION. The register index (R443 to R446): for every register of BAR0 its offset, how many elements its array
has, its reset value and the masks of its access codes (R10), written from the field tables of each chapter. -/

namespace Sys2Proof.Machine

/-- One row of the register index: `count` qwords from BAR0 offset `off`, with the reset value (R449) and, by access
code of R10, the bits that are RW, RWL, W1C, W1S and RC. Bits in no mask are RO, WO or reserved. -/
structure RegInfo where
  off   : Nat
  count : Nat
  reset : Word
  rw    : Word
  rwl   : Word
  w1c   : Word
  w1s   : Word
  rc    : Word
deriving DecidableEq, Repr

namespace Reg
/-- The base of window `i` (R443). -/
def win (i : Nat) : Nat := i * 0x100000

/-- Window 0 (R9 Table 3). -/
def QE : Nat := 0
/-- Window 1 (R9 Table 3). -/
def GZ : Nat := 1
/-- Window 2 (R9 Table 3). -/
def IB : Nat := 2
/-- Window 3 (R9 Table 3). -/
def SB : Nat := 3
/-- Window 4 (R9 Table 3). -/
def BT : Nat := 4
/-- Window 5 (R9 Table 3). -/
def CH : Nat := 5
/-- Window 6 (R9 Table 3). -/
def SF : Nat := 6
/-- Window 7 (R9 Table 3). -/
def DC : Nat := 7
/-- Window 8 (R9 Table 3). -/
def PL : Nat := 8
/-- Window 9 (R9 Table 3). -/
def UP : Nat := 9
/-- Window 10 (R9 Table 3). -/
def DN : Nat := 10
/-- Window 11 (R9 Table 3). -/
def CFG : Nat := 11
/-- Window 12 (R9 Table 3). -/
def ID : Nat := 12
/-- Window 13 (R9 Table 3). -/
def CK : Nat := 13
/-- Window 14 (R9 Table 3). -/
def PM : Nat := 14
/-- Window 15 (R9 Table 3). -/
def RB : Nat := 15
/-- Window 16 (R9 Table 3). -/
def RP : Nat := 16
/-- Window 17 (R9 Table 3). -/
def FP : Nat := 17

/-- QE_CTRL, window QE_ (R444). -/
def QE_CTRL : Nat := 0x100
/-- QE_SEL, window QE_ (R444). -/
def QE_SEL : Nat := 0x108
/-- QE_QCMD, window QE_ (R444). -/
def QE_QCMD : Nat := 0x110
/-- QE_CTR_CFG, window QE_ (R444). -/
def QE_CTR_CFG : Nat := 0x118
/-- QE_CTR_VALUE, window QE_ (R444). -/
def QE_CTR_VALUE : Nat := 0x120
/-- QE_CTX_HTAB, window QE_ (R444). -/
def QE_CTX_HTAB : Nat := 0x128
/-- QE_DBPAGE_OWNER, window QE_ (R444). -/
def QE_DBPAGE_OWNER : Nat := 0x130
/-- QE_QCFG0, window QE_ (R444). -/
def QE_QCFG : Nat := 0x140
/-- GZ_CTRL, window GZ_ (R444). -/
def GZ_CTRL : Nat := 0x100100
/-- GZ_STATUS, window GZ_ (R444). -/
def GZ_STATUS : Nat := 0x100108
/-- GZ_PROFILE0, window GZ_ (R444). -/
def GZ_PROFILE : Nat := 0x100200
/-- IB_CTRL, window IB_ (R444). -/
def IB_CTRL : Nat := 0x200100
/-- IB_POOL_CFG, window IB_ (R444). -/
def IB_POOL_CFG : Nat := 0x200108
/-- IB_STATUS, window IB_ (R444). -/
def IB_STATUS : Nat := 0x200110
/-- IB_BUDGET, window IB_ (R444). -/
def IB_BUDGET : Nat := 0x200118
/-- IB_T1_FRAMES, window IB_ (R444). -/
def IB_T1_FRAMES : Nat := 0x200120
/-- IB_PAGES, window IB_ (R444). -/
def IB_PAGES : Nat := 0x200128
/-- IB_HASH_KEY0, window IB_ (R444). -/
def IB_HASH_KEY0 : Nat := 0x200130
/-- IB_HASH_KEY1, window IB_ (R444). -/
def IB_HASH_KEY1 : Nat := 0x200138
/-- IB_REQ_BASE, window IB_ (R444). -/
def IB_REQ_BASE : Nat := 0x200140
/-- IB_BTAB_BASE, window IB_ (R444). -/
def IB_BTAB_BASE : Nat := 0x200148
/-- IB_FTAB_BASE, window IB_ (R444). -/
def IB_FTAB_BASE : Nat := 0x200150
/-- IB_HIST_BASE, window IB_ (R444). -/
def IB_HIST_BASE : Nat := 0x200158
/-- IB_PAGE_BASE, window IB_ (R444). -/
def IB_PAGE_BASE : Nat := 0x200160
/-- IB_INDEX_BASE, window IB_ (R444). -/
def IB_INDEX_BASE : Nat := 0x200168
/-- IB_T1_BASE, window IB_ (R444). -/
def IB_T1_BASE : Nat := 0x200170
/-- IB_T2_POOL0, window IB_ (R444). -/
def IB_T2_POOL : Nat := 0x200180
/-- IB_STAT_PREFIX_HIT, window IB_ (R444). -/
def IB_STAT_PREFIX_HIT : Nat := 0x200200
/-- IB_STAT_DEMOTE, window IB_ (R444). -/
def IB_STAT_DEMOTE : Nat := 0x200208
/-- IB_STAT_FETCH, window IB_ (R444). -/
def IB_STAT_FETCH : Nat := 0x200210
/-- IB_STAT_COW, window IB_ (R444). -/
def IB_STAT_COW : Nat := 0x200218
/-- IB_STAT_PREEMPT, window IB_ (R444). -/
def IB_STAT_PREEMPT : Nat := 0x200220
/-- IB_STAT_REPREFILL, window IB_ (R444). -/
def IB_STAT_REPREFILL : Nat := 0x200228
/-- IB_STAT_INDEX_SKIP, window IB_ (R444). -/
def IB_STAT_INDEX_SKIP : Nat := 0x200230
/-- IB_STAT_LEAKED, window IB_ (R444). -/
def IB_STAT_LEAKED : Nat := 0x200238
/-- SB_CTRL, window SB_ (R444). -/
def SB_CTRL : Nat := 0x300100
/-- SB_STATUS, window SB_ (R444). -/
def SB_STATUS : Nat := 0x300108
/-- SB_STAT_ROWS, window SB_ (R444). -/
def SB_STAT_ROWS : Nat := 0x300200
/-- SB_STAT_NONFINITE, window SB_ (R444). -/
def SB_STAT_NONFINITE : Nat := 0x300208
/-- BT_CTRL, window BT_ (R444). -/
def BT_CTRL : Nat := 0x400100
/-- BT_STATUS, window BT_ (R444). -/
def BT_STATUS : Nat := 0x400108
/-- BT_SERVE0, window BT_ (R444). -/
def BT_SERVE : Nat := 0x400110
/-- BT_REQ_BASE, window BT_ (R444). -/
def BT_REQ_BASE : Nat := 0x400128
/-- BT_CNT_BASE, window BT_ (R444). -/
def BT_CNT_BASE : Nat := 0x400130
/-- BT_LIST_BASE, window BT_ (R444). -/
def BT_LIST_BASE : Nat := 0x400138
/-- BT_STEP, window BT_ (R444). -/
def BT_STEP : Nat := 0x400200
/-- BT_STAT_ADMITTED, window BT_ (R444). -/
def BT_STAT_ADMITTED : Nat := 0x400208
/-- BT_STAT_DEADLINE, window BT_ (R444). -/
def BT_STAT_DEADLINE : Nat := 0x400210
/-- BT_STAT_CANCELLED, window BT_ (R444). -/
def BT_STAT_CANCELLED : Nat := 0x400218
/-- BT_STAT_HELD, window BT_ (R444). -/
def BT_STAT_HELD : Nat := 0x400220
/-- BT_STAT_BYPASS_BLOCK, window BT_ (R444). -/
def BT_STAT_BYPASS_BLOCK : Nat := 0x400228
/-- BT_STAT_COUNT_FULL, window BT_ (R444). -/
def BT_STAT_COUNT_FULL : Nat := 0x400230
/-- CH_CTRL, window CH_ (R444). -/
def CH_CTRL : Nat := 0x500100
/-- CH_HEAT_CFG, window CH_ (R444). -/
def CH_HEAT_CFG : Nat := 0x500108
/-- CH_PLACE_BASE, window CH_ (R444). -/
def CH_PLACE_BASE : Nat := 0x500110
/-- CH_PLACE_PAGES, window CH_ (R444). -/
def CH_PLACE_PAGES : Nat := 0x500118
/-- CH_T1_POOL, window CH_ (R444). -/
def CH_T1_POOL : Nat := 0x500120
/-- CH_PRI_CTRL, window CH_ (R444). -/
def CH_PRI_CTRL : Nat := 0x500128
/-- CH_STATUS, window CH_ (R444). -/
def CH_STATUS : Nat := 0x500130
/-- CH_SEL, window CH_ (R444). -/
def CH_SEL : Nat := 0x500138
/-- CH_CMD, window CH_ (R444). -/
def CH_CMD : Nat := 0x500140
/-- CH_SEGQ0, window CH_ (R444). -/
def CH_SEGQ : Nat := 0x500148
/-- CH_REGIONQ0, window CH_ (R444). -/
def CH_REGIONQ : Nat := 0x500160
/-- CH_T2_POOL0, window CH_ (R444). -/
def CH_T2_POOL : Nat := 0x500180
/-- CH_STAT_PROMOTE, window CH_ (R444). -/
def CH_STAT_PROMOTE : Nat := 0x500200
/-- CH_STAT_DEMOTE, window CH_ (R444). -/
def CH_STAT_DEMOTE : Nat := 0x500208
/-- CH_STAT_ABORT, window CH_ (R444). -/
def CH_STAT_ABORT : Nat := 0x500210
/-- CH_STAT_FAULT, window CH_ (R444). -/
def CH_STAT_FAULT : Nat := 0x500218
/-- CH_STAT_ATS_INVAL, window CH_ (R444). -/
def CH_STAT_ATS_INVAL : Nat := 0x500220
/-- SF_CTRL, window SF_ (R444). -/
def SF_CTRL : Nat := 0x600100
/-- SF_PRED, window SF_ (R444). -/
def SF_PRED : Nat := 0x600108
/-- SF_SLICE_STATUS0, window SF_ (R444). -/
def SF_SLICE_STATUS : Nat := 0x600180
/-- SF_STAT_FWD, window SF_ (R444). -/
def SF_STAT_FWD : Nat := 0x600200
/-- SF_STAT_BI, window SF_ (R444). -/
def SF_STAT_BI : Nat := 0x600208
/-- SF_STAT_RETRY, window SF_ (R444). -/
def SF_STAT_RETRY : Nat := 0x600210
/-- SF_STAT_CREDIT_EXPIRE, window SF_ (R444). -/
def SF_STAT_CREDIT_EXPIRE : Nat := 0x600218
/-- SF_STAT_CROSS, window SF_ (R444). -/
def SF_STAT_CROSS : Nat := 0x600220
/-- SF_STAT_BICONFLICT, window SF_ (R444). -/
def SF_STAT_BICONFLICT : Nat := 0x600228
/-- SF_STAT_ATOMIC_NEAR, window SF_ (R444). -/
def SF_STAT_ATOMIC_NEAR : Nat := 0x600230
/-- SF_STAT_ATOMIC_FAR, window SF_ (R444). -/
def SF_STAT_ATOMIC_FAR : Nat := 0x600238
/-- SF_STAT_HOST_DROP, window SF_ (R444). -/
def SF_STAT_HOST_DROP : Nat := 0x600240
/-- DC_CTRL, window DC_ (R444). -/
def DC_CTRL : Nat := 0x700100
/-- DC_CMD, window DC_ (R444). -/
def DC_CMD : Nat := 0x700108
/-- DC_CMD_ADDR, window DC_ (R444). -/
def DC_CMD_ADDR : Nat := 0x700110
/-- DC_CMD_LEN, window DC_ (R444). -/
def DC_CMD_LEN : Nat := 0x700118
/-- DC_CMD_RESULT, window DC_ (R444). -/
def DC_CMD_RESULT : Nat := 0x700120
/-- DC_TCACHE_WAYS_OFF, window DC_ (R444). -/
def DC_TCACHE_WAYS_OFF : Nat := 0x700128
/-- DC_SLICE_CFG0, window DC_ (R444). -/
def DC_SLICE_CFG : Nat := 0x700180
/-- DC_SLICE_STATUS0, window DC_ (R444). -/
def DC_SLICE_STATUS : Nat := 0x700200
/-- DC_STAT_HIT, window DC_ (R444). -/
def DC_STAT_HIT : Nat := 0x700300
/-- DC_STAT_MISS, window DC_ (R444). -/
def DC_STAT_MISS : Nat := 0x700308
/-- DC_STAT_DIRTY_VICTIM, window DC_ (R444). -/
def DC_STAT_DIRTY_VICTIM : Nat := 0x700310
/-- DC_STAT_PF_ISSUED, window DC_ (R444). -/
def DC_STAT_PF_ISSUED : Nat := 0x700318
/-- DC_STAT_PF_USEFUL, window DC_ (R444). -/
def DC_STAT_PF_USEFUL : Nat := 0x700320
/-- DC_STAT_ZERO, window DC_ (R444). -/
def DC_STAT_ZERO : Nat := 0x700328
/-- DC_STAT_LOCK_REFUSED, window DC_ (R444). -/
def DC_STAT_LOCK_REFUSED : Nat := 0x700330
/-- PL_CTRL, window PL_ (R444). -/
def PL_CTRL : Nat := 0x800100
/-- PL_TIMEOUT, window PL_ (R444). -/
def PL_TIMEOUT : Nat := 0x800108
/-- PL_SEL, window PL_ (R444). -/
def PL_SEL : Nat := 0x800110
/-- PL_ROUTE, window PL_ (R444). -/
def PL_ROUTE : Nat := 0x800118
/-- PL_WINQ0, window PL_ (R444). -/
def PL_WINQ0 : Nat := 0x800120
/-- PL_WINQ1, window PL_ (R444). -/
def PL_WINQ1 : Nat := 0x800128
/-- PL_PORT_STATUS0, window PL_ (R444). -/
def PL_PORT_STATUS : Nat := 0x800180
/-- PL_STAT_TX, window PL_ (R444). -/
def PL_STAT_TX : Nat := 0x800200
/-- PL_STAT_RX, window PL_ (R444). -/
def PL_STAT_RX : Nat := 0x800208
/-- PL_STAT_RETX, window PL_ (R444). -/
def PL_STAT_RETX : Nat := 0x800210
/-- PL_STAT_DUP, window PL_ (R444). -/
def PL_STAT_DUP : Nat := 0x800218
/-- PL_STAT_REDO, window PL_ (R444). -/
def PL_STAT_REDO : Nat := 0x800220
/-- PL_STAT_DENIED, window PL_ (R444). -/
def PL_STAT_DENIED : Nat := 0x800228
/-- UP_CTRL, window UP_ (R444). -/
def UP_CTRL : Nat := 0x900100
/-- UP_CFG, window UP_ (R444). -/
def UP_CFG : Nat := 0x900108
/-- UP_STATUS, window UP_ (R444). -/
def UP_STATUS : Nat := 0x900110
/-- UP_BAR2_MAP, window UP_ (R444). -/
def UP_BAR2_MAP : Nat := 0x900118
/-- UP_HDM_DEVBASE0, window UP_ (R444). -/
def UP_HDM_DEVBASE0 : Nat := 0x900120
/-- UP_HDM_DEVBASE1, window UP_ (R444). -/
def UP_HDM_DEVBASE1 : Nat := 0x900128
/-- UP_HDM_SIZE0, window UP_ (R444). -/
def UP_HDM_SIZE0 : Nat := 0x900130
/-- UP_HDM_SIZE1, window UP_ (R444). -/
def UP_HDM_SIZE1 : Nat := 0x900138
/-- UP_LTR, window UP_ (R444). -/
def UP_LTR : Nat := 0x900140
/-- UP_ATTACH, window UP_ (R444). -/
def UP_ATTACH : Nat := 0x900148
/-- UP_ATTACH_TOKEN, window UP_ (R444). -/
def UP_ATTACH_TOKEN : Nat := 0x900150
/-- UP_FN_CMD, window UP_ (R444). -/
def UP_FN_CMD : Nat := 0x900158
/-- UP_PTM_OFFSET, window UP_ (R444). -/
def UP_PTM_OFFSET : Nat := 0x900160
/-- UP_FN_PARKED0, window UP_ (R444). -/
def UP_FN_PARKED : Nat := 0x900180
/-- UP_INTX_CAUSE0, window UP_ (R444). -/
def UP_INTX_CAUSE : Nat := 0x900200
/-- DN_CTRL, window DN_ (R444). -/
def DN_CTRL : Nat := 0xa00100
/-- DN_EQ_CTRL, window DN_ (R444). -/
def DN_EQ_CTRL : Nat := 0xa00108
/-- DN_XACC_CMD, window DN_ (R444). -/
def DN_XACC_CMD : Nat := 0xa00110
/-- DN_XACC_DATA, window DN_ (R444). -/
def DN_XACC_DATA : Nat := 0xa00118
/-- DN_PORT_CTRL0, window DN_ (R444). -/
def DN_PORT_CTRL : Nat := 0xa00180
/-- DN_PORT_STATUS0, window DN_ (R444). -/
def DN_PORT_STATUS : Nat := 0xa001c0
/-- DN_PORT_EVENT0, window DN_ (R444). -/
def DN_PORT_EVENT : Nat := 0xa00200
/-- DN_EQ_STATUS0, window DN_ (R444). -/
def DN_EQ_STATUS : Nat := 0xa00280
/-- CFG_STATUS, window CFG_ (R444). -/
def CFG_STATUS : Nat := 0xb00100
/-- CFG_COPY_A, window CFG_ (R444). -/
def CFG_COPY_A : Nat := 0xb00108
/-- CFG_COPY_B, window CFG_ (R444). -/
def CFG_COPY_B : Nat := 0xb00110
/-- CFG_LOCK, window CFG_ (R444). -/
def CFG_LOCK : Nat := 0xb00118
/-- CFG_APPLY_FAIL, window CFG_ (R444). -/
def CFG_APPLY_FAIL : Nat := 0xb00120
/-- CFG_FLASH_CMD, window CFG_ (R444). -/
def CFG_FLASH_CMD : Nat := 0xb00128
/-- CFG_FLASH_DATA0, window CFG_ (R444). -/
def CFG_FLASH_DATA : Nat := 0xb00140
/-- ID_BUILD_PARAMS, window ID_ (R444). -/
def ID_BUILD_PARAMS : Nat := 0xc00100
/-- ID_STATUS, window ID_ (R444). -/
def ID_STATUS : Nat := 0xc00108
/-- ID_CMD, window ID_ (R444). -/
def ID_CMD : Nat := 0xc00110
/-- ID_HELPER_SEL, window ID_ (R444). -/
def ID_HELPER_SEL : Nat := 0xc00118
/-- ID_HELPER_DATA, window ID_ (R444). -/
def ID_HELPER_DATA : Nat := 0xc00120
/-- ID_PUBKEY0, window ID_ (R444). -/
def ID_PUBKEY : Nat := 0xc00140
/-- CK_CTRL, window CK_ (R444). -/
def CK_CTRL : Nat := 0xd00100
/-- CK_LEVEL, window CK_ (R444). -/
def CK_LEVEL : Nat := 0xd00108
/-- CK_AVFS_CFG, window CK_ (R444). -/
def CK_AVFS_CFG : Nat := 0xd00110
/-- CK_AVFS_TRIM_X, window CK_ (R444). -/
def CK_AVFS_TRIM_X : Nat := 0xd00118
/-- CK_AVFS_TRIM_M, window CK_ (R444). -/
def CK_AVFS_TRIM_M : Nat := 0xd00120
/-- CK_AVFS_TRIM_P, window CK_ (R444). -/
def CK_AVFS_TRIM_P : Nat := 0xd00128
/-- CK_XING_OVERRUN, window CK_ (R444). -/
def CK_XING_OVERRUN : Nat := 0xd00130
/-- CK_STAT_STRETCH, window CK_ (R444). -/
def CK_STAT_STRETCH : Nat := 0xd00200
/-- CK_STAT_LEVEL_CHANGE, window CK_ (R444). -/
def CK_STAT_LEVEL_CHANGE : Nat := 0xd00208
/-- CK_STAT_RELOCK, window CK_ (R444). -/
def CK_STAT_RELOCK : Nat := 0xd00210
/-- PM_CTRL, window PM_ (R444). -/
def PM_CTRL : Nat := 0xe00100
/-- PM_SAVE_BASE, window PM_ (R444). -/
def PM_SAVE_BASE : Nat := 0xe00108
/-- PM_FENCE_CMD, window PM_ (R444). -/
def PM_FENCE_CMD : Nat := 0xe00110
/-- PM_SAFE_STATE, window PM_ (R444). -/
def PM_SAFE_STATE : Nat := 0xe00118
/-- PM_WAKE_IN0, window PM_ (R444). -/
def PM_WAKE_IN : Nat := 0xe00180
/-- PM_DOM_CFG0, window PM_ (R444). -/
def PM_DOM_CFG : Nat := 0xe01000
/-- PM_DOM_STAT0, window PM_ (R444). -/
def PM_DOM_STAT : Nat := 0xe02000
/-- RB_SEL, window RB_ (R444). -/
def RB_SEL : Nat := 0xf00100
/-- RB_CKPT_ADDR, window RB_ (R444). -/
def RB_CKPT_ADDR : Nat := 0xf00108
/-- RB_CTX, window RB_ (R444). -/
def RB_CTX : Nat := 0xf00110
/-- RB_CMD, window RB_ (R444). -/
def RB_CMD : Nat := 0xf00118
/-- RB_STAT_REBIND, window RB_ (R444). -/
def RB_STAT_REBIND : Nat := 0xf00200
/-- RB_STAT_CHECKPOINT, window RB_ (R444). -/
def RB_STAT_CHECKPOINT : Nat := 0xf00208
/-- RB_STAT_RESTORE, window RB_ (R444). -/
def RB_STAT_RESTORE : Nat := 0xf00210
/-- RP_CTRL, window RP_ (R444). -/
def RP_CTRL : Nat := 0x1000100
/-- RP_RING_BASE, window RP_ (R444). -/
def RP_RING_BASE : Nat := 0x1000108
/-- RP_RING_SIZE, window RP_ (R444). -/
def RP_RING_SIZE : Nat := 0x1000110
/-- RP_RING_HEAD, window RP_ (R444). -/
def RP_RING_HEAD : Nat := 0x1000118
/-- RP_REPLAY_START, window RP_ (R444). -/
def RP_REPLAY_START : Nat := 0x1000120
/-- RP_REPLAY_END, window RP_ (R444). -/
def RP_REPLAY_END : Nat := 0x1000128
/-- RP_STATUS, window RP_ (R444). -/
def RP_STATUS : Nat := 0x1000130
/-- RP_DIVERGE, window RP_ (R444). -/
def RP_DIVERGE : Nat := 0x1000138
/-- RP_STAT_RECORDS, window RP_ (R444). -/
def RP_STAT_RECORDS : Nat := 0x1000200
/-- RP_STAT_DROPPED, window RP_ (R444). -/
def RP_STAT_DROPPED : Nat := 0x1000208
/-- RP_STAT_DISCARDED, window RP_ (R444). -/
def RP_STAT_DISCARDED : Nat := 0x1000210
/-- RP_STAT_MISMATCH, window RP_ (R444). -/
def RP_STAT_MISMATCH : Nat := 0x1000218
/-- FP_CTRL, window FP_ (R444). -/
def FP_CTRL : Nat := 0x1100100
/-- FP_PORT_STATUS0, window FP_ (R444). -/
def FP_PORT_STATUS : Nat := 0x1100180
/-- FP_STAT_REQ, window FP_ (R444). -/
def FP_STAT_REQ : Nat := 0x1100200
/-- FP_STAT_NT_FLUSH, window FP_ (R444). -/
def FP_STAT_NT_FLUSH : Nat := 0x1100208
/-- FP_STAT_FENCE, window FP_ (R444). -/
def FP_STAT_FENCE : Nat := 0x1100210
/-- FP_STAT_RSV_FAIL, window FP_ (R444). -/
def FP_STAT_RSV_FAIL : Nat := 0x1100218
/-- FP_STAT_RSV_DISPLACE, window FP_ (R444). -/
def FP_STAT_RSV_DISPLACE : Nat := 0x1100220

/-- The common error registers at the start of window `b` (R445 Table 2). -/
def errStatus (b : Nat) : Nat := win b
def errSeverity (b : Nat) : Nat := win b + 0x08
def errAddr (b : Nat) : Nat := win b + 0x10
def errMaster (b : Nat) : Nat := win b + 0x18
def errType (b : Nat) : Nat := win b + 0x20
def errTime (b : Nat) : Nat := win b + 0x28
def errInject (b : Nat) : Nat := win b + 0x30
end Reg

/-- The registers of window QE_ (R444). -/
def regRowsQE : List RegInfo := [
  ⟨Reg.QE_CTRL, 1, 0x1f4000001020408, 0xffff0000ffffffff, 0x0, 0x0, 0x0, 0x0⟩,
  ⟨Reg.QE_SEL, 1, 0x0, 0x3fffff7fffffff, 0x0, 0x0, 0x0, 0x0⟩,
  ⟨Reg.QE_QCMD, 1, 0x0, 0x0, 0x0, 0x0, 0x0, 0x0⟩,
  ⟨Reg.QE_CTR_CFG, 1, 0x0, 0x1ffff7fff, 0x0, 0xe00000000, 0x0, 0x0⟩,
  ⟨Reg.QE_CTR_VALUE, 1, 0x0, 0xffffffffffffffff, 0x0, 0x0, 0x0, 0x0⟩,
  ⟨Reg.QE_CTX_HTAB, 1, 0x0, 0xffffffffffff0000, 0x0, 0x0, 0x0, 0x0⟩,
  ⟨Reg.QE_DBPAGE_OWNER, 1, 0x0, 0x1ff, 0x0, 0x0, 0x0, 0x0⟩,
  ⟨Reg.QE_QCFG, 8, 0x0, 0x0, 0x0, 0x0, 0x0, 0x0⟩]

/-- The registers of window GZ_ (R444). -/
def regRowsGZ : List RegInfo := [
  ⟨Reg.GZ_CTRL, 1, 0x1200ff, 0x1f00ff, 0x0, 0x0, 0x0, 0x0⟩,
  ⟨Reg.GZ_STATUS, 1, 0x0, 0x0, 0x0, 0x0, 0x0, 0x0⟩,
  ⟨Reg.GZ_PROFILE, 16, 0x0, 0x0, 0xffffffff00f0ffff, 0x0, 0x0, 0x0⟩]

/-- The registers of window IB_ (R444). -/
def regRowsIB : List RegInfo := [
  ⟨Reg.IB_CTRL, 1, 0x4000100818, 0xffff00ffff1e, 0x1, 0x0, 0x0, 0x0⟩,
  ⟨Reg.IB_POOL_CFG, 1, 0x14a0010, 0x0, 0x7fff031f, 0x0, 0x0, 0x0⟩,
  ⟨Reg.IB_STATUS, 1, 0x0, 0x0, 0x0, 0x0, 0x0, 0x0⟩,
  ⟨Reg.IB_BUDGET, 1, 0x0, 0x0, 0x0, 0x0, 0x0, 0x0⟩,
  ⟨Reg.IB_T1_FRAMES, 1, 0x0, 0x0, 0xffffffff, 0x0, 0x0, 0x0⟩,
  ⟨Reg.IB_PAGES, 1, 0x0, 0x0, 0xffffffff, 0x0, 0x0, 0x0⟩,
  ⟨Reg.IB_HASH_KEY0, 1, 0x0, 0x0, 0xffffffffffffffff, 0x0, 0x0, 0x0⟩,
  ⟨Reg.IB_HASH_KEY1, 1, 0x0, 0x0, 0xffffffffffffffff, 0x0, 0x0, 0x0⟩,
  ⟨Reg.IB_REQ_BASE, 1, 0x0, 0x0, 0xffffffffffff0000, 0x0, 0x0, 0x0⟩,
  ⟨Reg.IB_BTAB_BASE, 1, 0x0, 0x0, 0xffffffffffff0000, 0x0, 0x0, 0x0⟩,
  ⟨Reg.IB_FTAB_BASE, 1, 0x0, 0x0, 0xffffffffffff0000, 0x0, 0x0, 0x0⟩,
  ⟨Reg.IB_HIST_BASE, 1, 0x0, 0x0, 0xffffffffffff0000, 0x0, 0x0, 0x0⟩,
  ⟨Reg.IB_PAGE_BASE, 1, 0x0, 0x0, 0xffffffffffff0000, 0x0, 0x0, 0x0⟩,
  ⟨Reg.IB_INDEX_BASE, 1, 0x0, 0x0, 0xffffffffffff0000, 0x0, 0x0, 0x0⟩,
  ⟨Reg.IB_T1_BASE, 1, 0x0, 0x0, 0xffffffffffff0000, 0x0, 0x0, 0x0⟩,
  ⟨Reg.IB_T2_POOL, 8, 0x0, 0x80000000, 0xffffffff7fffffff, 0x0, 0x0, 0x0⟩,
  ⟨Reg.IB_STAT_PREFIX_HIT, 1, 0x0, 0x0, 0x0, 0x0, 0x0, 0x0⟩,
  ⟨Reg.IB_STAT_DEMOTE, 1, 0x0, 0x0, 0x0, 0x0, 0x0, 0x0⟩,
  ⟨Reg.IB_STAT_FETCH, 1, 0x0, 0x0, 0x0, 0x0, 0x0, 0x0⟩,
  ⟨Reg.IB_STAT_COW, 1, 0x0, 0x0, 0x0, 0x0, 0x0, 0x0⟩,
  ⟨Reg.IB_STAT_PREEMPT, 1, 0x0, 0x0, 0x0, 0x0, 0x0, 0x0⟩,
  ⟨Reg.IB_STAT_REPREFILL, 1, 0x0, 0x0, 0x0, 0x0, 0x0, 0x0⟩,
  ⟨Reg.IB_STAT_INDEX_SKIP, 1, 0x0, 0x0, 0x0, 0x0, 0x0, 0x0⟩,
  ⟨Reg.IB_STAT_LEAKED, 1, 0x0, 0x0, 0x0, 0x0, 0x0, 0x0⟩]

/-- The registers of window SB_ (R444). -/
def regRowsSB : List RegInfo := [
  ⟨Reg.SB_CTRL, 1, 0xf, 0xf, 0x0, 0x0, 0x0, 0x0⟩,
  ⟨Reg.SB_STATUS, 1, 0x0, 0x0, 0x0, 0x0, 0x0, 0x0⟩,
  ⟨Reg.SB_STAT_ROWS, 1, 0x0, 0x0, 0x0, 0x0, 0x0, 0x0⟩,
  ⟨Reg.SB_STAT_NONFINITE, 1, 0x0, 0x0, 0x0, 0x0, 0x0, 0x0⟩]

/-- The registers of window BT_ (R444). -/
def regRowsBT : List RegInfo := [
  ⟨Reg.BT_CTRL, 1, 0xa100000100001, 0xffffffff00ff0001, 0x0, 0x0, 0x0, 0x0⟩,
  ⟨Reg.BT_STATUS, 1, 0x0, 0x0, 0x0, 0x0, 0x0, 0x0⟩,
  ⟨Reg.BT_SERVE, 3, 0x0, 0x0, 0x0, 0x0, 0x0, 0x0⟩,
  ⟨Reg.BT_REQ_BASE, 1, 0x0, 0x0, 0xffffffffffff0000, 0x0, 0x0, 0x0⟩,
  ⟨Reg.BT_CNT_BASE, 1, 0x0, 0x0, 0xffffffffffff0000, 0x0, 0x0, 0x0⟩,
  ⟨Reg.BT_LIST_BASE, 1, 0x0, 0x0, 0xffffffffffff0000, 0x0, 0x0, 0x0⟩,
  ⟨Reg.BT_STEP, 1, 0x0, 0x0, 0x0, 0x0, 0x0, 0x0⟩,
  ⟨Reg.BT_STAT_ADMITTED, 1, 0x0, 0x0, 0x0, 0x0, 0x0, 0x0⟩,
  ⟨Reg.BT_STAT_DEADLINE, 1, 0x0, 0x0, 0x0, 0x0, 0x0, 0x0⟩,
  ⟨Reg.BT_STAT_CANCELLED, 1, 0x0, 0x0, 0x0, 0x0, 0x0, 0x0⟩,
  ⟨Reg.BT_STAT_HELD, 1, 0x0, 0x0, 0x0, 0x0, 0x0, 0x0⟩,
  ⟨Reg.BT_STAT_BYPASS_BLOCK, 1, 0x0, 0x0, 0x0, 0x0, 0x0, 0x0⟩,
  ⟨Reg.BT_STAT_COUNT_FULL, 1, 0x0, 0x0, 0x0, 0x0, 0x0, 0x0⟩]

/-- The registers of window CH_ (R444). -/
def regRowsCH : List RegInfo := [
  ⟨Reg.CH_CTRL, 1, 0x1000000030, 0xffffffff0fffff70, 0xf0000081, 0x0, 0x0, 0x0⟩,
  ⟨Reg.CH_HEAT_CFG, 1, 0x400330042006000a, 0xffffffffff0fffff, 0x0, 0x0, 0x0, 0x0⟩,
  ⟨Reg.CH_PLACE_BASE, 1, 0x0, 0x0, 0xffffffffffff0000, 0x0, 0x0, 0x0⟩,
  ⟨Reg.CH_PLACE_PAGES, 1, 0x0, 0x0, 0x3fffff, 0x0, 0x0, 0x0⟩,
  ⟨Reg.CH_T1_POOL, 1, 0x0, 0x0, 0xffffffff0003ffff, 0x0, 0x0, 0x0⟩,
  ⟨Reg.CH_PRI_CTRL, 1, 0x3e8000000000001, 0xffff000000000001, 0x0, 0x0, 0x0, 0x0⟩,
  ⟨Reg.CH_STATUS, 1, 0x0, 0x0, 0x0, 0x0, 0x0, 0x0⟩,
  ⟨Reg.CH_SEL, 1, 0x0, 0x3ff0fff000f, 0x0, 0x0, 0x0, 0x0⟩,
  ⟨Reg.CH_CMD, 1, 0x0, 0x0, 0x0, 0x0, 0x0, 0x0⟩,
  ⟨Reg.CH_SEGQ, 3, 0x0, 0xffffffffffffffff, 0x0, 0x0, 0x0, 0x0⟩,
  ⟨Reg.CH_REGIONQ, 3, 0x0, 0xffffffffffffffff, 0x0, 0x0, 0x0, 0x0⟩,
  ⟨Reg.CH_T2_POOL, 8, 0x0, 0x80000000, 0xffffffff7fffffff, 0x0, 0x0, 0x0⟩,
  ⟨Reg.CH_STAT_PROMOTE, 1, 0x0, 0x0, 0x0, 0x0, 0x0, 0x0⟩,
  ⟨Reg.CH_STAT_DEMOTE, 1, 0x0, 0x0, 0x0, 0x0, 0x0, 0x0⟩,
  ⟨Reg.CH_STAT_ABORT, 1, 0x0, 0x0, 0x0, 0x0, 0x0, 0x0⟩,
  ⟨Reg.CH_STAT_FAULT, 1, 0x0, 0x0, 0x0, 0x0, 0x0, 0x0⟩,
  ⟨Reg.CH_STAT_ATS_INVAL, 1, 0x0, 0x0, 0x0, 0x0, 0x0, 0x0⟩]

/-- The registers of window SF_ (R444). -/
def regRowsSF : List RegInfo := [
  ⟨Reg.SF_CTRL, 1, 0x2710040000000000, 0xffffff0000000003, 0x0, 0x0, 0x0, 0x0⟩,
  ⟨Reg.SF_PRED, 1, 0x1, 0xffff3, 0x0, 0x0, 0x0, 0x0⟩,
  ⟨Reg.SF_SLICE_STATUS, 16, 0x0, 0x0, 0x0, 0x0, 0x0, 0x0⟩,
  ⟨Reg.SF_STAT_FWD, 1, 0x0, 0x0, 0x0, 0x0, 0x0, 0x0⟩,
  ⟨Reg.SF_STAT_BI, 1, 0x0, 0x0, 0x0, 0x0, 0x0, 0x0⟩,
  ⟨Reg.SF_STAT_RETRY, 1, 0x0, 0x0, 0x0, 0x0, 0x0, 0x0⟩,
  ⟨Reg.SF_STAT_CREDIT_EXPIRE, 1, 0x0, 0x0, 0x0, 0x0, 0x0, 0x0⟩,
  ⟨Reg.SF_STAT_CROSS, 1, 0x0, 0x0, 0x0, 0x0, 0x0, 0x0⟩,
  ⟨Reg.SF_STAT_BICONFLICT, 1, 0x0, 0x0, 0x0, 0x0, 0x0, 0x0⟩,
  ⟨Reg.SF_STAT_ATOMIC_NEAR, 1, 0x0, 0x0, 0x0, 0x0, 0x0, 0x0⟩,
  ⟨Reg.SF_STAT_ATOMIC_FAR, 1, 0x0, 0x0, 0x0, 0x0, 0x0, 0x0⟩,
  ⟨Reg.SF_STAT_HOST_DROP, 1, 0x0, 0x0, 0x0, 0x0, 0x0, 0x0⟩]

/-- The registers of window DC_ (R444). -/
def regRowsDC : List RegInfo := [
  ⟨Reg.DC_CTRL, 1, 0x3e8000000000441, 0xffff000000000ff1, 0x0, 0x0, 0x0, 0x0⟩,
  ⟨Reg.DC_CMD, 1, 0x0, 0xfffffff00030, 0x0, 0x0, 0x0, 0x0⟩,
  ⟨Reg.DC_CMD_ADDR, 1, 0x0, 0x7fffffffffc0, 0x0, 0x0, 0x0, 0x0⟩,
  ⟨Reg.DC_CMD_LEN, 1, 0x0, 0xffffffff, 0x0, 0x0, 0x0, 0x0⟩,
  ⟨Reg.DC_CMD_RESULT, 1, 0x0, 0x0, 0x0, 0x0, 0x0, 0x0⟩,
  ⟨Reg.DC_TCACHE_WAYS_OFF, 1, 0x0, 0x0, 0x0, 0x0, 0x0, 0x0⟩,
  ⟨Reg.DC_SLICE_CFG, 16, 0x800, 0xf11, 0x0, 0x0, 0x0, 0x0⟩,
  ⟨Reg.DC_SLICE_STATUS, 16, 0x0, 0x0, 0x0, 0x0, 0x0, 0x0⟩,
  ⟨Reg.DC_STAT_HIT, 1, 0x0, 0x0, 0x0, 0x0, 0x0, 0x0⟩,
  ⟨Reg.DC_STAT_MISS, 1, 0x0, 0x0, 0x0, 0x0, 0x0, 0x0⟩,
  ⟨Reg.DC_STAT_DIRTY_VICTIM, 1, 0x0, 0x0, 0x0, 0x0, 0x0, 0x0⟩,
  ⟨Reg.DC_STAT_PF_ISSUED, 1, 0x0, 0x0, 0x0, 0x0, 0x0, 0x0⟩,
  ⟨Reg.DC_STAT_PF_USEFUL, 1, 0x0, 0x0, 0x0, 0x0, 0x0, 0x0⟩,
  ⟨Reg.DC_STAT_ZERO, 1, 0x0, 0x0, 0x0, 0x0, 0x0, 0x0⟩,
  ⟨Reg.DC_STAT_LOCK_REFUSED, 1, 0x0, 0x0, 0x0, 0x0, 0x0, 0x0⟩]

/-- The registers of window PL_ (R444). -/
def regRowsPL : List RegInfo := [
  ⟨Reg.PL_CTRL, 1, 0xf00, 0xff0, 0xff00000000000001, 0x0, 0x0, 0x0⟩,
  ⟨Reg.PL_TIMEOUT, 1, 0x14080001f40000, 0xffffff00ffff0000, 0x0, 0x0, 0x0, 0x0⟩,
  ⟨Reg.PL_SEL, 1, 0x0, 0x3f000000ff, 0x0, 0x0, 0x0, 0x0⟩,
  ⟨Reg.PL_ROUTE, 1, 0x0, 0xf, 0x0, 0x0, 0x0, 0x0⟩,
  ⟨Reg.PL_WINQ0, 1, 0x0, 0xfffffffffffff000, 0x0, 0x0, 0x0, 0x0⟩,
  ⟨Reg.PL_WINQ1, 1, 0x0, 0xfffffff8ffffffff, 0x0, 0x0, 0x0, 0x0⟩,
  ⟨Reg.PL_PORT_STATUS, 4, 0x0, 0x0, 0x0, 0x0, 0x0, 0x0⟩,
  ⟨Reg.PL_STAT_TX, 1, 0x0, 0x0, 0x0, 0x0, 0x0, 0x0⟩,
  ⟨Reg.PL_STAT_RX, 1, 0x0, 0x0, 0x0, 0x0, 0x0, 0x0⟩,
  ⟨Reg.PL_STAT_RETX, 1, 0x0, 0x0, 0x0, 0x0, 0x0, 0x0⟩,
  ⟨Reg.PL_STAT_DUP, 1, 0x0, 0x0, 0x0, 0x0, 0x0, 0x0⟩,
  ⟨Reg.PL_STAT_REDO, 1, 0x0, 0x0, 0x0, 0x0, 0x0, 0x0⟩,
  ⟨Reg.PL_STAT_DENIED, 1, 0x0, 0x0, 0x0, 0x0, 0x0, 0x0⟩]

/-- The registers of window UP_ (R444). -/
def regRowsUP : List RegInfo := [
  ⟨Reg.UP_CTRL, 1, 0x100a00, 0x1ffc00ffffff01, 0x0, 0x0, 0x0, 0x0⟩,
  ⟨Reg.UP_CFG, 1, 0x400208010, 0x0, 0xff03f9fffd, 0x0, 0x0, 0x0⟩,
  ⟨Reg.UP_STATUS, 1, 0x0, 0x0, 0x0, 0x0, 0x0, 0x0⟩,
  ⟨Reg.UP_BAR2_MAP, 1, 0x0, 0x7ffffff, 0x0, 0x0, 0x0, 0x0⟩,
  ⟨Reg.UP_HDM_DEVBASE0, 1, 0x0, 0xfffff, 0x0, 0x0, 0x0, 0x0⟩,
  ⟨Reg.UP_HDM_DEVBASE1, 1, 0x0, 0xfffff, 0x0, 0x0, 0x0, 0x0⟩,
  ⟨Reg.UP_HDM_SIZE0, 1, 0x0, 0x0, 0xfffff, 0x0, 0x0, 0x0⟩,
  ⟨Reg.UP_HDM_SIZE1, 1, 0x0, 0x0, 0xfffff, 0x0, 0x0, 0x0⟩,
  ⟨Reg.UP_LTR, 1, 0x7d0000186a0, 0xffffffffffffffff, 0x0, 0x0, 0x0, 0x0⟩,
  ⟨Reg.UP_ATTACH, 1, 0x0, 0x0, 0x0, 0x0, 0x0, 0x0⟩,
  ⟨Reg.UP_ATTACH_TOKEN, 1, 0x0, 0xffffffffffffffff, 0x0, 0x0, 0x0, 0x0⟩,
  ⟨Reg.UP_FN_CMD, 1, 0x0, 0xff00, 0x0, 0x0, 0x0, 0x0⟩,
  ⟨Reg.UP_PTM_OFFSET, 1, 0x0, 0x0, 0x0, 0x0, 0x0, 0x0⟩,
  ⟨Reg.UP_FN_PARKED, 4, 0x0, 0x0, 0x0, 0x0, 0x0, 0x0⟩,
  ⟨Reg.UP_INTX_CAUSE, 32, 0x0, 0x0, 0x0, 0xffffffffffffffff, 0x0, 0x0⟩]

/-- The registers of window DN_ (R444). -/
def regRowsDN : List RegInfo := [
  ⟨Reg.DN_CTRL, 1, 0xa0400000000, 0xffff00000fff, 0x0, 0x0, 0x0, 0x0⟩,
  ⟨Reg.DN_EQ_CTRL, 1, 0x3e83210410001ff, 0xffffffffff0001ff, 0x0, 0x0, 0x0, 0x0⟩,
  ⟨Reg.DN_XACC_CMD, 1, 0x0, 0x3f00ffffffffffff, 0x0, 0x0, 0x0, 0x0⟩,
  ⟨Reg.DN_XACC_DATA, 1, 0x0, 0xffffffffffffffff, 0x0, 0x0, 0x0, 0x0⟩,
  ⟨Reg.DN_PORT_CTRL, 8, 0x30, 0xf0, 0x0, 0x0, 0x0, 0x0⟩,
  ⟨Reg.DN_PORT_STATUS, 8, 0x0, 0x0, 0x0, 0x0, 0x0, 0x0⟩,
  ⟨Reg.DN_PORT_EVENT, 8, 0x0, 0x0, 0x0, 0xff, 0x0, 0x0⟩,
  ⟨Reg.DN_EQ_STATUS, 9, 0x0, 0x0, 0x0, 0x0, 0x0, 0x0⟩]

/-- The registers of window CFG_ (R444). -/
def regRowsCFG : List RegInfo := [
  ⟨Reg.CFG_STATUS, 1, 0x0, 0x0, 0x0, 0x0, 0x0, 0x0⟩,
  ⟨Reg.CFG_COPY_A, 1, 0x0, 0x0, 0x0, 0x0, 0x0, 0x0⟩,
  ⟨Reg.CFG_COPY_B, 1, 0x0, 0x0, 0x0, 0x0, 0x0, 0x0⟩,
  ⟨Reg.CFG_LOCK, 1, 0x0, 0x0, 0x0, 0x0, 0x1, 0x0⟩,
  ⟨Reg.CFG_APPLY_FAIL, 1, 0x0, 0x0, 0x0, 0x0, 0x0, 0x0⟩,
  ⟨Reg.CFG_FLASH_CMD, 1, 0x0, 0x3fffff, 0x0, 0x0, 0x0, 0x0⟩,
  ⟨Reg.CFG_FLASH_DATA, 8, 0x0, 0xffffffffffffffff, 0x0, 0x0, 0x0, 0x0⟩]

/-- The registers of window ID_ (R444). -/
def regRowsID : List RegInfo := [
  ⟨Reg.ID_BUILD_PARAMS, 1, 0x0, 0x0, 0x0, 0x0, 0x0, 0x0⟩,
  ⟨Reg.ID_STATUS, 1, 0x0, 0x0, 0x0, 0x0, 0x0, 0x0⟩,
  ⟨Reg.ID_CMD, 1, 0x0, 0x0, 0x0, 0x0, 0x0, 0x0⟩,
  ⟨Reg.ID_HELPER_SEL, 1, 0x0, 0xff, 0x0, 0x0, 0x0, 0x0⟩,
  ⟨Reg.ID_HELPER_DATA, 1, 0x0, 0x0, 0x0, 0x0, 0x0, 0x0⟩,
  ⟨Reg.ID_PUBKEY, 12, 0x0, 0x0, 0x0, 0x0, 0x0, 0x0⟩]

/-- The registers of window CK_ (R444). -/
def regRowsCK : List RegInfo := [
  ⟨Reg.CK_CTRL, 1, 0xc8000000000001, 0xffff000000000001, 0x0, 0x0, 0x0, 0x0⟩,
  ⟨Reg.CK_LEVEL, 1, 0x2c23, 0x33, 0x0, 0x0, 0x0, 0x0⟩,
  ⟨Reg.CK_AVFS_CFG, 1, 0xa0c180c04000000, 0xffffffffff000000, 0x0, 0x0, 0x0, 0x0⟩,
  ⟨Reg.CK_AVFS_TRIM_X, 1, 0x0, 0x0, 0x0, 0x0, 0x0, 0x0⟩,
  ⟨Reg.CK_AVFS_TRIM_M, 1, 0x0, 0x0, 0x0, 0x0, 0x0, 0x0⟩,
  ⟨Reg.CK_AVFS_TRIM_P, 1, 0x0, 0x0, 0x0, 0x0, 0x0, 0x0⟩,
  ⟨Reg.CK_XING_OVERRUN, 1, 0x0, 0x0, 0x0, 0x7, 0x0, 0x0⟩,
  ⟨Reg.CK_STAT_STRETCH, 1, 0x0, 0x0, 0x0, 0x0, 0x0, 0x0⟩,
  ⟨Reg.CK_STAT_LEVEL_CHANGE, 1, 0x0, 0x0, 0x0, 0x0, 0x0, 0x0⟩,
  ⟨Reg.CK_STAT_RELOCK, 1, 0x0, 0x0, 0x0, 0x0, 0x0, 0x0⟩]

/-- The registers of window PM_ (R444). -/
def regRowsPM : List RegInfo := [
  ⟨Reg.PM_CTRL, 1, 0x1, 0x1, 0x0, 0x0, 0x0, 0x0⟩,
  ⟨Reg.PM_SAVE_BASE, 1, 0x0, 0x0, 0xffffffffffe00000, 0x0, 0x0, 0x0⟩,
  ⟨Reg.PM_FENCE_CMD, 1, 0x0, 0x7f00, 0x0, 0x0, 0x0, 0x0⟩,
  ⟨Reg.PM_SAFE_STATE, 1, 0x0, 0x0, 0x0, 0x0, 0x0, 0x0⟩,
  ⟨Reg.PM_WAKE_IN, 8, 0x0, 0x1ff, 0x0, 0x0, 0x0, 0x0⟩,
  ⟨Reg.PM_DOM_CFG, 95, 0x207d000c80020, 0x8003ffffffff00ff, 0x0, 0x0, 0x0, 0x0⟩,
  ⟨Reg.PM_DOM_STAT, 96, 0x0, 0x0, 0x0, 0x0, 0x0, 0xffffffff00000000⟩]

/-- The registers of window RB_ (R444). -/
def regRowsRB : List RegInfo := [
  ⟨Reg.RB_SEL, 1, 0x0, 0xfff, 0x0, 0x0, 0x0, 0x0⟩,
  ⟨Reg.RB_CKPT_ADDR, 1, 0x0, 0xffffffffffffffc0, 0x0, 0x0, 0x0, 0x0⟩,
  ⟨Reg.RB_CTX, 1, 0x0, 0x2f, 0x0, 0x0, 0x0, 0x0⟩,
  ⟨Reg.RB_CMD, 1, 0x0, 0xff00, 0x0, 0x0, 0x0, 0x0⟩,
  ⟨Reg.RB_STAT_REBIND, 1, 0x0, 0x0, 0x0, 0x0, 0x0, 0x0⟩,
  ⟨Reg.RB_STAT_CHECKPOINT, 1, 0x0, 0x0, 0x0, 0x0, 0x0, 0x0⟩,
  ⟨Reg.RB_STAT_RESTORE, 1, 0x0, 0x0, 0x0, 0x0, 0x0, 0x0⟩]

/-- The registers of window RP_ (R444). -/
def regRowsRP : List RegInfo := [
  ⟨Reg.RP_CTRL, 1, 0x64000000000004, 0xffff00000000000f, 0x0, 0x0, 0x0, 0x0⟩,
  ⟨Reg.RP_RING_BASE, 1, 0x0, 0xffffffffffe00000, 0x0, 0x0, 0x0, 0x0⟩,
  ⟨Reg.RP_RING_SIZE, 1, 0x0, 0xffff, 0x0, 0x0, 0x0, 0x0⟩,
  ⟨Reg.RP_RING_HEAD, 1, 0x0, 0x0, 0x0, 0x0, 0x0, 0x0⟩,
  ⟨Reg.RP_REPLAY_START, 1, 0x0, 0xffffffffffffffff, 0x0, 0x0, 0x0, 0x0⟩,
  ⟨Reg.RP_REPLAY_END, 1, 0x0, 0xffffffffffffffff, 0x0, 0x0, 0x0, 0x0⟩,
  ⟨Reg.RP_STATUS, 1, 0x0, 0x0, 0x0, 0x0, 0x0, 0x0⟩,
  ⟨Reg.RP_DIVERGE, 1, 0x0, 0x0, 0x0, 0x0, 0x0, 0x0⟩,
  ⟨Reg.RP_STAT_RECORDS, 1, 0x0, 0x0, 0x0, 0x0, 0x0, 0x0⟩,
  ⟨Reg.RP_STAT_DROPPED, 1, 0x0, 0x0, 0x0, 0x0, 0x0, 0x0⟩,
  ⟨Reg.RP_STAT_DISCARDED, 1, 0x0, 0x0, 0x0, 0x0, 0x0, 0x0⟩,
  ⟨Reg.RP_STAT_MISMATCH, 1, 0x0, 0x0, 0x0, 0x0, 0x0, 0x0⟩]

/-- The registers of window FP_ (R444). -/
def regRowsFP : List RegInfo := [
  ⟨Reg.FP_CTRL, 1, 0xffff, 0x0, 0xffff, 0x0, 0x0, 0x0⟩,
  ⟨Reg.FP_PORT_STATUS, 16, 0x0, 0x0, 0x0, 0x0, 0x0, 0x0⟩,
  ⟨Reg.FP_STAT_REQ, 1, 0x0, 0x0, 0x0, 0x0, 0x0, 0x0⟩,
  ⟨Reg.FP_STAT_NT_FLUSH, 1, 0x0, 0x0, 0x0, 0x0, 0x0, 0x0⟩,
  ⟨Reg.FP_STAT_FENCE, 1, 0x0, 0x0, 0x0, 0x0, 0x0, 0x0⟩,
  ⟨Reg.FP_STAT_RSV_FAIL, 1, 0x0, 0x0, 0x0, 0x0, 0x0, 0x0⟩,
  ⟨Reg.FP_STAT_RSV_DISPLACE, 1, 0x0, 0x0, 0x0, 0x0, 0x0, 0x0⟩]

/-- The registers of window `b`. -/
def regRows : Nat → List RegInfo
  | 0 => regRowsQE
  | 1 => regRowsGZ
  | 2 => regRowsIB
  | 3 => regRowsSB
  | 4 => regRowsBT
  | 5 => regRowsCH
  | 6 => regRowsSF
  | 7 => regRowsDC
  | 8 => regRowsPL
  | 9 => regRowsUP
  | 10 => regRowsDN
  | 11 => regRowsCFG
  | 12 => regRowsID
  | 13 => regRowsCK
  | 14 => regRowsPM
  | 15 => regRowsRB
  | 16 => regRowsRP
  | 17 => regRowsFP
  | _ => []

/-- The default severities of window `b`: two bits a source, from each chapter's ERR_STATUS table (R77, R445). -/
def severityReset : Nat → Word
  | 0 => 0xaa555
  | 1 => 0xe98
  | 2 => 0x564
  | 3 => 0x38
  | 4 => 0x998
  | 5 => 0x565958
  | 6 => 0x2a1c
  | 7 => 0x1d88
  | 8 => 0x2568
  | 9 => 0x219654
  | 10 => 0x15548
  | 11 => 0x165
  | 12 => 0x99
  | 13 => 0x364
  | 14 => 0x35
  | 15 => 0x18
  | 16 => 0x55
  | 17 => 0x1ac
  | _ => 0

/-- The ERR_STATUS bits that window `b` defines. -/
def errMask : Nat → Word
  | 0 => 0x3ff
  | 1 => 0x3f
  | 2 => 0x3f
  | 3 => 0x7
  | 4 => 0x3f
  | 5 => 0xfff
  | 6 => 0x7f
  | 7 => 0x7f
  | 8 => 0x7f
  | 9 => 0x7ff
  | 10 => 0x1ff
  | 11 => 0x1f
  | 12 => 0xf
  | 13 => 0x1f
  | 14 => 0x7
  | 15 => 0x7
  | 16 => 0xf
  | 17 => 0x1f
  | _ => 0

/-! The ERR_STATUS bit numbers, by window and name. -/
namespace Err
def QE_DB_RANGE : Nat := 0
def QE_DB_REGRESS : Nat := 1
def QE_DB_FOREIGN : Nat := 2
def QE_STALE_DESC : Nat := 3
def QE_FENCE_CYCLE : Nat := 4
def QE_FENCE_TIMEOUT : Nat := 5
def QE_HTAB_FETCH : Nat := 6
def QE_QSTATE_DATA : Nat := 7
def QE_CTR_DATA : Nat := 8
def QE_CQ_WRITE : Nat := 9
def GZ_BUF_CORR : Nat := 0
def GZ_BUF_UNCORR : Nat := 1
def GZ_PROFILE_INVALID : Nat := 2
def GZ_YXP_PAGE : Nat := 3
def GZ_REDUCE_WRITE : Nat := 4
def GZ_UNIT_FENCED : Nat := 5
def IB_TCACHE_CORR : Nat := 0
def IB_TCACHE_WAY_OFF : Nat := 1
def IB_TABLE_UNCORR : Nat := 2
def IB_PAGE_LOST : Nat := 3
def IB_MOVE_FAIL : Nat := 4
def IB_T2_PORT_LOST : Nat := 5
def SB_BUF_CORR : Nat := 0
def SB_BUF_UNCORR : Nat := 1
def SB_UNIT_FENCED : Nat := 2
def BT_STATE_CORR : Nat := 0
def BT_STATE_UNCORR : Nat := 1
def BT_STEP_RETRY : Nat := 2
def BT_STEP_FAIL : Nat := 3
def BT_RING_WRITE : Nat := 4
def BT_NO_SAMPLER : Nat := 5
def CH_MAP_CORR : Nat := 0
def CH_MAP_UNCORR : Nat := 1
def CH_MAP_HOLE : Nat := 2
def CH_TRANSLATION : Nat := 3
def CH_PRI_TIMEOUT : Nat := 4
def CH_PRI_FAIL : Nat := 5
def CH_ATS_DRAIN : Nat := 6
def CH_REGION_DENIED : Nat := 7
def CH_PACK_FAIL : Nat := 8
def CH_PAGE_LOST : Nat := 9
def CH_PLACE_FULL : Nat := 10
def CH_MOVE_FAIL : Nat := 11
def SF_ENTRY_CORR : Nat := 0
def SF_ENTRY_UNCORR : Nat := 1
def SF_WAY_OFF : Nat := 2
def SF_TRACKER_CORR : Nat := 3
def SF_TRACKER_UNCORR : Nat := 4
def SF_SNOOP_TIMEOUT : Nat := 5
def SF_PROTOCOL : Nat := 6
def DC_DATA_CORR : Nat := 0
def DC_DATA_UNCORR : Nat := 1
def DC_TAG_CORR : Nat := 2
def DC_STATE_PARITY : Nat := 3
def DC_TAG_PARITY : Nat := 4
def DC_TAG_LOST : Nat := 5
def DC_CMD_FAIL : Nat := 6
def PL_BUF_CORR : Nat := 0
def PL_BUF_UNCORR : Nat := 1
def PL_SEQ_UNCORR : Nat := 2
def PL_BAD_PACKET : Nat := 3
def PL_WIN_DENIED : Nat := 4
def PL_LINK_DOWN : Nat := 5
def PL_NODE_UNREACH : Nat := 6
def UP_LINK_CORR : Nat := 0
def UP_UR_RECEIVED : Nat := 1
def UP_CPL_TIMEOUT : Nat := 2
def UP_UNEXPECTED_CPL : Nat := 3
def UP_MALFORMED : Nat := 4
def UP_MEM_UNSUP : Nat := 5
def UP_VECTOR_RANGE : Nat := 6
def UP_IDE_CHECK : Nat := 7
def UP_DL_DOWN : Nat := 8
def UP_BUF_CORR : Nat := 9
def UP_BUF_UNCORR : Nat := 10
def DN_BUF_CORR : Nat := 0
def DN_BUF_UNCORR : Nat := 1
def DN_LINK_CORR : Nat := 2
def DN_START_FAIL : Nat := 3
def DN_PORT_LOST : Nat := 4
def DN_CPL_TIMEOUT : Nat := 5
def DN_POISON_RX : Nat := 6
def DN_UNEXPECTED : Nat := 7
def DN_POOL_RANGE : Nat := 8
def CFG_FLASH_READ : Nat := 0
def CFG_COPY_INVALID : Nat := 1
def CFG_FALLBACK : Nat := 2
def CFG_APPLY_WARN : Nat := 3
def CFG_FLASH_CMD : Nat := 4
def ID_CHAIN_MISMATCH : Nat := 0
def ID_PUF_FAIL : Nat := 1
def ID_KEY_MISMATCH : Nat := 2
def ID_ENTROPY : Nat := 3
def CK_XING_OVERRUN : Nat := 0
def CK_AVFS_LIMIT : Nat := 1
def CK_VREG_TIMEOUT : Nat := 2
def CK_PLL_UNLOCK : Nat := 3
def CK_PLL_FAIL : Nat := 4
def PM_SAVE_FAIL : Nat := 0
def PM_WAKE_RETRY : Nat := 1
def PM_WAKE_FAIL : Nat := 2
def RB_CTX_CORR : Nat := 0
def RB_CTX_UNCORR : Nat := 1
def RB_CKPT_WRITE : Nat := 2
def RP_RING_WRITE : Nat := 0
def RP_DROPPED : Nat := 1
def RP_RING_LOST : Nat := 2
def RP_RECORDER_FENCED : Nat := 3
def FP_MSG_CORR : Nat := 0
def FP_MSG_UNCORR : Nat := 1
def FP_CREDIT : Nat := 2
def FP_BAD_MSG : Nat := 3
def FP_REDIRECT : Nat := 4
end Err

end Sys2Proof.Machine
end

