-- ==== Sys2Proof/Machine/Map.lean ====
section
/-! DEFINITION. Keyed lists in canonical form: keys strictly rising, and (for `put`) no entry equal to what an
unlisted key reads as. All sparse state of the block, memory among it, is held in this form. -/

namespace Sys2Proof.Machine

namespace Map
variable {α : Type}

/-- The value listed at `k`. -/
def find? (k : Nat) : NMap α → Option α
  | [] => none
  | (j, v) :: m => if j = k then some v else if k < j then none else find? k m

/-- The value at `k`, `d` where nothing is listed. -/
def getD (d : α) (k : Nat) (m : NMap α) : α := (find? k m).getD d

/-- `m` with `v` listed at `k`. -/
def insert (k : Nat) (v : α) : NMap α → NMap α
  | [] => [(k, v)]
  | (j, w) :: m => if j = k then (k, v) :: m else if k < j then (k, v) :: (j, w) :: m else (j, w) :: insert k v m

/-- `m` without an entry at `k`. -/
def erase (k : Nat) : NMap α → NMap α
  | [] => []
  | (j, w) :: m => if j = k then m else if k < j then (j, w) :: m else (j, w) :: erase k m

/-- The canonical write: `v` at `k`, where `d` is what an unlisted key reads as. -/
def put [DecidableEq α] (d : α) (k : Nat) (v : α) (m : NMap α) : NMap α :=
  if v = d then erase k m else insert k v m

/-- Every key of `m` is above `b` and the keys rise strictly. -/
def above (b : Nat) : NMap α → Bool
  | [] => true
  | (j, _) :: m => decide (b < j) && above j m

/-- The keys rise strictly. -/
def rising : NMap α → Bool
  | [] => true
  | (j, _) :: m => above j m

/-- Canonical form over the unlisted value `d`. -/
def canon [DecidableEq α] (d : α) (m : NMap α) : Bool := rising m && m.all fun e => !decide (e.2 = d)

/-- The values in order of key. -/
def values (m : NMap α) : List α := m.map (·.2)

/-- `m` without the entries whose key or value `p` rejects. -/
def keep (p : Nat → α → Bool) (m : NMap α) : NMap α := m.filter fun e => p e.1 e.2

/-- `f` at every listed value. -/
def mapVals (f : Nat → α → α) (m : NMap α) : NMap α := m.map fun e => (e.1, f e.1 e.2)

end Map

end Sys2Proof.Machine
end

