-- ==== Sys2Proof/Machine/Bits.lean ====
section
/-! DEFINITION. Bit fields of words and descriptors, byte strings and little-endian numbers (R8), and the list helpers
the units share. -/

namespace Sys2Proof.Machine

/-- Bits [hi:lo] of a word as a number (R8). -/
def bits (w : Word) (hi lo : Nat) : Nat := (w.toNat >>> lo) % 2 ^ (hi - lo + 1)

/-- Bit `i` of a word. -/
def bit (w : Word) (i : Nat) : Bool := w.toNat.testBit i

/-- The mask of bits [hi:lo]. -/
def fieldMask (hi lo : Nat) : Word := BitVec.ofNat 64 ((2 ^ (hi - lo + 1) - 1) <<< lo)

/-- `w` with bits [hi:lo] replaced by `v`. -/
def setBits (w : Word) (hi lo v : Nat) : Word :=
  (w &&& ~~~ (fieldMask hi lo)) ||| (BitVec.ofNat 64 ((v % 2 ^ (hi - lo + 1)) <<< lo))

/-- `w` with bit `i` set to `b`. -/
def setBit (w : Word) (i : Nat) (b : Bool) : Word := setBits w i i (if b then 1 else 0)

/-- 1 for true. -/
def b2n (b : Bool) : Nat := if b then 1 else 0

/-- A field placed at bit `lo` of a word. -/
def fld (v lo : Nat) : Word := BitVec.ofNat 64 (v <<< lo)

/-- The 64-bit word of a number. -/
def w64 (n : Nat) : Word := BitVec.ofNat 64 n

/-- Bytes [off, off + n) of a descriptor as a little-endian number (R8, R39). -/
def descNat (d : Desc) (off n : Nat) : Nat := (d.toNat >>> (8 * off)) % 2 ^ (8 * n)

/-- The qword at byte `off` of a descriptor. -/
def descQ (d : Desc) (off : Nat) : Word := w64 (descNat d off 8)

/-- Bit range [hi:lo] of the qword at byte `off` of a descriptor. -/
def descBits (d : Desc) (off hi lo : Nat) : Nat := bits (descQ d off) hi lo

/-- A little-endian number from bytes (R8). -/
def leNat : List Byte → Nat
  | [] => 0
  | b :: bs => b.toNat + 256 * leNat bs

/-- The `n` low bytes of `v`, lowest first (R8). -/
def leBytes (n v : Nat) : List Byte := (List.range n).map fun i => BitVec.ofNat 8 (v >>> (8 * i))

/-- Bytes [off, off + n) of a descriptor. -/
def descBytes (d : Desc) (off n : Nat) : List Byte := leBytes n (descNat d off n)

/-- The 64 bytes of a line. -/
def lineBytes (l : Line) : List Byte := leBytes 64 l.toNat

/-- A line from up to 64 bytes. -/
def lineOf (bs : List Byte) : Line := BitVec.ofNat 512 (leNat bs)

/-- The low 32-bit half of `old` and the rest as an access of half `h` leaves it, `v` being the written half in its
low bits (R13). -/
def mergeHalf (h : Half) (old v : Word) : Word :=
  match h with
  | .full => v
  | .low => setBits old 31 0 (bits v 31 0)
  | .high => setBits old 63 32 (bits v 31 0)

/-- The bits of a 64-bit register that an access of half `h` writes (R13). -/
def halfMask : Half → Word
  | .full => BitVec.allOnes 64
  | .low => fieldMask 31 0
  | .high => fieldMask 63 32

/-- The value of an access of half `h` laid over the whole register. -/
def halfValue (h : Half) (v : Word) : Word :=
  match h with
  | .full => v
  | .low => w64 (bits v 31 0)
  | .high => fld (bits v 31 0) 32

/-- The first index whose element satisfies `p`. -/
def indexOf? {α : Type} (p : α → Bool) : List α → Option Nat
  | [] => none
  | a :: as => if p a then some 0 else (indexOf? p as).map (· + 1)

/-- The sum of `f` over a list. -/
def sumOf {α : Type} (f : α → Nat) (l : List α) : Nat := l.foldl (fun n a => n + f a) 0

/-- How many elements satisfy `p`. -/
def countOf {α : Type} (p : α → Bool) (l : List α) : Nat := (l.filter p).length

/-- `f` at the elements that satisfy `p`. -/
def updateWhere {α : Type} (p : α → Bool) (f : α → α) (l : List α) : List α := l.map fun a => if p a then f a else a

/-- A new element unless it is listed already. -/
def addNew {α : Type} [DecidableEq α] (a : α) (l : List α) : List α := if a ∈ l then l else l ++ [a]

/-- Insertion of `a` into a list in rising order of `key`, behind equal keys. -/
def insertBy {α : Type} (key : α → Nat) (a : α) : List α → List α
  | [] => [a]
  | b :: bs => if key a < key b then a :: b :: bs else b :: insertBy key a bs

/-- The list in rising order of `key`, equal keys in their order. -/
def sortBy {α : Type} (key : α → Nat) (l : List α) : List α := l.foldl (fun acc a => insertBy key a acc) []

/-- Whose turn it is at a shared resource (R32), of those that wait there: the highest class, in order of arrival within it, but the lowest once
`turns` grants have gone by without one for it. -/
def nextGrant {α : Type} (rank : α → Nat) (turns : Nat) (l : List α) : Option α :=
  if 7 ≤ turns then l.find? fun a => l.all fun b => decide (rank b ≤ rank a) else (sortBy rank l).head?

/-- ⌈a / b⌉. -/
def ceilDiv (a b : Nat) : Nat := (a + b - 1) / b

/-- The 64 B lines that the bytes [a, a + n) touch, as line numbers. -/
def linesOf (a n : Nat) : List Nat := if n = 0 then [] else (List.range ((a + n - 1) / 64 - a / 64 + 1)).map (· + a / 64)

end Sys2Proof.Machine
end

