-- ==== Sys2Proof/Machine/Msg.lean ====
section
/-! DEFINITION. What the block sends: one constructor for each kind of message or output the spec names. The model keeps
the messages it has sent in State.out, newest first. -/

namespace Sys2Proof.Machine

/-- The snoops of the Fabric Port (R209, Table 6 of spec/17). -/
inductive Snoop where
  | data
  | shr
  | invFwd
  | inv
  | cur
deriving DecidableEq, Repr

/-- The grants and ends on RSP to an agent (R207 text, Table 7 of spec/17). -/
inductive Grade where
  | goM
  | goE
  | goF
  | goI
  | cmp
  | retry
deriving DecidableEq, Repr

/-- The back-invalidation snoops to the host (R209). -/
inductive BiSnp where
  | data
  | inv
  | cur
deriving DecidableEq, Repr

/-- The CXL.cache requests of the device cache (R222, R242). -/
inductive D2h where
  | rdShared
  | rdOwn
  | rdOwnNoData
  | rdCurr
  | dirtyEvict
  | cleanEvictNoData
deriving DecidableEq, Repr

/-- The answers to host snoops (R223). -/
inductive H2dRsp where
  | rspSFwdM
  | rspSHitSE
  | rspIFwdM
  | rspIHitSE
  | rspVFwdV
  | rspVHitV
  | rspIHitI
deriving DecidableEq, Repr

/-- AER events (R311 Table 6). -/
inductive Aer where
  | receiver
  | badTlp
  | badDllp
  | replayRollover
  | replayTimeout
  | unsupported
  | poisoned
  | completionTimeout
  | unexpected
  | malformed
  | flowControl
  | dlProtocol
  | ide
  | ideMisrouted
  | uncorrInternal
  | corrInternal
deriving DecidableEq, Repr

/-- IPL opcodes (Table 3 of spec/10). -/
inductive IplOp where
  | write
  | read
  | atomic
  | reduceWrite
  | sync
  | rdata
  | atomicData
  | cmp
  | nak
deriving DecidableEq, Repr

/-- A message or output of the block. -/
inductive Msg where
  /-- An MSI-X message of a function's vector (R308). -/
  | msix (fn vec : Nat)
  /-- An MSI message of the PF (R309). -/
  | msi (message : Nat)
  /-- INTA's level (R309). -/
  | inta (level : Bool)
  /-- A pulse of a block's err_irq (R389). -/
  | errIrq (blk : Nat)
  /-- err_fatal rises (R394, R399). -/
  | errFatal
  /-- An AER event logged in a function (R311). -/
  | aer (fn : Nat) (e : Aer)
  /-- An error message of a function that the host has enabled and not masked (R311): 0 ERR_COR, 1 ERR_NONFATAL, 2 ERR_FATAL. -/
  | errMessage (fn level : Nat)
  /-- cfg_done rises (R340). -/
  | cfgDone
  /-- fp_fenced[n] rises (R430). -/
  | fpFenced (n : Nat)
  /-- A completion with UR, or a posted request discarded and logged (R310). -/
  | ur (posted : Bool)
  /-- A successful completion of a CXL.io read, with its bytes and poison (R303, R311). -/
  | cpl (data : List Byte) (poison : Bool)
  /-- A configuration completion (R300). -/
  | cfgCpl (value : BitVec 32)
  /-- A configuration request answered with Request Retry Status (R300). -/
  | cfgRetry
  /-- A memory request for an engine's access of host memory (R23, R297): a write or a read, the function whose Requester ID it carries, the
  address and the length, and its No Snoop, Relaxed Ordering and ID-Based Ordering attributes. -/
  | upReq (write : Bool) (requester addr len : Nat) (noSnoop relaxed idOrdered : Bool)
  /-- An ATS Translation Request (R176). -/
  | atsRequest (key : AtsKey)
  /-- An ATS Invalidate Completion (R178). -/
  | atsInvDone (fn : Nat)
  /-- A PRI page request (R180). -/
  | pageRequest (key : AtsKey) (group : Nat) (write last : Bool)
  /-- An LTR message (R313). -/
  | ltr (ns : Nat)
  /-- A power state of the upstream link is entered or left (R313): 0 L0, 1 L0s, 2 L1, 3 L1.1, 4 L1.2. -/
  | linkState (st : Nat)
  /-- CXL.mem data to the host: tag, line, poison and the MetaValue returned (R210). -/
  | memData (tag : Nat) (data : Line) (poison : Bool) (meta_ : MetaValue)
  /-- CXL.mem Cmp to the host, with the MetaValue returned (R210, R306). -/
  | memCmp (tag : Nat) (meta_ : MetaValue)
  /-- A BISnp to the host (R209, R214). -/
  | biSnp (k : BiSnp) (line : Nat)
  /-- BIConflictAck (R219). -/
  | biConflictAck (line : Nat)
  /-- A CXL.cache request (R222); its Requester ID is the PF's (R297). -/
  | d2hReq (k : D2h) (line : Nat)
  /-- A CXL.cache snoop response with its data if it forwards (R223). -/
  | d2hRsp (k : H2dRsp) (line : Nat) (data : Option Line) (poison : Bool)
  /-- The data of a write-pull (R242). -/
  | d2hData (line : Nat) (data : Line) (poison : Bool)
  /-- A snoop on SNP (Table 6 of spec/17). -/
  | snp (port agent : Nat) (k : Snoop) (line reqAgent reqTxn homeTag : Nat)
  /-- SNP_FLUSH_SLICE (R395, R431). -/
  | snpFlush (port agent slice : Nat)
  /-- An RSP message to an agent (Table 7 of spec/17). -/
  | rsp (port agent txn : Nat) (g : Grade) (err rsvPass : Bool) (credit : Nat)
  /-- A RESP slot on DAT (Table 8 of spec/17); `half` as the HALF field. -/
  | dat (port agent txn half : Nat) (data : Line) (poison dirty : Bool)
  /-- A CRD word of the block returning credits (R425), or INIT (R426). -/
  | crd (port req evict dat : Nat) (init : Bool)
  /-- A dispatch record is offered on channel g (R432). -/
  | dispatch (g : Nat) (record : BitVec 320)
  /-- A CXL.mem request to an expander (R323): write or read, the line, and the request's number. -/
  | m2s (port id line : Nat) (write : Bool) (mask : BitVec 64) (data : Line)
  /-- A configuration or memory access of 4 or 8 bytes to an expander (R323, R328). -/
  | xacc (port : Nat) (write cfg size8 : Bool) (addr : Nat) (data : Word)
  /-- What bring-up writes to the expander (R326 step 8): its BARs, 2 for MSI-X or 1 for MSI aimed at the port, and with them Memory Space Enable
  and Bus Master Enable. -/
  | dnProgram (port : Nat) (bars : List (Option Nat)) (vectors : Nat)
  /-- HDM decoder 0 is programmed with its base, size and Interleave Ways, and committed with Lock on Commit (R326 step 9). -/
  | dnDecoder (port base size ways : Nat) (lock : Bool)
  /-- Recovery with equalisation redo at a speed, with the pairs to be tried: own and the expander's (R337). -/
  | dnRecovery (port speed : Nat) (cands : List (Nat × Nat))
  /-- Slot outputs of a downstream port (Table 3 of spec/12): power, reset (asserted), LED (0 off, 1 on, 2 blink). -/
  | slotPower (port : Nat) (on : Bool)
  | slotReset (port : Nat) (asserted : Bool)
  | slotLed (port mode : Nat)
  /-- A downstream link starts training, with its presets at 8, 16, 32 and 64 GT/s (R326, R335). -/
  | dnTrain (port : Nat) (presets : List Nat)
  /-- An IPL link starts or restarts training, or is taken down. -/
  | plTrain (port : Nat)
  | plDown (port : Nat)
  /-- laser_en of an optical engine (R435). -/
  | laser (port : Nat) (on : Bool)
  /-- Credits of a class that the block returns on an IPL port (R284). -/
  | plCredit (port cls n : Nat)
  /-- An IPL packet (Table 2 of spec/10); the poison mark of a payload travels with it (R221, R387). -/
  | ipl (port : Nat) (op : IplOp) (dst src flow seq : Nat) (cum : Bool) (status subop len : Nat) (addr : Nat)
      (payload : List Line) (poison : Bool)
  /-- A write or read of the flash by a command (R352): 1 read, 2 program, 3 erase. -/
  | flash (cmd addr : Nat) (data : List Byte)
  /-- An SPDM or IDE_KM response, by its code, with its bytes (R357, R358). -/
  | spdm (code : Nat) (data : List Byte)
  /-- vreg_mv and vreg_req of a rail (R436). -/
  | vreg (rail mv : Nat) (req : Bool)
  /-- The arrays of a rail, or of one domain of it, take assist codes (R365 to R367): read, write and retention assist. -/
  | assist (rail : Nat) (domain : Option Nat) (read write retention : Nat)
  /-- A group's divider takes a level (R366): group 0 X, 1 M. -/
  | level (group lvl : Nat)
  /-- Training of the upstream port starts (R341), with its presets at 8, 16, 32 and 64 GT/s (R335). -/
  | upTrain (presets : List Nat)
deriving DecidableEq, Repr

end Sys2Proof.Machine
end

