-- ==== Sys2Proof/Machine/UnitsA.lean ====
section
/-! DEFINITION. The state of the queue engine, of Chamois's translation side, of the coherence home, the device cache
and the Fabric Ports: plain data, each field with the rule that names it. -/

namespace Sys2Proof.Machine

/-- Who waits for a line, a translation or a tier-2 access: the work of the block that is tried again when what it
waits for has happened. -/
inductive Waiter where
  /-- A started descriptor. -/
  | work (id : Nat)
  /-- A piece of a CONVERT or REDUCE (R95), with its number. -/
  | piece (id idx : Nat)
  /-- The completion of a descriptor. -/
  | done (id : Nat)
  /-- The write of a queue's completion entry, with the place it takes (R45, R454). -/
  | entry (q place : Nat)
  /-- A ring-slot read (R452). -/
  | slot (q : Nat)
  /-- A tail-shadow read (R61). -/
  | shadow (q : Nat)
  /-- An unreserved completion entry (R454). -/
  | deferred (q : Nat)
  /-- A head-word read of a request (R154). -/
  | head (r : Nat)
  /-- A token-record write of a request (R155). -/
  | token (r : Nat)
  /-- A step's list and descriptor (R159). -/
  | step
  /-- A row in a Springbok (R161). -/
  | row (u : Nat)
  /-- A page move (R128, R189). -/
  | move (id : Nat)
  /-- A CXL.io request of the host or an adapter (R197, R303). -/
  | io (id : Nat)
  /-- An IPL request (R286). -/
  | peer (node flow seq : Nat)
  /-- A reduce-write held by a Gazelle (R99). -/
  | reduceWrite (id : Nat)
  /-- A combining-buffer entry on its way home (R254). -/
  | nt (port line : Nat)
  /-- A WR_UC or far ATOMIC of an agent (R428). -/
  | uc (port agent txn : Nat)
  /-- The replay recorder (R417). -/
  | recorder
  /-- A context image (R412). -/
  | ckpt
deriving DecidableEq, Repr

/-- The started descriptor that a waiter works for: its own, or its piece's (R95). -/
def Waiter.workOf : Waiter → Option Nat
  | .work id | .piece id _ => some id
  | _ => none

/-! ### Queue engine (spec/02) -/

/-- Queue states (R38 Table 2), by code. -/
inductive QState where
  | disabled
  | idle
  | fetching
  | idlePending
  | waiting
  | parked
  | error
  | draining
deriving DecidableEq, Repr

/-- WAIT_KIND (R36 Table 1). -/
inductive WaitKind where
  | none
  | fence
  | event
  | resource
deriving DecidableEq, Repr

/-- A completion entry before it has a place (R45 Table 4). `slot` is the slot that the entry of a stale or failed slot names (R73, R452);
any other carries SQ_HEAD when it is written. `irq` is the descriptor's IRQ bit (R47); `detached` marks the completion of a detached
OPEN_REQUEST (R454). -/
structure CqEntry where
  status   : Nat
  slot     : Option Nat
  cmdId    : Nat
  result   : Word
  irq      : Bool
  detached : Bool
deriving DecidableEq, Repr

/-- The head descriptor, fetched and not started (R42): its bytes, its first slot, the status of the checks of R451 if
one failed, whether its wait has been met, and whether its bank has granted it, with its completion entry reserved (R43). -/
structure Head where
  desc   : Desc
  slot   : Nat
  preset : Option Nat
  noSig  : Bool
  waited : Bool
  granted : Bool
deriving DecidableEq, Repr

/-- A queue pair: the queue record of R36 Table 1, and what the engine holds beside it. -/
structure Queue where
  sqBase       : Word
  cqBase       : Word
  tailShadow   : Word
  cfg          : Word
  cqHead       : Nat
  cqTail       : Nat
  sqHead       : Nat
  sqTail       : Nat
  staleRetries : Nat
  lastStatus   : Nat
  dbPending    : Bool
  st           : QState
  cqPhase      : Bool
  sqGen        : Nat
  waitValue    : Word
  waitStart    : Nat
  waitKind     : WaitKind
  waitIndex    : Nat
  waitSeq      : Nat
  head         : Option Head
  reading      : Bool
  staleDue     : Option Nat
  partialTail  : Option Nat
  reserved     : Nat
  deferred     : List CqEntry
  coalCount    : Nat
  coalDue      : Option Nat
deriving DecidableEq, Repr

/-- A queue record after a fundamental reset (R36 Table 1, R449). -/
def Queue.reset : Queue :=
  { sqBase := 0, cqBase := 0, tailShadow := 0, cfg := 0x30000000, cqHead := 0, cqTail := 0, sqHead := 0, sqTail := 0,
    staleRetries := 0, lastStatus := 0, dbPending := false, st := .disabled, cqPhase := true, sqGen := 1,
    waitValue := 0, waitStart := 0, waitKind := .none, waitIndex := 0, waitSeq := 0, head := none, reading := false,
    staleDue := none, partialTail := none, reserved := 0, deferred := [], coalCount := 0, coalDue := none }

/-- A fence or event counter (R65 to R70, Table 13). `lastSig` is the queue that last signalled it (R71). -/
structure Ctr where
  value     : Nat
  error     : Bool
  regress   : Bool
  overflow  : Bool
  prodValid : Bool
  producer  : Nat
  mode      : Nat
  valid     : Bool
  owner     : Nat
  lastSig   : Option Nat
deriving DecidableEq, Repr

/-- A counter after a fundamental reset (Table 13, Table 14). -/
def Ctr.reset : Ctr :=
  { value := 0, error := false, regress := false, overflow := false, prodValid := false, producer := 0, mode := 0,
    valid := false, owner := 0, lastSig := none }

/-- What a started descriptor is doing. -/
inductive WorkPhase where
  /-- Running, or waiting for a translation, a line, a mover or a Gazelle. -/
  | running
  /-- Dispatched to a control-core group: its record offered on the channel, or taken (R55, R432). -/
  | offered
  | taken
  /-- An accepted OPEN_REQUEST, held by the batcher (R140). -/
  | open
  /-- Ended; the completion is owed (R69). -/
  | ended
deriving DecidableEq, Repr

/-- A handle entry (R50). -/
structure HandleEntry where
  q0 : Word
  q1 : Word
deriving DecidableEq, Repr

/-- A started descriptor. `htab` is QE_CTX_HTAB.BASE of its context when it started, and `kept` the entries that the engine's cache has lost or
changed since, by handle (R51, R52). `noSig` says that no signal is to be
applied (R69); `buffer` is the patched launch's buffer (R55); `pages`, `count`, `next`, `total` and `acc` are the
progress of a piecewise operation. -/
structure Work where
  id      : Nat
  q       : Nat
  ctx     : Nat
  fn      : Nat
  desc    : Desc
  htab    : Word
  kept    : NMap HandleEntry
  phase   : WorkPhase
  status  : Nat
  result  : Word
  noSig   : Bool
  buffer  : Option Nat
  pages   : List Nat
  count   : Nat
  next    : Nat
  total   : Nat
  acc     : Nat
deriving DecidableEq, Repr

/-- The queue engine. `handles` is its cache of handle entries (R51), keyed by context × 4096 + handle; `offers` are the works offered to each
control-core group, and `dispatched` those taken, oldest first (R56); `wrrCredit` and `wrrLast` are the state of a bank's arbitration, by
bank × 4 + class (R63). -/
structure Qe where
  queues     : NMap Queue
  fences     : NMap Ctr
  events     : NMap Ctr
  htab       : NMap Word
  handles    : NMap HandleEntry
  dbPages    : NMap Word
  works      : List Work
  nextWork   : Nat
  waitSeq    : Nat
  shadows    : List Nat
  offers     : NMap (List Nat)
  dispatched : List Nat
  wrrCredit  : NMap Int
  wrrLast    : NMap Nat
  qcmdBusy   : Option Nat
  qcmdRefused : Bool
deriving DecidableEq, Repr

/-! ### Chamois: segments, translations, regions (spec/06) -/

/-- Three qwords: a segment entry (R172 Table 2) or a region entry (R197 Table 8). -/
structure Qw3 where
  q0 : Word
  q1 : Word
  q2 : Word
deriving DecidableEq, Repr

/-- An ATS copy (R176): the range of 2^log2 bytes at untranslated `base`, its translation and its permissions. -/
structure AtsCopy where
  fn    : Nat
  pasid : Option Nat
  base  : Nat
  log2  : Nat
  target : Nat
  read  : Bool
  write : Bool
deriving DecidableEq, Repr

/-- Who waits for a translation of a page: for a read or a write, whether its segment has PRI (R179), and whether it translates again after a
successful page request, so that its next host fault raises no further request (R181). -/
structure AtsWaiter where
  who   : Waiter
  write : Bool
  pri   : Bool
  again : Bool
deriving DecidableEq, Repr

/-- A translation request out, and who waits for its answer (R176). -/
structure AtsReq where
  key   : AtsKey
  write : Bool
  who   : List AtsWaiter
deriving DecidableEq, Repr

/-- A page-request record (R180, R182). -/
structure PriRec where
  key   : AtsKey
  write : Bool
  group : Nat
  who   : List AtsWaiter
deriving DecidableEq, Repr

/-- A page request group (R180): its function and PASID, how many requests it holds, when it opened, when it was
closed (and its response began to be awaited). -/
structure PriGroup where
  id     : Nat
  fn     : Nat
  pasid  : Option Nat
  size   : Nat
  opened : Nat
  closed : Option Nat
deriving DecidableEq, Repr

/-- A fault waiting for a free record or for allocation (R180). -/
structure PriWait where
  key : AtsKey
  who : AtsWaiter
deriving DecidableEq, Repr

/-- The result a waiter finds when it is tried again: the translation of a page failed (R179, R181). -/
structure Verdict where
  who    : Waiter
  key    : AtsKey
  status : Nat
deriving DecidableEq, Repr

/-- A page move of the migration queue or in progress (R128, R188, R189): its class (0 Ibex, 1 demand unpack, 2 ADVISE, 3 heat loop), the
page, its kind (`demote`, `fetch` and `evac` are of Ibex pages, the last a move between ports, R333), the frames, the copy cursor in bytes
and the number of failures; `jobs` are the 256 KiB jobs that have completed (R128). -/
inductive MoveKind where
  | demote
  | fetch
  | evac
  | promote
  | plainDemote
  | pack
  | unpack
  | relocate
  /-- The copy of a shared tail (R120), which no queue holds up. -/
  | cow
deriving DecidableEq, Repr

/-- How a move carries its page: line by line through the page's placed addresses (R189), line by line between two frames or slots, or through a
Gazelle with a profile, outward or back (R106, R128, R190). -/
inductive MoveMode where
  | lines
  | raw
  | out (profile : Word)
  | back (profile : Word)
deriving DecidableEq, Repr

/-- A move (R128, R189). `srcPool` and `dstPool` are pools (0 tier 1, 1 + p port p) with the frame or slot there, `src` and `dst` the device
addresses at which it reads and writes; `cursor` counts the bytes carried of `total`, and `upTo` how far its jobs have been called for;
`ending` that its end has been; `fails` the failures of the job in hand, 2 when it has failed for good. A conversion has read `inPos` of
`inLen` bytes and written `outPos`; `job` holds what the job in hand has written and read while its writes are performed; `corrupt` that its
YXP data failed (R107); `aborted` that the move is to end with the page where it was (R118, R190); `work` is the descriptor that waits for
it. -/
structure Move where
  id       : Nat
  cls      : Nat
  kind     : MoveKind
  page     : Nat
  srcPool  : Nat
  srcFrame : Nat
  dstPool  : Nat
  dstFrame : Nat
  mode     : MoveMode
  src      : Nat
  dst      : Nat
  cursor   : Nat
  upTo     : Nat
  total    : Nat
  inPos    : Nat
  inLen    : Nat
  outPos   : Nat
  job      : Option (Nat × Nat)
  running  : Bool
  ending   : Bool
  fails    : Nat
  corrupt  : Bool
  aborted  : Bool
  work     : Option Nat
deriving DecidableEq, Repr

/-- An invalidation that drains (R178). -/
structure Inval where
  fn    : Nat
  since : Nat
  who   : List Waiter
deriving DecidableEq, Repr

/-- A CXL.io request of the host or an adapter that waits for its lines (R197, R303): the device address, the bytes of
a write, or the length of a read, or an atomic as its AOP, size, operand and compare value. -/
structure IoReq where
  id     : Nat
  addr   : Nat
  len    : Nat
  data   : Option (List Byte)
  poison : Bool
  atomic : Option (Nat × Nat × Word × Word)
  /-- BAR2, not the HDM range (R303). -/
  bar2   : Bool
  /-- The writes have gone to their homes. -/
  issued : Bool
deriving DecidableEq, Repr

/-- Chamois: segment tables, ATS copies, page requests, regions, placed memory (spec/06). -/
structure Ch where
  segs      : NMap Qw3
  regions   : NMap Qw3
  cmdBusy   : Bool
  cmdRefused : Bool
  /-- The accesses through the entry that a commit has replaced (R175, R198), and the time at which BUSY clears at the latest. -/
  drain     : List Waiter
  drainBy   : Nat
  /-- ENABLE is set, and lines of the map are still held in caches (R184). -/
  starting  : Bool
  copies    : List AtsCopy
  reqs      : List AtsReq
  pri       : List PriRec
  groups    : List PriGroup
  priWait   : List PriWait
  nextGroup : Nat
  verdicts  : List Verdict
  invals    : List Inval
  stopped   : Bool
  active    : Bool
  sweepDue  : Nat
  samples   : Nat
  quiet     : Bool
  /-- Placed-page frames in use and frames freed but not yet zeroed, by pool: key 0 tier 1, 1 + p port p; the values are
  frame numbers (R185). -/
  used      : NMap (List Nat)
  dirty     : NMap (List Nat)
  moves     : List Move
  nextMove  : Nat
  /-- Host reads that no completion has answered: who waits, and the page (R178, R312). -/
  hostReads : List (Waiter × AtsKey)
  /-- Waiters for a zeroed frame (R185) and for a packed page's unpack (R191). -/
  frameWait : List Waiter
  pageWait  : List (Nat × Waiter)
  ios       : List IoReq
  nextIo    : Nat
deriving DecidableEq, Repr

/-! ### Coherence home (spec/07) -/

/-- Snoop-filter entry states (R206). -/
inductive SfSt where
  | excl
  | fwd
  | shared
  | hostx
deriving DecidableEq, Repr

/-- A snoop-filter entry (R205 Table 3). -/
structure SfEntry where
  tag   : Nat
  st    : SfSt
  host  : Bool
  multi : Bool
  fwd   : Nat
deriving DecidableEq, Repr

/-- Who asked for a transaction at a home. -/
inductive Asker where
  /-- A chip agent: port, agent and its TXN. -/
  | agent (port agent txn : Nat)
  /-- The host, with its CXL.mem tag (R210). -/
  | host (tag : Nat)
  /-- A block engine, CXL.io, BAR2, an IPL port, a combining buffer (a non-caching requester, R209). -/
  | nc (w : Waiter)
  /-- The home itself: a victim's back-invalidation (R214), a way disabled (R245), a moved home (R395), a discard (R195). -/
  | home
deriving DecidableEq, Repr

/-- What a transaction asks for (R209, R210, R222, R224). -/
inductive TxnKind where
  | rdShared
  /-- With the core, thread, granule shift and identifier code of a reserved load (R261). -/
  | rdOwn (rsv : Option (Nat × Nat × Nat × Nat))
  | rdCur
  | rdOwnNodata (zero : Bool)
  /-- With its operand line, and whether that is poisoned (R221). -/
  | atomic (far : Bool) (aop size offset : Nat) (operand : Line) (poison : Bool)
  | ncRead
  /-- A non-caching write: the bytes under the mask once the line is free; mask 0 only frees it. -/
  | ncWrite (mask : BitVec 64) (data : Line) (poison : Bool)
  | memShared
  | memOwn
  | memCur
  /-- MemClnEvct (R210). -/
  | memClean
  | memWrite (meta_ : MetaValue) (mask : BitVec 64) (data : Line) (poison : Bool)
  /-- One line of a page move (R189): read as a non-caching read, and copied to device address `dst` before the line is free again. -/
  | moveLine (dst : Nat)
  /-- Back-invalidation of the line's holders, its data kept or thrown away. -/
  | backInv (discard : Bool)
deriving DecidableEq, Repr

/-- Where a transaction stands. -/
inductive TxnPhase where
  /-- Behind an earlier transaction for the line (R213). -/
  | queued
  /-- Waiting for a way of the snoop filter or the device cache: a victim's end, or an unpinned way (R214). -/
  | needWay
  /-- Snoops sent; answers, or the data they promise, awaited. -/
  | snooping
  /-- A placed page's frame or unpack awaited (R185, R191). -/
  | place
  /-- A tier-2 read awaited (R323). -/
  | memory
  /-- The expander's completion of the transaction's writes awaited (R401). -/
  | writing
  /-- Host memory: the device cache's request to the host awaits its answer (R222). -/
  | hostReq (k : D2h)
  /-- Host memory: DirtyEvict sent for the victim of the fill, the write-pull awaited (R242). -/
  | writePull (victim : Nat)
deriving DecidableEq, Repr

/-- A tracker entry (R212): the transaction of one request for one line. `snoops` are the agents (16 the host) whose answers are awaited;
`data` is the line's current value as the home has it, `dirty` that it differs from memory, `direct` that the requester was sent the data by
the holder (with `directDirty`), `fwd` the answer of the holder that forwarded, `evicted` that the holder's eviction notice was matched
(R218), `early` when its RSP_I came before the notice, `dats` how many DAT slots are still awaited, `err` the error response, `ctx` the
context of the request (R233), `missed` that the device cache asked the host for it, `decided` that an atomic has been made near or far
(R226); `way` is the key of the filter's way kept for a new entry (R214), or of the head of the unit that a
fill of a host line is emptying (R242), `off` the byte of the line that was asked for (R241). Tag 256 + n is the
back-invalidation of the victim that the request in entry n waits for (R214). -/
structure Txn where
  slice    : Nat
  tag      : Nat
  line     : Nat
  kind     : TxnKind
  asker    : Asker
  phase    : TxnPhase
  credit   : Option Nat
  snoops   : List Nat
  since    : Nat
  data     : Option Line
  dirty    : Bool
  poison   : Bool
  direct   : Bool
  directDirty : Bool
  fwd      : Bool
  keptF    : Bool
  evicted  : Bool
  early    : Option Nat
  needDat  : Bool
  owes     : Nat
  err      : Option Nat
  ctx      : Nat
  missed   : Bool
  decided  : Bool
  way      : Option Nat
  off      : Nat
deriving DecidableEq, Repr

/-- A line's data fetched for a non-caching reader (R209), or the mark that a line is ready for its write. -/
structure Got where
  who    : Waiter
  line   : Nat
  data   : Option Line
  poison : Bool
  /-- The status of an access that failed, where there is no data. -/
  status : Nat := 0
deriving DecidableEq, Repr

/-- Writes posted to homes for a waiter and not yet performed (R255, R401), and the status of the first that failed. -/
structure Posted where
  who    : Waiter
  n      : Nat
  failed : Option Nat
deriving DecidableEq, Repr

/-- A Bullpen credit out, and the agent it was given to (R216). -/
structure Credit where
  slice : Nat
  num   : Nat
  agent : Nat
  due   : Nat
deriving DecidableEq, Repr

/-- A request held in a stop's ingress because no credit was free (R215), or at the crossing of a slice that sleeps (R268, R383). -/
structure Held where
  slice : Nat
  line  : Nat
  kind  : TxnKind
  asker : Asker
  ctx   : Nat
  off   : Nat
  /-- The Bullpen credit that it carries (R216). -/
  credit : Option Nat
deriving DecidableEq, Repr

/-- Bytes of a line that are to be written to memory as soon as its page takes them (R185, R191, R209, R225). -/
structure Back where
  line   : Nat
  mask   : BitVec 64
  data   : Line
  poison : Bool
deriving DecidableEq, Repr

/-- The dirty data that an EXCL holder may still send the home after its answer (R207): the tracker entry it answered, the line, the holder, and
the bytes that no later write has replaced. -/
structure LateDat where
  slice : Nat
  tag   : Nat
  line  : Nat
  agent : Nat
  mask  : BitVec 64
deriving DecidableEq, Repr

/-- The snoop-filter slices and their homes. Entry keys are (slice × 32768 + set) × 16 + way; `plru` is keyed by slice × 32768 + set. `far`
are the lines of the far-atomic buffers, least recently used first (R225); `put` the lines that a write of several lines has already written
while it waits for another. -/
structure Sf where
  entries  : NMap SfEntry
  plru     : NMap Nat
  waysOff  : NMap (List Nat)
  /-- Ways of `waysOff` whose entries are still on their way out, as slice and way (R245). -/
  wayFlush : List (Nat × Nat)
  wayTimes : NMap (List Nat)
  txns     : List Txn
  got      : List Got
  put      : List (Waiter × Nat)
  posted   : List Posted
  credits  : List Credit
  held     : List Held
  far      : List (Nat × Nat × Line × Bool)
  pred     : NMap Nat
  /-- Engines that wait for the host to have snooped a device-cache line before their own access to it (R264). -/
  hostAsks : List (Waiter × Nat)
  /-- BIConflicts to be acknowledged (R219): the line, and the host's transaction whose grant comes first, or none where the BIRsp does. -/
  conflicts : List (Nat × Option (Nat × Nat))
  backs    : List Back
  late     : List LateDat
  /-- Lines of the block's own tables that it has written while a cache held them (R115, R184). -/
  tables   : List Nat
  /-- Per slice, the class of its last grant and the grants since bulk traffic had one (R32). -/
  turns    : NMap (Nat × Nat)
  /-- The home move of a fenced slice (R395): slices whose flush answers are awaited, with the ports still to answer. -/
  flushing : List (Nat × List Nat)
deriving DecidableEq, Repr

/-! ### Device cache (spec/08) -/

/-- A tag entry (R233 Table 2) with its line's data. HSTATE 0 I, 1 S, 2 E, 3 M; CSTATE 0 EXCL, 1 FWD, 2 SHARED, 3 NONE. In SECTORED mode
LOCK, SHASH, CONTEXT and TAG of a sector stand in its entry 0. -/
structure DcLine where
  tag    : Nat
  lock   : Bool
  poison : Bool
  hstate : Nat
  cstate : Nat
  multi  : Bool
  fwd    : Nat
  shash  : Nat
  ctx    : Nat
  data   : Line
deriving DecidableEq, Repr

/-- The prefetcher of a slice (R238 to R240): regions with their miss counts, most recent first; the side buffer,
oldest first, as line and data; THRESH; its state (0 parked-free not started, 1 running, 2 parked); retired and used
lines of the window; misses since parking. -/
structure Pref where
  regions : List (Nat × Nat × Nat)
  side    : List (Nat × Line × Bool)
  inFlight : List Nat
  thresh  : Nat
  st      : Nat
  retired : Nat
  used    : Nat
  misses  : Nat
deriving DecidableEq, Repr

/-- The device cache. Way keys are (slice × 4096 + set) × 16 + way; `plru` by slice × 4096 + set. `modeActive` and
`modePend` are the slices' index modes (R231, R232). The running DC_CMD (R236): its code, the next line or key of its
walk, the context, and the lines done and refused. -/
structure Dc where
  lines     : NMap DcLine
  plru      : NMap Nat
  mode      : NMap Nat
  pref      : NMap Pref
  cmd       : Nat
  cmdArg    : Word
  cmdAddr   : Nat
  cmdLeft   : Nat
  cmdKeys   : List Nat
  refused   : Bool
  done      : Nat
  denied    : Nat
  tcOff     : List Nat
  tcTimes   : NMap (List Nat)
deriving DecidableEq, Repr

/-! ### Fabric Ports (spec/17, spec/09) -/

/-- A combining-buffer entry (R254): port, line, the identifiers whose stores it holds (agent, core, engine), the mask,
the data, whether any store was poisoned, and when it was opened. -/
structure NtEntry where
  port   : Nat
  line   : Nat
  ids    : List (Nat × Nat × Nat)
  mask   : BitVec 64
  data   : Line
  poison : Bool
  opened : Nat
deriving DecidableEq, Repr

/-- A reservation (R261): thread, context, its granule (base and size as a shift) and line, and the code that tells its observer among those of the
core, as in `UcWrite` (R249, R262). -/
structure Rsv where
  ctx    : Nat
  port   : Nat
  agent  : Nat
  core   : Nat
  thread : Nat
  code   : Nat
  line   : Nat
  shift  : Nat
deriving DecidableEq, Repr

/-- A REQ in a port's ingress, by its opcode (Table 4 of spec/17). -/
structure PendReq where
  op  : Nat
  m   : Req
deriving DecidableEq, Repr

/-- A write that its port orders by identifier and that is not yet performed (R258, R428): the waiter that performs it, the identifiers
it carries as (agent, core, code), where code is the engine, with 4 added in a native context (R250), its line, mask and data, the
atomic it carries (AOP, SIZE, OFFSET) with its context and credit, and whether it has been issued. -/
structure UcWrite where
  who    : Waiter
  port   : Nat
  ids    : List (Nat × Nat × Nat)
  line   : Nat
  mask   : BitVec 64
  data   : Line
  poison : Bool
  aop    : Option (Nat × Nat × Nat)
  ctx    : Nat
  credit : Option Nat
  issued : Bool
deriving DecidableEq, Repr

/-- A FENCE that waits (R252): its request, and whether a write in its scope was discarded (R401). -/
structure FenceWait where
  m      : Req
  failed : Bool
deriving DecidableEq, Repr

/-- The Fabric Ports. `reqs` are the requests in the ports' ingress, in order of arrival, and `dats` the WRITE slots whose requests
have not come. Credits by port: SNP credits held by the block; REQ, EVICT and DAT credits the agent holds, 48, 16 and 64 where nothing
is listed (R425). -/
structure Fp where
  nt      : List NtEntry
  rsv     : List Rsv
  reqs    : List PendReq
  dats    : List Dat
  ucs     : List UcWrite
  fences  : List FenceWait
  /-- The identifiers of non-temporal stores that have been discarded since a FENCE last covered them (R401). -/
  ntLost  : List (Nat × Nat × Nat)
  snpCrd  : NMap Nat
  reqCrd  : NMap Nat
  evCrd   : NMap Nat
  datCrd  : NMap Nat
  snpWait : List Msg
  /-- Credit words that a disabled port sends once it is enabled (R425, R442). -/
  crdOwed : List Msg
deriving DecidableEq, Repr

end Sys2Proof.Machine
end

