-- ==== Sys2Proof/Machine/UnitsB.lean ====
section
/-! DEFINITION. The state of the host endpoint and of the downstream ports: plain data, each field with the rule that
names it. -/

namespace Sys2Proof.Machine

/-! ### Host endpoint (spec/11) -/

/-- An entry of an MSI-X table with its PBA bit (R308). -/
structure MsixVec where
  addr    : Word
  data    : BitVec 32
  masked  : Bool
  pending : Bool
deriving DecidableEq, Repr

/-- An MSI-X entry after reset: masked, nothing pending (PRESUMED PCIe, log entry 15). -/
def MsixVec.reset : MsixVec := { addr := 0, data := 0, masked := true, pending := false }

/-- An HDM decoder (R305). -/
structure Hdm where
  base      : Nat
  size      : Nat
  committed : Bool
  lock      : Bool
  err       : Bool
  skip      : Nat
  ways      : Nat
deriving DecidableEq, Repr

/-- A decoder after reset. -/
def Hdm.reset : Hdm := { base := 0, size := 0, committed := false, lock := false, err := false, skip := 0, ways := 0 }

/-- Attach states (R319 Table 8). -/
inductive AttachSt where
  | fresh
  | attached
  | parked
deriving DecidableEq, Repr

/-- A function being quiesced (R315): whether by FLR, since when, the descriptors whose reads still drain, and those that had ended otherwise, whose
issued accesses are awaited (R267). -/
structure Quiesce where
  fn    : Nat
  flr   : Bool
  since : Nat
  reads : List Nat
  writes : List Nat
deriving DecidableEq, Repr

/-- The DOE mailbox (R299): the dwords written, those of the answer still to be read, and Interrupt Status. -/
structure Doe where
  wr   : List (BitVec 32)
  rd   : List (BitVec 32)
  intr : Bool
deriving DecidableEq, Repr

/-- An idle mailbox. -/
def Doe.reset : Doe := { wr := [], rd := [], intr := false }

/-- The host endpoint. `cfgSpace` holds the dwords of configuration space that differ from reset, keyed by function ×
1024 + dword. `msix` is keyed by function × 2048 + vector. `lpm` is the link's power state: 0 L0, 1 L0s, 2 L1, 3 L1.1,
4 L1.2. `trained` are UP_CFG and UP_HDM_SIZEn as read when the link trained (R322). -/
structure Up where
  cfgSpace  : NMap (BitVec 32)
  msix      : NMap MsixVec
  intaLevel : Bool
  hdm0      : Hdm
  hdm1      : Hdm
  attach    : AttachSt
  token     : Word
  staged    : Word
  attRefused : Bool
  fnRefused : Bool
  quiescing : List Quiesce
  vfOn      : Nat
  linkUp    : Bool
  speed     : Nat
  width     : Nat
  flit      : Bool
  cxl       : Bool
  slotPower : Nat
  lpm       : Nat
  bar2Busy  : Bool
  /-- BAR2 requests from before a move of the window, and its time (R303). -/
  bar2Drain : List Waiter
  bar2From  : Nat
  bar2Refused : Bool
  trainedCfg : Word
  hdmSize0  : Word
  hdmSize1  : Word
  /-- Reads that were abandoned 90 ms after an FLR, each with its function (R315): their tags stay out of use. -/
  abandoned : List (Nat × Nat)
  perst     : Bool
  /-- The next training of the link reads UP_CFG and UP_HDM_SIZEn (R322): it follows a fundamental or hot reset. -/
  reread    : Bool
  /-- The latency tolerance last reported (R313), 0 before the first LTR message. -/
  ltr       : Nat
  /-- The AER header log of a function, as two words (R299, R311). -/
  hdrLog    : NMap (Word × Word)
  doe       : Doe
  /-- The CXL component registers that differ from reset, by their place in the UP_ window (R299). -/
  comp      : NMap (BitVec 32)
deriving DecidableEq, Repr

/-! ### Downstream ports (spec/12) -/

/-- Port states (R325 Table 2 of spec/12). -/
inductive DnSt where
  | empty
  | off
  | starting
  | up
  | evacuating
  | failed
  | lost
deriving DecidableEq, Repr

/-- What a tier-2 request serves. -/
inductive DnFor where
  /-- A read of the transaction of a home slice. -/
  | txnRead (slice tag : Nat)
  /-- A write of the transaction of a home slice. -/
  | txnWrite (slice tag : Nat)
  /-- A write of a waiter's, to be reported to it (R255, R401). -/
  | write (who : Waiter)
deriving DecidableEq, Repr

/-- A CXL.mem request outstanding at an expander (R323, R332). -/
structure DnReq where
  id     : Nat
  port   : Nat
  line   : Nat
  write  : Bool
  mask   : BitVec 64
  data   : Line
  poison : Bool
  for_   : DnFor
  sent   : Nat
  /-- Waiting at the port, not sent yet: behind 1,024 others, or during a redo of the equalisation (R323, R337). -/
  held   : Bool
deriving DecidableEq, Repr

/-- What bring-up has programmed into the expander (R326 steps 8 and 9): the base of each memory BAR of function 0 that fits the port's 4 GiB
space, in BAR order; 2 for MSI-X, 1 for MSI, 0 for neither; Memory Space Enable and Bus Master Enable; and base and size of HDM decoder 0 once it
is committed. -/
structure DnSetup where
  bars      : List (Option Nat)
  vectors   : Nat
  memSpace  : Bool
  busMaster : Bool
  decoder   : Option (Nat × Nat)
deriving DecidableEq, Repr

/-- Nothing is programmed. -/
def DnSetup.reset : DnSetup := { bars := [], vectors := 0, memSpace := false, busMaster := false, decoder := none }

/-- A downstream port (R325, R326, R329 to R337). `step` is the bring-up step reached, with when it began; `button` when
the button's window closes; `toRow` timeouts in a row; `offAfter` that POWER_OFF follows EVAC_DONE, and once `evacDone` is set that it
waits for the port's requests; `eqPending` and `eqRedo` a redo of the equalisation waiting for quiet and running. -/
structure DnPort where
  st        : DnSt
  present   : Bool
  powered   : Bool
  powerGood : Bool
  linkUp    : Bool
  reason    : Nat
  capacity  : Nat
  speed     : Nat
  width     : Nat
  step      : Nat
  since     : Nat
  button    : Option Nat
  toRow     : Nat
  evacDone  : Bool
  busy      : Bool
  refused   : Bool
  offAfter  : Bool
  eqPending : Bool
  eqRedo    : Bool
  /-- The link is in Recovery for its redo (R337 step 2). -/
  eqIn      : Bool
  setup     : DnSetup
deriving DecidableEq, Repr

/-- A port at reset: EMPTY (R325, R339). -/
def DnPort.reset : DnPort :=
  { st := .empty, present := false, powered := false, powerGood := false, linkUp := false, reason := 0, capacity := 0,
    speed := 0, width := 0, step := 0, since := 0, button := none, toRow := 0, evacDone := false, busy := false,
    refused := false, offAfter := false, eqPending := false, eqRedo := false, eqIn := false, setup := DnSetup.reset }

/-- Equalisation state of a link (R335 to R337): the presets in use at each speed from 8 GT/s (code 3) on, the worst margin and its
lane, whether the last redo kept the previous presets, redos done, the corrected symbols, and when the last redo began. Index 8 is the upstream port. -/
structure EqLink where
  presets  : NMap Nat
  margin   : Nat
  lane     : Nat
  failedLast : Bool
  redos    : Nat
  corrected : Nat
  lastRedo : Option Nat
deriving DecidableEq, Repr

/-- A link's equalisation state at reset. -/
def EqLink.reset : EqLink :=
  { presets := [], margin := 0, lane := 0, failedLast := false, redos := 0, corrected := 0, lastRedo := none }

/-- The downstream ports. -/
structure Dn where
  ports    : NMap DnPort
  reqs     : List DnReq
  nextReq  : Nat
  xaccBusy : Bool
  xaccErr  : Bool
  eq       : NMap EqLink
deriving DecidableEq, Repr

/-! ### Ilura Peer Link (spec/10) -/

/-- A request sent to a peer and not yet answered (R288): who waits for it, what R289 sends again, and the port that first sent it, whose
retransmit buffer holds it. -/
structure PlSent where
  seq     : Nat
  op      : IplOp
  subop   : Nat
  addr    : Nat
  len     : Nat
  payload : List Line
  poison  : Bool
  who     : Waiter
  port    : Nat
deriving DecidableEq, Repr

/-- The sender's state for a (destination node, flow) pair (R288, R289). `wait` are requests beyond the 1,024 that may be
unanswered, without a number yet. -/
structure PlTx where
  next    : Nat
  synced  : Bool
  unacked : List PlSent
  wait    : List PlSent
  since   : Nat
  expiries : Nat
deriving DecidableEq, Repr

/-- A sender state after reset (R288, R295). -/
def PlTx.reset : PlTx := { next := 0, synced := false, unacked := [], wait := [], since := 0, expiries := 0 }

/-- An accepted request (R286, R291): its number, opcode, range, payload with its poison mark, and the function of its window (R281); `fault` is the
status of the check that it failed; `issued` once it went to its home or Gazelle; `done` its status once it is performed or has failed; `old` that its
pair's numbers have been replaced since (R286), so that it is answered by itself; the port it came by, and whether its credits there have been
returned (R284, R285). -/
structure PlAcc where
  seq     : Nat
  op      : IplOp
  subop   : Nat
  addr    : Nat
  len     : Nat
  payload : List Line
  fn      : Nat
  poison  : Bool
  fault   : Nat
  issued  : Bool
  done    : Option Nat
  old     : Bool
  port    : Nat
  freed   : Bool
deriving DecidableEq, Repr

/-- The receiver's state for a (source node, flow) pair (R286, R287): EXPECTED, absent while unsynchronised; the accepted
requests not yet performed; how many OK answers are owed, the oldest since when; when the last NAK went; whether a duplicate is to be
answered. -/
structure PlRx where
  expected : Option Nat
  acc      : List PlAcc
  owed     : Nat
  oldest   : Nat
  lastNak  : Option Nat
  dup      : Bool
deriving DecidableEq, Repr

/-- A receiver state after reset: unsynchronised (R286). -/
def PlRx.reset : PlRx := { expected := none, acc := [], owed := 0, oldest := 0, lastNak := none, dup := false }

/-- An IPL port (R270, R271, R284, R435): `high` that an x4 link uses lanes 4 to 7; `retrain` that a link that was up trains again; the credits of the
four classes that the switch has returned, the packets held for them, and the credits of the block's own that are not in use. -/
structure PlPort where
  linkUp   : Bool
  x8       : Bool
  high     : Bool
  training : Bool
  retrain  : Bool
  ready    : Option Nat
  fault    : Bool
  replays  : Nat
  fails    : Nat
  credits  : List Nat
  held     : List (Nat × Nat × Msg)
  grant    : List Nat
deriving DecidableEq, Repr

/-- A port at reset (R295). -/
def PlPort.reset : PlPort :=
  { linkUp := false, x8 := false, high := false, training := false, retrain := false, ready := none, fault := false, replays := 0, fails := 0,
    credits := [0, 0, 0, 0], held := [], grant := [2048, 2048, 2048, 256] }

/-- A committed inbound window (R281, Table 10). -/
structure PlWin where
  q0 : Word
  q1 : Word
deriving DecidableEq, Repr

/-- Ilura Peer Link. Sender and receiver states are keyed by node × 128 + flow. -/
structure Pl where
  tx       : NMap PlTx
  rx       : NMap PlRx
  routes   : NMap Nat
  unreach  : List Nat
  windows  : NMap PlWin
  winBusy  : Bool
  /-- Requests that passed a window before its commit, and the time at which WIN_BUSY clears at the latest (R282). -/
  winDrain : List (Nat × Nat × Nat)
  winBy    : Nat
  winRefused : Bool
  ports    : NMap PlPort
  failures : List (Waiter × Nat)
deriving DecidableEq, Repr

/-! ### Contexts (spec/16) -/

/-- Context states (R404, R405). -/
inductive CtxSt where
  | free
  | bound
  | quiescing
  | quiesced
deriving DecidableEq, Repr

/-- A context record (Table 1 of spec/16). `obs` and `rsv` are in force; `obsSet` and `rsvSet` are as written, and take effect at
RESUME (R410). -/
structure Ctx where
  st  : CtxSt
  fn  : Nat
  obs : Bool
  rsv : Nat
  obsSet : Bool
  rsvSet : Nat
deriving DecidableEq, Repr

/-- A context record after reset: context 0 is BOUND to the PF, the others are FREE; RSV_SHIFT is 6 (Table 1 of spec/16). -/
def Ctx.reset (c : Nat) : Ctx := { st := if c = 0 then .bound else .free, fn := 0, obs := false, rsv := 6, obsSet := false, rsvSet := 6 }

/-- Context rebinding: the records that differ from reset, the running command (its code, context, image address and REASON; R448), the
image that a CHECKPOINT writes and whether its lines have gone to their homes (R412), the requests that had passed the regions which a
RELEASE has withdrawn and the time until which it waits for them (R411), and that a safe state refuses commands (R398). -/
structure Rb where
  ctxs    : NMap Ctx
  busy    : Bool
  refused : Bool
  reason  : Nat
  cmd     : Nat
  cmdCtx  : Nat
  addr    : Nat
  image   : List Byte
  issued  : Bool
  drain   : Option (List Waiter × Nat)
  safe    : Bool
deriving DecidableEq, Repr

end Sys2Proof.Machine
end

