-- ==== Sys2Proof/Machine/UnitsC.lean ====
section
/-! DEFINITION. The state of clocks and power (spec/14) and of the replay recorder (spec/16): plain data, each field with
the rule that names it. -/

namespace Sys2Proof.Machine

/-! ### Clocks and rails (R362 to R370) -/

/-- A level change of a group in progress (R366): the level it leaves, the one it goes to, and whether the voltage request
awaits its acknowledgement. -/
structure LevelMove where
  source : Nat
  target : Nat
  asked  : Bool
deriving DecidableEq, Repr

/-- The PLL (R363): not locked yet, locked, relocking, failed. -/
inductive Pll where
  | off
  | locked
  | relocking
  | failed
deriving DecidableEq, Repr

/-- A regulator channel (R436): the voltage last requested in mV, vreg_req and vreg_ack. -/
structure Vreg where
  mv  : Nat
  req : Bool
  ack : Bool
deriving DecidableEq, Repr

/-- A regulator channel after reset. -/
def Vreg.reset : Vreg := { mv := 0, req := false, ack := false }

/-- Clocks and rails. Levels in force; the changes of groups X and M; the trims by 96 × level + domain for the domains that
have reported there (R369); the rails by number (0 X, 1 M, 2 P, 3 AON); domains stretched before (R370). -/
structure Ck where
  pll     : Pll
  xLevel  : Nat
  mLevel  : Nat
  xMove   : Option LevelMove
  mMove   : Option LevelMove
  trims   : NMap Nat
  vregs   : NMap Vreg
  stretched : List Nat
  relocks : Nat
deriving DecidableEq, Repr

/-! ### Gazelles (spec/03) -/

/-- What a piece has computed and is about to write: destination bytes, scale bytes, zero-point bytes, its FP32 amax and its
CLAMPED count (R94). -/
structure GzOut where
  bytes   : List Byte
  scales  : List Byte
  zps     : List Byte
  amax    : Nat
  clamped : Nat
deriving DecidableEq, Repr

/-- A piece in a Gazelle, or one to be run again (R95, R97): its work and number, the Gazelle it is or was on, its runs, what it has
computed once its destination writes begin, that its end has come and waits only for memory, and that its writes have all gone out. -/
structure GzPiece where
  work : Nat
  idx  : Nat
  unit : Nat
  runs : Nat
  out  : Option GzOut
  ending : Bool
  issued : Bool
deriving DecidableEq, Repr

/-- The outcome of a piece (R96). -/
structure GzRes where
  work    : Nat
  idx     : Nat
  status  : Nat
  amax    : Nat
  clamped : Nat
deriving DecidableEq, Repr

/-- A reduce-write held by a Gazelle (R99): where it came from, its destination, format, data, its runs (R97), that it has begun, what it has
computed, whether its writes have gone to their homes, and how it ended. -/
structure RedWrite where
  id   : Nat
  unit : Nat
  node : Nat
  flow : Nat
  seq  : Nat
  addr : Nat
  fmt  : Nat
  data : List Byte
  poison : Bool
  runs : Nat
  begun : Bool
  out  : Option (List Byte)
  issued : Bool
  done : Option Nat
deriving DecidableEq, Repr

/-- The use of a Gazelle by a YXP descriptor, a converting PREFETCH or a job of a page move (R104, R128): who uses it, the Gazelle that it is on
or was on, and its runs there (R97). -/
structure GzUse where
  who  : Waiter
  unit : Nat
  runs : Nat
deriving DecidableEq, Repr

/-- The Gazelles. `unitWait` are the uses that wait for a Gazelle and `holds` those that have one; `wrote` are the pieces and reduce-writes that
have issued a destination write (R97); `turns` counts, for each Gazelle, the grants since the lowest class waiting for it had one (R32). -/
structure Gz where
  running : List GzPiece
  redo    : List GzPiece
  results : List GzRes
  rws     : List RedWrite
  nextRw  : Nat
  unitWait : List GzUse
  holds   : List GzUse
  wrote   : List Waiter
  turns   : NMap Nat
deriving DecidableEq, Repr

/-! ### Power domains (R371 to R378) -/

/-- Domain states (R372 Table 5), by code. -/
inductive PmSt where
  | active
  | idle
  | nap
  | off
deriving DecidableEq, Repr

/-- A power domain: its state, the state an entry in progress goes to, a wake in progress and its tries (R378), the
counters of PM_DOM_STAT, the chip's debug hold input (R377), and a timer's request that came in an entry's final window (R376). -/
structure PmDom where
  st       : PmSt
  entering : Option PmSt
  waking   : Bool
  retried  : Bool
  aborted  : Nat
  refused  : Nat
  last     : Nat
  dbgHold  : Bool
  timer    : Bool
deriving DecidableEq, Repr

/-- A domain after reset: ACTIVE (Table 23). -/
def PmDom.reset : PmDom :=
  { st := .active, entering := none, waking := false, retried := false, aborted := 0, refused := 0, last := 0, dbgHold := false, timer := false }

/-- An access that waits in the crossing of domain `dom` (R383), with the value that QE_SEL had when it was made (R36, R38, R70). -/
structure Parked where
  dom : Nat
  cmd : Instr
  sel : Word
deriving DecidableEq, Repr

/-- Power management. `inputs` are the pm_wake inputs that are high; `waits` are the accesses that wait in the crossing of
a domain, oldest first (R383), and `engines` the engines of the block whose accesses wait there, each with its domain (R24). -/
structure Pm where
  doms   : NMap PmDom
  /-- Banks whose records have been written to their save area for the entry in progress (R373). -/
  saved  : List Nat
  inputs : List Nat
  waits  : List Parked
  engines : List (Nat × Waiter)
  /-- Grants of the movers since the lowest class that waited had one (R32). -/
  turns   : Nat
deriving DecidableEq, Repr

/-! ### Replay recorder (R415 to R420) -/

/-- An event bound for the recorder (R417 Table 6), with the descriptor that a DESCRIPTOR record carries. -/
structure RpEvent where
  time   : Nat
  type   : Nat
  flags  : Nat
  source : Nat
  q2     : Word
  q3     : Word
  desc   : Option (Desc × Bool)
deriving DecidableEq, Repr

/-- What a replayed record has forced and what has not yet taken place (R419 Table 7). -/
inductive Forced where
  | start (q : Nat)
  | entered (r start ntok : Nat)
  | step (nseq ntokens : Nat)
  | seed (src : Nat) (isSample : Bool) (seed : Word) (token position : Nat)
  | move (page pool frame : Nat)
deriving DecidableEq, Repr

/-- The recorder. `fifo` is the REC event FIFO, `lost` the events dropped since the last GAP record, `writes` what of the ring has not gone
to its homes; `cursor` is the offset of the next record replayed, `since` when the wait for a forced decision began; `seen` are the events of
the replay that are compared, and `expect` the records they are compared with, each with its SEQ (R420); `last` is SEQ and TYPE of the record
forced last, `differed` that this replay has met a difference. -/
structure Rp where
  fifo      : List RpEvent
  lost      : Nat
  seq       : Nat
  recording : Bool
  replaying : Bool
  ending    : Nat
  full      : Bool
  wraps     : Nat
  head      : Nat
  cursor    : Nat
  since     : Option Nat
  forced    : List Forced
  seen      : List RpEvent
  expect    : List (RpEvent × Nat)
  writes    : List (Nat × List Byte)
  last      : Nat × Nat
  differed  : Bool
deriving DecidableEq, Repr

end Sys2Proof.Machine
end

