-- ==== Sys2Proof/Machine/UnitsD.lean ====
section
/-! DEFINITION. The state of Ibex (spec/04), of the Springboks and of the batcher (spec/05) beyond the structures they keep in
memory: plain data, each field with the rule that names it. -/

namespace Sys2Proof.Machine

/-- Ibex. Its request records, block tables, frame tables, page records and index lie in device memory (R115). `growth` is the
growth page of each RUNNING request (R119), `spare` the page set aside for the copy of a shared tail (R125), `admitted` the
order of the latest admissions (R127), `reclaiming` that FREE_T1 has fallen below LOW_WM and not reached HIGH_WM; `starting` that ENABLE is set
and lines of the tables are still held in caches, `fresh` that Ibex has not been in service since the last fundamental reset (R134). -/
structure Ib where
  active     : Bool
  cfgError   : Bool
  growth     : NMap Nat
  spare      : NMap Nat
  admitted   : NMap Nat
  nextAdmit  : Nat
  reclaiming : Bool
  starting   : Bool
  fresh      : Bool
deriving DecidableEq, Repr

/-- A token record that waits to be written (R153, R154): its bytes but for PHASE, and its END code. -/
structure TokRec where
  bytes  : List Byte
  ending : Nat
deriving DecidableEq, Repr

/-- An open request as the batcher holds it (R138, R140). `work` is its OPEN_REQUEST while that is attached to its queue (R316);
`init` is the history length at acceptance; `last` the sampled token not yet in the history (R159); `written` and `lastHead`
count records (R154); `bypassAt` is the step for which `bypass` rose last (R163); `stage` is the progress of the record being written;
`ending` the status with which it will close (R143, R164); `closing` the status and END of a request in CLOSING. -/
structure BReq where
  ctx       : Nat
  fn        : Nat
  q         : Nat
  work      : Option Nat
  desc      : Desc
  noSig     : Bool
  ring      : Word
  headAddr  : Word
  ringShift : Nat
  deadline  : Nat
  arrival   : Nat
  seq       : Nat
  maxNew    : Nat
  gen       : Nat
  hist      : Nat
  init      : Nat
  last      : Option Nat
  written   : Nat
  total     : Nat
  lastHead  : Nat
  phase     : Bool
  recs      : List TokRec
  lastEnd   : Nat
  stage     : Nat
  reading   : Bool
  pollDue   : Option Nat
  bypass    : Nat
  bypassAt  : Option Nat := none
  ending    : Option Nat
  closing   : Option Nat
  parked    : Bool
deriving DecidableEq, Repr

/-- An entry of the step in flight (R160 Table 7); `settled` once it needs nothing more of the step (R29). -/
structure StepEnt where
  r       : Nat
  prefill : Bool
  sample  : Bool
  ntok    : Nat
  start   : Nat
  row     : Nat
  settled : Bool
  seq     : Nat
deriving DecidableEq, Repr

/-- The step in flight (R159 to R161): its number, its entries, its descriptor; whether it has been rung, issued a second
time, and completed with SUCCESS; the next row to hand out, and rows to hand out again. -/
structure Step where
  num     : Nat
  ents    : List StepEnt
  desc    : Desc
  rung    : Bool
  retried : Bool
  done    : Bool
  rows    : List Nat
deriving DecidableEq, Repr

/-- What a Springbok holds: a row of the step, or a SAMPLE (R156, R161). -/
inductive RowJob where
  | serve (row : Nat)
  | sample (work : Nat)
deriving DecidableEq, Repr

/-- A Springbok: the rows in its two passes (R158). -/
structure SbUnit where
  first  : Option RowJob
  second : Option RowJob
deriving DecidableEq, Repr

/-- An idle Springbok. -/
def SbUnit.reset : SbUnit := { first := none, second := none }

/-- A CANCEL_REQUEST that waits for the completion of an OPEN_REQUEST (R143): its work, the request and its order of acceptance, and
the OPEN_REQUEST's work and queue. -/
structure Cancel where
  id   : Nat
  r    : Nat
  seq  : Nat
  work : Option Nat
  q    : Nat
deriving DecidableEq, Repr

/-- The batcher and the Springboks. `logits` is the device address of the logits buffer (R135); `samples` are the SAMPLE works that
wait for a Springbok, and `turn` the rows of steps handed out since the last of them (R157); `blockedAt` is the step last counted in
BT_STAT_BYPASS_BLOCK (R163). -/
structure Bt where
  serving : Bool
  ctx     : Nat
  logits  : Nat
  reqs    : NMap BReq
  nextSeq : Nat
  step    : Option Step
  cancels : List Cancel
  samples : List Nat
  turn    : Nat
  units   : NMap SbUnit
  fresh   : Bool
  blockedAt : Option Nat := none
deriving DecidableEq, Repr

end Sys2Proof.Machine
end

