-- ==== Sys2Proof/Machine/UnitsE.lean ====
section
/-! DEFINITION. The state of power-up, the configuration image and identity (spec/13): plain data, each field with the rule that
names it. -/

namespace Sys2Proof.Machine

/-- An EQ record of the image (R346): presets of a port at a rate, and its candidate pairs. -/
structure EqRec where
  port  : Nat
  rate  : Nat
  own   : Nat
  far   : Nat
  cands : List (Nat × Nat)
deriving DecidableEq, Repr

/-- The values that the image or the fallback gives to configuration space (R346 PCI_IDS, R351). -/
structure PciIds where
  vendor    : Nat
  device    : Nat
  subVendor : Nat
  subsystem : Nat
  revision  : Nat
  cls       : Nat
  vfDevice  : Nat
  vfCount   : Nat
deriving DecidableEq, Repr

/-- No identity yet: configuration requests are not answered before step 7 (R341). -/
def PciIds.reset : PciIds :=
  { vendor := 0, device := 0, subVendor := 0, subsystem := 0, revision := 0, cls := 0, vfDevice := 0, vfCount := 0 }

/-- A flash command in progress (R352). -/
structure FlashCmd where
  cmd  : Nat
  addr : Nat
  data : List Byte
deriving DecidableEq, Repr

/-- Power-up and the image. Steps of R340 that have ended: the PUF read, the arrays, the flash read, the application of the image, the
key. `flash` lists the flash's bytes that are not erased (0xFF); `mode` is FLASH_MODE, `erase64` that the SFDP lists a 64 KiB erase,
`copy` the selected copy, `lock` its LOCK flag; `eq`, `cdat`, `chain` and `helper` what it holds. -/
structure Boot where
  por      : Bool
  pufDone  : Bool
  arrays   : Bool
  readDone : Bool
  applied  : Bool
  keyDone  : Bool
  loaded   : Bool
  flash    : List Host.Cell
  mode     : Nat
  erase64  : Bool
  copy     : Nat
  lock     : Bool
  ids      : PciIds
  eq       : List EqRec
  cdat     : List (List Byte)
  chain    : List Byte
  helper   : List Byte
  cmd      : Option FlashCmd
  refused  : Bool
  failed   : Bool
deriving DecidableEq, Repr

/-- An SPDM session (R357): its number, and whether FINISH has been accepted. -/
structure Session where
  id   : Nat
  open_ : Bool
deriving DecidableEq, Repr

/-- An IDE key (R358): its stream, key set, direction and sub-stream, the key, and whether the stream uses it. -/
structure IdeKey where
  stream : Nat
  keySet : Bool
  tx     : Bool
  sub    : Nat
  key    : BitVec 256
  going  : Bool
deriving DecidableEq, Repr

/-- Identity. `keyState` is KEY_STATE by code; `puf` the PUF response while it is held; `d` the private key and `pub` the 96 bytes of X and
Y; `helper` the helper data that ENROL exposes; `draws` how often the DRBG has been drawn, `entropyBad` that a health test has failed
(R359); `stage` how far an SPDM negotiation has come; `erased` that a safe state has erased the keys (R398). -/
structure Ident where
  keyState  : Nat
  puf       : Option (List Byte)
  d         : Nat
  pub       : List Byte
  helper    : List Byte
  chainOk   : Bool
  entropyOk : Bool
  entropyBad : Bool
  draws     : Nat
  refused   : Bool
  stage     : Nat
  sessions  : List Session
  nextSession : Nat
  keys      : List IdeKey
  safe      : Bool
deriving DecidableEq, Repr

end Sys2Proof.Machine
end

