-- ==== Sys2Proof/Machine/State.lean ====
section
/-! DEFINITION. The state of the block, the reasons a step can stop, and the state after reset. -/

namespace Sys2Proof.Machine

/-- Reasons a step faults. No meaning of this model ends in one: every row of the table has an effect. -/
inductive Fault where
  /-- Raised by no command; kept so that the type has a value. Safe: a step that stopped here would prove nothing. -/
  | stuck
deriving DecidableEq, Repr

/-- Reasons a step is refused. -/
inductive Refusal where
  /-- Raised by exec for a command without a meaning in this model, with its mnemonic. Safe: the run stops. -/
  | notModelled (mnemonic : String)
deriving DecidableEq, Repr

/-- The state of the block. -/
structure State where
  /-- The commands that wait, first in, first out. -/
  pending  : List Instr
  /-- The timestamp, in ns (R19). -/
  now      : Nat
  /-- The time for which a backward PTM correction is still being absorbed, in ns: twice what is left of it (R314). -/
  slew     : Nat
  /-- The model's own counter of free values drawn; not the spec's. -/
  freeCtr  : Nat
  /-- BAR0 registers that differ from reset, by BAR0 offset (R444). -/
  regs     : NMap Word
  /-- Device memory, bytes that differ from 0 (log entry 3). -/
  mem      : List Host.Cell
  /-- Poisoned lines of device memory, by line number (R221). -/
  poison   : List Nat
  /-- Host memory as the block reaches it (log entry 4), its poisoned lines, and the ranges the host refuses or leaves
  unanswered, as start and end. -/
  hostMem  : List Host.Cell
  hostPoison : List Nat
  hostRefused : List (Nat × Nat)
  hostDead : List (Nat × Nat)
  /-- Messages sent, newest first (log entry 5). -/
  out      : List Msg
  /-- Fenced power domains, and those whose crossing has been released with error (R392, R397). -/
  fenced   : List Nat
  released : List Nat
  /-- Units to fence at the end of this command. -/
  fenceReq : List Nat
  /-- Strikes by domain: the window, the bit of ERR_STATUS and the time of the unit fault (R391). -/
  strikes  : NMap (Nat × Nat × Nat)
  /-- err_fatal (R394, R399). -/
  fatal    : Bool
  /-- Waiters to try again at the end of this command. -/
  wake     : List Waiter
  qe       : Qe
  ch       : Ch
  sf       : Sf
  dc       : Dc
  fp       : Fp
  up       : Up
  dn       : Dn
  pl       : Pl
  rb       : Rb
  gz       : Gz
  ck       : Ck
  pm       : Pm
  rp       : Rp
  ib       : Ib
  bt       : Bt
  boot     : Boot
  ident    : Ident
deriving DecidableEq, Repr

/-! ### After a fundamental reset -/

def Qe.reset : Qe :=
  { queues := [], fences := [], events := [], htab := [], handles := [], dbPages := [], works := [], nextWork := 0, waitSeq := 0,
    shadows := [], offers := [], dispatched := [], wrrCredit := [], wrrLast := [], qcmdBusy := none, qcmdRefused := false }

/-- Chamois after reset: R360 Table 7 has the quiet time run from there, where the register tables print 0 for QUIET (log entry 9). -/
def Ch.reset : Ch :=
  { segs := [], regions := [], cmdBusy := false, cmdRefused := false, drain := [], drainBy := 0, starting := false, copies := [], reqs := [],
    pri := [], groups := [], priWait := [],
    nextGroup := 0, verdicts := [], invals := [], stopped := false, active := false, sweepDue := 0, samples := 0, quiet := true,
    used := [], dirty := [], moves := [], nextMove := 0, hostReads := [], frameWait := [], pageWait := [], ios := [], nextIo := 0 }

def Sf.reset : Sf :=
  { entries := [], plru := [], waysOff := [], wayFlush := [], wayTimes := [], txns := [], got := [], put := [], posted := [], credits := [], held := [], far := [],
    pred := [], hostAsks := [], conflicts := [], backs := [], late := [], tables := [], turns := [], flushing := [] }

def Dc.reset : Dc :=
  { lines := [], plru := [], mode := [], pref := [], cmd := 0, cmdArg := 0, cmdAddr := 0, cmdLeft := 0, cmdKeys := [], refused := false,
    done := 0, denied := 0, tcOff := [], tcTimes := [] }

def Fp.reset : Fp :=
  { nt := [], rsv := [], reqs := [], dats := [], ucs := [], fences := [], ntLost := [], snpCrd := [], reqCrd := [], evCrd := [], datCrd := [], crdOwed := [],
    snpWait := [] }

def Up.reset : Up :=
  { cfgSpace := [], msix := [], intaLevel := false, hdm0 := Hdm.reset, hdm1 := Hdm.reset, attach := .fresh, token := 0, staged := 0,
    attRefused := false, fnRefused := false, quiescing := [], vfOn := 0, linkUp := false, speed := 0, width := 0, flit := false,
    cxl := false, slotPower := 0, lpm := 0, bar2Busy := false, bar2Drain := [], bar2From := 0, bar2Refused := false, trainedCfg := 0, hdmSize0 := 0, hdmSize1 := 0,
    abandoned := [], perst := false, reread := true, ltr := 0, hdrLog := [], doe := Doe.reset, comp := [] }

def Dn.reset : Dn := { ports := [], reqs := [], nextReq := 0, xaccBusy := false, xaccErr := false, eq := [] }

def Pl.reset : Pl :=
  { tx := [], rx := [], routes := [], unreach := [], windows := [], winBusy := false, winDrain := [], winBy := 0, winRefused := false, ports := [], failures := [] }

def Rb.reset : Rb :=
  { ctxs := [], busy := false, refused := false, reason := 0, cmd := 0, cmdCtx := 0, addr := 0, image := [], issued := false, drain := none, safe := false }

def Gz.reset : Gz :=
  { running := [], redo := [], results := [], rws := [], nextRw := 0, unitWait := [], holds := [], wrote := [], turns := [] }

/-- clk_m runs at M2 and clk_x at X3, with zero trim (R340 Table 1, R360 Table 7). -/
def Ck.reset : Ck :=
  { pll := .off, xLevel := 3, mLevel := 2, xMove := none, mMove := none, trims := [], vregs := [], stretched := [], relocks := 0 }

def Pm.reset : Pm := { doms := [], saved := [], inputs := [], waits := [], engines := [], turns := 0 }

def Rp.reset : Rp :=
  { fifo := [], lost := 0, seq := 0, recording := false, replaying := false, ending := 0, full := false, wraps := 0, head := 0, cursor := 0,
    since := none, forced := [], seen := [], expect := [], writes := [], last := (0, 0), differed := false }

def Ib.reset : Ib :=
  { active := false, cfgError := false, growth := [], spare := [], admitted := [], nextAdmit := 0, reclaiming := false,
    starting := false, fresh := true }

def Bt.reset : Bt :=
  { serving := false, ctx := 0, logits := 0, reqs := [], nextSeq := 0, step := none, cancels := [], samples := [], turn := 0, units := [], fresh := true }

def Boot.reset : Boot :=
  { por := true, pufDone := false, arrays := false, readDone := false, applied := false, keyDone := false, loaded := false, flash := [],
    mode := 0, erase64 := false, copy := 0, lock := false, ids := PciIds.reset, eq := [], cdat := [], chain := [], helper := [],
    cmd := none, refused := false, failed := false }

def Ident.reset : Ident :=
  { keyState := 0, puf := none, d := 0, pub := [], helper := [], chainOk := false, entropyOk := false, entropyBad := false, draws := 0, refused := false,
    stage := 0, sessions := [], nextSession := 1, keys := [], safe := false }

/-- The block right after a fundamental reset has begun by por_n (R340): every register at its reset value (R449), every structure
empty, no command waiting. -/
def State.reset : State :=
  { pending := [], now := 0, slew := 0, freeCtr := 0, regs := [], mem := [], poison := [], hostMem := [], hostPoison := [],
    hostRefused := [], hostDead := [], out := [], fenced := [], released := [], fenceReq := [], strikes := [], fatal := false, wake := [], qe := Qe.reset, ch := Ch.reset,
    sf := Sf.reset, dc := Dc.reset, fp := Fp.reset, up := Up.reset, dn := Dn.reset, pl := Pl.reset, rb := Rb.reset, gz := Gz.reset,
    ck := Ck.reset, pm := Pm.reset, rp := Rp.reset, ib := Ib.reset, bt := Bt.reset, boot := Boot.reset, ident := Ident.reset }

end Sys2Proof.Machine
end

