-- ==== Sys2Proof/Machine/Ops.lean ====
section
/-! DEFINITION. The named operations over registers, memory and messages that every unit shares: reading and writing a
register, device and host memory by bytes and lines, drawing a free value, sending an interrupt, and raising an error
source (R388 to R390). -/

namespace Sys2Proof.Machine

namespace State

/-- Sends a message. -/
def emit (m : Msg) (s : State) : State := { s with out := m :: s.out }

def modQe (f : Qe → Qe) (s : State) : State := { s with qe := f s.qe }
def modCh (f : Ch → Ch) (s : State) : State := { s with ch := f s.ch }
def modSf (f : Sf → Sf) (s : State) : State := { s with sf := f s.sf }
def modDc (f : Dc → Dc) (s : State) : State := { s with dc := f s.dc }
def modFp (f : Fp → Fp) (s : State) : State := { s with fp := f s.fp }
def modUp (f : Up → Up) (s : State) : State := { s with up := f s.up }
def modPl (f : Pl → Pl) (s : State) : State := { s with pl := f s.pl }
def modRb (f : Rb → Rb) (s : State) : State := { s with rb := f s.rb }
def modGz (f : Gz → Gz) (s : State) : State := { s with gz := f s.gz }
def modCk (f : Ck → Ck) (s : State) : State := { s with ck := f s.ck }
def modPm (f : Pm → Pm) (s : State) : State := { s with pm := f s.pm }
def modRp (f : Rp → Rp) (s : State) : State := { s with rp := f s.rp }
def modIb (f : Ib → Ib) (s : State) : State := { s with ib := f s.ib }
def modBt (f : Bt → Bt) (s : State) : State := { s with bt := f s.bt }
def modBoot (f : Boot → Boot) (s : State) : State := { s with boot := f s.boot }
def modIdent (f : Ident → Ident) (s : State) : State := { s with ident := f s.ident }
def modDn (f : Dn → Dn) (s : State) : State := { s with dn := f s.dn }

/-- Asks for a waiter to be tried again at the end of this command. -/
def wakeUp (w : Waiter) (s : State) : State := { s with wake := addNew w s.wake }

/-- Asks for a unit's domain to be fenced at the end of this command (R388, R391). -/
def askFence (d : Nat) (s : State) : State := { s with fenceReq := addNew d s.fenceReq }

/-- A free value, and the state with one more drawn. -/
def fresh (s : State) : Word × State := (Config.freeWord s.freeCtr, { s with freeCtr := s.freeCtr + 1 })

/-- A free line, and the state with one more drawn. -/
def freshLine (s : State) : Line × State := (Config.freeLine s.freeCtr, { s with freeCtr := s.freeCtr + 1 })

end State

/-! ### Registers -/

/-- The two bits of ERR_SEVERITY for each source that window index `i` implements (R77). -/
def severityMask (i : Nat) : Word :=
  w64 ((List.range 32).foldl (fun m k => if bit (errMask i) k then m + 3 * 4 ^ k else m) 0)

/-- The common error registers of window index `i` (R445 Table 2, R77, R388 to R390, R402): offset `o` in the window. -/
def errInfo? (i o : Nat) : Option RegInfo :=
  let row (rw w1c : Word) : Option RegInfo := some { off := Reg.win i + o, count := 1, reset := 0, rw := rw, rwl := 0, w1c := w1c, w1s := 0, rc := 0 }
  if o = 0x00 then row 0 (errMask i)
  else if o = 0x08 then row (severityMask i) 0
  else if o = 0x20 then row 0 (fld 1 63)
  else if o = 0x30 then row (fld 1 63 ||| fld 1 61 ||| fieldMask 53 48 ||| fieldMask 13 0) 0
  else if o = 0x10 ∨ o = 0x18 ∨ o = 0x28 then row 0 0
  else none

/-- The row of the register index that holds BAR0 offset `off` (R444, R445). -/
def regInfo? (off : Nat) : Option RegInfo :=
  if off % 0x100000 < 0x38 then (if off / 0x100000 < 18 then errInfo? (off / 0x100000) (off % 0x100000) else none)
  else (regRows (off / 0x100000)).find? fun r => decide (r.off ≤ off) && decide (off < r.off + 8 * r.count)

/-- The value of the register at `off` after a fundamental reset (R449). -/
def regReset (off : Nat) : Word :=
  if off % 0x100000 = 0x08 then severityReset (off / 0x100000)
  else ((regInfo? off).map (·.reset)).getD 0

namespace State

/-- The stored value of the register at BAR0 offset `off`. -/
def reg (s : State) (off : Nat) : Word := Map.getD (regReset off) off s.regs

/-- Stores a register. -/
def setReg (off : Nat) (v : Word) (s : State) : State := { s with regs := Map.put (regReset off) off v s.regs }

/-- A field of a register. -/
def regBits (s : State) (off hi lo : Nat) : Nat := bits (s.reg off) hi lo

/-- A bit of a register. -/
def regBit (s : State) (off i : Nat) : Bool := bit (s.reg off) i

/-- The block is in the whole-block safe state (R399). -/
def wholeSafe (s : State) : Bool := s.regBit Reg.PM_SAFE_STATE 63

/-- Sets a field of a register. -/
def setRegBits (off hi lo v : Nat) (s : State) : State := s.setReg off (setBits (s.reg off) hi lo v)

/-- Stores the same value in `n` registers from `off` on. -/
def setRange (off n : Nat) (v : Word) (s : State) : State := (List.range n).foldl (fun s k => s.setReg (off + 8 * k) v) s

/-- Adds to a statistics counter, which wraps at 2^64. -/
def bumpBy (n off : Nat) (s : State) : State := s.setReg off (s.reg off + w64 n)

/-- Adds 1 to a statistics counter. -/
def bump (off : Nat) (s : State) : State := s.bumpBy 1 off

end State

/-! ### Memory -/

namespace Mem

/-- The byte at `a`; a byte nothing has written reads 0 (log entry 3). -/
def byte (m : List Host.Cell) (a : Nat) : Byte := Map.getD 0 a m

/-- Memory with [a, a + n) reading 0. -/
def clear (a n : Nat) (m : List Host.Cell) : List Host.Cell := m.filter fun e => decide (e.1 < a) || decide (a + n ≤ e.1)

/-- Memory in which every listed byte has become what `f` gives for its address. -/
def scramble (f : Nat → Byte) (m : List Host.Cell) : List Host.Cell := (Map.mapVals (fun a _ => f a) m).filter fun e => !decide (e.2 = 0)

/-- Memory with what `f` gives for its address at each byte of [a, a + n). -/
def fill (f : Nat → Byte) (a n : Nat) (m : List Host.Cell) : List Host.Cell :=
  (m.filter fun e => decide (e.1 < a)) ++ (((List.range n).map fun i => (a + i, f (a + i))).filter fun e => !decide (e.2 = 0)) ++
  m.filter fun e => decide (a + n ≤ e.1)

/-- Memory with `v` at `a`, in canonical form. -/
def setByte (a : Nat) (v : Byte) (m : List Host.Cell) : List Host.Cell := Map.put 0 a v m

/-- The `n` bytes from `a`. -/
def read (m : List Host.Cell) (a n : Nat) : List Byte := (List.range n).map fun i => byte m (a + i)

/-- Memory with the bytes `bs` from `a`. -/
def write (a : Nat) : List Byte → List Host.Cell → List Host.Cell
  | [], m => m
  | b :: bs, m => write (a + 1) bs (setByte a b m)

/-- Memory with the bytes of `data` under `mask` at line `line`, byte i of the mask covering byte i of the line. -/
def writeMasked (line : Nat) (mask : BitVec 64) (data : Line) (m : List Host.Cell) : List Host.Cell :=
  (List.range 64).foldl (fun m i => if mask.toNat.testBit i then
    setByte (64 * line + i) (BitVec.ofNat 8 (data.toNat >>> (8 * i))) m else m) m

/-- The line as one number (R8). -/
def line (m : List Host.Cell) (l : Nat) : Line := lineOf (read m (64 * l) 64)

/-- Canonical form: addresses rise strictly, and no entry equals what an unlisted address reads as. -/
def wf (m : List Host.Cell) : Bool := Map.canon 0 m

end Mem

/-- The mask of bytes [off, off + n) of a line. -/
def byteMask (off n : Nat) : BitVec 64 := BitVec.ofNat 64 ((2 ^ n - 1) <<< off)

/-- A line with `new` under `mask` over `old`. -/
def mergeLine (mask : BitVec 64) (new old : Line) : Line :=
  lineOf ((List.range 64).map fun i =>
    if mask.toNat.testBit i then BitVec.ofNat 8 (new.toNat >>> (8 * i)) else BitVec.ofNat 8 (old.toNat >>> (8 * i)))

namespace State

/-- A line of device memory. -/
def memLine (s : State) (l : Nat) : Line := Mem.line s.mem l

/-- Whether a line of device memory is poisoned (R221). -/
def poisoned (s : State) (l : Nat) : Bool := decide (l ∈ s.poison)

/-- Writes bytes of a line under a mask. A full-line write clears poison; poisoned data poisons the line (R221, R387). -/
def writeLine (l : Nat) (mask : BitVec 64) (data : Line) (poison : Bool) (s : State) : State :=
  let s := { s with mem := Mem.writeMasked l mask data s.mem }
  if poison then { s with poison := addNew l s.poison }
  else if mask = BitVec.allOnes 64 then { s with poison := s.poison.filter (· ≠ l) }
  else s

/-- Writes bytes of device memory that lie in one line. -/
def writeBytes (a : Nat) (bs : List Byte) (s : State) : State := { s with mem := Mem.write a bs s.mem }

/-- Reads bytes of device memory. -/
def readBytes (s : State) (a n : Nat) : List Byte := Mem.read s.mem a n

/-- Reads a little-endian number of `n` bytes of device memory. -/
def readNat (s : State) (a n : Nat) : Nat := leNat (s.readBytes a n)

/-! ### Configuration space and interrupts -/

/-- The stored dword of a function's configuration space: its writable bits (R298 to R301). -/
def cfgDw (s : State) (fn off : Nat) : BitVec 32 := Map.getD 0 (fn * 1024 + off / 4) s.up.cfgSpace

def setCfgDw (fn off : Nat) (v : BitVec 32) (s : State) : State :=
  s.modUp fun u => { u with cfgSpace := Map.put 0 (fn * 1024 + off / 4) v u.cfgSpace }

/-- The AER status register (true: uncorrectable) and bit of an event (R311 Table 6; bit places PRESUMED PCIe, log entry 15). -/
def aerBit : Aer → Bool × Nat
  | .receiver => (false, 0)
  | .badTlp => (false, 6)
  | .badDllp => (false, 7)
  | .replayRollover => (false, 8)
  | .replayTimeout => (false, 12)
  | .corrInternal => (false, 14)
  | .dlProtocol => (true, 4)
  | .poisoned => (true, 12)
  | .flowControl => (true, 13)
  | .completionTimeout => (true, 14)
  | .unexpected => (true, 16)
  | .malformed => (true, 18)
  | .unsupported => (true, 20)
  | .uncorrInternal => (true, 22)
  | .ide => (true, 28)
  | .ideMisrouted => (true, 29)

/-- Events of a received TLP, whose header is logged. -/
def aerHasHeader : Aer → Bool
  | .poisoned | .unexpected | .malformed | .unsupported | .ide | .ideMisrouted => true
  | _ => false

/-- The AER masks, and the severities of uncorrectable errors, as the host has set them in the PF (R311). -/
def aerMask (s : State) (uncorr : Bool) : BitVec 32 := if uncorr then 0x00400000 ^^^ s.cfgDw 0 0x108 else 0xE000 ^^^ s.cfgDw 0 0x114
def aerSeverity (s : State) : BitVec 32 := 0x00462030 ^^^ s.cfgDw 0 0x10C

/-- The first unmasked uncorrectable error takes the First Error Pointer, and the header log, whose contents are a free value (R311; log entry 15). -/
def aerFirst (fn : Nat) (e : Aer) (s : State) : State :=
  let s := s.setCfgDw fn 0x118 ((s.cfgDw fn 0x118 &&& ~~~ 0x1F) ||| BitVec.ofNat 32 (aerBit e).2)
  if !aerHasHeader e then s
  else
    let a := s.fresh
    let b := a.2.fresh
    b.2.modUp fun u => { u with hdrLog := Map.insert fn (a.1, b.1) u.hdrLog }

/-- An error message goes out where Device Control, or for an uncorrectable error SERR# Enable, lets it. -/
def aerMessage (fn level : Nat) (s : State) : State :=
  if (s.cfgDw fn 0x58).getLsbD level || (decide (level ≠ 0) && (s.cfgDw fn 0x04).getLsbD 8) then s.emit (.errMessage fn level) else s

/-- Logs an AER event in a function (R311): its status bit is set, and the bits of Device Status. Unless it is masked, it is logged as the first error
where no other stands, and its message goes out. -/
def aer (fn : Nat) (e : Aer) (s : State) : State :=
  let b := aerBit e
  let off := if b.1 then 0x104 else 0x110
  let bit : BitVec 32 := BitVec.ofNat 32 (2 ^ b.2)
  let level := if !b.1 then 0 else if s.aerSeverity.getLsbD b.2 then 2 else 1
  let mask := s.aerMask b.1
  let old := s.cfgDw fn off
  let s := (s.setCfgDw fn off (old ||| bit)).emit (.aer fn e)
  let s := s.setCfgDw fn 0x58 (s.cfgDw fn 0x58 ||| BitVec.ofNat 32 (2 ^ (16 + level) + (if e = .unsupported then 2 ^ 19 else 0)))
  if mask &&& bit ≠ 0 then s
  else (if b.1 ∧ old &&& ~~~ mask = 0 then s.aerFirst fn e else s).aerMessage fn level

/-- Memory Space Enable; a VF's is VF MSE of the PF's SR-IOV capability (R310). -/
def mse (s : State) (fn : Nat) : Bool :=
  if fn = 0 then (s.cfgDw 0 0x04).getLsbD 1 else (s.cfgDw 0 (0x340 + 8)).getLsbD 3

/-- Bus Master Enable (R315). -/
def bme (s : State) (fn : Nat) : Bool := (s.cfgDw fn 0x04).getLsbD 2

/-- How many vectors a function has (R307, R308). -/
def vectorCount (s : State) (fn : Nat) : Nat :=
  if fn = 0 then max 1 (min 2048 (bits s.up.trainedCfg 16 5)) else max 1 (min 64 (bits s.up.trainedCfg 25 19))

/-- INTA follows UP_INTX_CAUSE and Interrupt Disable (R309). -/
def updateInta (s : State) : State :=
  let lvl := (List.range 32).any (fun k => !decide (s.reg (Reg.UP_INTX_CAUSE + 8 * k) = 0)) && !(s.cfgDw 0 0x04).getLsbD 10
  if lvl = s.up.intaLevel then s else (s.modUp fun u => { u with intaLevel := lvl }).emit (.inta lvl)

/-- Sends a vector that lies within its function's count (R308, R309): by MSI-X, else for the PF by MSI, else by INTx. A
masked vector is held pending. A function without Bus Master Enable sends no message (PRESUMED PCIe, log entry 15). -/
def sendVector0 (fn vec : Nat) (s : State) : State :=
  let msixCtl := s.cfgDw fn 0xB0
  if msixCtl.getLsbD 31 then
    let key := fn * 2048 + vec
    let v := Map.getD MsixVec.reset key s.up.msix
    if !s.bme fn then s
    else if v.masked || msixCtl.getLsbD 30 then
      s.modUp fun u => { u with msix := Map.put MsixVec.reset key { v with pending := true } u.msix }
    else s.emit (.msix fn vec)
  else if fn ≠ 0 then s
  else
    let msiCtl := s.cfgDw 0 0x90
    if msiCtl.getLsbD 16 then
      let k := 2 ^ min 5 ((msiCtl.toNat >>> 20) % 8)
      let m := vec % k
      if !s.bme 0 then s
      else if (s.cfgDw 0 0xA0).getLsbD m then s.setCfgDw 0 0xA4 (s.cfgDw 0 0xA4 ||| BitVec.ofNat 32 (2 ^ m))
      else s.emit (.msi m)
    else
      let off := Reg.UP_INTX_CAUSE + 8 * (vec / 64 % 32)
      (s.setReg off (s.reg off ||| w64 (2 ^ (vec % 64)))).updateInta

end State

/-! ### Error sources -/

/-- What an error captures (R390, R403 Tables 7 to 9). -/
structure Capture where
  addr   : Word
  space  : Nat
  access : Nat
  cls    : Nat
  index  : Nat
  ctx    : Option Nat
  symbol : Nat
deriving DecidableEq, Repr

/-- A capture that names nothing but the source: an internal check (R403 Table 8, class 12). -/
def Capture.none : Capture := { addr := 0, space := 0, access := 6, cls := 12, index := 0, ctx := Option.none, symbol := 0xFF }

/-- A capture of a context address used for a context by a queue's descriptor (R174). -/
def Capture.ctxAddr (a : Word) (write : Bool) (queue ctx : Nat) : Capture :=
  { addr := a, space := 2, access := b2n write, cls := 2, index := queue, ctx := some ctx, symbol := 0xFF }

/-- A capture of a device address by a chip agent. -/
def Capture.agent (a : Nat) (access agent : Nat) : Capture :=
  { addr := w64 a, space := 1, access := access, cls := 1, index := agent, ctx := Option.none, symbol := 0xFF }

namespace State

/-- The severity of source `i` of window `b` (R77). -/
def severity (s : State) (b i : Nat) : Nat := s.regBits (Reg.errSeverity b) (2 * i + 1) (2 * i)

/-- Fills the capture set, or counts the error in it (R390). -/
def capture (b i sev : Nat) (c : Capture) (s : State) : State :=
  let ty := s.reg (Reg.errType b)
  let fresh := (fld 1 63) ||| fld sev 56 ||| fld i 48 ||| fld c.space 40 ||| fld c.access 32 ||| fld c.symbol 16
  let master := (match c.ctx with | some x => fld 1 44 ||| fld x 32 | Option.none => 0) ||| fld c.cls 16 ||| fld (c.index % 65536) 0
  let fill (t : Word) (s : State) : State :=
    (((s.setReg (Reg.errAddr b) c.addr).setReg (Reg.errMaster b) master).setReg (Reg.errType b) t).setReg (Reg.errTime b) (w64 s.now)
  if !bit ty 63 then fill fresh s
  else
    let n := min 0xFFFF (bits ty 15 0 + 1)
    if bits ty 57 56 < sev then fill (setBits (setBit fresh 62 true) 15 0 n) s
    else s.setReg (Reg.errType b) (setBits ty 15 0 n)

/-- Sets a bit of TYPE if the set of window `b` still holds the capture of source `i` at time `t` (R391). -/
def markCapture (b i t k : Nat) (s : State) : State :=
  let ty := s.reg (Reg.errType b)
  if bit ty 63 && decide (bits ty 53 48 = i) && decide ((s.reg (Reg.errTime b)).toNat = t % 2 ^ 64) then s.setReg (Reg.errType b) (setBit ty k true) else s

/-- An operation of a unit has completed without a unit fault: its strike clears, and the fault was transient (R391). -/
def opClean (d : Nat) (s : State) : State :=
  match Map.find? d s.strikes with
  | some (b, i, t) => { s with strikes := Map.erase d s.strikes }.markCapture b i t 61
  | none => s

/-- Sets a status bit, captures, pulses err_irq when the bit rises at severity 1 to 3, and logs AER (R388 to R390). The
answer says whether ERR_VECTOR is to be sent. -/
def setErr (b i : Nat) (c : Capture) (s : State) : State × Bool :=
  let sev := s.severity b i
  let old := s.regBit (Reg.errStatus b) i
  let s := s.setReg (Reg.errStatus b) (setBit (s.reg (Reg.errStatus b)) i true)
  let s := s.capture b i sev c
  let s := if sev = 0 then s.aer 0 .corrInternal else if sev = 3 then s.aer 0 .uncorrInternal else s
  let fire := !old && decide (1 ≤ sev)
  (if fire then s.emit (.errIrq b) else s, fire)

/-- Sends ERR_VECTOR (R309, R389). A vector beyond the PF's count is dropped and sets VECTOR_RANGE (R308), whose own
interrupt is the same vector and is dropped with it. -/
def sendErrVector (s : State) : State :=
  let v := s.regBits Reg.UP_CTRL 52 42
  if v < s.vectorCount 0 then s.sendVector0 0 v else (s.setErr Reg.UP Err.UP_VECTOR_RANGE Capture.none).1

/-- Raises source `i` of window `b`, but for the recorder's FAULT event (R388, R389). -/
def raiseQuiet (b i : Nat) (c : Capture) (s : State) : State :=
  let r := s.setErr b i c
  if r.2 then r.1.sendErrVector else r.1

/-- An event of Table 6 of spec/16. While recording, it enters the REC event FIFO, or is dropped when its 32 entries are full
(R381, R418); while replaying, what R420 compares is kept. -/
def rpEvent (type flags source : Nat) (q2 q3 : Word) (desc : Option (Desc × Bool)) (s : State) : State :=
  let e : RpEvent := { time := s.now, type := type, flags := flags, source := source, q2 := q2, q3 := q3, desc := desc }
  if s.rp.replaying then
    (if type = 0x04 ∨ type = 0x0B ∨ type = 0x0E then s.modRp fun r => { r with seen := r.seen ++ [e] } else s)
  else if !s.rp.recording || decide (94 ∈ s.fenced) then s
  else if s.rp.fifo.length < 32 then s.modRp fun r => { r with fifo := r.fifo ++ [e] }
  else
    ((((s.modRp fun r => { r with lost := r.lost + 1 }).setRegBits Reg.CK_XING_OVERRUN 2 2 1).raiseQuiet Reg.CK Err.CK_XING_OVERRUN
      Capture.none).raiseQuiet Reg.RP Err.RP_DROPPED Capture.none).bump Reg.RP_STAT_DROPPED

/-- Raises source `i` of window `b` (R388, R389), with the recorder's FAULT event (R417). LASTING is known at once for a source at
severity 3 only. -/
def raise (b i : Nat) (c : Capture) (s : State) : State :=
  let sev := s.severity b i
  (s.raiseQuiet b i c).rpEvent 0x0E 0 b (w64 i ||| fld sev 6 ||| fld (b2n (decide (sev = 3))) 8) c.addr none

/-- Raises a source that lies in the unit of domain `d`: at severity 3 the unit is fenced (R388, R392). -/
def raiseUnit (b i d : Nat) (c : Capture) (s : State) : State :=
  let sev := s.severity b i
  let s := s.raise b i c
  if sev = 3 then s.askFence d else s

/-- Sends a function's vector, or drops it and sets VECTOR_RANGE (R308). -/
def sendVector (fn vec : Nat) (s : State) : State :=
  if vec < s.vectorCount fn then s.sendVector0 fn vec else s.raise Reg.UP Err.UP_VECTOR_RANGE Capture.none

/-- An unsupported request (R310): UR, or a posted request discarded and logged. -/
def unsupported (posted : Bool) (s : State) : State :=
  ((s.emit (.ur posted)).aer 0 .unsupported).raise Reg.UP Err.UP_UR_RECEIVED Capture.none

end State

/-! ### Status codes (R48 Table 5) -/

namespace St
def SUCCESS : Nat := 0x00
def UNSUPPORTED_OP : Nat := 0x01
def FORMAT_ERROR : Nat := 0x02
def STALE_DESCRIPTOR : Nat := 0x03
def HANDLE_INVALID : Nat := 0x04
def HANDLE_BOUNDS : Nat := 0x05
def HANDLE_PERM : Nat := 0x06
def COUNTER_ACCESS : Nat := 0x07
def DEPENDENCY_ERROR : Nat := 0x08
def FENCE_CYCLE : Nat := 0x09
def FENCE_TIMEOUT : Nat := 0x0A
def PATCH_ERROR : Nat := 0x0B
def TRANSLATION_FAULT : Nat := 0x0C
def PAGE_FAULT : Nat := 0x0D
def DATA_ERROR : Nat := 0x0E
def DEVICE_ERROR : Nat := 0x0F
def DEADLINE_EXCEEDED : Nat := 0x10
def CANCELLED : Nat := 0x11
def ABORTED : Nat := 0x12
def PLACE_FULL : Nat := 0x60
def PIN_LIMIT : Nat := 0x61
def CH_ALIGN : Nat := 0x62
def ADVISE_TARGET : Nat := 0x63
end St

end Sys2Proof.Machine
end

