-- ==== Sys2Proof/Machine/Clock.lean ====
section
/-! DEFINITION. What the block does on an empty queue: the timestamp goes on (R19, log entry 1). -/

namespace Sys2Proof.Machine

/-- One nanosecond passes. While a backward correction of the timestamp is being absorbed, the counter advances 1 ns for every 2 ns
(R314): `slew` is the time that takes, in ns. -/
def State.nanosecond (s : State) : State :=
  if s.slew = 0 then { s with now := s.now + 1 }
  else if s.slew % 2 = 0 then { s with slew := s.slew - 1 }
  else { s with slew := s.slew - 1, now := s.now + 1 }

/-- One cycle of the clock that the timestamp counts: 1 ns, or the 40 ns of a refclk/4 cycle while the PLL is off (R19, R363). -/
def State.tick (s : State) : State :=
  if s.ck.pll = .locked then s.nanosecond else (List.range 40).foldl (fun s _ => s.nanosecond) s

end Sys2Proof.Machine
end

