-- ==== Sys2Proof/Machine/Tiers.lean ====
section
/-! DEFINITION. The device address map (R168 to R171), the slice hash and the homes (R22, R229, R230), the tiers and the
placement map (R183 to R186): where the bytes of a device address lie. -/

namespace Sys2Proof.Machine

/-! ### Domains (Table 4 of spec/14) -/

namespace Dom
def dcData (n : Nat) : Nat := n
def dcTag (n : Nat) : Nat := 16 + n
def sf (n : Nat) : Nat := 32 + n
def gazelle (n : Nat) : Nat := 48 + n
def springbok (n : Nat) : Nat := 56 + n
def dnCtl (p : Nat) : Nat := 60 + p
def dnPhy (p : Nat) : Nat := 68 + p
def upCtl : Nat := 76
def upPhy : Nat := 77
def bank (b : Nat) : Nat := 78 + b
def plLogic (p : Nat) : Nat := 82 + p
def plIf (p : Nat) : Nat := 86 + p
def ibex : Nat := 90
def chamois : Nat := 91
def mover (m : Nat) : Nat := 92 + m
def recorder : Nat := 94
def alwaysOn : Nat := 95
end Dom

/-- A host-memory line, named by its host-window address (R170). -/
def isHostLine (line : Nat) : Bool := decide (2 ^ 41 ≤ line)

/-- The domains of the slices that serve a line: the home of device memory, the tag and data slice of host memory. -/
def homeDoms (slice line : Nat) : List Nat := if isHostLine line then [Dom.dcTag slice, Dom.dcData slice] else [Dom.sf slice]

namespace State

/-- A power domain is fenced (R392). -/
def isFenced (s : State) (d : Nat) : Bool := decide (d ∈ s.fenced)

def dom (s : State) (d : Nat) : PmDom := Map.getD PmDom.reset d s.pm.doms
def setDom (d : Nat) (v : PmDom) (s : State) : State := s.modPm fun p => { p with doms := Map.put PmDom.reset d v p.doms }
def updDom (d : Nat) (f : PmDom → PmDom) (s : State) : State := s.setDom d (f (s.dom d))

/-- The domain takes accesses: ACTIVE, no entry or wake in progress, not fenced (R372, R392). -/
def domReady (s : State) (d : Nat) : Bool :=
  decide ((s.dom d).st = .active) && (s.dom d).entering.isNone && !(s.dom d).waking && !s.isFenced d

/-- The slices of a line take accesses (R268, R383). What is left of a fenced slice is read out by its home's move (R395). -/
def homeReady (s : State) (slice line : Nat) : Bool := (homeDoms slice line).all fun d => s.domReady d || s.isFenced d

/-- An access waits in the crossing of domain `d` (R383): a command's, an engine's, or one bound for a home. -/
def crossingHeld (s : State) (d : Nat) : Bool :=
  (s.pm.waits.any fun w => decide (w.dom = d)) || (s.pm.engines.any fun w => decide (w.1 = d)) ||
    (s.sf.held.any fun h => decide (d ∈ homeDoms h.slice h.line) && !s.homeReady h.slice h.line)

/-- An access of the block's own engines to a unit (R375, R383): it aborts an entry in progress, and a sleeping unit is awake for it at
once (log entry 33); what waits in the crossing keeps its wake. A fenced domain does not wake (R397). -/
def touch (d : Nat) (s : State) : State :=
  let x := s.dom d
  if s.isFenced d ∨ (x.st = .active ∧ x.entering = none) then s
  else
    s.setDom d { x with st := .active, entering := none, waking := x.waking || (s.crossingHeld d && decide (x.st ≠ .active)),
                        aborted := if x.entering.isSome then min 0xFFFF (x.aborted + 1) else x.aborted }

/-- A mover is left (R393). -/
def moverUp (s : State) : Bool := !(s.isFenced (Dom.mover 0) && s.isFenced (Dom.mover 1))

end State

/-! ### The slice hash and the homes -/

/-- The slice hash of a line number la = PA[47:6]: the XOR of its nibbles (R229). -/
def sliceHash (la : Nat) : Nat :=
  (List.range 11).foldl (fun h i => h ^^^ ((la >>> (4 * i)) % 16)) 0

/-- The slice that takes a line when `up` says which slices are usable (R230, R395): h, or h XOR x for the first x from
(la mod 15) + 1, going round 1 to 15, whose slice is usable. -/
def redirect (up : Nat → Bool) (la : Nat) : Nat :=
  let h := sliceHash la
  if up h then h
  else
    let g := la % 15
    match (List.range 15).find? fun i => up (h ^^^ ((g + i) % 15 + 1)) with
    | some i => h ^^^ ((g + i) % 15 + 1)
    | none => h

/-- The set of a device-memory line (R205). -/
def sfSet (la : Nat) : Nat := (la % 2 ^ 15) ^^^ ((la >>> 15) % 2 ^ 15) ^^^ ((la >>> 30) % 2 ^ 8)

/-- The tag of a device-memory line (R205 Table 3). -/
def sfTag (la : Nat) : Nat := (la >>> 15) % 2 ^ 23

/-- A slice's snoop filter holds an entry for the line. -/
def sfHolds (s : State) (slice la : Nat) : Bool :=
  (List.range 16).any fun w => match Map.find? ((slice * 32768 + sfSet la) * 16 + w) s.sf.entries with
    | some e => decide (e.tag = sfTag la)
    | none => false

/-- The home slice of a device-memory line (R22, R395): a fenced one as long as it holds the line's entry, which its move removes. -/
def homeSlice (s : State) (la : Nat) : Nat :=
  match (List.range 16).find? fun n => s.isFenced (Dom.sf n) && sfHolds s n la with
  | some n => n
  | none => redirect (fun n => !s.isFenced (Dom.sf n)) la

/-- The data or the tags of a device-cache slice are fenced. -/
def dcFenced (s : State) (n : Nat) : Bool := s.isFenced (Dom.dcData n) || s.isFenced (Dom.dcTag n)

/-- Entry 0 of an entry's unit of allocation (R231): its sector's in SECTORED mode, itself in HASHED mode. -/
def dcHeadKey (s : State) (key : Nat) : Nat :=
  if Map.getD 0 (key / 65536) s.dc.mode = 1 then (key / 64) * 64 + key % 16 else key

/-- The tag of a line, as its entry or its sector's entry 0 holds it (R231 Table 1). -/
def dcTagOf (mode la : Nat) : Nat := if mode = 1 then la >>> 16 else la >>> 12

/-- The line that an entry of the tag array names (R231): the set index and the tag together, in SECTORED mode with SHASH and the sub-block. -/
def dcLineAt (s : State) (key : Nat) : Nat :=
  let head := (Map.find? (dcHeadKey s key) s.dc.lines).map fun e => (e.tag, e.shash)
  let h := head.getD (0, 0)
  let set := key / 16 % 4096
  if Map.getD 0 (key / 65536) s.dc.mode = 1 then
    let base := h.1 * 2 ^ 16 + (set / 4) * 64 + (set % 4) * 16
    base + (sliceHash base ^^^ h.2)
  else
    let t := h.1 * 4096
    let x := set ^^^ ((t >>> 6) % 4096) ^^^ ((t >>> 18) % 4096) ^^^ ((t >>> 30) % 4096)
    t + x / 64 * 64 + (x % 64 ^^^ x / 64)

/-- The device-cache slice of a host-memory line (R229, R230): a fenced one as long as it holds the line, which its fence evicts. -/
def dcSlice (s : State) (la : Nat) : Nat :=
  match s.dc.lines.find? fun e => decide (e.2.hstate ≠ 0) && dcFenced s (e.1 / 65536) && decide (dcLineAt s e.1 = la) with
  | some e => e.1 / 16 / 4096
  | none => redirect (fun n => !dcFenced s n) la

/-- The port through which agent n is reached: its own, or its redirection port (R395, R430). -/
def agentPort (s : State) (n : Nat) : Nat :=
  if !s.isFenced (Dom.sf n) then n
  else match (List.range 15).find? fun i => !s.isFenced (Dom.sf (n ^^^ (i + 1))) with
    | some i => n ^^^ (i + 1)
    | none => n

/-! ### The device address map -/

/-- The regions of the device address map (R168 Table 1). -/
inductive Region where
  | tier1
  | doorbell
  | tier2 (port : Nat)
  | placed
  | corePeer
  | host
  | reserved
deriving DecidableEq, Repr

def tier1Size : Nat := 0x6000000000
def tier2Base (p : Nat) : Nat := 0x10000000000 + p * 0x8000000000
def tier2Span : Nat := 0x8000000000
def placedBase : Nat := 0x80000000000
def placedEnd : Nat := 0xC0000000000
def pageBytes : Nat := 0x200000

/-- The region of a device address (R168 Table 1). -/
def regionOf (da : Nat) : Region :=
  if da < tier1Size then .tier1
  else if 0xF000000000 ≤ da ∧ da < 0xF000400000 then .doorbell
  else if 0x10000000000 ≤ da ∧ da < 0x50000000000 then .tier2 ((da - 0x10000000000) / tier2Span)
  else if placedBase ≤ da ∧ da < placedEnd then .placed
  else if 0x400000000000 ≤ da ∧ da < 0x800000000000 then .corePeer
  else if 0x800000000000 ≤ da ∧ da < 0x1000000000000 then .host
  else .reserved

namespace State

def dnPort (s : State) (p : Nat) : DnPort := Map.getD DnPort.reset p s.dn.ports
def setDnPort (p : Nat) (v : DnPort) (s : State) : State := s.modDn fun d => { d with ports := Map.put DnPort.reset p v d.ports }

/-- The port reaches its expander (R325, R334): UP, or EVACUATING until POWER_OFF. -/
def portUp (s : State) (p : Nat) : Bool :=
  decide ((s.dnPort p).st = .up) || (decide ((s.dnPort p).st = .evacuating) && !((s.dnPort p).evacDone && (s.dnPort p).offAfter))

/-- A device address lies in a hole of tier 2 (R169). -/
def tier2Hole (s : State) (da : Nat) : Bool :=
  match regionOf da with
  | .tier2 p => !s.portUp p || decide ((s.dnPort p).capacity ≤ da - tier2Base p)
  | _ => false

/-! ### Placed memory -/

/-- The address of the map entry of a placed page (R184). -/
def mapAddr (s : State) (page : Nat) : Nat := (s.reg Reg.CH_PLACE_BASE).toNat / 65536 * 65536 + 8 * page

/-- The map entry of a placed page (R184). -/
def mapEntry (s : State) (page : Nat) : Word := w64 (s.readNat (s.mapAddr page) 8)

/-- A write of the block's own to one of its tables in tier 1 (R115, R184): a line that a cache holds is noted, for its holders to be
invalidated (log entry 87). -/
def tableWrite (a : Nat) (bs : List Byte) (s : State) : State :=
  let held := (linesOf a bs.length).filter fun l => sfHolds s (homeSlice s l) l
  let s := s.writeBytes a bs
  if held.isEmpty then s else s.modSf fun f => { f with tables := held.foldl (fun l x => addNew x l) f.tables }

/-- Writes a map entry. -/
def setMapEntry (page : Nat) (e : Word) (s : State) : State := s.tableWrite (s.mapAddr page) (leBytes 8 e.toNat)

end State

/-- Fields of a placement map entry (R184 Table 5). -/
def pLoc (e : Word) : Nat := bits e 63 62
def pPort (e : Word) : Nat := bits e 61 59
def pPin (e : Word) : Bool := bit e 58
def pPinTier (e : Word) : Nat := bits e 57 57
def pMoving (e : Word) : Bool := bit e 56
def pHeat (e : Word) : Nat := bits e 55 48
def pAge (e : Word) : Nat := bits e 47 40
def pLost (e : Word) : Bool := bit e 39
def pLen (e : Word) : Nat := bits e 33 24
def pFrame (e : Word) : Nat := bits e 23 0

/-- The pool of a page by its LOC and port: 0 tier 1, 1 + p port p. -/
def poolOf (e : Word) : Nat := if pLoc e = 1 then 0 else 1 + pPort e

namespace State

/-- The register of a pool (R183). -/
def poolReg (pool : Nat) : Nat := if pool = 0 then Reg.CH_T1_POOL else Reg.CH_T2_POOL + 8 * (pool - 1)

/-- The device address of a frame (R183). -/
def frameAddr (s : State) (pool f : Nat) : Nat :=
  if pool = 0 then (s.regBits Reg.CH_T1_POOL 17 0 + f) * pageBytes
  else tier2Base (pool - 1) + s.regBits (poolReg pool) 30 0 * 65536 + f * 2129920

/-- The pool is usable: tier 1 always, a port's while it is enabled and the port is UP (R192, R327, R333). -/
def poolUsable (s : State) (pool : Nat) : Bool :=
  if pool = 0 then true
  else s.regBit (poolReg pool) 31 && decide ((s.dnPort (pool - 1)).st = .up)

def framesOf (s : State) (pool : Nat) : Nat := s.regBits (poolReg pool) 63 32
def usedFrames (s : State) (pool : Nat) : List Nat := Map.getD [] pool s.ch.used
def dirtyFrames (s : State) (pool : Nat) : List Nat := Map.getD [] pool s.ch.dirty

/-- The size of a frame (R183): a tier-2 frame holds a packed page at its worst case. -/
def frameSize (pool : Nat) : Nat := if pool = 0 then pageBytes else 2129920

/-- Frames of a usable pool that hold nothing, zeroed or not. -/
def freeFrames (s : State) (pool : Nat) : Nat :=
  if s.poolUsable pool then s.framesOf pool - (s.usedFrames pool).length else 0

/-- The lowest-numbered zeroed free frame of a pool. -/
def findFrame (s : State) (pool : Nat) : Option Nat :=
  if !s.poolUsable pool then none
  else (List.range ((s.usedFrames pool).length + (s.dirtyFrames pool).length + 1)).find? fun f =>
    decide (f < s.framesOf pool) && !decide (f ∈ s.usedFrames pool) && !decide (f ∈ s.dirtyFrames pool)

/-- The bytes of a frame become 0, and no line of it is poisoned (R185). -/
def clearFrame (pool f : Nat) (s : State) : State :=
  let a := s.frameAddr pool f
  let n := frameSize pool
  { s with mem := Mem.clear a n s.mem, poison := s.poison.filter fun l => !decide (a / 64 ≤ l ∧ l < (a + n) / 64) }

/-- Takes a frame; its bytes read 0 (R185). -/
def takeFrame (pool f : Nat) (s : State) : State :=
  (s.modCh fun c => { c with used := Map.put [] pool (addNew f (Map.getD [] pool c.used)) c.used }).clearFrame pool f

/-- Frees a frame; it is zeroed in the background (R185). -/
def freeFrame (pool f : Nat) (s : State) : State :=
  s.modCh fun c => { c with used := Map.put [] pool ((Map.getD [] pool c.used).filter (· ≠ f)) c.used,
                            dirty := Map.put [] pool (addNew f (Map.getD [] pool c.dirty)) c.dirty }

/-- The usable tier-2 pool with the most free frames, the lowest-numbered port on a tie (R185). -/
def bestTier2 (s : State) : Option Nat :=
  (List.range Config.downPorts).foldl (fun best p =>
    let n := s.freeFrames (p + 1)
    if n = 0 then best else
    match best with
    | some b => if s.freeFrames b < n then some (p + 1) else best
    | none => some (p + 1)) none

/-- A pool for a first write that prefers a tier (1 or 2), as R185 chooses it. -/
def choosePool (s : State) (tier : Nat) : Option Nat :=
  let t1 := if s.freeFrames 0 > 0 then some 0 else none
  if tier = 2 then (s.bestTier2).orElse fun _ => t1 else t1.orElse fun _ => s.bestTier2

/-- Chamois samples one access to the placed window in 2^SAMPLE_SHIFT (R186). -/
def sampleHeat (page : Nat) (s : State) : State :=
  let n := s.ch.samples + 1
  let s := s.modCh fun c => { c with samples := n }
  if n % 2 ^ min 12 (s.regBits Reg.CH_HEAT_CFG 19 16) = 0 then
    let e := s.mapEntry page
    s.setMapEntry page (setBits e 55 48 (min 255 (pHeat e + 1)))
  else s

end State

/-- Where the bytes of a line lie. -/
inductive Place where
  /-- A direct device address. -/
  | at (da : Nat)
  /-- A NONE page: zeros (R185). -/
  | zero
  /-- A LOST page (R192). -/
  | lost
  /-- A hole or a reserved address (R168, R169), or placed memory out of service (R174). -/
  | hole
  /-- A packed page, waiting for its unpack (R191). -/
  | packed (page : Nat)
  /-- No frame: none free in either tier (R185), or none zeroed yet. -/
  | full
  | unzeroed
deriving DecidableEq, Repr

namespace State

/-- Where a direct or placed device address is read (R169, R185, R189, R191, R192). -/
def placeOf (s : State) (da : Nat) : Place :=
  match regionOf da with
  | .tier1 => .at da
  | .tier2 _ => if s.tier2Hole da then .hole else .at da
  | .placed =>
    let page := (da - placedBase) / pageBytes
    if !s.ch.active || decide (s.regBits Reg.CH_PLACE_PAGES 21 0 ≤ page) then .hole
    else
      let e := s.mapEntry page
      if pLost e then .lost
      else if pLoc e = 0 then .zero
      else if pLoc e = 3 then .packed page
      else
        let off := (da - placedBase) % pageBytes
        match s.ch.moves.find? fun m => decide (m.page = page ∧ m.mode = .lines ∧ off < m.cursor) && m.running with
        | some m => .at (m.dst + off)
        | none => .at (s.frameAddr (poolOf e) (pFrame e) + off)
  | _ => .hole

/-- A demotion that packs ends when its page is written, with the page in tier 1 (R190). -/
def abortPack (page : Nat) (s : State) : State :=
  match s.ch.moves.find? fun m => decide (m.kind = .pack) && decide (m.page = page) && m.running && !m.aborted with
  | none => s
  | some m =>
    ((s.modCh fun c => { c with moves := updateWhere (fun x => decide (x.id = m.id)) (fun x => { x with aborted := true }) c.moves }).bump
      Reg.CH_STAT_ABORT).wakeUp (.move m.id)

/-- Where a write to a direct or placed address goes; a first write to a NONE page allocates a frame in the preferred
tier, or the other (R185). -/
def placeForWrite (da tier : Nat) (s : State) : Place × State :=
  match s.placeOf da with
  | .zero =>
    let page := (da - placedBase) / pageBytes
    match s.choosePool tier with
    | none => (.full, s)
    | some pool =>
      match s.findFrame pool with
      | none => (.unzeroed, s)
      | some f =>
        let s := s.takeFrame pool f
        let e := s.mapEntry page
        let e := setBits (setBits e 63 62 (if pool = 0 then 1 else 2)) 61 59 (pool - 1)
        let s := s.setMapEntry page (setBits e 23 0 f)
        (.at (s.frameAddr pool f + (da - placedBase) % pageBytes), s)
  | p => (p, if regionOf da = .placed then s.abortPack ((da - placedBase) / pageBytes) else s)

/-- The default first-touch tier (R185, CH_CTRL.DEFAULT_TIER). -/
def defaultTier (s : State) : Nat := if s.regBits Reg.CH_CTRL 6 5 = 2 then 2 else 1

end State

end Sys2Proof.Machine
end

