-- ==== Sys2Proof/Machine/DcArray.lean ====
section
/-! DEFINITION. The arrays of the device cache (spec/08): tree-PLRU, the index modes (R231), lookup, the chip-side state of a
host-memory line as the entry of R222, and the way a fill takes (R234). -/

namespace Sys2Proof.Machine

/-! ### Tree-PLRU of a 16-way set -/

/-- The tree after a use of way `w`: each node on the path points away from it. Node n is bit n - 1. -/
def plruTouch (t w : Nat) : Nat :=
  (List.range 4).foldl (fun t d =>
    let node := 2 ^ d + w / 2 ^ (4 - d)
    let dir := (w / 2 ^ (3 - d)) % 2
    let clearT := t - (if t.testBit (node - 1) then 2 ^ (node - 1) else 0)
    if dir = 0 then clearT + 2 ^ (node - 1) else clearT) t

/-- The way the tree names among the eligible ones, turning away from a subtree that holds none (R234). -/
def plruVictim (t : Nat) (ok : Nat → Bool) : Option Nat :=
  let has (node d : Nat) : Bool :=
    (List.range (2 ^ (4 - d))).any fun i => ok ((node - 2 ^ d) * 2 ^ (4 - d) + i)
  let step (node d : Nat) : Nat :=
    let want := if t.testBit (node - 1) then 1 else 0
    if has (2 * node + want) (d + 1) then 2 * node + want else 2 * node + (1 - want)
  if !has 1 0 then none
  else
    let n := step (step (step (step 1 0) 1) 2) 3
    some (n - 16)

/-! ### Host lines -/

/-- The line number of a host physical address, PA[46:6] (R229). -/
def hostLa (line : Nat) : Nat := line % 2 ^ 41

/-- The host-window line of a host physical line. -/
def hostLineOf (la : Nat) : Nat := 2 ^ 41 + la

/-- The set of a line in HASHED mode (R231 Table 1). -/
def dcSetHashed (la : Nat) : Nat := (la % 4096) ^^^ ((la >>> 6) % 4096) ^^^ ((la >>> 18) % 4096) ^^^ ((la >>> 30) % 4096)

namespace State

/-- MODE_ACTIVE of a slice (R231). -/
def dcMode (s : State) (slice : Nat) : Nat := Map.getD 0 slice s.dc.mode

/-- The data-array set of a line: in SECTORED mode sub-block k of sector set S lies in array set 4 S + k (R231). -/
def dcSet (s : State) (slice la : Nat) : Nat :=
  if s.dcMode slice = 1 then 4 * ((la >>> 6) % 1024) + (la >>> 4) % 4 else dcSetHashed la

/-- The array sets of the line's unit of allocation (R231). -/
def dcUnitSets (s : State) (slice la : Nat) : List Nat :=
  if s.dcMode slice = 1 then (List.range 4).map (4 * ((la >>> 6) % 1024) + ·) else [dcSetHashed la]

def dcKey (slice set way : Nat) : Nat := (slice * 4096 + set) * 16 + way

/-- The entries of way `w` of the line's set, with their keys. -/
def dcUnit (s : State) (slice la w : Nat) : List (Nat × DcLine) :=
  (s.dcUnitSets slice la).filterMap fun x => (Map.find? (dcKey slice x w) s.dc.lines).map fun e => (dcKey slice x w, e)

/-- The key of the entry that holds TAG, SHASH, CONTEXT and LOCK for way `w` of the line's set (R231, R233). -/
def dcHead (s : State) (slice la w : Nat) : Nat := dcHeadKey s (dcKey slice (s.dcSet slice la) w)

/-- The way that holds the line's unit, if one does. -/
def dcWay? (s : State) (slice la : Nat) : Option Nat :=
  (List.range 16).find? fun w => match Map.find? (s.dcHead slice la w) s.dc.lines with
    | some e => decide (e.tag = dcTagOf (s.dcMode slice) la) && (decide (s.dcMode slice ≠ 1) || decide (e.shash = sliceHash la))
    | none => false

/-- The entry of a host line, valid or held empty, with its key. -/
def dcFind (s : State) (la : Nat) : Option (Nat × DcLine) :=
  let slice := dcSlice s la
  (s.dcWay? slice la).bind fun w =>
    let k := dcKey slice (s.dcSet slice la) w
    (Map.find? k s.dc.lines).map fun e => (k, e)

/-- HSTATE of a host line (R233): 0 where the slice does not hold it. -/
def dcHState (s : State) (la : Nat) : Nat := ((s.dcFind la).map (·.2.hstate)).getD 0

/-- Points the tree of a set away from a way (R234): a sector's set has one tree. -/
def dcTouch (key : Nat) (s : State) : State :=
  let set := dcHeadKey s key / 16
  s.modDc fun d => { d with plru := Map.put 0 set (plruTouch (Map.getD 0 set d.plru) (key % 16)) d.plru }

/-- Writes the entry at a key. -/
def dcPut (key : Nat) (e : DcLine) (s : State) : State := s.modDc fun d => { d with lines := Map.insert key e d.lines }

/-- Changes the entry of a line that is held. -/
def dcUpdate (la : Nat) (f : DcLine → DcLine) (s : State) : State :=
  match s.dcFind la with
  | some (k, e) => s.dcPut k (f e)
  | none => s

/-- Way `w` of the line's set is locked (R233, R235). -/
def dcUnitLocked (s : State) (slice la w : Nat) : Bool := ((Map.find? (s.dcHead slice la w) s.dc.lines).map (·.lock)).getD false

/-- Locks the unit of a line that the slice holds, for a context (R235). -/
def dcLock (la ctx : Nat) (s : State) : State :=
  match s.dcFind la with
  | some (k, _) =>
    let h := dcHeadKey s k
    (match Map.find? h s.dc.lines with | some e => s.dcPut h { e with lock := true, ctx := ctx } | none => s)
  | none => s

/-- CONTEXT of the unit of an entry (R233). -/
def dcCtx (s : State) (key : Nat) : Nat := ((Map.find? (dcHeadKey s key) s.dc.lines).map (·.ctx)).getD 0

/-- An entry without its line: TAG, SHASH, CONTEXT and LOCK stay. -/
def dcEmptied (e : DcLine) : DcLine := { e with hstate := 0, cstate := 3, multi := false, fwd := 31, poison := false, data := 0 }

/-- The bits of a tag entry (R233 Table 2), with its parity bits. -/
def tagEntry (e : DcLine) : Word :=
  let parity (w : Word) : Nat := countOf (fun i => bit w i) (List.range 64) % 2
  let low := w64 e.tag ||| fld e.ctx 30 ||| fld e.shash 42
  let high := fld e.fwd 46 ||| fld (b2n e.multi) 51 ||| fld e.cstate 52 ||| fld e.hstate 54 ||| fld (b2n e.poison) 57 ||| fld (b2n e.lock) 58
  low ||| high ||| fld (parity high) 62 ||| fld (parity low) 63

/-- The chip-side entry of a host line, as an entry of R205 (R222): none where no chip agent may hold it. -/
def dcSf (s : State) (la : Nat) : Option SfEntry :=
  match s.dcFind la with
  | some (_, e) =>
    if e.hstate = 0 then none
    else match e.cstate with
      | 0 => some { tag := 0, st := .excl, host := false, multi := e.multi, fwd := e.fwd }
      | 1 => some { tag := 0, st := .fwd, host := false, multi := e.multi, fwd := e.fwd }
      | 2 => some { tag := 0, st := .shared, host := false, multi := e.multi, fwd := 31 }
      | _ => none
  | none => none

/-- Writes the chip-side entry of a host line (R222, R233). -/
def dcSetSf (la : Nat) (x : Option SfEntry) (s : State) : State :=
  s.dcUpdate la fun e => match x with
    | some x => { e with cstate := (match x.st with | .excl => 0 | .fwd => 1 | _ => 2), multi := x.multi, fwd := x.fwd }
    | none => { e with cstate := 3, multi := false, fwd := 31 }

/-- Bytes written into a line of the array, which makes it M (R222); a full-line write clears poison (R244). -/
def dcWriteData (la : Nat) (mask : BitVec 64) (data : Line) (poison : Bool) (s : State) : State :=
  s.dcUpdate la fun e =>
    { e with data := mergeLine mask data e.data, hstate := 3,
             poison := if mask = BitVec.allOnes 64 then poison else e.poison || poison }

/-- What a fill finds in its set (R234). -/
inductive DcWay where
  | free (way : Nat)
  | victim (way : Nat)
  | none

/-- The way for a unit that the slice does not hold: the lowest invalid one, else the victim of the tree; neither locked nor pinned
(R234), nor being emptied for another fill. -/
def dcChoose (s : State) (pinned : Nat → Bool) (slice la : Nat) : DcWay :=
  let ok (w : Nat) : Bool := !s.dcUnitLocked slice la w && !(s.sf.txns.any fun t => isHostLine t.line && decide (t.slice = slice ∧ t.way = some (s.dcHead slice la w))) &&
    !(s.dcUnit slice la w).any (fun e => pinned (hostLineOf (dcLineAt s e.1)))
  match (List.range 16).find? fun w => ok w && (s.dcUnit slice la w).all fun e => decide (e.2.hstate = 0) with
  | some w => .free w
  | Option.none =>
    match plruVictim (Map.getD 0 (s.dcHead slice la 0 / 16) s.dc.plru) ok with
    | some w => .victim w
    | Option.none => .none

/-- Locked ways of the line's set (R235). -/
def dcLocked (s : State) (slice la : Nat) : Nat := countOf (fun w => s.dcUnitLocked slice la w) (List.range 16)

end State

end Sys2Proof.Machine
end

