-- ==== Sys2Proof/Machine/Home.lean ====
section
/-! DEFINITION. The coherence home of device memory: the snoop filter (R205, R206), its replacement (R214), the tracker and
the Bullpen (R212 to R216), snoops and their answers (R207), the state table (R209, R210), and the memory behind it. -/

namespace Sys2Proof.Machine

/-! ### The snoop filter -/

/-- The line that a tag and a set name (R205 Table 3). -/
def sfLine (set tag : Nat) : Nat :=
  let lo := set ^^^ (tag % 2 ^ 15) ^^^ ((tag >>> 15) % 2 ^ 8)
  lo + tag * 2 ^ 15

namespace State

/-- The entry of a line with its key, if the filter holds one. -/
def sfFind (s : State) (la : Nat) : Option (Nat × SfEntry) :=
  let base := (homeSlice s la * 32768 + sfSet la) * 16
  (List.range 16).findSome? fun w => match Map.find? (base + w) s.sf.entries with
    | some e => if e.tag = sfTag la then some (base + w, e) else none
    | none => none

/-- The holders of a line: its filter entry, or for host memory the chip side of its device-cache tag (R205, R222). -/
def sfEntry (s : State) (la : Nat) : Option SfEntry := if isHostLine la then s.dcSf (hostLa la) else (s.sfFind la).map (·.2)

/-- Uses a way of the filter. -/
def sfTouch (key : Nat) (s : State) : State :=
  s.modSf fun f => { f with plru := Map.put 0 (key / 16) (plruTouch (Map.getD 0 (key / 16) f.plru) (key % 16)) f.plru }

/-- Writes the entry at a key, or frees it. -/
def sfSetKey (key : Nat) (e : Option SfEntry) (s : State) : State :=
  match e with
  | some e => (s.modSf fun f => { f with entries := Map.insert key e f.entries }).sfTouch key
  | none => s.modSf fun f => { f with entries := Map.erase key f.entries }

/-! ### The tracker -/

def txn? (s : State) (slice tag : Nat) : Option Txn := s.sf.txns.find? fun t => decide (t.slice = slice ∧ t.tag = tag)

def setTxn (t : Txn) (s : State) : State :=
  s.modSf fun f => { f with txns := updateWhere (fun x => decide (x.slice = t.slice ∧ x.tag = t.tag)) (fun _ => t) f.txns }

def dropTxn (t : Txn) (s : State) : State :=
  s.modSf fun f => { f with txns := f.txns.filter fun x => !decide (x.slice = t.slice ∧ x.tag = t.tag) }

/-- The transaction being served for a line: the oldest (R213). -/
def openTxn? (s : State) (line : Nat) : Option Txn := s.sf.txns.find? fun t => decide (t.line = line)

/-- A line is pinned while it has a transaction (R214). -/
def pinned (s : State) (line : Nat) : Bool := (s.openTxn? line).isSome

/-- A line whose home is moving (R395). -/
def moving (s : State) (line : Nat) : Bool := !isHostLine line && s.sf.flushing.any fun f => decide (f.1 = sliceHash line)

/-- Ways of a slice's filter that are disabled (R245). -/
def sfWaysOff (s : State) (slice : Nat) : List Nat := Map.getD [] slice s.sf.waysOff

/-- What a line that needs a new entry finds in its set (R214). -/
inductive WayFor where
  | free (key : Nat)
  | victim (key : Nat)
  | none

/-- The way for a new entry of `la`: a free one, else a victim: SHARED without HOST first, then any unpinned (R214). A way kept for a
transaction's new entry is not free. -/
def sfWay (s : State) (la : Nat) : WayFor :=
  let slice := homeSlice s la
  let base := (slice * 32768 + sfSet la) * 16
  let on (w : Nat) : Bool := !decide (w ∈ s.sfWaysOff slice) && !(s.sf.txns.any fun t => decide (t.way = some (base + w)))
  match (List.range 16).find? fun w => on w && (Map.find? (base + w) s.sf.entries).isNone with
  | some w => .free (base + w)
  | Option.none =>
    let unp (w : Nat) : Bool := on w && match Map.find? (base + w) s.sf.entries with
      | some e => !s.pinned (sfLine (sfSet la) e.tag)
      | Option.none => false
    let sh (w : Nat) : Bool := unp w && match Map.find? (base + w) s.sf.entries with
      | some e => decide (e.st = .shared) && !e.host
      | Option.none => false
    let t := Map.getD 0 (base / 16) s.sf.plru
    match plruVictim t sh with
    | some w => .victim (base + w)
    | Option.none => match plruVictim t unp with
      | some w => .victim (base + w)
      | Option.none => .none

/-- Writes the entry of a line, or frees it: a new entry takes the way kept for it. -/
def sfWrite (la : Nat) (e : Option SfEntry) (s : State) : State :=
  if isHostLine la then s.dcSetSf (hostLa la) e
  else match s.sfFind la, e with
    | some (k, _), _ => s.sfSetKey k e
    | none, none => s
    | none, some x =>
      match (s.sf.txns.find? fun t => decide (t.line = la) && t.way.isSome).bind (·.way) with
      | some k => s.sfSetKey k (some x)
      | none => match s.sfWay la with
        | .free k => s.sfSetKey k (some x)
        | _ => s

/-- Frees the entry of a line, whose way stays kept for the line's open transaction (R214). -/
def sfFree (la : Nat) (s : State) : State :=
  match s.sfFind la, s.openTxn? la with
  | some (k, _), some t => (s.sfWrite la none).setTxn { t with way := t.way.orElse fun _ => some k }
  | _, _ => s.sfWrite la none

/-- Tracker tags: 0 to 175 general, 176 + n the Bullpen's entry n, 208 to 255 reserved (R212). -/
def tagFree (s : State) (slice tag : Nat) : Bool := (s.txn? slice tag).isNone

/-- The free one of some entries: one that no late data can name, else the one whose late data has been awaited longest (R207). -/
def pickTag (s : State) (slice : Nat) (tags : List Nat) : Option Nat :=
  let free := tags.filter fun t => s.tagFree slice t
  let late : List Nat := (s.sf.late.filter fun l => decide (l.slice = slice)).map (·.tag)
  (free.find? fun t => !decide (t ∈ late)).orElse fun _ => late.find? fun t => decide (t ∈ free)

/-- A free general entry (R212). -/
def generalTag (s : State) (slice : Nat) : Option Nat := s.pickTag slice (List.range 176)

/-- A free entry of those reserved for the upstream and IPL ports (R212). -/
def reservedTag (s : State) (slice : Nat) : Option Nat := s.pickTag slice ((List.range 48).map (· + 208))

/-- A Bullpen entry of a slice for which no credit is out (R216). -/
def bullpenFree (s : State) (slice : Nat) : Option Nat :=
  (s.pickTag slice (((List.range 32).filter fun n => !(s.sf.credits.any fun c => decide (c.slice = slice ∧ c.num = n))).map (· + 176))).map (· - 176)

/-- The slice that serves a line: its home, or its device-cache slice. -/
def sliceOf (s : State) (line : Nat) : Nat := if isHostLine line then dcSlice s (hostLa line) else homeSlice s line

/-! ### Messages of the home -/

/-- The port can carry snoops: it is enabled (R442). -/
def portOn (s : State) (n : Nat) : Bool := s.regBit Reg.FP_CTRL n

/-- A credit word leaves through its port, or waits until a disabled port is enabled (R425, R442). -/
def sendCrd (port : Nat) (m : Msg) (s : State) : State :=
  if s.portOn port then s.emit m else s.modFp fun f => { f with crdOwed := f.crdOwed ++ [m] }

/-- The credit words of a port among those owed. -/
def crdOf (port : Nat) (m : Msg) : Bool := match m with | .crd p _ _ _ _ => decide (p = port) | _ => false

/-- INIT discards the credits on their way (R426). -/
def dropCrd (port : Nat) (s : State) : State := s.modFp fun f => { f with crdOwed := f.crdOwed.filter fun m => !crdOf port m }

/-- A write of FP_CTRL (R442): the ports that it enables return the credits they owe. -/
def payCredits (s : State) : State :=
  let due := s.fp.crdOwed.filter fun m => (List.range 16).any fun p => s.portOn p && crdOf p m
  due.foldl (fun s m => s.emit m) (s.modFp fun f => { f with crdOwed := f.crdOwed.filter fun m => !decide (m ∈ due) })

/-- Sends a snoop when the port holds an SNP credit, else queues it (R425). -/
def sendSnp (m : Msg) (port : Nat) (s : State) : State :=
  let c := Map.getD 0 port s.fp.snpCrd
  if 0 < c then (s.modFp fun f => { f with snpCrd := Map.put 0 port (c - 1) f.snpCrd }).emit m
  else s.modFp fun f => { f with snpWait := f.snpWait ++ [m] }

/-- The HOME_TAG of a transaction (Table 6 of spec/17). -/
def homeTag (t : Txn) : Nat := t.slice * 256 + t.tag % 256

/-- The transaction that a message names by its HOME_TAG: the back-invalidation for a waiting request, where there is one. -/
def txnAt (s : State) (slice tag : Nat) : Option Txn := (s.txn? slice (256 + tag)).orElse fun _ => s.txn? slice tag

/-- Who a snoop names as its requester: an agent and its TXN, or the home (R207). -/
def reqOf : Asker → Nat × Nat
  | .agent _ a x | .nc (.uc _ a x) => (a, x)
  | _ => (31, 0)

/-- Snoops one agent for a transaction. -/
def snoopAgent (t : Txn) (a : Nat) (k : Snoop) (s : State) : State :=
  let port := agentPort s a
  let r := reqOf t.asker
  s.sendSnp (.snp port a k t.line r.1 r.2 (homeTag t)) port

/-- Answers an agent on RSP. -/
def answer (t : Txn) (g : Grade) (err : Bool) (s : State) : State :=
  match t.asker with
  | .agent _ a x => s.emit (.rsp (agentPort s a) a x g err false 0)
  | _ => s

/-- MISS_MODE of the slice of a host line (R241). -/
def missMode (s : State) (la : Nat) : Bool := s.regBit (Reg.DC_SLICE_CFG + 8 * dcSlice s la) 4

/-- Sends an agent its data on DAT. A line that has just come from the host goes in MISS_MODE 0 as two partial DATs, the half with the requested
address first (R241); the other half of such a slot is 0 (log entry 93). -/
def sendData (t : Txn) (d : Line) (poison dirty : Bool) (s : State) : State :=
  match t.asker with
  | .agent _ a x =>
    let part (h : Nat) (s : State) : State :=
      s.emit (.dat (agentPort s a) a x h (if h = 1 then d % BitVec.ofNat 512 (2 ^ 256) else d / BitVec.ofNat 512 (2 ^ 256) * BitVec.ofNat 512 (2 ^ 256)) poison dirty)
    if t.missed && isHostLine t.line && !s.missMode (hostLa t.line) then
      (if t.off < 32 then part 2 (part 1 s) else part 1 (part 2 s))
    else s.emit (.dat (agentPort s a) a x 0 d poison dirty)
  | _ => s

/-! ### Reservations (R261, R262) -/

/-- Two identifiers of a chip core's requests are the same observer's (R249, R250): the engines of a core in native mode are not told apart. -/
def sameId (x y : Nat × Nat × Nat) : Bool :=
  decide (x.1 = y.1 ∧ x.2.1 = y.2.1) && (decide (x.2.2 = y.2.2) || (decide (4 ≤ x.2.2) && decide (4 ≤ y.2.2)))

/-- The reservation's granule holds the line. -/
def rsvCovers (r : Rsv) (line : Nat) : Bool := decide (r.line * 64 / 2 ^ r.shift = line * 64 / 2 ^ r.shift)

/-- Reservations that are broken end. -/
def endRsv (broken : Rsv → Bool) (s : State) : State := s.modFp fun f => { f with rsv := f.rsv.filter fun r => !broken r }

/-- A write performed at a home breaks the reservations of other observers on the granule (R262). `by_` is its writer, none where it is no chip
core. -/
def breakRsv (line : Nat) (by_ : Option (Nat × Nat × Nat)) (s : State) : State :=
  s.endRsv fun r => rsvCovers r line && (match by_ with | some x => !sameId x (r.agent, r.core, r.code) | none => true)

/-- A grant of ownership to an agent breaks other agents' reservations on other lines of the granule (R262). -/
def grantRsv (line agent : Nat) (s : State) : State := s.endRsv fun r => rsvCovers r line && decide (r.line ≠ line ∧ r.agent ≠ agent)

/-- An agent has written a line in its cache: its grant was for the write itself, or dirty data has left it (R262; log entry 99). -/
def wroteRsv (line agent : Nat) (s : State) : State := s.endRsv fun r => decide (r.line = line ∧ r.agent ≠ agent)

/-- The observer whose write a waiter performs, where there is one alone. -/
def writerOf (s : State) (w : Waiter) : Option (Nat × Nat × Nat) :=
  match (s.fp.ucs.find? fun u => decide (u.who = w)).map (·.ids) with
  | some (x :: rest) => if rest.all (sameId x) then some x else none
  | _ => none

/-! ### Waiters and posted writes -/

/-- Reports a posted write of a waiter as performed, or as failed with a status; when none is left the waiter is tried
again (R255). -/
def postedDone (w : Waiter) (fail : Option Nat) (s : State) : State :=
  let less (p : Posted) : Posted := { p with n := p.n - 1, failed := p.failed.orElse fun _ => fail }
  let s := s.modSf fun f => { f with posted := updateWhere (fun p => decide (p.who = w)) less f.posted }
  if (s.sf.posted.find? fun p => decide (p.who = w)).all (fun p => decide (p.n = 0)) then s.wakeUp w else s

/-- Counts a write posted for a waiter. -/
def postWrite (w : Waiter) (s : State) : State :=
  if s.sf.posted.any fun p => decide (p.who = w) then
    s.modSf fun f => { f with posted := updateWhere (fun p => decide (p.who = w)) (fun p => { p with n := p.n + 1 }) f.posted }
  else s.modSf fun f => { f with posted := f.posted ++ [{ who := w, n := 1, failed := none }] }

/-- The writes of a waiter not yet performed, and the failure among them. -/
def postedOf (s : State) (w : Waiter) : Nat × Option Nat :=
  match s.sf.posted.find? fun p => decide (p.who = w) with
  | some p => (p.n, p.failed)
  | none => (0, none)

/-- Forgets what was kept for a waiter that begins anew: fetched lines, lines that have gone out, verdicts. -/
def forgetReads (w : Waiter) (s : State) : State :=
  ((s.modSf fun f => { f with got := f.got.filter (fun g => g.who ≠ w), hostAsks := f.hostAsks.filter (fun x => x.1 ≠ w), put := f.put.filter (fun p => p.1 ≠ w) }).modCh
    fun c => { c with verdicts := c.verdicts.filter (fun v => v.who ≠ w) }).modGz fun g => { g with wrote := g.wrote.filter (· ≠ w) }

/-- Forgets everything that was kept for a waiter, its posted writes too. -/
def forget (w : Waiter) (s : State) : State := (s.forgetReads w).modSf fun f => { f with posted := f.posted.filter (fun p => p.who ≠ w) }

/-- A piece or a reduce-write has issued a destination write (R97). -/
def noteWrite (w : Waiter) (s : State) : State :=
  match w with
  | .piece _ _ | .reduceWrite _ => s.modGz fun g => { g with wrote := addNew w g.wrote }
  | _ => s

/-! ### Memory behind the home -/

/-- Sends a CXL.mem request to a port's expander (R323). -/
def dnSend (port line : Nat) (write : Bool) (mask : BitVec 64) (data : Line) (poison : Bool) (f : DnFor) (s : State) : State :=
  let id := s.dn.nextReq
  let s := (s.touch (Dom.dnCtl port)).touch (Dom.dnPhy port)
  let held := (s.dnPort port).eqRedo || decide (1024 ≤ countOf (fun r : DnReq => decide (r.port = port)) s.dn.reqs)
  let s := s.modDn fun d => { d with nextReq := id + 1, reqs := d.reqs ++
    [{ id := id, port := port, line := line, write := write, mask := mask, data := data, poison := poison, for_ := f, sent := s.now, held := held }] }
  if held then s else s.emit (.m2s port id line write mask data)

/-- What a transaction's write to memory led to. -/
inductive Wrote where
  | done
  | waits
  | blocked (p : Place)

/-- Later bytes of a line replace what a holder may still send (R207). -/
def lateOver (line : Nat) (mask : BitVec 64) (s : State) : State :=
  if s.sf.late.isEmpty then s
  else s.modSf fun f => { f with late := f.late.map fun l => if l.line = line then { l with mask := l.mask &&& ~~~mask } else l }

/-- Writes a line's bytes at its home for a transaction: at once in tier 1, when the expander completes it in tier 2
(R401). A hole discards it. -/
def homeWrite (t : Txn) (mask : BitVec 64) (data : Line) (poison : Bool) (s : State) : Wrote × State :=
  if mask = 0 then (.done, s) else
  if isHostLine t.line then (.done, s.dcWriteData (hostLa t.line) mask data poison) else
  match (s.lateOver t.line mask).placeForWrite (64 * t.line) s.defaultTier with
  | (.at da, s) =>
    match regionOf da with
    | .tier2 p => (.waits, (s.dnSend p (da / 64) true mask data poison (.txnWrite t.slice t.tag)))
    | _ => (.done, s.writeLine (da / 64) mask data poison)
  | (p, s) => (.blocked p, s)

/-- Writes bytes of a line to memory outside any transaction: an evicted line, the host's write-back, a line of the far-atomic buffer (R209,
R218, R225). They wait where the page cannot take them yet. -/
def memPut (line : Nat) (mask : BitVec 64) (data : Line) (poison : Bool) (s : State) : State :=
  if isHostLine line then s.dcWriteData (hostLa line) mask data poison
  else
    let wait (s : State) : State := s.modSf fun f => { f with backs := f.backs ++ [{ line := line, mask := mask, data := data, poison := poison }] }
    match (s.lateOver line mask).placeForWrite (64 * line) s.defaultTier with
    | (.at da, s) =>
      (match regionOf da with
       | .tier2 port => s.dnSend port (da / 64) true mask data poison (.txnWrite 16 line)
       | _ => s.writeLine (da / 64) mask data poison)
    | (.unzeroed, s) => wait s
    | (.packed page, s) => wait (s.modCh fun c => { c with pageWait := addNew (page, Waiter.recorder) c.pageWait })
    | (.full, s) => s.raise Reg.CH Err.CH_PLACE_FULL { Capture.none with addr := w64 (64 * line), space := 1, access := 1 }
    | (_, s) => s

/-- Bytes of a line are on their way to memory outside any transaction. -/
def putWaits (s : State) (line : Nat) : Bool :=
  (s.sf.backs.any fun b => decide (b.line = line)) || (s.dn.reqs.any fun r => decide (r.for_ = .txnWrite 16 line))

/-- What waited for its page is written once that takes it. -/
def pumpBacks (s : State) : State :=
  s.sf.backs.foldl (fun s b => s.memPut b.line b.mask b.data b.poison) (s.modSf fun f => { f with backs := [] })

/-! ### Starting a transaction: the snoops of Table 5 -/

/-- The agents to snoop, with the snoop, and the back-invalidation snoop, that a request needs in a given entry state
(R209 Table 5, R210 Table 6). `r` is the requesting agent, 16 the host, 31 the home. -/
def snoopPlan (k : TxnKind) (e : Option SfEntry) (r : Nat) (on : Nat → Bool) : List (Nat × Snoop) × Option BiSnp :=
  match e with
  | none => ([], none)
  | some e =>
    let others (k : Snoop) : List (Nat × Snoop) :=
      if e.multi then ((List.range 16).filter fun a => on a && !decide (a = r) && !decide (a = e.fwd)).map (·, k) else []
    let holder (k : Snoop) : List (Nat × Snoop) := if e.fwd < 16 ∧ e.fwd ≠ r then [(e.fwd, k)] else []
    let bi (k : BiSnp) : Option BiSnp := if r = 16 then none else if e.host || decide (e.st = .hostx) then some k else none
    let share (k : Snoop) (b : BiSnp) : List (Nat × Snoop) × Option BiSnp :=
      match e.st with
      | .excl | .fwd => (holder k, none)
      | .shared => ([], none)
      | .hostx => ([], bi b)
    let own : List (Nat × Snoop) × Option BiSnp := (holder .invFwd ++ others .inv, bi .inv)
    let drop : List (Nat × Snoop) × Option BiSnp :=
      ((if e.fwd < 16 ∧ e.fwd ≠ r then [(e.fwd, Snoop.inv)] else []) ++ others .inv, bi .inv)
    match k with
    | .memClean => ([], none)
    | .rdShared => share .data .data
    | .rdCur | .ncRead | .memCur | .moveLine _ => share .cur .cur
    | .memShared => share .shr .data
    | .rdOwn _ | .memOwn => own
    | .atomic false _ _ _ _ _ => own
    | .rdOwnNodata _ => drop
    | .atomic true _ _ _ _ _ =>
      ((if e.fwd < 16 then [(e.fwd, Snoop.inv)] else []) ++
        (if e.multi then ((List.range 16).filter fun a => on a && !decide (a = e.fwd)).map (·, Snoop.inv) else []), bi .inv)
    | .ncWrite _ _ _ => ((if e.fwd < 16 then [(e.fwd, Snoop.inv)] else []) ++ others .inv, bi .inv)
    | .memWrite _ _ _ _ | .backInv _ => drop

/-- The request needs an entry that the filter does not hold. -/
def needsEntry : TxnKind → Bool
  | .rdShared | .rdOwn _ | .rdOwnNodata _ | .atomic _ _ _ _ _ _ | .memShared | .memOwn => true
  | _ => false

/-- The requester as an agent number. -/
def askerAgent : Asker → Nat
  | .agent _ a _ => a
  | .host _ => 16
  | .nc (.uc _ a _) => a
  | .nc (.nt p _) => p
  | _ => 31

/-- The far-atomic buffer's line (R225). -/
def farLine? (s : State) (line : Nat) : Option (Line × Bool) :=
  (s.sf.far.find? fun x => decide (x.2.1 = line)).map fun x => x.2.2

/-- What a request asks of the host, by the line's HSTATE (R222 Table 7, R224). A non-caching write needs ownership as RD_OWN does,
without data where it replaces the whole line (log entry 22). -/
def hostNeed (k : TxnKind) (h : Nat) : Option D2h :=
  match k with
  | .rdShared => if h = 0 then some .rdShared else none
  | .rdOwn _ | .atomic false _ _ _ _ _ => if h = 0 then some .rdOwn else if h = 1 then some .rdOwnNoData else none
  | .atomic true _ _ _ _ _ => if h < 2 then some .rdOwn else none
  | .rdOwnNodata _ => if h < 2 then some .rdOwnNoData else none
  | .rdCur | .ncRead | .memCur => if h = 0 then some .rdCurr else none
  | .ncWrite mask _ _ =>
    if mask = 0 ∨ 2 ≤ h then none
    else if h = 1 ∨ mask = BitVec.allOnes 64 then some .rdOwnNoData else some .rdOwn
  | _ => none

/-- Every candidate way for a new entry of the line is pinned, or for a host line locked (R215, R234). -/
def allPinned (s : State) (line : Nat) (k : TxnKind) : Bool :=
  if isHostLine line then
    let la := hostLa line
    let slice := dcSlice s la
    (match hostNeed k (s.dcHState la) with | some .rdCurr | none => false | _ => true) && (s.dcFind la).isNone && (s.dcWay? slice la).isNone &&
      (match s.dcChoose s.pinned slice la with | .none => true | _ => false)
  else needsEntry k && (s.sfFind line).isNone && (match s.sfWay line with | .none => true | _ => false)

/-- A new tracker entry (R212). -/
def newTxn (slice tag line : Nat) (k : TxnKind) (a : Asker) (credit : Option Nat) (now : Nat) : Txn :=
  { slice := slice, tag := tag, line := line, kind := k, asker := a, phase := .queued, credit := credit, snoops := [],
    since := now, data := none, dirty := false, poison := false, direct := false, directDirty := false, fwd := false,
    keptF := false, evicted := false, early := none, needDat := false, owes := 0, err := none, ctx := 0, missed := false, decided := false, way := none, off := 0 }

/-- Samples an access to the placed window that reaches its home (R186). -/
def sampleLine (line : Nat) (s : State) : State :=
  let page := (64 * line - placedBase) / pageBytes
  if regionOf (64 * line) = .placed ∧ s.ch.active ∧ page < s.regBits Reg.CH_PLACE_PAGES 21 0 then s.sampleHeat page else s

/-- An access that R186 samples: Chamois's own copies and the home's own transactions are none. -/
def sampled : Asker → Bool
  | .home | .nc (.move _) => false
  | _ => true

/-- Adds a transaction to its slice's tracker: what an earlier one of its entry still awaited is awaited no more (log entry 94). -/
def addTxn (t : Txn) (s : State) : State :=
  (if sampled t.asker then s.sampleLine t.line else s).modSf fun f =>
    { f with txns := f.txns ++ [t], late := f.late.filter fun l => !decide (l.slice = t.slice ∧ l.tag = t.tag) }

/-- Requests of the upstream port and of the IPL ports take the reserved entries, and are never retried (R212, R215). -/
def fromPorts : Asker → Bool
  | .host _ | .nc (.io _) | .nc (.peer _ _ _) => true
  | _ => false

/-- The entry that a request of the block takes, and whether through a RETRY, whose credit a block engine uses at once (R212, R215, R216).
The home's own requests take a general entry. -/
def entryFor (s : State) (slice line : Nat) (k : TxnKind) (a : Asker) : Option (Nat × Bool) :=
  if fromPorts a then (s.reservedTag slice).map (·, false)
  else match a with
    | .nc _ =>
      let retry := (s.bullpenFree slice).map fun n => (176 + n, true)
      if s.allPinned line k then retry else ((s.generalTag slice).map (·, false)).orElse fun _ => retry
    | _ => (s.generalTag slice).map (·, false)

/-- A request that its home cannot take waits in the ingress (R215), or in the crossing (R268, R383). -/
def hold (slice line : Nat) (k : TxnKind) (a : Asker) (credit : Option Nat) (ctx off : Nat) (s : State) : State :=
  s.modSf fun f => { f with held := f.held ++ [{ slice := slice, line := line, kind := k, asker := a, ctx := ctx, off := off, credit := credit }] }

/-- The ingress that a request waits in: its Fabric Port's, the block engines', the upstream and IPL ports', or the home's own. -/
def ingress : Asker → Nat
  | .agent p _ _ => p
  | .home => 50
  | a => if fromPorts a then 49 else 48

/-- Requests of the same ingress wait before it for the slice. -/
def heldBefore (s : State) (slice : Nat) (a : Asker) : Bool := s.sf.held.any fun h => decide (h.slice = slice ∧ ingress h.asker = ingress a)

/-- A transaction of the home itself, or of a non-caching requester (R209, R212, R214), with the context that it fills a line for. -/
def addHomeTxnFor (ctx line : Nat) (k : TxnKind) (a : Asker) (s : State) : State :=
  let slice := s.sliceOf line
  match (if s.heldBefore slice a || !s.homeReady slice line then none else s.entryFor slice line k a) with
  | some (tag, retried) =>
    let s := if retried then s.bump Reg.SF_STAT_RETRY else s
    s.addTxn { newTxn slice tag line k a none s.now with ctx := ctx }
  | none => s.hold slice line k a none ctx 0

def addHomeTxn (line : Nat) (k : TxnKind) (a : Asker) (s : State) : State := s.addHomeTxnFor 0 line k a

/-- The home can serve a request as soon as it arrives: it is awake, nothing stands before it, and an entry is free (R212, R215, R268). -/
def canTake (s : State) (line : Nat) (k : TxnKind) (a : Asker) : Bool :=
  let slice := s.sliceOf line
  s.homeReady slice line && !s.heldBefore slice a && (match s.entryFor slice line k a with | some (_, retried) => !retried | none => false)

/-- The back-invalidation of the victim that a request waits for (R214, R242): it goes under the request's own entry. -/
def addVictim (t : Txn) (line : Nat) (s : State) : State := s.addTxn (newTxn t.slice (256 + t.tag) line (.backInv false) .home none s.now)

/-- A request waits for its victim. -/
def victimOpen (s : State) (t : Txn) : Bool := (s.txn? t.slice (256 + t.tag)).isSome

/-- The holders of table lines that the block has written are invalidated: what they hold is no longer the line's value (log entry 87). -/
def flushTables (s : State) : State :=
  s.sf.tables.foldl (fun s l => s.addHomeTxn l (.backInv true) .home) (s.modSf fun f => { f with tables := [] })

/-- The lines of some ranges that a cache holds, or that a transaction is open for. -/
def heldLines (s : State) (rs : List (Nat × Nat)) : List Nat :=
  let mine (l : Nat) : Bool := rs.any fun r => decide (r.1 / 64 ≤ l ∧ 64 * l < r.1 + r.2)
  (s.sf.entries.filterMap fun e => let l := sfLine (e.1 / 16 % 32768) e.2.tag; if mine l then some l else none) ++
    (s.sf.txns.filterMap fun t => if mine t.line then some t.line else none)

/-- Every line of some ranges leaves the caches, its dirty data written to memory. -/
def recallLines (rs : List (Nat × Nat)) (s : State) : State :=
  ((s.heldLines rs).foldl (fun l x => addNew x l) []).foldl (fun s l => s.addHomeTxn l (.backInv false) .home) s

/-- An access of a waiter to memory, the host, a home or a peer is under way. -/
def underWay (s : State) (w : Waiter) : Bool :=
  (s.sf.txns.any fun t => decide (t.asker = .nc w)) || (s.sf.held.any fun h => decide (h.asker = .nc w)) || decide ((s.postedOf w).1 ≠ 0) ||
    (s.ch.hostReads.any fun h => decide (h.1 = w)) || (s.pl.tx.any fun e => (e.2.unacked ++ e.2.wait).any fun y => decide (y.who = w)) ||
    (match w with | .io id => s.ch.ios.any fun r => decide (r.id = id) | _ => false)

/-- Sends the snoops of a transaction and begins to wait for their answers. -/
def sendSnoops (t : Txn) (plan : List (Nat × Snoop) × Option BiSnp) (s : State) : State :=
  let s := plan.1.foldl (fun s p => s.snoopAgent t p.1 p.2) s
  let s : State := match plan.2 with
    | some b => (s.emit (.biSnp b t.line))
    | none => s
  s.setTxn { t with phase := .snooping, since := s.now, snoops := plan.1.map (·.1) ++ (match plan.2 with | some _ => [16] | none => []) }

/-! ### Finishing a transaction -/

/-- A line of a page move has been copied, or its copy has failed (R189). In a move of Ibex's each job of 256 KiB may fail once (R128). -/
def lineCopied (w : Waiter) (ok : Bool) (s : State) : State :=
  match w with
  | .move id =>
    let next (m : Move) : Move :=
      if ok then { m with cursor := m.cursor + 64, fails := if m.mode = .raw ∧ (m.cursor + 64) % 262144 = 0 then 0 else m.fails } else { m with fails := m.fails + 1 }
    s.modCh fun c => { c with moves := updateWhere (fun m => decide (m.id = id)) next c.moves }
  | _ => s

/-- Closes a transaction: its tracker entry frees. -/
def closeTxn (t : Txn) (s : State) : State := (s.dropTxn t).opClean (Dom.sf t.slice)

/-- The error response of the Fabric Port (R429), or a failed access of another requester. -/
def failTxn (t : Txn) (status : Nat) (s : State) : State :=
  let s : State := match t.asker with
    | .agent _ _ _ =>
      (match t.kind with
       | .rdOwnNodata _ => s.answer t .goI true
       | .rdShared | .rdOwn _ | .rdCur | .atomic _ _ _ _ _ _ => (s.sendData t 0 true false).answer t .goI true
       | _ => s.answer t .cmp true)
    | .host tag =>
      (match t.kind with
       | .memShared | .memOwn | .memCur => s.emit (.memData tag 0 true .i)
       | _ => s.emit (.memCmp tag .i))
    | .nc w =>
      (match t.kind with
       | .moveLine _ => (s.lineCopied w false).wakeUp w
       | .ncRead | .atomic _ _ _ _ _ _ => 
        (s.modSf fun f => { f with got := f.got ++ [{ who := w, line := t.line, data := none, poison := false, status := status }] }).wakeUp w
       | _ => s.postedDone w (some status))
    | .home => s
  s.closeTxn t

/-- The entry before, seen after a matched eviction notice: the notice's holder is gone (R218). -/
def afterEvict (t : Txn) (e : Option SfEntry) : Option SfEntry :=
  match e with
  | some e =>
    if t.evicted then
      (if e.st = .fwd ∧ (e.multi ∨ e.host) then some { e with st := .shared, fwd := 31 } else none)
    else some e
  | none => none

/-- The operation of an atomic on the old value of `n` bytes (Table 5 of spec/17). -/
def atomicResult (aop n old opnd cmp : Nat) : Nat :=
  let m := 2 ^ (8 * n)
  let sgn (x : Nat) : Int := if x < m / 2 then x else (x : Int) - m
  match aop with
  | 0 => (old + opnd) % m
  | 1 => opnd
  | 2 => if old = cmp then opnd else old
  | 3 => old &&& opnd
  | 4 => old ||| opnd
  | 5 => old ^^^ opnd
  | 6 => if sgn old < sgn opnd then opnd else old
  | 7 => if sgn opnd < sgn old then opnd else old
  | 8 => max old opnd
  | 9 => min old opnd
  | _ => old

/-- An atomic at byte `off` of a line: the old value and the new line (R224). The operand and the compare value are bytes 0 to
7 and 8 to 15 of the operand line. -/
def atomicLine (aop size off : Nat) (line operand : Line) : Nat × Line :=
  let n := 2 ^ size
  let old := (line.toNat >>> (8 * off)) % 2 ^ (8 * n)
  let opnd := operand.toNat % 2 ^ (8 * n)
  let cmp := (operand.toNat >>> 64) % 2 ^ (8 * n)
  let new := atomicResult aop n old opnd cmp
  (old, mergeLine (byteMask off n) (BitVec.ofNat 512 (new <<< (8 * off))) line)

/-- Writes a line of the far-atomic buffer to memory and releases it (R225). -/
def releaseFar (line : Nat) (s : State) : State :=
  match s.farLine? line with
  | none => s
  | some (d, p) =>
    let s := s.modSf fun f => { f with far := f.far.filter fun x => !decide (x.2.1 = line) }
    (s.sfWrite line none).memPut line (BitVec.allOnes 64) d p

/-- Puts a line into the far-atomic buffer of its slice as most recently used; a 65th line displaces the oldest (R225). -/
def putFar (slice line : Nat) (d : Line) (poison : Bool) (s : State) : State :=
  let mine := s.sf.far.filter fun x => decide (x.1 = slice) && !decide (x.2.1 = line)
  let s : State := if 64 ≤ mine.length then (match mine with | x :: _ => s.releaseFar x.2.1 | [] => s) else s
  s.modSf fun f => { f with far := f.far.filter (fun x => !decide (x.2.1 = line)) ++ [(slice, line, d, poison)] }

/-- Adds a reservation of a thread as the most recent of its port, displacing the least recently used of 64 (R262). -/
def addRsv (ctx port agent core thread code line shift : Nat) (s : State) : State :=
  let keep := s.fp.rsv.filter fun r => !decide (r.agent = agent ∧ r.thread = thread)
  let mine := keep.filter fun r => decide (r.port = port)
  let s : State := if 64 ≤ mine.length then s.bump Reg.FP_STAT_RSV_DISPLACE else s
  let keep := if 64 ≤ mine.length then (match mine with | x :: _ => keep.filter (· ≠ x) | [] => keep) else keep
  s.modFp fun f => { f with rsv := keep ++ [{ ctx := ctx, port := port, agent := agent, core := core, thread := thread, code := code, line := line, shift := shift }] }

/-- The RSV_SHIFT that a value of the context record acts as (R261). -/
def rsvShift (v : Nat) : Nat := if 6 ≤ v ∧ v ≤ 12 then v else 6

/-- A read that leaves no copy leaves the entry as it was, but for a holder that is gone (R209, R218, R220). -/
def readerDone (t : Txn) (e : Option SfEntry) (s : State) : State := if t.evicted then s.sfWrite t.line (afterEvict t e) else s

/-- Data of an agent for a transaction may come after its end (R207): the bytes under the mask are the line's then. -/
def awaitLate (t : Txn) (a : Nat) (mask : BitVec 64) (s : State) : State :=
  let same (l : LateDat) : Bool := decide (l.slice = t.slice ∧ l.tag = t.tag ∧ l.agent = a)
  s.modSf fun f => { f with late := f.late.filter (fun l => !same l) ++ [{ slice := t.slice, tag := t.tag, line := t.line, agent := a, mask := mask }] }

/-- The holder in EXCL that answered without dirty data may have been in M: its data for the home may still come (R207; log entry 94). -/
def noteLate (t : Txn) (e : Option SfEntry) (s : State) : State :=
  match e with
  | some x => if x.st = .excl ∧ x.fwd < 16 ∧ t.fwd ∧ !t.evicted ∧ !t.dirty ∧ t.tag < 256 then s.awaitLate t x.fwd (BitVec.allOnes 64) else s
  | none => s

/-- Grants an agent its request and writes the entry (R209): the last act of a transaction for a chip agent. -/
def grant (t : Txn) (e : Option SfEntry) (s : State) : State :=
  let line := t.line
  let a := askerAgent t.asker
  let eff := afterEvict t e
  let d := t.data.getD 0
  let give (dirty : Bool) (s : State) : State := if t.direct then s else s.sendData t d t.poison dirty
  let own (g : Grade) (s : State) : State :=
    ((s.sfWrite line (some { tag := sfTag line, st := .excl, host := false, multi := false, fwd := a })).grantRsv line a).answer t g false
  match t.kind with
  | .rdShared =>
    -- a host line that the host may share is not granted for ownership (R202)
    let alone (s : State) : State :=
      if isHostLine line ∧ s.dcHState (hostLa line) < 2 then
        (s.sfWrite line (some { tag := 0, st := .fwd, host := false, multi := false, fwd := a })).answer t .goF false
      else own .goE s
    match eff with
    | none => alone (give false s)
    | some x =>
      -- the holder answered that it had nothing: no other copy is known
      if x.st = .excl ∧ !t.fwd then alone (give false s)
      else
        let s := (give false s).noteLate t e
        let multi := match x.st with | .hostx => false | .shared => x.multi | _ => true
        let s := s.sfWrite line (some { tag := sfTag line, st := .fwd, host := x.host || decide (x.st = .hostx), multi := multi, fwd := a })
        s.answer t .goF false
  | .rdOwn rsv =>
    let s := own (if t.direct && t.directDirty then .goM else .goE) (give false s)
    match rsv with
    | some (core, thread, shift, code) => s.addRsv t.ctx (agentPort s a) a core thread code line (rsvShift shift)
    | none => s
  | .atomic false _ _ _ _ _ => own .goM ((give (t.direct && t.directDirty) s).wroteRsv line a)
  | .rdOwnNodata zero =>
    -- zero-line allocation sends a DAT of zeros before the grant: no beat of the host's comes (R237)
    own .goM ((if zero && isHostLine line then s.sendData { t with missed := false } 0 false false else s).wroteRsv line a)
  | .rdCur => ((give false s).readerDone t e).answer t .goI false
  | _ => s

/-- The entries of a unit that holds no line any more, is not locked and waits for no fill are free (R231, R234). -/
def dcTidy (slice la w : Nat) (s : State) : State :=
  let es := s.dcUnit slice la w
  if s.dcUnitLocked slice la w || es.any (fun e => decide (e.2.hstate ≠ 0) || s.pinned (hostLineOf (dcLineAt s e.1))) then s
  else s.modDc fun d => { d with lines := es.foldl (fun l e => Map.erase e.1 l) d.lines }

/-- A line that has left the array is flushed no more by a command that listed it (R236). -/
def unlistLine (la : Nat) (s : State) : State :=
  match s.dc.cmdKeys with
  | x :: rest => s.modDc fun d =>
      { d with cmdKeys := (if d.cmdLeft = 0 ∧ x = la then [] else [x]) ++ rest.filter (· ≠ la), cmdLeft := if d.cmdLeft ≠ 0 ∧ x = la then 2 else d.cmdLeft }
  | [] => s

/-- A line goes to I: a locked way keeps LOCK and TAG, another is free (R235). -/
def dcInvalidate (la : Nat) (s : State) : State :=
  let slice := dcSlice s la
  match s.dcFind la with
  | some (k, e) => ((s.dcPut k (dcEmptied e)).unlistLine la).dcTidy slice la (k % 16)
  | none => s

/-- A line that the device cache hands to the host lies in host memory then (R223, R242). -/
def hostTakes (la : Nat) (d : Line) (poison : Bool) (s : State) : State :=
  { s with hostMem := Mem.write (64 * la) (lineBytes d) s.hostMem,
           hostPoison := if poison then addNew la s.hostPoison else s.hostPoison.filter (· ≠ la) }

/-- A host snoop has been answered: the engine accesses that the host snooped the line for go on (R264). -/
def snoopEnded (line : Nat) (s : State) : State :=
  let mine := s.sf.hostAsks.filter fun x => decide (x.2 = line)
  mine.foldl (fun s x => s.wakeUp x.1) (s.modSf fun f =>
    { f with hostAsks := f.hostAsks.filter fun x => !decide (x.2 = line),
             got := f.got ++ mine.map fun x => { who := x.1, line := line, data := none, poison := false } })

/-- The slice answers a host snoop (R223). -/
def answerHost (r : H2dRsp) (line : Nat) (d : Option (Line × Bool)) (s : State) : State :=
  let s := match d with | some x => s.hostTakes (hostLa line) x.1 x.2 | none => s
  (s.emit (.d2hRsp r line (d.map Prod.fst) ((d.map Prod.snd).getD false))).snoopEnded line

/-- The end of a host snoop on a line that the slice holds (R223): the response, and the line's state after. -/
def finishSnoop (t : Txn) (s : State) : State :=
  let la := hostLa t.line
  match (s.dcFind la).filter fun e => e.2.hstate ≠ 0 with
  | none => (s.answerHost .rspIHitI t.line none).closeTxn t
  | some (_, x) =>
    let m := decide (x.hstate = 3)
    match t.kind with
    | .rdShared =>
      let left : Option SfEntry := match afterEvict t (s.dcSf la) with
        | some e => some { e with st := .shared, multi := true, fwd := 31 }
        | none => none
      let s := s.noteLate t (s.dcSf la)
      (((s.dcSetSf la left).dcUpdate la fun e => { e with hstate := 1 }).answerHost (if m then .rspSFwdM else .rspSHitSE) t.line
        (if m then some (x.data, x.poison) else none)).closeTxn t
    | .rdCur =>
      let d := t.data.getD x.data
      let fwd := m || decide (d ≠ x.data)
      ((s.readerDone t (s.dcSf la)).answerHost (if fwd then .rspVFwdV else .rspVHitV) t.line (if fwd then some (d, t.poison) else none)).closeTxn t
    | _ =>
      (((s.dcInvalidate la).breakRsv t.line none).answerHost (if m then .rspIFwdM else .rspIHitSE) t.line (if m then some (x.data, x.poison) else none)).closeTxn t

/-- The end of an eviction from the array (R242): an M line waits for its write-pull, an E line leaves with CleanEvictNoData, an S line
silently. -/
def finishEvict (t : Txn) (s : State) : State :=
  let la := hostLa t.line
  match s.dcHState la with
  | 3 =>
    let x := s.dcFind la
    (s.emit (.d2hReq .dirtyEvict t.line)).setTxn
      { t with phase := .writePull t.line, data := x.map (·.2.data), poison := (x.map (·.2.poison)).getD false }
  | 2 => ((s.dcInvalidate la).emit (.d2hReq .cleanEvictNoData t.line)).closeTxn t
  | _ => (s.dcInvalidate la).closeTxn t

/-- A cache-to-cache forward is counted (R228 Table 11). -/
def countFwd (t : Txn) (s : State) : State := if t.fwd && !t.evicted then s.bump Reg.SF_STAT_FWD else s

/-- The last act of a transaction for a host-memory line (R222 to R224, R235, R237). -/
def finishDc (t : Txn) (s : State) : State :=
  let la := hostLa t.line
  let nodata (zero : Bool) (s : State) : State :=
    let s := s.dcUpdate la fun e => if zero then { e with data := 0, poison := false, hstate := 3 } else { e with hstate := 3 }
    if zero then s.bump Reg.DC_STAT_ZERO else s
  match t.asker, t.kind with
  | .agent p a x, .atomic true aop size off operand bad =>
      let t := { t with poison := t.poison || bad }
      let r := atomicLine aop size off (t.data.getD 0) operand
      let s := ((s.dcSetSf la none).dcWriteData la (BitVec.allOnes 64) r.2 t.poison).breakRsv t.line (s.writerOf (.uc p a x))
      ((s.emit (.dat (agentPort s a) a x 0 (BitVec.ofNat 512 r.1) t.poison false)).answer t .goI false).closeTxn t
  | .agent _ _ _, .rdOwnNodata zero => ((nodata zero s).grant t (s.dcSf la)).closeTxn t
  | .agent _ _ _, _ => ((s.countFwd t).grant t (s.dcSf la)).closeTxn t
  | .host _, _ => s.finishSnoop t
  | .nc w, _ =>
      (((s.dcSetSf la none).breakRsv t.line (s.writerOf w)).postedDone w t.err).closeTxn t
  | .home, .backInv _ => s.finishEvict t
  | .home, k =>
      let s : State := match k with | .rdOwnNodata zero => nodata zero s | _ => s
      ((s.dcLock la t.ctx).modDc fun d => { d with done := d.done + 1 }).closeTxn t

/-- The home can serve a request for a line without asking any holder: nothing is open for it. -/
def lineFree (s : State) (line : Nat) (write : Bool) : Bool :=
  !s.pinned line && !s.moving line && (s.farLine? line).isNone && !s.putWaits line &&
    (match s.sfEntry line with
     | none => true
     | some e => !write && decide (e.st = .shared))

/-- A line of a page move has its data (R189): it is written at its destination, whose home takes it from every holder (R209), and the line is
free once the write is performed. -/
def finishCopy (t : Txn) (w : Waiter) (dst : Nat) (s : State) : State :=
  let d := t.data.getD 0
  let line := dst / 64
  let close (s : State) : State :=
    let ok := t.err.isNone && (s.postedOf w).2.isNone
    let s := s.modSf fun f => { f with posted := f.posted.filter fun p => p.who ≠ w }
    (((s.readerDone t (s.sfEntry t.line)).lineCopied w ok).wakeUp w).closeTxn t
  let out := (s.sf.txns.any fun x => decide (x.line = line ∧ x.asker = .nc w)) || s.sf.held.any fun h => decide (h.line = line ∧ h.asker = .nc w)
  let t := { t with fwd := false }
  if out then s.setTxn { t with phase := .place }
  else if t.decided then close s
  else if !s.lineFree line true || !s.canTake line (.ncWrite 0 0 false) (.nc w) then
    ((s.setTxn { t with phase := .place, decided := true }).postWrite w).addHomeTxn line (.ncWrite (BitVec.allOnes 64) d t.poison) (.nc w)
  else match regionOf dst with
    | .tier2 p => (s.setTxn { t with phase := .writing, owes := 1, decided := true }).dnSend p line true (BitVec.allOnes 64) d t.poison (.txnWrite t.slice t.tag)
    | _ => close (((s.lateOver line (BitVec.allOnes 64)).writeLine line (BitVec.allOnes 64) d t.poison).breakRsv line none)

/-- The last act of a transaction, once its data is at hand and its writes are performed. -/
def finishTxn (t : Txn) (s : State) : State :=
  let line := t.line
  let e := s.sfEntry line
  if isHostLine line then s.finishDc t else
  let s := s.countFwd t
  match t.asker with
  | .agent p a x =>
    match t.kind with
    | .atomic true aop size off operand bad =>
      let t := { t with poison := t.poison || bad }
      let r := atomicLine aop size off (t.data.getD 0) operand
      let s := s.sfWrite line (some { tag := sfTag line, st := .excl, host := false, multi := false, fwd := 30 })
      let s := (s.putFar t.slice line r.2 t.poison).breakRsv line (s.writerOf (.uc p a x))
      ((s.emit (.dat (agentPort s a) a x 0 (BitVec.ofNat 512 r.1) t.poison false)).answer t .goI false).closeTxn t
    | _ => (s.grant t e).closeTxn t
  | .host tag =>
    match t.kind with
    | .memShared =>
      let d := t.data.getD 0
      let s := if t.keptF then s.noteLate t e else s
      let s : State := match afterEvict t e with
        | none => s.sfWrite line (some { tag := sfTag line, st := .shared, host := true, multi := false, fwd := 31 })
        | some x =>
          if x.st = .hostx then s
          else if t.keptF ∧ (x.st = .excl ∨ x.st = .fwd) then s.sfWrite line (some { x with st := .fwd, host := true })
          else if (x.st = .excl ∨ x.st = .fwd) ∧ !t.fwd then
            s.sfWrite line (some { tag := sfTag line, st := .shared, host := true, multi := x.multi, fwd := 31 })
          else s.sfWrite line (some { x with host := true })
      (s.emit (.memData tag d t.poison .s)).closeTxn t
    | .memOwn =>
      let s := s.sfWrite line (some { tag := sfTag line, st := .hostx, host := true, multi := false, fwd := 31 })
      (s.emit (.memData tag (t.data.getD 0) t.poison .a)).closeTxn t
    | .memCur => ((s.readerDone t e).emit (.memData tag (t.data.getD 0) t.poison .i)).closeTxn t
    | .memClean =>
      let s : State := match e with
        | some x => s.sfWrite line (if x.st = .hostx ∨ (x.st = .shared ∧ !x.multi) then none else some { x with host := false })
        | none => s
      (s.emit (.memCmp tag .i)).closeTxn t
    | .memWrite mv _ _ _ =>
      let s : State := match e with
        | some x => if x.st = .hostx then (if mv = .a then s else s.sfWrite line none) else s.sfWrite line none
        | none => s
      ((s.breakRsv line none).emit (.memCmp tag .i)).closeTxn t
    | _ => s.closeTxn t
  | .nc w =>
    match t.kind with
    | .ncRead =>
      (((s.readerDone t e).modSf fun f => { f with got := f.got ++ [{ who := w, line := line, data := some (t.data.getD 0), poison := t.poison }] }).wakeUp w).closeTxn t
    | .moveLine dst => s.finishCopy t w dst
    | .atomic true aop size off operand bad =>
      let t := { t with poison := t.poison || bad }
      let old := t.data.getD 0
      let r := atomicLine aop size off old operand
      let s := s.sfWrite line (some { tag := sfTag line, st := .excl, host := false, multi := false, fwd := 30 })
      let s := (s.putFar t.slice line r.2 t.poison).breakRsv line none
      ((s.modSf fun f => { f with got := f.got ++ [{ who := w, line := line, data := some (BitVec.ofNat 512 r.1), poison := t.poison }] }).wakeUp w).closeTxn t
    | _ => (((s.sfWrite line none).breakRsv line (s.writerOf w)).postedDone w t.err).closeTxn t
  | .home =>
    match t.kind with
    | .backInv _ =>
      let s := ((s.sfWrite line none).bump Reg.SF_STAT_BI).closeTxn t
      -- an ADVISE may wait for the lines of its page (R195)
      s.qe.works.foldl (fun s w => s.wakeUp (.work w.id)) s
    | _ => s.closeTxn t

/-- The request must have the line's current bytes at the home. -/
def wantsData (t : Txn) : Bool :=
  match t.kind with
  | .rdShared | .rdOwn _ | .rdCur | .atomic false _ _ _ _ _ => !t.direct
  | .atomic true _ _ _ _ _ | .ncRead | .moveLine _ | .memShared | .memOwn | .memCur => true
  | _ => false

/-- The bytes the transaction writes to memory: dirty data received at the home, merged under a write (R209), or the
request's own write. -/
def ownWrite (t : Txn) : Option (BitVec 64 × Line × Bool) :=
  match t.kind with
  | .ncWrite mask d p | .memWrite _ mask d p =>
    if t.dirty then (match t.data with
      | some old => some (BitVec.allOnes 64, mergeLine mask d old, p || (t.poison && mask ≠ BitVec.allOnes 64))
      | none => some (mask, d, p))
    else if mask = 0 then none else some (mask, d, p)
  | .rdOwnNodata _ => none
  | .backInv discard => if discard || !t.dirty then none else t.data.map fun d => (BitVec.allOnes 64, d, t.poison)
  | .atomic true _ _ _ _ _ => none
  | _ => if t.dirty then t.data.map fun d => (BitVec.allOnes 64, d, t.poison) else none

/-- Reads the line from memory for a transaction (R209): at once in tier 1, through the expander in tier 2. -/
def readMemory (t : Txn) (s : State) : State :=
  if isHostLine t.line then
    match s.dcFind (hostLa t.line) with
    | some (_, e) => s.finishTxn { t with data := some e.data, poison := t.poison || e.poison }
    | none => s.finishTxn { t with data := some 0, poison := true }
  else match s.placeOf (64 * t.line) with
  | .at da =>
    match regionOf da with
    | .tier2 p => (s.setTxn { t with phase := .memory }).dnSend p (da / 64) false 0 0 false (.txnRead t.slice t.tag)
    | _ => s.finishTxn { t with data := some (s.memLine (da / 64)), poison := t.poison || s.poisoned (da / 64) }
  | .zero => s.finishTxn { t with data := some 0 }
  | .lost => s.finishTxn { t with data := some 0, poison := true }
  | .packed page => (s.setTxn { t with phase := .place }).modCh fun c => { c with pageWait := addNew (page, Waiter.recorder) c.pageWait }
  | _ => (s.raise Reg.CH Err.CH_MAP_HOLE (Capture.agent (64 * t.line) 0 (askerAgent t.asker))).failTxn t St.DEVICE_ERROR

/-- Goes on with a transaction whose snoops are answered: writes what is to be written, reads what is to be read,
finishes. -/
def proceed (t : Txn) (s : State) : State :=
  if t.owes = 0 ∧ t.phase ≠ .writing ∧ (ownWrite t).isSome then
    let w := (ownWrite t).getD (0, 0, false)
    match s.homeWrite t w.1 w.2.1 w.2.2 with
    | (.done, s) =>
      let t := { t with dirty := false }
      if wantsData t && t.data.isNone then s.readMemory t else s.finishTxn t
    | (.waits, s) => s.setTxn { t with phase := .writing, owes := 1, dirty := false }
    | (.blocked .full, s) => (s.raise Reg.CH Err.CH_PLACE_FULL (Capture.agent (64 * t.line) 1 (askerAgent t.asker))).failTxn t St.PLACE_FULL
    | (.blocked .lost, s) => s.failTxn t St.DATA_ERROR
    | (.blocked (.packed page), s) => (s.setTxn { t with phase := .place }).modCh fun c => { c with pageWait := addNew (page, Waiter.recorder) c.pageWait }
    | (.blocked .unzeroed, s) => s.setTxn { t with phase := .place }
    | (.blocked _, s) => (s.raise Reg.CH Err.CH_MAP_HOLE (Capture.agent (64 * t.line) 1 (askerAgent t.asker))).failTxn t St.DEVICE_ERROR
  else if wantsData t && t.data.isNone then s.readMemory t
  else s.finishTxn t

/-- Starts the transaction at the head of its line (R209, R213, R214): the lookup, the way, the snoops. -/
def startHome (t : Txn) (s : State) : State :=
  let isFar := match t.kind with | .atomic true _ _ _ _ _ => true | _ => false
  match (if isFar then s.farLine? t.line else none) with
  | some (d, p) =>
    -- the line is in the far-atomic buffer: the operation is performed there (R225)
    s.finishTxn { t with data := some d, poison := t.poison || p }
  | none =>
    let s := s.releaseFar t.line
    if s.putWaits t.line then s.setTxn { t with phase := .queued }
    else match (if isFar then s.placeForWrite (64 * t.line) s.defaultTier else (.zero, s)) with
      -- an atomic is a write: its page is there before it is performed (R185)
      | (.full, s) => (s.raise Reg.CH Err.CH_PLACE_FULL (Capture.agent (64 * t.line) 2 (askerAgent t.asker))).failTxn t St.PLACE_FULL
      | (.unzeroed, s) => s.setTxn { t with phase := .queued }
      | (.packed page, s) => (s.setTxn { t with phase := .queued }).modCh fun c => { c with pageWait := addNew (page, Waiter.recorder) c.pageWait }
      | (_, s) =>
        match s.sfFind t.line with
        | some (k, e) =>
          let s := s.sfTouch k
          let plan := snoopPlan t.kind (some e) (askerAgent t.asker) s.portOn
          if t.kind matches .memWrite _ _ _ _ ∧ e.st = .hostx then s.proceed t
          else if plan.1 = [] ∧ plan.2 = none then s.proceed t
          else s.sendSnoops t plan
        | none =>
          if !needsEntry t.kind || t.way.isSome then s.proceed t
          else match s.sfWay t.line with
            | .free k =>
              let t := { t with way := some k }
              (s.setTxn t).proceed t
            | .victim k =>
              (match Map.find? k s.sf.entries with
               | some e => (s.setTxn { t with phase := .needWay }).addVictim t (sfLine (k / 16 % 32768) e.tag)
               | none => s)
            | .none => s.setTxn { t with phase := .needWay }

/-- Applies an answer once all that was awaited has come, and what a holder wrote back is in memory. -/
def checkAnswers (t : Txn) (s : State) : State :=
  if t.snoops = [] ∧ !t.needDat ∧ t.early.isNone ∧ !s.putWaits t.line then s.proceed { t with phase := .queued } else s.setTxn t

/-! ### Non-caching accesses (R209) -/

/-- What a non-caching read of a line finds. -/
inductive LineRead where
  | data (d : Line) (poison : Bool)
  | waits
  | fails (status : Nat)

/-- A non-caching read of a line for a waiter (R209): memory at once where no holder need be asked and the home has an entry for it, else a
transaction whose data the waiter finds when it is tried again. -/
def ncRead (w : Waiter) (line : Nat) (s : State) : LineRead × State :=
  match s.sf.got.find? fun g => decide (g.who = w ∧ g.line = line) with
  | some g => (match g.data with | some d => .data d g.poison | none => .fails (if g.status = 0 then St.DEVICE_ERROR else g.status), s)
  | none =>
    if (s.sf.txns.any fun t => decide (t.line = line) && decide (t.asker = .nc w)) ||
        (s.sf.held.any fun h => decide (h.line = line) && decide (h.asker = .nc w)) then (.waits, s)
    else
      let slow (s : State) : LineRead × State := (.waits, s.addHomeTxn line .ncRead (.nc w))
      let seen : State := if sampled (.nc w) then s.sampleLine line else s
      if !s.lineFree line false || !s.canTake line .ncRead (.nc w) then slow s
      else match s.placeOf (64 * line) with
        | .at da =>
          (match regionOf da with
           | .tier2 _ => slow s
           | _ => (.data (s.memLine (da / 64)) (s.poisoned (da / 64)), seen))
        | .zero => (.data 0 false, seen)
        | .lost => (.data 0 true, seen)
        | .packed page => (.waits, s.modCh fun c => { c with pageWait := addNew (page, w) c.pageWait })
        | _ => (.fails St.TRANSLATION_FAULT, s)

/-- A non-caching write of bytes of a line for a waiter (R209): performed at once where nothing stands in its way, else
posted to the line's tracker; the waiter's writes are counted until they are performed (R255). `hint` is the tier a first
write prefers (R185). The answer is a status if the write fails at once, and whether it must be tried again. -/
def ncWrite (w : Waiter) (line : Nat) (mask : BitVec 64) (data : Line) (poison : Bool) (hint : Nat) (s : State) : Option Nat × Bool × State :=
  if mask = 0 then (none, false, s) else
  match s.placeForWrite (64 * line) hint with
  | (.full, s) => (some St.PLACE_FULL, false, s.raise Reg.CH Err.CH_PLACE_FULL Capture.none)
  | (.lost, s) => (some St.DATA_ERROR, false, s)
  | (.hole, s) => (some St.TRANSLATION_FAULT, false, s)
  | (.unzeroed, s) => (none, true, s.modCh fun c => { c with frameWait := addNew w c.frameWait })
  | (.packed page, s) => (none, true, s.modCh fun c => { c with pageWait := addNew (page, w) c.pageWait })
  | (.zero, s) => (none, false, s)
  | (.at da, s) =>
    match regionOf da with
    | .tier2 _ => (none, false, (s.postWrite w).addHomeTxn line (.ncWrite mask data poison) (.nc w))
    | _ =>
      if s.lineFree line true && s.canTake line (.ncWrite mask data poison) (.nc w) then
        let s := if sampled (.nc w) then s.sampleLine line else s
        (none, false, ((s.lateOver line mask).writeLine (da / 64) mask data poison).breakRsv line (s.writerOf w))
      else (none, false, (s.postWrite w).addHomeTxn line (.ncWrite mask data poison) (.nc w))

end State

end Sys2Proof.Machine
end

