-- ==== Sys2Proof/Machine/DeviceCache.lean ====
section
/-! DEFINITION. The device cache (spec/08): the prefetcher (R238 to R240), requests and fills toward the host (R222, R241), host
snoops (R223), evictions (R242), the commands of DC_CMD (R235, R236), and the acceptance of requests at a home (R215, R216). -/

namespace Sys2Proof.Machine

/-- A prefetcher after reset: not started, its table empty (R360). -/
def Pref.reset : Pref := { regions := [], side := [], inFlight := [], thresh := 0, st := 0, retired := 0, used := 0, misses := 0 }

namespace State

def pref (s : State) (slice : Nat) : Pref := Map.getD Pref.reset slice s.dc.pref
def setPref (slice : Nat) (p : Pref) (s : State) : State := s.modDc fun d => { d with pref := Map.put Pref.reset slice p d.pref }

/-- A field in which 0 acts as 1 and a value above 8 as 8 (Table 5 of spec/08). -/
def clamp18 (n : Nat) : Nat := if n = 0 then 1 else min 8 n

/-- A prefetched line is retired, used or dropped; each 128th adjusts THRESH (R240). -/
def prefRetire (slice : Nat) (used : Bool) (s : State) : State :=
  let p := s.pref slice
  let p := { p with retired := p.retired + 1, used := p.used + b2n used }
  let p : Pref :=
    if p.retired < 128 then p
    else
      let q := { p with retired := 0, used := 0 }
      if 96 ≤ p.used then { q with thresh := max 1 (p.thresh - 1) }
      else if p.used < 32 then
        (if 8 ≤ p.thresh then { q with st := 2, misses := 0 } else { q with thresh := p.thresh + 1 })
      else q
  s.setPref slice p

/-- General tracker entries of a slice that are free (R212). -/
def generalFree (s : State) (slice : Nat) : Nat := 176 - countOf (fun t : Txn => decide (t.slice = slice ∧ t.tag < 176)) s.sf.txns

/-- Issues a prefetch of a line if it may be issued (R238). -/
def prefIssue (slice la : Nat) (s : State) : State :=
  if s.generalFree slice < 32 + (s.pref slice).inFlight.length then s
  else
    let p := s.pref slice
    ((s.setPref slice { p with inFlight := p.inFlight ++ [la] }).emit (.d2hReq .rdShared (hostLineOf la))).bump Reg.DC_STAT_PF_ISSUED

/-- The lines above `la` in its 64 KiB region that a prefetch can take, nearest first (R238). -/
def prefCandidates (s : State) (slice la : Nat) : List Nat :=
  let p := s.pref slice
  ((List.range (1023 - la % 1024)).map fun i => la + 1 + i).filter fun l =>
    decide (dcSlice s l = slice) && decide (s.dcHState l = 0) && !s.pinned (hostLineOf l) && !(p.side.any fun e => decide (e.1 = l)) && !decide (l ∈ p.inFlight)

/-- A demand miss as the prefetcher of the slice sees it (R238, R240, R360). -/
def prefMiss (slice la : Nat) (s : State) : State :=
  let p := s.pref slice
  let s : State :=
    if p.st = 0 then
      s.setPref slice (if 64 ≤ p.misses + 1 then
        { p with st := 1, misses := 0, thresh := clamp18 (s.regBits Reg.DC_CTRL 11 8) } else { p with misses := p.misses + 1 })
    else if p.st = 2 then
      s.setPref slice (if 4096 ≤ p.misses + 1 then { p with st := 1, misses := 0, thresh := 8 } else { p with misses := p.misses + 1 })
    else s
  let p := s.pref slice
  let region := la / 1024
  let old := (p.regions.find? fun r => decide (r.1 = region)).getD (region, 0, 0)
  let count := old.2.1 + 1
  let put (reach : Nat) (s : State) : State :=
    let p := s.pref slice
    s.setPref slice { p with regions := ((region, count, reach) :: p.regions.filter fun r => r.1 ≠ region).take 32 }
  if p.st ≠ 1 ∨ !s.regBit Reg.DC_CTRL 0 ∨ count < p.thresh then put old.2.2 s
  else
    let take := if count = p.thresh then (s.prefCandidates slice la).take (clamp18 (s.regBits Reg.DC_CTRL 7 4))
      else (s.prefCandidates slice (max la old.2.2)).take 1
    put (take.foldl max old.2.2) (take.foldl (fun s l => s.prefIssue slice l) s)

/-- A prefetched line arrives: it enters the side buffer, the oldest of 64 leaving it (R239). -/
def prefFill (slice la : Nat) (data : Line) (poison : Bool) (s : State) : State :=
  let p := s.pref slice
  let s := s.setPref slice { p with inFlight := p.inFlight.erase la, side := (if 64 ≤ p.side.length then p.side.drop 1 else p.side) ++ [(la, data, poison)] }
  if 64 ≤ p.side.length then s.prefRetire slice false else s

/-- Empties the side buffer of a slice (R247). -/
def prefDrop (slice : Nat) (s : State) : State :=
  let p := s.pref slice
  p.side.foldl (fun s _ => s.prefRetire slice false) (s.setPref slice { p with side := [] })

/-! ### Requests toward the host (R222) -/

/-- Finds the line of a request a way of its set (R234): an entry, empty until its fill; a unit's TAG, SHASH and CONTEXT stand in its head
(R231, R233). A victim is evicted first, line by line, under the request's own tracker entry, and its way is kept for the fill (R242). -/
def dcReserve (t : Txn) (s : State) : Bool × Txn × State :=
  let la := hostLa t.line
  let slice := dcSlice s la
  let blank : DcLine :=
    { tag := 0, lock := false, poison := false, hstate := 0, cstate := 3, multi := false, fwd := 31, shash := 0, ctx := 0, data := 0 }
  let key (w : Nat) : Nat := dcKey slice (s.dcSet slice la) w
  let empty (w : Nat) : Bool := (s.dcUnit slice la w).all fun e => decide (e.2.hstate = 0)
  match s.dcWay? slice la with
  | some w =>
    -- the unit is the line's: a unit that holds no line is filled for this request
    let h := s.dcHead slice la w
    let s := if empty w then (match Map.find? h s.dc.lines with | some e => s.dcPut h { e with ctx := t.ctx } | none => s) else s
    (true, { t with way := none }, if (s.dcFind la).isSome then s else s.dcPut (key w) blank)
  | none =>
    let kept : Option Nat := (t.way.map (· % 16)).filter fun w => !s.dcUnitLocked slice la w
    match (match kept with | some w => if empty w then DcWay.free w else .victim w | none => s.dcChoose s.pinned slice la) with
    | .free w =>
      let old := s.dcUnit slice la w
      let s := s.modDc fun d => { d with lines := old.foldl (fun l e => Map.erase e.1 l) d.lines }
      (true, { t with way := none }, (s.dcPut (key w) blank).dcPut (s.dcHead slice la w)
        { blank with tag := dcTagOf (s.dcMode slice) la, shash := if s.dcMode slice = 1 then sliceHash la else 0, ctx := t.ctx })
    | .victim w =>
      let t := { t with way := some (s.dcHead slice la w) }
      (match (s.dcUnit slice la w).find? fun e => decide (e.2.hstate ≠ 0) with
       | some e => (false, t, s.addVictim t (hostLineOf (dcLineAt s e.1)))
       | none => (false, t, s))
    | .none => (false, { t with way := none }, s)

/-- The request is a demand of an agent, which hits and misses count (R238). -/
def isDemand (t : Txn) : Bool := match t.asker with | .agent _ _ _ | .nc _ => true | _ => false

/-- A prefetched line serves a request: it is counted as useful at a demand use (R239), and it is retired (R240). -/
def prefUsed (t : Txn) (s : State) : State :=
  (if isDemand t then s.bump Reg.DC_STAT_PF_USEFUL else s).prefRetire t.slice (isDemand t)

/-- A side-buffer line that is used moves into the array, in S (R239). -/
def dcFromSide (t : Txn) (s : State) : Bool × Txn × State :=
  let la := hostLa t.line
  let p := s.pref t.slice
  match p.side.find? fun e => decide (e.1 = la) with
  | none => (true, t, s)
  | some e =>
    match s.dcReserve t with
    | (false, t, s) => (false, t, s)
    | (true, t, s) =>
      let s := s.setPref t.slice { p with side := p.side.filter fun x => x.1 ≠ la }
      (true, t, (s.dcUpdate la fun x => { x with data := e.2.1, poison := e.2.2, hstate := 1 }).prefUsed t)

/-- Goes on at the chip's side of a slice once the line stands as the request needs it (R222). A SnpCur asks an EXCL holder only
(R223). A hit or a fill points the tree away from its way, an eviction or a snoop does not (R234). -/
def dcChip (t : Txn) (s : State) : State :=
  let la := hostLa t.line
  let uses := match t.asker, t.kind with | .host _, _ | _, .backInv _ => false | _, _ => true
  let s : State := if uses then (match s.dcFind la with | some (k, _) => s.dcTouch k | none => s) else s
  let s : State := if isDemand t && !t.missed then s.bump Reg.DC_STAT_HIT else s
  let e := s.dcSf la
  let quiet : Bool := match t.asker, t.kind with
    | .host _, .rdCur => decide ((e.map (·.st)) = some .fwd)
    | _, _ => false
  let plan := if quiet then ([], none) else snoopPlan t.kind e (askerAgent t.asker) s.portOn
  if plan.1 = [] then s.proceed t else s.sendSnoops t (plan.1, none)

/-- Sends a request to the host for a transaction (R222 Table 7). A host snoop that waits behind it is served first (R223). -/
def askHost (k : D2h) (t : Txn) (s : State) : State :=
  let snoop (x : Txn) : Bool := decide (x.line = t.line) && (match x.asker with | .host _ => true | _ => false)
  let s := s.modSf fun f => { f with txns := f.txns.filter snoop ++ f.txns.filter fun x => !snoop x }
  let s : State := if isDemand t && !t.missed && decide (s.dcHState (hostLa t.line) = 0) then
      (s.bump Reg.DC_STAT_MISS).prefMiss t.slice (hostLa t.line) else s
  (s.emit (.d2hReq k t.line)).setTxn { t with phase := .hostReq k, missed := t.missed || decide (s.dcHState (hostLa t.line) = 0) }

/-- The request waits for another miss in its line's set, open from the eviction of its victim on: with MISS_MODE 0 every request does, with
MISS_MODE 1 a second miss (R241). -/
def setBusy (t : Txn) (s : State) : Bool :=
  let la := hostLa t.line
  let set (la : Nat) : Nat := s.dcHead t.slice la 0
  !t.missed && (decide (s.dcHState la = 0) || !s.missMode la) && s.sf.txns.any fun x =>
    isHostLine x.line && decide (x.slice = t.slice ∧ x.line ≠ t.line) && decide (set (hostLa x.line) = set la) &&
      (match x.phase with
       | .hostReq _ => x.missed
       | .needWay => x.way.isSome && t.way.isNone && decide (x.way ≠ (s.dcFind la).map fun e => dcHeadKey s e.1)
       | _ => false)

/-- Serves a request of the chip or of PRELOAD_LOCK at a host line: the line comes from the side buffer, from a prefetch that is out, or
from the host, unless the slice has it as the request needs it (R222, R234, R239). -/
def serveDc (t : Txn) (s : State) : State :=
  let la := hostLa t.line
  if s.setBusy t then s.setTxn { t with phase := .queued }
  else match (if s.dcHState la = 0 then s.dcFromSide t else (true, t, s)) with
  | (false, t, s) => s.setTxn { t with phase := .needWay }
  | (true, t, s) =>
    let out := decide (s.dcHState la = 0 ∧ la ∈ (s.pref t.slice).inFlight)
    match hostNeed t.kind (s.dcHState la) with
    | none => s.dcChip t
    | some d =>
      if d = .rdCurr ∧ !out then s.askHost d t
      else match s.dcReserve t with
      | (false, t, s) => s.setTxn { t with phase := .needWay }
      | (true, t, s) =>
        if out then
          let p := s.pref t.slice
          ((s.setPref t.slice { p with inFlight := p.inFlight.erase la }).prefUsed t).setTxn { t with phase := .hostReq .rdShared, missed := true }
        else s.askHost d t

/-- A host snoop of a line that the array does not hold (R223): the side buffer answers it as an S line, and SnpInv removes it there (R239). -/
def snoopAside (la : Nat) (k : TxnKind) (s : State) : State :=
  let line := hostLineOf la
  let slice := dcSlice s la
  let p := s.pref slice
  if !(p.side.any fun e => decide (e.1 = la)) then s.answerHost .rspIHitI line none
  else match k with
    | .rdShared => s.answerHost .rspSHitSE line none
    | .rdCur => s.answerHost .rspVHitV line none
    | _ => ((s.setPref slice { p with side := p.side.filter fun e => e.1 ≠ la }).prefRetire slice false).answerHost .rspIHitSE line none

/-- Starts, or goes on with, the transaction at the head of a host line (R222, R223, R235, R242). -/
def startDc (t : Txn) (s : State) : State :=
  let la := hostLa t.line
  match t.asker, t.kind with
  | .host _, k => if s.dcHState la = 0 then (s.snoopAside la k).closeTxn t else s.dcChip t
  | .home, .backInv _ =>
    -- a listed line that has left the array meanwhile is flushed no more (R236)
    if t.tag < 256 ∧ s.dc.cmdLeft = 2 ∧ s.dc.cmdKeys.head? = some la then s.closeTxn t
    else if s.dcHState la = 0 then s.finishEvict t else s.dcChip t
  | .home, _ =>
    -- a line already present is locked where it lies (R235)
    if s.dcHState la ≠ 0 ∧ !t.missed then ((s.dcLock la t.ctx).modDc fun d => { d with done := d.done + 1 }).closeTxn t else s.serveDc t
  | _, _ => s.serveDc t

/-- The transaction of a line that awaits the host in a phase. -/
def hostTxn? (s : State) (line : Nat) (p : TxnPhase → Bool) : Option Txn := s.sf.txns.find? fun t => decide (t.line = line) && p t.phase

/-- A message that no rule permits is discarded and sets PROTOCOL (R220). -/
def protocolErr (line : Nat) (s : State) : State :=
  s.raise Reg.SF Err.SF_PROTOCOL { Capture.none with addr := w64 (64 * line), space := 1, cls := 3 }

/-- The HSTATE of a grant (R222). -/
def grantState : Grant → Nat
  | .s => 1
  | .e => 2
  | .m => 3

/-- A host line arrives (R241): it fills its way, or the requester of a RdCurr, or the side buffer. -/
def hostFill (la : Nat) (g : Grant) (data : Line) (poison : Bool) (s : State) : State :=
  let line := hostLineOf la
  let slice := dcSlice s la
  match s.hostTxn? line fun p => match p with | .hostReq .rdShared | .hostReq .rdOwn | .hostReq .rdCurr => true | _ => false with
  | some t =>
    if t.phase = .hostReq .rdCurr then s.proceed { t with data := some data, poison := poison, phase := .queued }
    else if t.phase = .hostReq .rdOwn ∧ g = .s then s.protocolErr line
    else
      let s := s.dcUpdate la fun e => { e with data := data, poison := poison, hstate := grantState g }
      s.startDc { t with phase := .queued }
  | none =>
    if la ∈ (s.pref slice).inFlight then s.prefFill slice la data poison else s.protocolErr line

/-- The host grants ownership without data (R222). A line that a snoop took away meanwhile is fetched. -/
def hostGo (la : Nat) (g : Grant) (s : State) : State :=
  let line := hostLineOf la
  match s.hostTxn? line fun p => decide (p = .hostReq .rdOwnNoData) with
  | none => s.protocolErr line
  | some t =>
    if g = .s then s.protocolErr line
    else
      let whole := match t.kind with
        | .rdOwnNodata _ => true
        | .ncWrite mask _ _ => decide (mask = BitVec.allOnes 64)
        | _ => false
      if s.dcHState la = 0 ∧ !whole then s.askHost .rdOwn { t with missed := true }
      else (s.dcUpdate la fun e => { e with hstate := grantState g }).startDc { t with phase := .queued }

/-- The host pulls an evicted line (R242): the data goes, and the way is free. A fill's victim is counted. -/
def writePull (la : Nat) (s : State) : State :=
  let line := hostLineOf la
  match s.hostTxn? line fun p => match p with | .writePull _ => true | _ => false with
  | none => s.protocolErr line
  | some t =>
    let s := (s.hostTakes la (t.data.getD 0) t.poison).emit (.d2hData line (t.data.getD 0) t.poison)
    let s := if 256 ≤ t.tag then s.bump Reg.DC_STAT_DIRTY_VICTIM else s
    (s.dcInvalidate la).closeTxn t

/-- A host snoop (R223). It takes a reserved entry (R212), and it is not held behind a request of the slice that itself waits for the host. A
demand that came before it for a side-buffer line has that line first (R239). -/
def hostSnoop (la : Nat) (k : TxnKind) (s : State) : State :=
  let line := hostLineOf la
  let slice := dcSlice s la
  let first := (s.openTxn? line).filter fun o =>
    decide (s.dcHState la ≠ 0) || (((s.pref slice).side.any fun e => decide (e.1 = la)) && decide (o.phase = .queued ∨ o.phase = .needWay))
  if !s.homeReady slice line then s.hold slice line k (.host 0) none 0 0
  else if s.dcHState la = 0 && first.isNone then s.snoopAside la k
  else
    match s.reservedTag slice with
    | none => s.hold slice line k (.host 0) none 0 0
    | some tag =>
      let t := newTxn slice tag line k (.host 0) none s.now
      match first with
      | none => (s.addTxn t).startDc t
      | some o =>
        if o.phase = .snooping ∨ s.dcHState la = 0 then s.addTxn t
        else ((s.addTxn t).modSf fun f => { f with txns := t :: f.txns.filter (· ≠ t) }).startDc t

/-! ### Commands (R235, R236) -/

/-- LOCK_MAX of a slice (Table 6 of spec/08). -/
def lockMax (s : State) (slice : Nat) : Nat := min 12 (s.regBits (Reg.DC_SLICE_CFG + 8 * slice) 11 8)

def dcDone (refused : Bool) (s : State) : State :=
  if refused then (s.modDc fun d => { d with denied := d.denied + 1 }).bump Reg.DC_STAT_LOCK_REFUSED
  else s.modDc fun d => { d with done := d.done + 1 }

/-- One line of PRELOAD_LOCK (R235). -/
def preloadLine (la : Nat) (s : State) : State :=
  let slice := dcSlice s la
  let arg := s.dc.cmdArg
  let kind : TxnKind := if bit arg 5 then .rdOwnNodata true else if bit arg 4 then .rdOwn none else .rdShared
  let locked := match s.dcWay? slice la with | some w => s.dcUnitLocked slice la w | none => false
  let room := decide (s.dcLocked slice la < s.lockMax slice)
  if !locked && !room then s.dcDone true
  else if s.dcHState la ≠ 0 then (s.dcLock la (bits arg 31 20)).dcDone false
  else s.addHomeTxnFor (bits arg 31 20) (hostLineOf la) kind .home

/-- A line of UNLOCK (R235): its unit keeps its lines, and an empty way is free again. -/
def unlockLine (la : Nat) (s : State) : State :=
  let slice := dcSlice s la
  let unlock (w : Nat) : State :=
    let h := s.dcHead slice la w
    match Map.find? h s.dc.lines with
    | some e => (s.dcPut h { e with lock := false }).dcTidy slice la w
    | none => s
  (match s.dcWay? slice la with | some w => unlock w | none => s).dcDone false

/-- Clears the locks of the entries whose keys satisfy `p`; a way left without a line is free (R235, R236). -/
def dcUnlock (p : Nat → Bool) (s : State) : State :=
  let mine := s.dc.lines.filter fun e => p e.1
  let empty (k : Nat) : Bool := !(mine.any fun e => decide (dcHeadKey s e.1 = dcHeadKey s k) &&
    (decide (e.2.hstate ≠ 0) || s.pinned (hostLineOf (dcLineAt s e.1))))
  let unlocked := Map.mapVals (fun k e => if p k then { e with lock := false } else e) s.dc.lines
  s.modDc fun d => { d with lines := Map.keep (fun k _ => !(p k && empty k)) unlocked }

/-- The lines of the entries whose keys satisfy `p`. -/
def dcHeld (s : State) (p : Nat → Bool) : List Nat :=
  (s.dc.lines.filter fun e => p e.1 && decide (e.2.hstate ≠ 0)).map fun e => dcLineAt s e.1

/-- Gathers the lines of a flush, their locks cleared (R236). -/
def flushLines (p : Nat → Bool) (s : State) : State :=
  let keys := s.dcHeld p
  (s.dcUnlock p).modDc fun d => { d with cmdKeys := keys, cmdLeft := 0 }

/-- The lines of some entries leave the array, their locks cleared, in no command of DC_CMD (R393, R411). -/
def evictLines (p : Nat → Bool) (s : State) : State :=
  (s.dcHeld p).foldl (fun s la => s.addHomeTxn (hostLineOf la) (.backInv false) .home) (s.dcUnlock p)

/-- Starts the command written to DC_CMD, or refuses it (R236). -/
def dcCommand (code : Nat) (arg : Word) (s : State) : State :=
  if code = 0 ∨ 4 < code then s
  else if s.dc.cmd ≠ 0 then s.modDc fun d => { d with refused := true }
  else
    let la := (s.reg Reg.DC_CMD_ADDR).toNat / 64
    let n := s.regBits Reg.DC_CMD_LEN 31 0
    let s := s.modDc fun d => { d with cmd := code, cmdArg := arg, refused := false, done := 0, denied := 0, cmdKeys := [], cmdAddr := la, cmdLeft := 0 }
    match code with
    | 1 => s.modDc fun d => { d with cmdLeft := n }
    | 2 => (List.range n).foldl (fun s i => s.unlockLine (la + i)) s
    | 3 =>
      let s := (List.range 16).foldl (fun s n => if bit arg (32 + n) then s.prefDrop n else s) s
      s.flushLines fun k => bit arg (32 + k / 65536)
    | _ => s.flushLines fun k => decide (s.dcCtx k = bits arg 31 20)

/-- The running command still waits for its current line. -/
def dcWaiting (s : State) : Bool :=
  let open_ (p : Nat → TxnKind → Bool) : Bool :=
    (s.sf.txns.any fun t => decide (t.asker = .home ∧ t.tag < 256) && isHostLine t.line && p t.line t.kind) ||
      (s.sf.held.any fun h => decide (h.asker = .home) && isHostLine h.line && p h.line h.kind)
  let evicts : TxnKind → Bool
    | .backInv _ => true
    | _ => false
  match s.dc.cmd with
  | 1 => open_ fun _ k => !evicts k
  | _ => match s.dc.cmdKeys with
    | la :: _ => decide (s.dc.cmdLeft ≠ 0) && open_ fun l k => decide (l = hostLineOf la) && evicts k
    | [] => false

/-- The running command has lines left. -/
def dcMore (s : State) : Bool :=
  match s.dc.cmd with
  | 1 => decide (s.dc.cmdLeft ≠ 0)
  | 3 | 4 => !s.dc.cmdKeys.isEmpty
  | _ => false

/-- One line of the running command (R235, R236). -/
def dcNext (s : State) : State :=
  match s.dc.cmd with
  | 1 => (s.modDc fun d => { d with cmdAddr := d.cmdAddr + 1, cmdLeft := d.cmdLeft - 1 }).preloadLine s.dc.cmdAddr
  | _ => match s.dc.cmdKeys with
    | la :: rest =>
      if s.dc.cmdLeft ≠ 0 ∨ s.dcHState la = 0 then (s.modDc fun d => { d with cmdKeys := rest, cmdLeft := 0 }).dcDone false
      else (s.modDc fun d => { d with cmdLeft := 1 }).addHomeTxn (hostLineOf la) (.backInv false) .home
    | [] => s

/-- DC_CMD ends (R232, R236): BUSY clears, and a FLUSH applies each pending MODE, once the lines that requests brought in meanwhile are
flushed too. -/
def dcEnd (s : State) : State :=
  if s.dc.cmd = 0 ∨ s.dcWaiting ∨ s.dcMore then s
  else if s.dc.cmd ≠ 3 then s.modDc fun d => { d with cmd := 0 }
  else
    let pend := (List.range 16).filter fun n => bit s.dc.cmdArg (32 + n) && decide (s.regBits (Reg.DC_SLICE_CFG + 8 * n) 0 0 ≠ s.dcMode n)
    if s.dc.lines.any fun e => decide (e.1 / 65536 ∈ pend) then s.flushLines fun k => decide (k / 65536 ∈ pend)
    else s.modDc fun d => { d with cmd := 0, mode := pend.foldl (fun m n => Map.put 0 n (1 - Map.getD 0 n m) m) d.mode }

/-! ### Accepting requests -/

/-- Refuses an agent's request with RETRY and a Bullpen credit, or keeps it in the stop's ingress when none is free (R215,
R216). -/
def retryReq (slice line : Nat) (k : TxnKind) (a : Asker) (ctx off : Nat) (s : State) : State :=
  match a, s.bullpenFree slice with
  | .agent _ g x, some n =>
    let due := s.now + 1000 * max 1 (s.regBits Reg.SF_CTRL 47 40)
    let s := (s.modSf fun f => { f with credits := f.credits ++ [{ slice := slice, num := n, agent := g, due := due }] }).bump Reg.SF_STAT_RETRY
    s.emit (.rsp (agentPort s g) g x .retry false false n)
  | _, _ => s.hold slice line k a none ctx off

/-- An agent's request at its home (R215, R216): the entry of its valid credit, a general entry, or RETRY. A credit is valid for the agent
that it was given to. -/
def agentRequest (slice line : Nat) (k : TxnKind) (p g x : Nat) (credit : Option Nat) (ctx off : Nat) (s : State) : State :=
  let a := Asker.agent p g x
  let txn (tag : Nat) (c : Option Nat) (s : State) : State := s.addTxn { newTxn slice tag line k a c s.now with ctx := ctx, off := off }
  match credit.bind fun n => s.sf.credits.find? fun c => decide (c.slice = slice ∧ c.num = n ∧ c.agent = g) with
  | some c => txn (176 + c.num) (some c.num) (s.modSf fun f => { f with credits := f.credits.filter (· ≠ c) })
  | none =>
    match (if s.allPinned line k then none else s.generalTag slice) with
    | some tag => txn tag none s
    | none => s.retryReq slice line k a ctx off

/-- Accepts a request at its home (R212, R215, R216). A request with a valid credit cannot be refused; another waits behind what its ingress
holds for the slice, and every one for a slice that sleeps (R268). -/
def accept (line : Nat) (k : TxnKind) (a : Asker) (credit : Option Nat) (ctx off : Nat) (s : State) : State :=
  let slice := s.sliceOf line
  match a with
  | .agent p g x =>
    if (credit.isNone && s.heldBefore slice a) || !s.homeReady slice line then s.hold slice line k a credit ctx off
    else s.agentRequest slice line k p g x credit ctx off
  | _ => s.addHomeTxnFor ctx line k a

end State

end Sys2Proof.Machine
end

