-- ==== Sys2Proof/Machine/IplSend.lean ====
section
/-! DEFINITION. The sending side of Ilura Peer Link: routes (R275), packets and their cutting at 1 KiB (R277, R278), the
sender's states (R288), credits (R284), and reads and writes of a peer for a waiter (R292). -/

namespace Sys2Proof.Machine

namespace State

def plPort (s : State) (p : Nat) : PlPort := Map.getD PlPort.reset p s.pl.ports
def setPlPort (p : Nat) (v : PlPort) (s : State) : State := s.modPl fun q => { q with ports := Map.put PlPort.reset p v q.ports }
def plTx (s : State) (node flow : Nat) : PlTx := Map.getD PlTx.reset (node * 128 + flow) s.pl.tx
def setPlTx (node flow : Nat) (v : PlTx) (s : State) : State :=
  s.modPl fun q => { q with tx := Map.put PlTx.reset (node * 128 + flow) v q.tx }

/-- A port carries traffic: IPL in service, the port enabled, its link trained (R270). -/
def plUp (s : State) (p : Nat) : Bool :=
  s.regBit Reg.PL_CTRL 0 && s.regBit Reg.PL_CTRL (4 + p) && (s.plPort p).linkUp

/-- A port is up for R275 also while its link trains again: its flows move when that fails (R271). -/
def plUsable (s : State) (p : Nat) : Bool :=
  s.plUp p || (s.regBit Reg.PL_CTRL 0 && s.regBit Reg.PL_CTRL (4 + p) && (s.plPort p).retrain)

/-- The usable ports toward a node, ascending (R275). -/
def plRoute (s : State) (node : Nat) : List Nat :=
  (List.range 4).filter fun p => (Map.getD 0 node s.pl.routes).testBit p && s.plUsable p

/-- The port of a flow's requests to a node (R275). -/
def plPortFor (s : State) (node flow : Nat) : Option Nat :=
  let l := s.plRoute node
  if l = [] then none else l[(flow + node) % l.length]?

/-- The credit class of an opcode (R284 Table 5). -/
def plClass : IplOp → Nat
  | .write | .read | .atomic | .sync => 0
  | .reduceWrite => 1
  | .rdata | .atomicData => 2
  | .cmp | .nak => 3

/-- This block's node id (R274). -/
def plNode (s : State) : Nat := s.regBits Reg.PL_CTRL 63 56

/-- Puts a packet on a port, or holds it for credits of its class, behind those held before it (R284), or for a link that trains again (R271). -/
def plPut (port : Nat) (cls : Nat) (cost : Nat) (m : Msg) (s : State) : State :=
  let s := (s.touch (Dom.plLogic port)).touch (Dom.plIf port)
  let p := s.plPort port
  let have_ := p.credits.getD cls 0
  if p.linkUp ∧ cost ≤ have_ ∧ !(p.held.any fun h => decide (h.1 = cls)) then
    (s.setPlPort port { p with credits := p.credits.set cls (have_ - cost) }).emit m
  else s.setPlPort port { p with held := p.held ++ [(cls, cost, m)] }

/-- Transmits a numbered request of a pair on the port that R275 selects. -/
def plTransmit (node flow : Nat) (x : PlSent) (s : State) : State :=
  match s.plPortFor node flow with
  | none => s
  | some port =>
    s.plPut port (plClass x.op) (1 + x.payload.length)
      (.ipl port x.op node s.plNode flow x.seq false 0 x.subop x.len x.addr x.payload x.poison)

/-- Bytes of a port's retransmit buffer that unanswered requests take (R288). -/
def plBuffered (s : State) (port : Nat) : Nat :=
  s.pl.tx.foldl (fun n e => n + sumOf (fun x : PlSent => if x.port = port then 16 + 64 * x.payload.length else 0) e.2.unacked) 0

/-- Sends a request of a pair for the first time. -/
def plFirst (node flow : Nat) (y : PlSent) (s : State) : State :=
  let tx := s.plTx node flow
  let s := s.setPlTx node flow { tx with unacked := tx.unacked ++ [y], since := if tx.unacked = [] then s.now else tx.since }
  (s.plTransmit node flow y).bump Reg.PL_STAT_TX

/-- SYNC carries the first number that will be used (R278, R288). -/
def plSync (node flow port : Nat) (s : State) : State :=
  let tx := s.plTx node flow
  (s.setPlTx node flow { tx with synced := true }).plFirst node flow
    { seq := tx.next, op := .sync, subop := 0, addr := 0, len := 0, payload := [], poison := false, who := .recorder, port := port }

/-- Sends what waits on a pair while it may: at most 1,024 unanswered, and room in the retransmit buffer (R288). A SYNC goes before the first
request. -/
def plPump : Nat → Nat → Nat → State → State
  | 0, _, _, s => s
  | n + 1, node, flow, s =>
    let tx := s.plTx node flow
    match tx.wait, s.plPortFor node flow with
    | x :: rest, some p =>
      if 1024 ≤ tx.unacked.length ∨ 1048576 < s.plBuffered p + 16 + 64 * x.payload.length then s
      else if !tx.synced then plPump n node flow (s.plSync node flow p)
      else plPump n node flow ((s.setPlTx node flow { tx with next := (tx.next + 1) % 65536, wait := rest }).plFirst node flow
        { x with seq := tx.next, port := p })
    | _, _ => s

/-- Queues a request to a node. An unroutable or unreachable node refuses it at once (R275, R289). -/
def plRequest (node flow : Nat) (x : PlSent) (s : State) : Bool × State :=
  if s.plRoute node = [] ∨ node ∈ s.pl.unreach then (false, s)
  else
    let tx := s.plTx node flow
    (true, plPump 2048 node flow (s.setPlTx node flow { tx with wait := tx.wait ++ [x] }))

/-- The pieces of [addr, addr + len) cut at 1 KiB boundaries: offset, address, length (R278). -/
def plCuts (addr len : Nat) : List (Nat × Nat × Nat) :=
  if len = 0 then [] else
  (List.range ((addr + len - 1) / 1024 - addr / 1024 + 1)).map fun i =>
    let a := if i = 0 then addr else (addr / 1024 + i) * 1024
    let e := min (addr + len) ((addr / 1024 + i + 1) * 1024)
    (a - addr, a, e - a)

/-- The payload units of [a, a + bytes): whole lines from the one that contains `a`, bytes outside the range 0 (R277). -/
def plUnits (a : Nat) (bs : List Byte) : List Line :=
  let padded := List.replicate (a % 64) (0 : Byte) ++ bs
  (List.range (ceilDiv padded.length 64)).map fun i => lineOf ((padded.drop (64 * i)).take 64)

/-- The key under which a peer's line is kept for a waiter. -/
def peerLine (node line : Nat) : Nat := 2 ^ 52 * (node + 1) + line

/-- Writes bytes to a peer for a waiter; its acknowledgements are counted as posted writes (R292). -/
def peerWrite (w : Waiter) (node flow addr : Nat) (bs : List Byte) (poison : Bool) (s : State) : Option Nat × State :=
  (plCuts addr bs.length).foldl (fun r c =>
    match r.1 with
    | some st => (some st, r.2)
    | none =>
      let x : PlSent := { seq := 0, op := .write, subop := 0, addr := c.2.1, len := c.2.2,
                          payload := plUnits c.2.1 ((bs.drop c.1).take c.2.2), poison := poison, who := w, port := 0 }
      match (r.2.postWrite w).plRequest node flow x with
      | (true, s) => (none, s)
      | (false, s) => (some St.DEVICE_ERROR, s.postedDone w none)) (none, s)

/-- Sends bytes to a peer as reduce-writes of a float format, whose code is their SUBOP (R293). -/
def peerReduce (w : Waiter) (node flow addr fmt : Nat) (bs : List Byte) (s : State) : Option Nat × State :=
  (plCuts addr bs.length).foldl (fun r c =>
    match r.1 with
    | some st => (some st, r.2)
    | none =>
      let x : PlSent := { seq := 0, op := .reduceWrite, subop := fmt, addr := c.2.1, len := c.2.2,
                          payload := plUnits c.2.1 ((bs.drop c.1).take c.2.2), poison := false, who := w, port := 0 }
      match (r.2.postWrite w).plRequest node flow x with
      | (true, s) => (none, s)
      | (false, s) => (some St.DEVICE_ERROR, s.postedDone w none)) (none, s)

/-- What a read of a peer finds. -/
inductive PeerRead where
  | data (bs : List Byte) (poison : Bool)
  | waits
  | fails (status : Nat)

/-- Reads bytes of a peer for a waiter: from what has arrived, else by READ requests (R278, R287). -/
def peerRead (w : Waiter) (node flow addr len : Nat) (s : State) : PeerRead × State :=
  match s.pl.failures.find? fun f => decide (f.1 = w) with
  | some f => (.fails f.2, s.modPl fun q => { q with failures := q.failures.filter (·.1 ≠ w) })
  | none =>
    let need := linesOf addr len
    let have_ (l : Nat) : Option Got := s.sf.got.find? fun g => decide (g.who = w ∧ g.line = peerLine node l)
    if need.all fun l => (have_ l).isSome then
      let bs := need.flatMap fun l => match have_ l with | some g => lineBytes (g.data.getD 0) | none => []
      (.data ((bs.drop (addr % 64)).take len) (need.any fun l => match have_ l with | some g => g.poison | none => false), s)
    else if s.pl.tx.any fun e => decide (e.1 / 128 = node) && (e.2.unacked ++ e.2.wait).any fun x => decide (x.who = w ∧ x.op = .read) then (.waits, s)
    else
      let r := (plCuts addr len).foldl (fun (r : Bool × State) c =>
        if !r.1 then r else
        r.2.plRequest node flow { seq := 0, op := .read, subop := 0, addr := c.2.1, len := c.2.2, payload := [], poison := false, who := w, port := 0 }) (true, s)
      if r.1 then (.waits, r.2) else (.fails St.DEVICE_ERROR, r.2)

end State

end Sys2Proof.Machine
end

