-- ==== Sys2Proof/Machine/Access.lean ====
section
/-! DEFINITION. Block-engine accesses: contexts and their functions, segments (R172 to R174), ATS copies and requests (R176,
R177), page requests (R179 to R182), and the reads and writes of an engine at device, host and peer targets (R22 to R24). -/

namespace Sys2Proof.Machine

/-- Why an engine operation stopped short: a status, or a wait after which it is tried again from its start. -/
inductive Stop where
  | fail (status : Nat)
  | wait
deriving DecidableEq, Repr

/-- An engine operation: it answers, or stops, and in either case leaves a state. -/
abbrev M (α : Type) := ExceptT Stop (StateM State) α

/-- Runs an engine operation. -/
def M.exec {α : Type} (x : M α) (s : State) : Except Stop α × State := x.run s

/-- Applies a state change inside an operation. -/
def act (f : State → State) : M Unit := modify f

/-- Ends the operation with a status. -/
def failM {α : Type} (st : Nat) : M α := throw (.fail st)

/-- Waits. -/
def waitM {α : Type} : M α := throw .wait

/-- Who makes an access: the waiter it is made for, the context it serves, the function whose Requester ID it carries, the
queue, and the IPL flow of its peer accesses (R276). -/
structure Who where
  w    : Waiter
  ctx  : Nat
  fn   : Nat
  q    : Nat
  flow : Nat
deriving DecidableEq, Repr

/-- An engine's access to a unit passes the crossing of its domain (R24, R25, R383): it waits there while the domain sleeps. What a fenced
domain does to it is its caller's rule. -/
def needDomain (w : Waiter) (d : Nat) : M Unit := do
  let s ← get
  if s.domReady d || s.isFenced d then pure ()
  else do
    act fun s => s.modPm fun p => { p with engines := addNew (d, w) p.engines }
    waitM

/-- An operation of an engine's that looks up the segment tables passes Chamois's crossing (R24, R383). -/
def State.atChamois (w : Waiter) (f : State → State) (s : State) : State :=
  match (needDomain w Dom.chamois).exec s with
  | (.ok (), s) => f s
  | (.error _, s) => s

namespace State

/-- A context record (R404). -/
def ctxOf (s : State) (c : Nat) : Ctx := Map.getD (Ctx.reset c) c s.rb.ctxs
def setCtx (c : Nat) (v : Ctx) (s : State) : State := s.modRb fun r => { r with ctxs := Map.put (Ctx.reset c) c v r.ctxs }

/-- A committed segment entry (R172). -/
def segOf (s : State) (ctx seg : Nat) : Qw3 := Map.getD { q0 := 0, q1 := 0, q2 := 0 } (ctx * 16 + seg) s.ch.segs

/-- ATS is enabled in a function: the Enable bit of its ATS Control register (R177). -/
def atsOn (s : State) (fn : Nat) : Bool := (s.cfgDw fn 0x14C).getLsbD 31

/-- PASID Enable of the PF, whose setting every VF uses (R301): while it is clear, requests carry no PASID (log entry 15). -/
def pasidOn (s : State) : Bool := (s.cfgDw 0 0x164).getLsbD 16

/-- PRI is enabled in a function (R179), and its Outstanding Page Request Allocation (R180). -/
def priOn (s : State) (fn : Nat) : Bool := (s.cfgDw fn 0x154).getLsbD 0
def priAlloc (s : State) (fn : Nat) : Nat := (s.cfgDw fn 0x15C).toNat

end State

/-- Where a context address leads (R173 Table 3). -/
inductive Target where
  | device (da hint : Nat)
  | host (iova : Nat) (pasid : Option (BitVec 20)) (pri : Bool)
  | peer (node da : Nat)
deriving DecidableEq, Repr

/-- Segment fields (R172 Table 2). -/
def segValid (g : Qw3) : Bool := bit g.q1 63
def segTarget (g : Qw3) : Nat := bits g.q1 62 60
def segLen (g : Qw3) : Nat := bits g.q1 43 0

namespace State

/-- Checks 1 to 6 of R174 on an access of `len` bytes; `perm` is none when permission is not checked (R54). -/
def segCheck (s : State) (ctx : Nat) (a : Word) (len : Nat) (perm : Option Bool) : Option Target :=
  let g := s.segOf ctx (bits a 47 44)
  let off := bits a 43 0
  let da := (g.q0.toNat + off) % 2 ^ 64
  let t := segTarget g
  if bits a 63 48 ≠ 0 then none
  else if !segValid g || t = 0 || decide (6 ≤ t) then none
  else if segLen g < off + len then none
  else if (match perm with | some true => !bit g.q1 58 | some false => !bit g.q1 59 | none => false) then none
  else if t = 2 then
    match regionOf da, regionOf (da + (len - 1)) with
    | .tier2 p, .tier2 p' => if p = p' ∧ !s.tier2Hole da ∧ !s.tier2Hole (da + (len - 1)) then some (.device da 0) else none
    | _, _ => none
  else if t = 3 then
    if s.regBit Reg.CH_CTRL 0 ∧ regionOf da = .placed ∧ (da + (len - 1) - placedBase) / pageBytes < s.regBits Reg.CH_PLACE_PAGES 21 0 then
      some (.device da (if bits g.q1 57 56 = 3 then 0 else bits g.q1 57 56)) else none
  else if t = 4 then some (.host da (if bit g.q1 54 && s.pasidOn then some (BitVec.ofNat 20 (bits g.q2 19 0)) else none) (bit g.q1 55))
  else if t = 5 then some (.peer (bits g.q2 51 44) da)
  else some (.device da 0)

end State

/-- Translates an access, or ends it with TRANSLATION_FAULT, CH_ERR_STATUS.TRANSLATION and the address captured (R174).
Every engine access ends with DEVICE_ERROR once the Chamois domain is fenced (R393). -/
def translate (k : Who) (a : Word) (len : Nat) (write : Bool) : M Target := do
  let s ← get
  if s.isFenced Dom.chamois then failM St.DEVICE_ERROR
  else do
    needDomain k.w Dom.chamois
    match s.segCheck k.ctx a len (some write) with
    | some t => pure t
    | none => do
      act fun s => s.raise Reg.CH Err.CH_TRANSLATION (Capture.ctxAddr a write k.q k.ctx)
      failM St.TRANSLATION_FAULT

/-! ### ATS (R176 to R182) -/

/-- The key of a 4 KiB page of an IOVA. -/
def atsKey (fn : Nat) (pasid : Option (BitVec 20)) (iova : Nat) : AtsKey :=
  { fn := BitVec.ofNat 8 fn, pasid := pasid, page := iova / 4096 }

/-- A copy covers a page (R176). -/
def AtsCopy.covers (c : AtsCopy) (k : AtsKey) : Bool :=
  decide (c.fn = k.fn.toNat) && decide (c.pasid = k.pasid.map (·.toNat)) &&
    decide (c.base / 2 ^ c.log2 = k.page * 4096 / 2 ^ c.log2)

/-- A waiter joins a list in which it stands once. -/
def joinWaiters (x : AtsWaiter) (l : List AtsWaiter) : List AtsWaiter := if l.any fun y => decide (y.who = x.who) then l else l ++ [x]

/-- Adds a waiter to a translation request, sending one if there is none (R176). -/
def State.askAts (k : AtsKey) (x : AtsWaiter) (s : State) : State :=
  let same (r : AtsReq) : Bool := decide (r.key = k ∧ r.write = x.write)
  if s.ch.reqs.any same then
    s.modCh fun c => { c with reqs := updateWhere same (fun r => { r with who := joinWaiters x r.who }) c.reqs }
  else (s.modCh fun c => { c with reqs := c.reqs ++ [{ key := k, write := x.write, who := [x] }] }).emit (.atsRequest k)

/-- The verdict that waits for a waiter on a page: it ends the access, and is used up (R179, R181, R312). -/
def takeVerdict (w : Waiter) (k : AtsKey) : M Unit := do
  let s ← get
  match s.ch.verdicts.find? fun v => decide (v.who = w ∧ v.key = k) with
  | some v => do
    act fun s => s.modCh fun c => { c with verdicts := c.verdicts.filter (· ≠ v) }
    failM v.status
  | none => pure ()

/-- The translated address of the 4 KiB page that holds `iova`, as a base to which the page offset is added; it waits for
ATS where no copy grants the access (R176). With ATS disabled the request goes out untranslated (R177). -/
def hostPage (w : Waiter) (fn : Nat) (pasid : Option (BitVec 20)) (pri : Bool) (iova : Nat) (write : Bool) : M Nat := do
  let k := atsKey fn pasid iova
  takeVerdict w k
  let s ← get
  if !s.atsOn fn then pure (iova / 4096 * 4096)
  else
    match s.ch.copies.find? fun c => c.covers k && (if write then c.write else c.read) with
    | some c => do
      -- least recently used first: the copy used moves to the front
      act fun s => s.modCh fun h => { h with copies := c :: h.copies.filter (· ≠ c) }
      pure (c.target + (iova / 4096 * 4096 - c.base / 2 ^ c.log2 * 2 ^ c.log2))
    | none => do
      act fun s => s.askAts k { who := w, write := write, pri := pri, again := false }
      waitM

/-- A host address lies in a range of the environment. -/
def inRanges (l : List (Nat × Nat)) (a n : Nat) : Bool := l.any fun r => decide (a < r.2 ∧ r.1 < a + n)

/-- The pages of [a, a + n): the first address in each and the length there. -/
def pagesOf (a n : Nat) : List (Nat × Nat) :=
  if n = 0 then [] else
  (List.range ((a + n - 1) / 4096 - a / 4096 + 1)).map fun i =>
    let b := if i = 0 then a else (a / 4096 + i) * 4096
    (b, min (a + n) ((a / 4096 + i + 1) * 4096) - b)

/-- Bytes read by an engine, and whether any of them is poisoned. -/
abbrev Bytes := List Byte × Bool

/-- Lines of host memory of which the slice, or its side buffer, holds what an access must not pass by: for a write any copy, for a read one that
may be dirty (R264). -/
def State.hostCopies (s : State) (write : Bool) (parts : List (Nat × Nat)) : List Nat :=
  if s.dc.lines.isEmpty && s.dc.pref.all (fun p => p.2.side.isEmpty) then []
  else (parts.flatMap fun p => linesOf p.1 p.2).filter fun la =>
    if write then decide (s.dcHState la ≠ 0) || (s.pref (dcSlice s la)).side.any fun e => decide (e.1 = la) else decide (2 ≤ s.dcHState la)

/-- An engine's requests to the host carry no No Snoop (R297): the host snoops the device cache for their lines before it performs the access
(R264; log entry 4). -/
def hostSnoops (w : Waiter) (write : Bool) (parts : List (Nat × Nat)) : M Unit := do
  let s ← get
  let mine (g : Got) : Bool := decide (g.who = w) && isHostLine g.line
  let seen (la : Nat) : Bool := !write && s.sf.got.any fun g => mine g && decide (g.line = hostLineOf la)
  let asked (la : Nat) : Bool := decide ((w, hostLineOf la) ∈ s.sf.hostAsks)
  let ask (s : State) (la : Nat) : State :=
    (s.modSf fun f => { f with hostAsks := f.hostAsks ++ [(w, hostLineOf la)] }).hostSnoop la (if write then .backInv false else .rdCur)
  match (s.hostCopies write parts).filter fun la => !seen la with
  | [] => act fun s => if s.sf.got.isEmpty then s else s.modSf fun f => { f with got := f.got.filter fun g => !mine g }
  | ls => do
    act fun s => (ls.filter fun la => !asked la).foldl ask s
    waitM

/-- The requests of an engine's access of host memory go out, one for each 4 KiB page (R297). -/
def State.upSend (k : Who) (write : Bool) (parts : List (Nat × Nat)) (s : State) : State :=
  parts.foldl (fun s p => s.emit (.upReq write k.fn p.1 p.2 false false false)) s

/-- Reads host memory (R176, R177): a read the host refuses gives PAGE_FAULT; a range that never answers waits for its
completion timeout (R312). -/
def hostRead (k : Who) (fn : Nat) (iova : Nat) (pasid : Option (BitVec 20)) (pri : Bool) (len : Nat) : M Bytes := do
  needDomain k.w Dom.upCtl
  needDomain k.w Dom.upPhy
  let parts ← (pagesOf iova len).mapM fun p => do
    let base ← hostPage k.w fn pasid pri p.1 false
    pure (base + p.1 % 4096, p.2)
  hostSnoops k.w false parts
  act fun s => s.upSend k false parts
  let s ← get
  if parts.any fun p => inRanges s.hostDead p.1 p.2 then do
    act fun s => s.modCh fun c => 
      { c with hostReads := (pagesOf iova len).foldl (fun l p => addNew (k.w, atsKey fn pasid p.1) l) c.hostReads }
    waitM
  else if parts.any fun p => inRanges s.hostRefused p.1 p.2 then failM St.PAGE_FAULT
  else
    let poison := parts.any fun p => (linesOf p.1 p.2).any fun l => decide (l ∈ s.hostPoison)
    -- a completion with poisoned data is an AER event of the function (R311)
    act fun s => if poison then s.aer k.fn .poisoned else s
    pure (parts.flatMap fun p => Mem.read s.hostMem p.1 p.2, poison)

/-- Writes bytes at a host physical address as a posted write; a write the host drops is lost without a status (R177). -/
def State.hostStore (a : Nat) (bs : List Byte) (poison : Bool) (s : State) : State :=
  if inRanges s.hostDead a bs.length || inRanges s.hostRefused a bs.length then s
  else
    let ls := linesOf a bs.length
    { s with hostMem := Mem.write a bs s.hostMem,
             hostPoison := if poison then ls.foldl (fun l x => addNew x l) s.hostPoison else s.hostPoison.filter (· ∉ ls) }

/-- Writes host memory (R176, R177). -/
def hostWrite (k : Who) (fn : Nat) (iova : Nat) (pasid : Option (BitVec 20)) (pri : Bool) (bs : List Byte) (poison : Bool) : M Unit := do
  needDomain k.w Dom.upCtl
  needDomain k.w Dom.upPhy
  let parts ← (pagesOf iova bs.length).mapM fun p => do
    let base ← hostPage k.w fn pasid pri p.1 true
    pure (base + p.1 % 4096, p.1 - iova, p.2)
  hostSnoops k.w true (parts.map fun p => (p.1, p.2.2))
  act fun s => s.upSend k true (parts.map fun p => (p.1, p.2.2))
  act fun s => parts.foldl (fun s p => s.hostStore p.1 ((bs.drop p.2.1).take p.2.2) poison) s

/-! ### Device memory -/

/-- Reads bytes of device memory through the homes (R22, R209): each line once, those at hand being kept while others are awaited. -/
def deviceRead (w : Waiter) (da len : Nat) : M Bytes := do
  let lines ← (linesOf da len).mapM fun l => do
    let s ← get
    match s.ncRead w l with
    | (.data d p, s) => do set s; pure (l, some (d, p))
    | (.waits, s) => do set s; pure (l, none)
    | (.fails st, s) => do set s; failM st
  -- every line is asked for before the operation waits
  if lines.any fun x => x.2.isNone then do
    let have_ : List Got := lines.filterMap fun x => x.2.map fun d => { who := w, line := x.1, data := some d.1, poison := d.2 }
    act fun s => s.modSf fun f => { f with got := f.got.filter (fun g => !decide (g.who = w) || !have_.any fun h => decide (h.line = g.line)) ++ have_ }
    waitM
  else
    let bs := lines.flatMap fun x => lineBytes (x.2.map (·.1) |>.getD 0)
    pure ((bs.drop (da % 64)).take len, lines.any fun x => (x.2.map (·.2)).getD false)

/-- The part of [da, da + bytes) that lies in line `l`, as a mask and data. -/
def linePart (da : Nat) (bs : List Byte) (l : Nat) : BitVec 64 × Line :=
  let lo := max da (64 * l)
  let hi := min (da + bs.length) (64 * l + 64)
  (byteMask (lo - 64 * l) (hi - lo), BitVec.ofNat 512 (leNat ((bs.drop (lo - da)).take (hi - lo)) <<< (8 * (lo - 64 * l))))

/-- Writes bytes of device memory through the homes, one write a line, each line once (R209, R260). -/
def deviceWrite (w : Waiter) (da : Nat) (bs : List Byte) (poison : Bool) (hint : Nat) : M Unit := do
  let s0 ← get
  let hint := if hint = 0 then s0.defaultTier else hint
  let rs ← (linesOf da bs.length).mapM fun l => do
    let s ← get
    if (w, l) ∈ s.sf.put then pure (l, none, false)
    else
      let p := linePart da bs l
      let r := s.ncWrite w l p.1 p.2 poison hint
      set r.2.2
      pure (l, r.1, r.2.1)
  let out := (rs.filter fun x => x.2.1.isNone && !x.2.2).map fun x => (w, x.1)
  act fun s => if out.isEmpty then s else s.noteWrite w
  match rs.findSome? (·.2.1) with
  | some st => failM st
  | none =>
    if rs.any (·.2.2) then do
      act fun s => s.modSf fun f => { f with put := out.foldl (fun l x => addNew x l) f.put }
      waitM
    else act fun s => s.modSf fun f => { f with put := f.put.filter fun x => !decide (x.1 = w) }

/-! ### Engine accesses by context address -/

/-- Reads through a translated target. -/
def readTarget (k : Who) (t : Target) (len : Nat) : M Bytes := do
  match t with
  | .device da _ => deviceRead k.w da len
  | .host iova pasid pri => do
    let s ← get
    hostRead k (s.ctxOf k.ctx).fn iova pasid pri len
  | .peer node da => do
    let s ← get
    match s.peerRead k.w node k.flow da len with
    | (.data bs p, s) => do set s; pure (bs, p)
    | (.waits, s) => do set s; waitM
    | (.fails st, s) => do set s; failM st

/-- Writes through a translated target. -/
def writeTarget (k : Who) (t : Target) (bs : List Byte) (poison : Bool) : M Unit := do
  match t with
  | .device da hint => deviceWrite k.w da bs poison hint
  | .host iova pasid pri => do
    let s ← get
    hostWrite k (s.ctxOf k.ctx).fn iova pasid pri bs poison
    act fun s => s.noteWrite k.w
  | .peer node da => do
    let s ← get
    match s.peerWrite k.w node k.flow da bs poison with
    | (none, s) => set (s.noteWrite k.w)
    | (some st, s) => do set s; failM st

/-- An engine read of a context address: translated, read, and ended with DATA_ERROR if any byte is poisoned (R387). -/
def engRead (k : Who) (a : Word) (len : Nat) : M (List Byte) := do
  if len = 0 then pure []
  else
    let t ← translate k a len false
    let r ← readTarget k t len
    if r.2 then failM St.DATA_ERROR else pure r.1

/-- An engine write of a context address. -/
def engWrite (k : Who) (a : Word) (bs : List Byte) : M Unit := do
  if bs = [] then pure ()
  else
    let t ← translate k a bs.length true
    writeTarget k t bs false

/-- A word from its bytes, lowest first. -/
def leWord (bs : List Byte) : Word := w64 (leNat bs)

/-! ### Handles (R50, R51) -/

/-- The handle table that an access finds (R51): a started descriptor goes on with the table, and the cached entries, of its start. -/
def handleView (s : State) (k : Who) : Word × NMap HandleEntry :=
  match k.w.workOf.bind fun id => s.qe.works.find? fun w => decide (w.id = id) with
  | some w => (w.htab, w.kept)
  | none => (Map.getD 0 k.ctx s.qe.htab, [])

/-- Reads a handle entry, from the engine's cache or from the table in memory (R50, R51). A failed read of the table gives
its status and sets HTAB_FETCH. -/
def handleEntry (k : Who) (h : Nat) : M HandleEntry := do
  let s ← get
  let (base, kept) := handleView s k
  let current := decide (base = Map.getD 0 k.ctx s.qe.htab)
  if base = 0 then failM St.HANDLE_INVALID
  else match (Map.find? h kept).orElse fun _ => if current then Map.find? (k.ctx * 4096 + h) s.qe.handles else none with
    | some e => pure e
    | none => do
      let r := (engRead k (base + w64 (16 * h)) 16).exec s
      match r with
      | (.ok bs, s) => do
        let e : HandleEntry := { q0 := leWord (bs.take 8), q1 := leWord (bs.drop 8) }
        set (if current then s.modQe fun q => { q with handles := Map.insert (k.ctx * 4096 + h) e q.handles } else s)
        pure e
      | (.error (.fail st), s) => do
        set (s.raise Reg.QE Err.QE_HTAB_FETCH (Capture.ctxAddr (base + w64 (16 * h)) false k.q k.ctx))
        failM st
      | (.error .wait, s) => do set s; waitM

/-- Steps 1 to 3 of R50 on a handle reference that reaches `len` bytes: the context address it stands for. `perm` none
checks no permission (R54). -/
def handleAddr (k : Who) (ref : Word) (len : Nat) (write : Bool) : M Word := do
  let e ← handleEntry k (bits ref 63 52)
  let off := bits ref 51 0
  if !bit e.q1 48 then failM St.HANDLE_INVALID
  else if bits e.q1 47 0 < off + len then failM St.HANDLE_BOUNDS
  else if write && !bit e.q1 49 then failM St.HANDLE_PERM
  else pure (e.q0 + w64 off)

/-- An address operand of a descriptor: itself, or with HANDLES the address its reference stands for (R50). -/
def operandAddr (k : Who) (handles : Bool) (a : Word) (len : Nat) (write : Bool) : M Word := do
  if handles then handleAddr k a len write else pure a

end Sys2Proof.Machine
end

