-- ==== Sys2Proof/Machine/Cross.lean ====
section
/-! DEFINITION. Power domains as an access meets them (R25, R62, R383), and the checks of contexts and configuration that every unit shares. -/

namespace Sys2Proof.Machine

namespace State

/-! ### Domains -/

/-- The number under which accesses wait for the clocks during a relock (R363): it is no domain. -/
def relockWait : Nat := 96

/-- The divided clocks stand still (R363). -/
def clocksStopped (s : State) : Bool := decide (s.ck.pll = .relocking ∨ s.ck.pll = .failed)

/-- Among the commands that can wait, those that are posted writes of the host to BAR0 or BAR4 (R259): neither a message of a chip agent, nor a
doorbell from elsewhere, nor a read, nor a dispatcher's own access, nor another message of a link. -/
def hostWrite : Instr → Bool
  | .sqTail d | .cqHead d | .batchSq d | .coreDone d => (match d.origin with | .pf _ | .vf _ _ => true | _ => false)
  | .rdShared _ | .rdOwn _ | .rdCur _ | .rdOwnNodata _ | .evictClean _ | .evictDirty _ | .atomic _ | .wrUc _ | .wrNt _ | .fence _ | .rsvCheck _
  | .rspI _ | .rspS _ | .rspFwdS _ | .rspFwdF _ | .rspFwdI _ | .rspIWb _ | .rspFwdV _ | .datWrite _ | .datSnoop _
  | .pieceDispatch _ | .reduceWriteApply _ | .rowHandout _ | .domStatRead _
  | .memRd _ | .memInv _ | .memWr _ | .memClnEvct _ | .memUnsupported _ | .biRsp _ | .biConflict _ | .snpData _ | .snpInv _ | .snpCur _
  | .hostFillData _ _ _ _ | .rdOwnNoDataGo _ _ | .goWritePull _ | .configRequest _ _ _ | .bar2Access _ _ _ | .hdmIoRequest _ _ _ _ _ | .vfEnableSet
  | .vfEnableClear | .flr _ | .bmeClear _ | .d3hot _ | .atsTranslationCompletion _ _ | .prgResponse _ _ | .atsInvalidate _ _ _ _ | .ptmDialogue _
  | .getVersion | .getCapabilities | .negotiateAlgorithms | .getDigests | .getCertificate _ _ _ | .challenge _ _ | .getMeasurements _ _ _
  | .keyExchange _ _ _ | .spdmFinish _ _ | .heartbeat _ | .keyUpdate _ _ | .endSession _ | .keyProg _ _ _ _ _ _ | .kSetGo _ _ _ _ _
  | .kSetStop _ _ _ _ _ | .query _ _ | .iplWrite _ | .iplRead _ | .iplAtomic _ | .iplReduceWrite _ | .iplSync _ | .iplRdata _ | .iplAtomicData _
  | .iplCmp _ | .iplNak _ | .iplCreditReturn _ _ _ | .expanderCompletion _ _ _ | .unexpectedS2m _ | .expanderMessage _ | .xaccDone _ _
  | .flushDone _ _ _ => false
  | _ => true

/-- The number under which accesses of the host wait behind its earlier writes (R259): it is no domain. -/
def ioWait : Nat := 97

/-- A write of the host to BAR0 or BAR4 still waits in a crossing: what the host has sent after it waits for it (R259). -/
def barParked (s : State) : Bool := s.pm.waits.any fun w => decide (w.dom ≠ ioWait) && hostWrite w.cmd

/-- A posted write of the host has not been performed yet: what it sends later waits for that (R259). -/
def ioWrites (s : State) : Bool := (s.ch.ios.any fun r => r.data.isSome) || s.barParked

/-- The same for what arrives now: it also waits behind what waits already. -/
def hostAhead (s : State) : Bool := s.ioWrites || s.pm.waits.any fun w => decide (w.dom = ioWait)

/-- An access waits in the crossing of domain `d` (R383). -/
def park (d : Nat) (c : Instr) (s : State) : State :=
  s.modPm fun p => { p with waits := p.waits ++ [{ dom := d, cmd := c, sel := s.reg Reg.QE_SEL }] }

/-- An access bound for domain `d` (R383): it is taken at once by a domain that is ready, waits in the crossing of one that
sleeps or is fenced, and ends with `refused` once a fenced domain's crossing has been released with error (R397). -/
def crossE (d : Nat) (c : Instr) (refused f : State → State) (s : State) : State :=
  if s.clocksStopped then s.park relockWait c
  else if s.isFenced d && decide (d ∈ s.released) then refused s
  else if s.domReady d then f s
  else s.park d c

/-- What comes from a link or an agent while the divided clocks stand waits for them (R363, log entry 114). -/
def clocked (c : Instr) (f : State → State) (s : State) : State := if s.clocksStopped then s.park relockWait c else f s

/-- An access that passes the crossings of several domains, one after the other. -/
def crossAll (ds : List Nat) (c : Instr) (refused f : State → State) : State → State := ds.foldr (fun d f => crossE d c refused f) f

/-- The same for a posted access, which a released crossing discards. -/
def cross (d : Nat) (c : Instr) (f : State → State) (s : State) : State := s.crossE d c id f

/-! ### Configuration and contexts -/

/-- Configuration is locked (R11). -/
def locked (s : State) : Bool := s.regBit Reg.CFG_LOCK 0

/-- A context is held (R407): QUIESCING or QUIESCED. -/
def ctxHeld (s : State) (c : Nat) : Bool := decide ((s.ctxOf c).st = .quiescing ∨ (s.ctxOf c).st = .quiesced)

end State

end Sys2Proof.Machine
end

