-- ==== Sys2Proof/Machine/Queues.lean ====
section
/-! DEFINITION. The queue engine: queue records (R35 to R38), counters and their waiters (R65 to R70), the head of a queue
and its checks (R41 to R44, R450, R451), completions (R45 to R47, R454, R69), doorbells (R57 to R61). -/

namespace Sys2Proof.Machine

/-! ### Queue records -/

def Queue.slots (q : Queue) : Nat := 2 ^ (bits q.cfg 3 0 + 4)
def Queue.entries (q : Queue) : Nat := 2 ^ (bits q.cfg 7 4 + 4)
def Queue.ctx (q : Queue) : Nat := bits q.cfg 19 8
def Queue.fn (q : Queue) : Nat := bits q.cfg 27 20
def Queue.vector (q : Queue) : Nat := bits q.cfg 40 30
def Queue.irqEn (q : Queue) : Bool := bit q.cfg 41
def Queue.intCount (q : Queue) : Nat := max 1 (bits q.cfg 49 42)
def Queue.group (q : Queue) : Nat := bits q.cfg 53 50
def Queue.serve (q : Queue) : Bool := bit q.cfg 54
def Queue.intTime (q : Queue) : Nat := bits q.cfg 63 55
/-- CLASS, forced to 0 while SERVE is 1 (Table 1). -/
def Queue.cls (q : Queue) : Nat := if q.serve then 0 else bits q.cfg 29 28

/-- Slots from the head to the tail. -/
def Queue.unfetched (q : Queue) : Nat := (q.sqTail + q.slots - q.sqHead) % q.slots

/-- Completion entries that the reader has not released. -/
def Queue.unread (q : Queue) : Nat := (q.cqTail + q.entries - q.cqHead) % q.entries

/-- Completion entries that can still be placed (R37): at most one fewer than the ring's size is ever in use. -/
def Queue.room (q : Queue) : Nat := q.entries - 1 - q.unread - q.reserved

/-- The code of a queue state (Table 2). -/
def QState.code : QState → Nat
  | .disabled => 0
  | .idle => 1
  | .fetching => 2
  | .idlePending => 3
  | .waiting => 4
  | .parked => 5
  | .error => 6
  | .draining => 7

def WaitKind.code : WaitKind → Nat
  | .none => 0
  | .fence => 1
  | .event => 2
  | .resource => 3

/-- SQ_HEAD moved on by `n` slots; SQ_GEN advances when it wraps, following 255 with 1 (R41). -/
def Queue.advance (n : Nat) (q : Queue) : Queue :=
  let h := q.sqHead + n
  if h < q.slots then { q with sqHead := h }
  else { q with sqHead := h % q.slots, sqGen := if q.sqGen = 255 then 1 else q.sqGen + 1 }

/-- No wait (Table 1: the wait fields read 0 while the queue does not wait). -/
def Queue.noWait (q : Queue) : Queue := { q with waitValue := 0, waitStart := 0, waitKind := .none, waitIndex := 0 }

/-- The four fixed qwords and the four maintained qwords of a queue record (R36 Table 1). -/
def Queue.qword (q : Queue) (k : Nat) : Word :=
  match k with
  | 0 => q.sqBase
  | 1 => q.cqBase
  | 2 => q.tailShadow
  | 3 => if q.serve then setBits q.cfg 29 28 0 else q.cfg
  | 4 => fld q.cqHead 48 ||| fld q.cqTail 32 ||| fld q.sqHead 16 ||| w64 q.sqTail
  | 5 => fld (q.staleRetries % 256) 40 ||| fld (q.lastStatus % 256) 32 ||| fld (b2n q.dbPending) 12 ||| fld q.st.code 9 |||
         fld (b2n q.cqPhase) 8 ||| w64 q.sqGen
  | 6 => if q.waitKind = .fence then q.waitValue else 0
  | _ => fld (bits (w64 q.waitStart) 51 20) 32 ||| fld q.waitKind.code 14 ||| w64 q.waitIndex

namespace State

def queue (s : State) (q : Nat) : Queue := Map.getD Queue.reset q s.qe.queues
def setQueue (q : Nat) (v : Queue) (s : State) : State := s.modQe fun e => { e with queues := Map.put Queue.reset q v e.queues }
def updQueue (q : Nat) (f : Queue → Queue) (s : State) : State := s.setQueue q (f (s.queue q))

/-- The bank of a queue (R35) and of a counter (R65) is fenced. -/
def queueFenced (s : State) (q : Nat) : Bool := s.isFenced (Dom.bank (q / 16384))
def ctrFenced (s : State) (i : Nat) : Bool := s.isFenced (Dom.bank (i / 4096))

/-- The queue that QE_SEL names (Table 11). -/
def selQueue (s : State) : Nat := s.regBits Reg.QE_SEL 15 0

/-- The outcome of a command or a record write (Table 12). -/
def qcmdDone (refused : Bool) (s : State) : State := s.modQe fun e => { e with qcmdRefused := refused, qcmdBusy := none }

/-! ### Counters -/

/-- A counter; `event` tells the two kinds apart. -/
def ctr (s : State) (event : Bool) (i : Nat) : Ctr := Map.getD Ctr.reset i (if event then s.qe.events else s.qe.fences)

def setCtr (event : Bool) (i : Nat) (v : Ctr) (s : State) : State :=
  s.modQe fun e => if event then { e with events := Map.put Ctr.reset i v e.events } else { e with fences := Map.put Ctr.reset i v e.fences }

/-- A descriptor of context `c` may use the counter (R65). -/
def ctrUsable (s : State) (event : Bool) (i c : Nat) : Bool := (s.ctr event i).valid && decide ((s.ctr event i).owner = c)

/-- The queues that wait on a counter, oldest first (R68), without those of held contexts (R407). -/
def waitersOf (s : State) (event : Bool) (i : Nat) : List Nat :=
  let k := if event then WaitKind.event else WaitKind.fence
  let l := s.qe.queues.filter fun e => decide (e.2.st = .waiting) && decide (e.2.waitKind = k) && decide (e.2.waitIndex = i) &&
    !s.ctxHeld e.2.ctx && !s.isFenced (Dom.bank (e.1 / 16384))
  (sortBy (fun e => e.2.waitSeq) l).map (·.1)

/-- A queue's wait ends: it fetches on, and its head starts, or ends with `preset` (R38, R69). -/
def endWait (q : Nat) (preset : Option Nat) (noSig : Bool) (s : State) : State :=
  s.updQueue q fun v =>
    { v.noWait with st := .fetching,
                    head := v.head.map fun h => { h with waited := true, preset := h.preset.orElse fun _ => preset, noSig := h.noSig || noSig } }

/-- A queue's wait on a counter is met (R66, R67); with ERROR set its head ends with DEPENDENCY_ERROR (R69). -/
def meetWait (event : Bool) (i q : Nat) (s : State) : State :=
  let c := s.ctr event i
  (s.endWait q (if c.error then some St.DEPENDENCY_ERROR else none) false).rpEvent 0x06 0 q
    (w64 i ||| fld (b2n event) 14) (w64 c.value) none

/-- What a wait finds (R66, Table 8): whether it is met, and the counter after it. -/
def tryWait (event : Bool) (threshold : Nat) (c : Ctr) : Option Ctr :=
  if !event then (if threshold ≤ c.value then some c else none)
  else match c.mode with
    | 1 => if c.value = 1 then some { c with value := 0 } else none
    | 2 => if c.value = 1 then some c else none
    | _ => if 1 ≤ c.value then some { c with value := c.value - 1 } else none

/-- Releases waiters of a counter, oldest first, for as long as the value meets their waits (R66, R70). In replay waits are
met at their records (R419). -/
def releaseWaiters (event : Bool) (i : Nat) (s : State) : State :=
  if s.rp.replaying then s
  else (s.waitersOf event i).foldl (fun s q =>
    match tryWait event (s.queue q).waitValue.toNat (s.ctr event i) with
    | some c => (s.setCtr event i c).meetWait event i q
    | none => s) s

/-- A signal of an event counter (R67): the oldest waiter is released with the value unchanged, or every one in BROADCAST. -/
def eventSignal (i : Nat) (s : State) : State :=
  let c := s.ctr true i
  let ws := if s.rp.replaying then [] else s.waitersOf true i
  match c.mode with
  | 2 =>
    let s := s.setCtr true i { c with value := 1, overflow := c.overflow || decide (c.value = 1) }
    ws.foldl (fun s q => s.meetWait true i q) s
  | 1 =>
    (match ws with
     | q :: _ => s.meetWait true i q
     | [] => s.setCtr true i { c with value := 1, overflow := c.overflow || decide (c.value = 1) })
  | _ =>
    (match ws with
     | q :: _ => s.meetWait true i q
     | [] => if c.value < 0xFFFF then s.setCtr true i { c with value := c.value + 1 }
             else s.setCtr true i { c with value := 0xFFFF, overflow := true })

/-- Applies a signal (R66, R67, R69): `err` sets the counter's ERROR, and `q` becomes the last to signal it. A signal to a
counter of a fenced bank is discarded (R455). -/
def applySignal (event : Bool) (i op val : Nat) (err : Bool) (q : Option Nat) (s : State) : State :=
  if s.ctrFenced i then s
  else
    let c := s.ctr event i
    let s := s.setCtr event i { c with error := c.error || err, lastSig := q.orElse fun _ => c.lastSig }
    let c := s.ctr event i
    let s : State :=
      if event then (if op = 2 then s.setCtr true i { c with value := 0 } else s.eventSignal i)
      else if op = 1 then
        (s.setCtr false i (if c.value + val < 2 ^ 64 then { c with value := c.value + val }
          else { c with value := 2 ^ 64 - 1, overflow := true })).releaseWaiters false i
      else
        (s.setCtr false i (if c.value ≤ val then { c with value := val } else { c with regress := true })).releaseWaiters false i
    s.rpEvent 0x05 0 i (w64 (b2n event) ||| fld op 1 ||| fld (b2n (s.ctr event i).error) 3) (w64 (s.ctr event i).value) none

end State

/-! ### Descriptors -/

def dOpcode (d : Desc) : Nat := descNat d 0 1
def dGen (d : Desc) : Nat := descNat d 1 1
def dExt (d : Desc) : Bool := decide (descBits d 0 16 16 = 1)
def dBarrier (d : Desc) : Bool := decide (descBits d 0 17 17 = 1)
def dIrq (d : Desc) : Bool := decide (descBits d 0 18 18 = 1)
def dQuiet (d : Desc) : Bool := decide (descBits d 0 19 19 = 1)
def dHandles (d : Desc) : Bool := decide (descBits d 0 20 20 = 1)
def dInline (d : Desc) : Nat := descNat d 3 1
def dCmdId (d : Desc) : Nat := descNat d 4 2
def dWaitKind (d : Desc) : Nat := descBits d 8 1 0
def dWaitIndex (d : Desc) : Nat := descBits d 8 15 2
def dSigKind (d : Desc) : Nat := descBits d 8 17 16
def dSigIndex (d : Desc) : Nat := descBits d 8 31 18
def dSigOp (d : Desc) : Nat := descBits d 8 33 32
def dWaitValue (d : Desc) : Nat := descNat d 16 8
def dSigValue (d : Desc) : Nat := descNat d 24 8

/-- The opcodes of Table 6. -/
def opcodes : List Nat :=
  [0x00, 0x01, 0x02, 0x03, 0x04, 0x05, 0x10, 0x11, 0x12, 0x13, 0x20, 0x21, 0x30, 0x31, 0x32, 0x33, 0x34]

/-- Opcodes whose extended bytes carry an inline payload, and those that must be extended (R450). -/
def inlineOps : List Nat := [0x03, 0x04, 0x05]
def extendedOps : List Nat := [0x10, 0x11, 0x30, 0x31]

/-- The header checks of R44 on bytes 0 to 31, the signal's first: it also says that no signal is applied (R69). -/
def badSignal (d : Desc) : Bool :=
  decide (dSigKind d = 3) || (decide (dSigKind d = 1) && decide (1 < dSigOp d)) ||
    (decide (dSigKind d = 2) && !decide (dSigOp d = 0 ∨ dSigOp d = 2))

def badHeader (d : Desc) : Bool :=
  decide (descBits d 0 63 48 ≠ 0) || decide (descBits d 0 23 21 ≠ 0) || decide (descBits d 8 63 34 ≠ 0) ||
    decide (dWaitKind d = 3) || badSignal d || decide (192 < dInline d) || (decide (dInline d ≠ 0) && !dExt d)

/-- The form of R450: which opcodes must be extended, which take an inline payload, and the reserved tail of the others. With INLINE_LEN 0 the
whole tail counts as reserved (log entry 10). -/
def badForm (d : Desc) : Bool :=
  let op := dOpcode d
  (decide (op ∈ extendedOps) && !dExt d) ||
  (decide (op ∉ inlineOps) && decide (dInline d ≠ 0)) ||
  (dExt d && decide (op ∉ extendedOps) && decide (op ∉ inlineOps) && decide (descNat d 64 192 ≠ 0)) ||
  (dExt d && decide (op ∈ inlineOps) && decide (dInline d = 0) && decide (descNat d 64 192 ≠ 0))

namespace State

/-- The checks of R451 on a head descriptor of queue `q`, with `gz` the outcome of the checks of R109: the status of the first that
fails, and whether its signal is malformed (R69). -/
def headCheck (s : State) (q : Queue) (d : Desc) (gz : Option Nat) : Option Nat × Bool :=
  let bad (event : Bool) (i : Nat) : Bool := !s.ctrFenced i && !s.ctrUsable event i q.ctx
  if dOpcode d ∉ opcodes then (some St.UNSUPPORTED_OP, badSignal d)
  else if badHeader d || badForm d then (some St.FORMAT_ERROR, badSignal d)
  else if gz.isSome then (gz, false)
  else if dWaitKind d ≠ 0 ∧ bad (decide (dWaitKind d = 2)) (dWaitIndex d) then (some St.COUNTER_ACCESS, true)
  else if dSigKind d ≠ 0 ∧ bad (decide (dSigKind d = 2)) (dSigIndex d) then (some St.COUNTER_ACCESS, true)
  else (none, false)

/-- Begins or passes the wait of a head that the checks have passed (R451, R66, R67, R455). In replay a wait is met at its
record (R419); a held context's wait is evaluated at RESUME (R409), when its counter may have been lost (R65). -/
def beginWait (q : Nat) (s : State) : State :=
  let v := s.queue q
  match v.head with
  | none => s
  | some h =>
    if h.waited || s.ctxHeld v.ctx then s
    else if h.preset.isSome ∨ dWaitKind h.desc = 0 then s.setQueue q { v with head := some { h with waited := true } }
    else
      let event := decide (dWaitKind h.desc = 2)
      let i := dWaitIndex h.desc
      if s.ctrFenced i then s.setQueue q { v with head := some { h with waited := true, preset := some St.DEPENDENCY_ERROR } }
      else if !s.ctrUsable event i v.ctx then s.setQueue q { v with head := some { h with waited := true, preset := some St.COUNTER_ACCESS, noSig := true } }
      else
        let n := s.qe.waitSeq
        let s := (s.modQe fun e => { e with waitSeq := n + 1 }).setQueue q
          { v with st := .waiting, waitKind := if event then .event else .fence, waitIndex := i, waitStart := s.now, waitSeq := n,
                   waitValue := w64 (dWaitValue h.desc) }
        if s.rp.replaying then s
        else match tryWait event (dWaitValue h.desc) (s.ctr event i) with
          | some c => (s.setCtr event i c).meetWait event i q
          | none => s

/-- The queue has reached its tail (R72): it marks itself and clears DB_PENDING before the tail is read again. -/
def reachTail (q : Nat) (s : State) : State := s.updQueue q fun v => { v with st := .idlePending, dbPending := false }

/-- The tail is read again (R72): the queue fetches on, or is IDLE. A tail that covers only part of an extended descriptor
counts as reached until a doorbell moves it (R453). -/
def rereadTail (q : Nat) (s : State) : State :=
  s.updQueue q fun v =>
    if (v.sqTail ≠ v.sqHead ∧ v.partialTail ≠ some v.sqTail) ∨ v.dbPending then { v with st := .fetching }
    else { v with st := .idle }

/-- A completion entry that has no place reserved (R454). -/
def deferEntry (q : Nat) (e : CqEntry) (s : State) : State := s.updQueue q fun v => { v with deferred := v.deferred ++ [e] }

/-- The slot `i` places behind a queue's head, and its address (R39). -/
def slotAfter (v : Queue) (i : Nat) : Nat := (v.sqHead + i) % v.slots
def slotAddr (v : Queue) (i : Nat) : Word := v.sqBase + w64 (64 * slotAfter v i)

/-- The read of the slot `i` places behind the head fails (R452): the queue enters ERROR, and an entry carries the failure's status and the
slot. -/
def slotFailed (q st i : Nat) (s : State) : State :=
  let v := s.queue q
  let s := s.setQueue q { v with st := .error, reading := false, staleDue := none }
  (s.setReg (Reg.errAddr Reg.QE) (slotAddr v i)).deferEntry q
    { status := st, slot := some (slotAfter v i), cmdId := 0, result := 0, irq := false, detached := false }

/-- A stale fetch (R73): the slot is fetched again after 256 ns, doubled each time; after eight stale retries the queue enters
ERROR and a STALE_DESCRIPTOR entry is written. -/
def staleFetch (q : Nat) (s : State) : State :=
  let v := s.queue q
  if v.staleRetries < 8 then
    s.setQueue q { v with staleRetries := v.staleRetries + 1, staleDue := some (s.now + 256 * 2 ^ v.staleRetries), reading := false }
  else
    ((s.setQueue q { v with staleRetries := v.staleRetries + 1, st := .error, reading := false, staleDue := none }).deferEntry q
      { status := St.STALE_DESCRIPTOR, slot := some v.sqHead, cmdId := 0, result := 0, irq := false, detached := false }).raise
      Reg.QE Err.QE_STALE_DESC { Capture.none with cls := 2, index := q, ctx := some v.ctx }

/-- The accesses of the engine for queue `q` itself: its rings and shadow. -/
def queueWho (s : State) (q : Nat) (w : Waiter) : Who :=
  { w := w, ctx := (s.queue q).ctx, fn := (s.queue q).fn, q := q, flow := q % 64 }

/-- Reads the slots `is` places behind the head, one after the other (R39): their bytes, or the stop and the slot at which it came. -/
def readSlots (k : Who) (v : Queue) : List Nat → State → Except (Stop × Nat) (List Byte) × State
  | [], s => (.ok [], s)
  | i :: is, s =>
    match (engRead k (slotAddr v i) 64).exec s with
    | (.error e, s) => (.error (e, i), s)
    | (.ok bs, s) =>
      match readSlots k v is s with
      | (.ok rest, s) => (.ok (bs ++ rest), s)
      | e => e

/-- A descriptor from the bytes of its slots. -/
def slotsDesc (bs : List Byte) : Desc := BitVec.ofNat 2048 (leNat bs)

/-- A ring-slot read returns (R41, R452, R453, R42): `check` are the checks of R109. A read that waits for a page is made
again when the page is answered. -/
def slotRead (check : Desc → Option Nat) (q : Nat) (s : State) : State :=
  let v := s.queue q
  if !v.reading || decide (v.st ≠ .fetching) then s
  else
    let k := s.queueWho q (.slot q)
    match readSlots k v [0] s with
    | (.error (.wait, _), s) => s
    | (.error (.fail st, i), s) => (s.forget (.slot q)).slotFailed q st i
    | (.ok bs, s) =>
      let d := slotsDesc bs
      if dGen d ≠ v.sqGen then (s.forget (.slot q)).staleFetch q
      else
      -- a fetch that matches clears STALE_RETRIES, whatever becomes of the other slots (R73)
      let v := { v with staleRetries := 0 }
      let s := s.setQueue q v
      if dExt d ∧ v.unfetched < 4 then
        let v := { v with reading := false, partialTail := some v.sqTail }
        ((s.forget (.slot q)).setQueue q v).reachTail q
      else
        match readSlots k v (if dExt d then [1, 2, 3] else []) s with
        | (.error (.wait, _), s) => s
        | (.error (.fail st, i), s) => (s.forget (.slot q)).slotFailed q st i
        | (.ok more, s) =>
          let d := slotsDesc (bs ++ more)
          let s := s.forget (.slot q)
          let c := s.headCheck v d (check d)
          let h : Head := { desc := d, slot := v.sqHead, preset := c.1, noSig := c.2, waited := false, granted := false }
          let v' := { v.advance (if dExt d then 4 else 1) with head := some h, reading := false, partialTail := none }
          ((s.setQueue q v').rpEvent 0x02 0 q (w64 v.sqHead) 0 (some (d, dExt d))).beginWait q

/-! ### Completions -/

/-- The 16 bytes of a completion entry (R45 Table 4). -/
def entryBytes (phase : Bool) (q head : Nat) (e : CqEntry) : List Byte :=
  leBytes 8 (b2n phase * 2 ^ 56 + e.status % 256 * 2 ^ 48 + head % 65536 * 2 ^ 32 + q % 65536 * 2 ^ 16 + e.cmdId % 65536) ++
    leBytes 8 e.result.toNat

/-- A queue's interrupt (R47): its coalescing count and timer restart. -/
def queueInterrupt (q : Nat) (s : State) : State :=
  let v := s.queue q
  (s.setQueue q { v with coalCount := 0, coalDue := none }).sendVector v.fn v.vector

/-- An entry has been written (R45 to R47): the tail advances and CQ_PHASE flips as it wraps. -/
def entryWritten (q : Nat) (e : CqEntry) (s : State) : State :=
  let v := s.queue q
  let t := v.cqTail + 1
  let wrap := decide (v.entries ≤ t)
  let v := { v with cqTail := if wrap then 0 else t, cqPhase := if wrap then !v.cqPhase else v.cqPhase, lastStatus := e.status,
                    coalCount := v.coalCount + 1,
                    coalDue := v.coalDue.orElse fun _ => if v.intTime = 0 then none else some (s.now + 8000 * v.intTime) }
  let s := s.setQueue q v
  if v.irqEn && (decide (v.intCount ≤ v.coalCount) || decide (e.status ≠ 0) || e.irq) then s.queueInterrupt q else s

/-- A completion entry's write has failed: it is lost, and reported by CQ_WRITE (R454). -/
def entryLost (q : Nat) (a : Word) (s : State) : State := s.raise Reg.QE Err.QE_CQ_WRITE (Capture.ctxAddr a true q (s.queue q).ctx)

/-- Writes the next entry of a completion ring; false when it must wait. The write is issued for the place it takes, by which its end is known
(R454). -/
def writeEntry (q : Nat) (e : CqEntry) (s : State) : Bool × State :=
  let v := s.queue q
  let w := Waiter.entry q v.cqTail
  let a := v.cqBase + w64 (16 * v.cqTail)
  match (engWrite (s.queueWho q w) a (entryBytes v.cqPhase q (e.slot.getD v.sqHead) e)).exec s with
  | (.error .wait, s) => (false, s)
  | (.error (.fail _), s) => (true, ((s.entryLost q a).forget w).entryWritten q e)
  | (.ok (), s) => (true, (s.forgetReads w).entryWritten q e)

/-- The write of the entry at a place of a completion ring has been performed, or has failed (R454). -/
def entryPerformed (q place : Nat) (s : State) : State :=
  let w := Waiter.entry q place
  match s.sf.posted.find? fun p => decide (p.who = w) with
  | none => s
  | some p =>
    if p.n ≠ 0 then s
    else (s.forget w)|> if p.failed.isSome then entryLost q ((s.queue q).cqBase + w64 (16 * place)) else id

/-! ### Works -/

def work? (s : State) (id : Nat) : Option Work := s.qe.works.find? fun w => decide (w.id = id)
def setWork (w : Work) (s : State) : State :=
  s.modQe fun e => { e with works := updateWhere (fun x => decide (x.id = w.id)) (fun _ => w) e.works }
def worksOf (s : State) (q : Nat) : List Work := s.qe.works.filter fun w => decide (w.q = q)

/-- A work's accesses. Peer accesses take flow: the queue's number modulo 64 (R276). -/
def workWho (_s : State) (w : Work) : Who := { w := .work w.id, ctx := w.ctx, fn := w.fn, q := w.q, flow := w.q % 64 }

/-- A work ends: its completion is owed (R69). -/
def endWork (id status : Nat) (result : Word) (s : State) : State :=
  match s.work? id with
  | some w => if w.phase = .ended then s else s.setWork { w with phase := .ended, status := status, result := result }
  | none => s

/-- The head may be granted (R43, R407, R419): waited for, its BARRIER met and, unless its checks have ended it (R451), any HANDLE_UPDATE before
it (R52), and a place for its completion entry, none waiting ahead of it (R454). -/
def grantable (s : State) (q : Nat) : Bool :=
  let v := s.queue q
  match v.head with
  | some h => decide (v.st = .fetching) && h.waited && !h.granted && !s.ctxHeld v.ctx && decide (0 < v.room) && v.deferred.isEmpty &&
      (!dBarrier h.desc || (s.worksOf q).isEmpty) && (h.preset.isSome || !(s.worksOf q).any fun w => decide (dOpcode w.desc = 0x04)) &&
      (!s.rp.replaying || h.preset.isSome || decide (Forced.start q ∈ s.rp.forced))
  | none => false

/-- Once the head has left, the queue has reached its tail or fetches on (R72). -/
def afterHead (q : Nat) (s : State) : State :=
  let v := s.queue q
  if v.st = .fetching ∧ v.sqTail = v.sqHead then s.reachTail q else s

/-- The work that the head of a queue becomes (R43). -/
def newWork (s : State) (q : Nat) (h : Head) (phase : WorkPhase) (status : Nat) : Work :=
  let v := s.queue q
  { id := s.qe.nextWork, q := q, ctx := v.ctx, fn := v.fn, desc := h.desc, htab := Map.getD 0 v.ctx s.qe.htab, kept := [],
    phase := phase, status := status, result := 0, noSig := h.noSig, buffer := none, pages := [], count := 0, next := 0, total := 0, acc := 0 }

/-- The head leaves the queue as the started work `newWork` (R43). -/
def takeHead (q : Nat) (h : Head) (phase : WorkPhase) (status : Nat) (s : State) : State :=
  let w := s.newWork q h phase status
  let s := s.updQueue q fun v => { v with head := none }
  let s := s.modQe fun e => { e with works := e.works ++ [w], nextWork := w.id + 1 }
  let s := s.modRp fun r => { r with forced := r.forced.filter (· ≠ .start q), since := if Forced.start q ∈ r.forced then none else r.since }
  (s.rpEvent 0x03 0 q (w64 (dCmdId h.desc) ||| fld h.slot 16) 0 none).afterHead q

/-- Grants the head: its completion entry is reserved, and a head that a check or its wait has ended completes (R43, R451). -/
def grantHead (q : Nat) (s : State) : State :=
  let v := s.queue q
  match v.head with
  | none => s
  | some h =>
    let s := s.setQueue q { v with reserved := v.reserved + 1, head := some { h with granted := true } }
    match h.preset with
    | some st => s.takeHead q h .ended st
    | none => s

/-- The granted head of a queue, when its opcode is `op` and it may start. -/
def headFor (s : State) (q op : Nat) : Option Head :=
  let v := s.queue q
  match v.head with
  | some h => if h.granted && decide (v.st = .fetching) && decide (dOpcode h.desc = op) && !s.ctxHeld v.ctx && !s.queueFenced q then some h else none
  | none => none

/-- Starts the granted head of queue `q` when its opcode is `op` (R43): the work it has become. -/
def startHead (q op : Nat) (s : State) : Option (Work × State) :=
  (s.headFor q op).map fun h => (s.newWork q h .running 0, s.takeHead q h .running 0)

/-- The head waits for a resource, with WAIT_KIND 3 (R55, R74). -/
def waitResource (q : Nat) (s : State) : State :=
  let n := s.qe.waitSeq
  (s.modQe fun e => { e with waitSeq := n + 1 }).updQueue q fun v =>
    { v with st := .waiting, waitKind := .resource, waitIndex := 0, waitValue := 0, waitStart := s.now, waitSeq := n }

/-- Queues that wait for a resource are tried again. -/
def wakeResource (p : Nat → Queue → Bool) (s : State) : State :=
  s.modQe fun e => { e with queues := Map.mapVals (fun q v =>
    if decide (v.st = .waiting ∧ v.waitKind = .resource) && p q v then { v.noWait with st := .fetching } else v) e.queues }

/-- Statuses after which no signal is applied (R69). -/
def silentStatus (st : Nat) : Bool :=
  decide (st ∈ [St.STALE_DESCRIPTOR, St.COUNTER_ACCESS, St.FENCE_CYCLE, St.FENCE_TIMEOUT, St.ABORTED])

/-- Applies a descriptor's signal at its completion (R65, R69): the status after the counter is checked once more. An unusable
counter gives its own status, also over that of an earlier check (log entry 13). -/
def signalAt (d : Desc) (ctx : Nat) (q : Option Nat) (status : Nat) (noSig : Bool) (s : State) : Nat × State :=
  let event := decide (dSigKind d = 2)
  let i := dSigIndex d
  if dSigKind d = 0 ∨ noSig ∨ silentStatus status then (status, s)
  else if s.ctrFenced i then (status, s)
  else if !s.ctrUsable event i ctx then (St.COUNTER_ACCESS, s)
  else (status, s.applySignal event i (dSigOp d) (dSigValue d) (decide (status ≠ 0)) q)

/-- The work is over: its place and its buffer are free (R55, R43). -/
def dropWork (w : Work) (s : State) : State :=
  let s := s.modQe fun e => { e with works := e.works.filter (fun x => !decide (x.id = w.id)), dispatched := e.dispatched.filter (· ≠ w.id) }
  let s := (s.forget (.work w.id)).forget (.done w.id)
  if w.buffer.isSome then s.wakeResource (fun _ v => (v.head.map fun h => decide (dOpcode h.desc = 0x05)).getD false) else s

/-- The cached handle entries of a context are about to be lost or changed: the descriptors that have started go on with them (R51, R52). -/
def keepHandles (c : Nat) (s : State) : State :=
  let mine := Map.keep (fun k _ => decide (k / 4096 = c)) s.qe.handles
  let add (m : NMap HandleEntry) (e : Nat × HandleEntry) : NMap HandleEntry :=
    if (Map.find? (e.1 % 4096) m).isSome then m else Map.insert (e.1 % 4096) e.2 m
  let keep (w : Work) : Work := if w.ctx = c then { w with kept := mine.foldl add w.kept } else w
  s.modQe fun e => { e with works := e.works.map keep }

/-- The entries that a HANDLE_UPDATE writes (R52), keyed as the cache is. -/
def updatedHandles (w : Work) : List (Nat × HandleEntry) :=
  (List.range (descNat w.desc 34 1)).map fun i =>
    (w.ctx * 4096 + descNat w.desc 32 2 + i, { q0 := descQ w.desc (64 + 16 * i), q1 := descQ w.desc (72 + 16 * i) })

/-- A HANDLE_UPDATE completes (R52): descriptors that start from now on see its entries in the cache; where its write to the table failed, they
are read from the table again. Where the context's table has changed since it started, its entries are in no table that the cache holds (R51). -/
def handlesUpdated (w : Work) (failed : Bool) (s : State) : State :=
  if Map.getD 0 w.ctx s.qe.htab ≠ w.htab then s
  else
  let put (m : NMap HandleEntry) (x : Nat × HandleEntry) : NMap HandleEntry := if failed then Map.erase x.1 m else Map.insert x.1 x.2 m
  (s.keepHandles w.ctx).modQe fun e => { e with handles := (updatedHandles w).foldl put e.handles }

/-- A descriptor is one whose reads a quiescing lets drain (R315 step 2). -/
def isQuiesced (s : State) (id : Nat) : Bool := s.up.quiescing.any fun x => decide (id ∈ x.reads)

/-- An ended work completes once every write of it is performed (R255, R69): its signal, its entry, its interrupt. -/
def completeWork (id : Nat) (s : State) : State :=
  match s.work? id with
  | none => s
  | some w =>
    let p := s.postedOf (.work id)
    if w.phase ≠ .ended ∨ p.1 ≠ 0 ∨ s.isQuiesced id then s
    else
      let st0 := if w.status = 0 then p.2.getD 0 else w.status
      let s := if dOpcode w.desc = 0x04 ∧ w.status = 0 ∧ w.acc = 0 then s.handlesUpdated w p.2.isSome else s
      let r := s.signalAt w.desc w.ctx (some w.q) st0 w.noSig
      let status := r.1
      let s := r.2
      let w := { w with status := status, noSig := true, acc := 1 }
      let s := (s.modSf fun f => { f with posted := f.posted.filter (fun p => p.who ≠ .work id) }).setWork w
      let e : CqEntry := { status := status, slot := none, cmdId := dCmdId w.desc, result := w.result, irq := dIrq w.desc, detached := false }
      let fin (s : State) : State :=
        ((s.updQueue w.q fun v => { v with reserved := v.reserved - 1, lastStatus := status }).dropWork w).rpEvent 0x04 0 w.q
          (w64 (dCmdId w.desc) ||| fld status 16) w.result none
      if dQuiet w.desc ∧ status = 0 then fin s
      else match s.writeEntry w.q e with
        | (true, s) => fin s
        | (false, s) => s

/-- Writes the oldest entry that has no place reserved, once the ring has room (R454). -/
def writeDeferred (q : Nat) (s : State) : State :=
  let v := s.queue q
  match v.deferred with
  | [] => s
  | e :: rest =>
    if v.room = 0 then s
    else match s.writeEntry q e with
      | (true, s) => (s.updQueue q fun v => { v with deferred := rest }).rpEvent 0x04 0 q (w64 e.cmdId ||| fld e.status 16) e.result none
      | (false, s) => s

/-- The head of a queue ends without starting, its entry placed when there is room (R71, R75): the reservation it held is
released. The entry of a parked head waits without a reserved place (log entry 18). -/
def endHead (q status : Nat) (s : State) : State :=
  let v := s.queue q
  match v.head with
  | none => s
  | some h =>
    (s.setQueue q { v with head := none, reserved := if h.granted then v.reserved - 1 else v.reserved }).deferEntry q
      { status := status, slot := none, cmdId := dCmdId h.desc, result := 0, irq := dIrq h.desc, detached := false }

end State

/-! ### Doorbells -/

/-- What a doorbell does (Table 7). -/
inductive DbKind where
  | sqTail
  | cqHead
  | batch
  | coreDone
deriving DecidableEq, Repr

namespace State

/-- A doorbell page's owner record (Table 16). -/
def dbPage (s : State) (p : Nat) : Word := Map.getD 0 p s.qe.dbPages

/-- The page a doorbell acts on: a VF's page j is the j-th lowest enabled page whose FUNCTION it is (R304). -/
def dbPageOf (s : State) (o : DbOrigin) : Option Nat :=
  match o with
  | .pf p | .port _ p | .peer _ _ p | .batcher p => some p.toNat
  | .vf fn j => ((s.qe.dbPages.filter fun e => bit e.2 8 && decide (bits e.2 7 0 = fn.toNat)).map (·.1))[j.toNat]?

/-- The function a doorbell comes from, where it carries one (R60). -/
def dbFunction : DbOrigin → Option Nat
  | .pf _ => some 0
  | .vf fn _ => some fn.toNat
  | .peer _ f _ => some f.toNat
  | .port _ _ | .batcher _ => none

/-- The checks of R59 that do not depend on the value, in its order: the error bit of the first that applies. -/
def dbCheck (s : State) (o : DbOrigin) (kind : DbKind) (page q : Nat) : Option Nat :=
  let own := s.dbPage page
  let batcher := match o with | .batcher _ => true | _ => false
  let port := match o with | .port _ _ => true | _ => false
  if s.queueFenced q then some Err.QE_DB_RANGE
  else if kind ≠ .coreDone ∧ !batcher ∧ !bit own 8 then some Err.QE_DB_FOREIGN
  else if (match dbFunction o with | some f => decide (f ≠ bits own 7 0) | none => false) then some Err.QE_DB_FOREIGN
  else if kind ≠ .coreDone ∧ (s.queue q).serve ∧ !batcher then some Err.QE_DB_FOREIGN
  else if kind = .coreDone ∧ !port then some Err.QE_DB_FOREIGN
  else none

/-- Discards a doorbell and sets its bit (R59). -/
def dbError (i q : Nat) (s : State) : State :=
  s.raise Reg.QE i { Capture.none with cls := 2, index := q, access := 1, ctx := some (s.queue q).ctx }

/-- The recorder's fields of a doorbell's origin (R417 Table 6). -/
def dbOriginBits : DbOrigin → Nat
  | .pf _ => 0
  | .vf fn _ => fn.toNat * 256
  | .port n _ => 1 + n.val * 256
  | .peer node _ _ => 2 + node.toNat * 256
  | .batcher _ => 3

def dbRecord (kind : Nat) (o : DbOrigin) (q v : Nat) (word : Word) (s : State) : State :=
  s.rpEvent 0x01 0 q (w64 (v % 65536) ||| fld kind 16 ||| fld (dbOriginBits o % 4) 18 ||| fld (dbOriginBits o / 256) 20) word none

/-- In replay, live doorbells that would start work are discarded (R419 Table 7). -/
def dbLive (s : State) (o : DbOrigin) : Bool := !s.rp.replaying || (match o with | .batcher _ => true | _ => false)

/-- A new tail (R59, R72, R407): a doorbell in IDLE starts the fetch, one in IDLE_PENDING is marked. -/
def ringTail (q v : Nat) (s : State) : State :=
  let x := s.queue q
  if x.slots ≤ v then s.dbError Err.QE_DB_RANGE q
  else if (v + x.slots - x.sqHead) % x.slots < x.unfetched then s.dbError Err.QE_DB_REGRESS q
  else
    let x := { x with sqTail := v }
    match x.st with
    | .idle => s.setQueue q (if s.ctxHeld x.ctx then x else { x with st := .fetching })
    | .idlePending => s.setQueue q { x with dbPending := true }
    | _ => s.setQueue q x

/-- A completion-head doorbell (R46, R59). -/
def ringHead (q v : Nat) (s : State) : State :=
  let x := s.queue q
  if x.entries ≤ v then s.dbError Err.QE_DB_RANGE q
  else if x.unread < (v + x.entries - x.cqHead) % x.entries then s.dbError Err.QE_DB_REGRESS q
  else s.setQueue q { x with cqHead := v }

/-- A doorbell of a size the page refuses: an unsupported request of the host (R304); the other ways carry only what their
rules let in, and it is discarded. -/
def dbBadSize (o : DbOrigin) (s : State) : State :=
  match o with
  | .pf _ | .vf _ _ => s.unsupported true
  | _ => s

/-- An SQ_TAIL or CQ_HEAD doorbell (R57 to R59). -/
def doorbell (kind : DbKind) (d : Doorbell) (s : State) : State :=
  match d.half with
  | none => s.dbBadSize d.origin
  | some h =>
    match s.dbPageOf d.origin with
    | none => s.raise Reg.QE Err.QE_DB_RANGE { Capture.none with cls := 8, access := 1 }
    | some page =>
      let q := 64 * page + d.index.toNat
      let v := bits d.value 15 0
      match s.dbCheck d.origin kind page q with
      | some i => s.dbError i q
      | none =>
        if h = .high then s.dbError Err.QE_DB_RANGE q
        else if kind = .cqHead then (s.dbRecord 1 d.origin q v 0).ringHead q v
        else if !s.dbLive d.origin then s.bump Reg.RP_STAT_DISCARDED
        else (s.dbRecord 0 d.origin q v 0).ringTail q v

/-- One member of a batched ring (R61): its tail shadow is to be read. -/
def batchMember (o : DbOrigin) (page q : Nat) (s : State) : State :=
  match s.dbCheck o .batch page q with
  | some i => s.dbError i q
  | none =>
    if (s.queue q).tailShadow = 0 then s.dbError Err.QE_DB_RANGE q
    else if !s.dbLive o then s.bump Reg.RP_STAT_DISCARDED
    else s.modQe fun e => { e with shadows := e.shadows ++ [q] }

/-- A BATCH_SQ doorbell (R58, R61): the queues of its mask, in rising order. -/
def batchRing (d : Doorbell) (s : State) : State :=
  match d.half with
  | none => s.dbBadSize d.origin
  | some h =>
    match s.dbPageOf d.origin with
    | none => s.raise Reg.QE Err.QE_DB_RANGE { Capture.none with cls := 8, access := 1 }
    | some page =>
      let mask := halfValue h d.value
      (List.range 64).foldl (fun s i => if bit mask i then s.batchMember d.origin page (64 * page + i) else s) s

/-- A tail shadow has been read (R61): it rings the queue's tail, or its failure discards the ring. -/
def shadowRead (q : Nat) (s : State) : State :=
  if q ∉ s.qe.shadows then s
  else
    let v := s.queue q
    let k := s.queueWho q (.shadow q)
    match (engRead k v.tailShadow 8).exec s with
    | (.error .wait, s) => s
    | (.error (.fail _), s) =>
      let s := (s.forget (.shadow q)).modQe fun e => { e with shadows := e.shadows.erase q }
      (s.dbError Err.QE_DB_RANGE q).setReg (Reg.errAddr Reg.QE) v.tailShadow
    | (.ok bs, s) =>
      let s := (s.forget (.shadow q)).modQe fun e => { e with shadows := e.shadows.erase q }
      let t := bits (leWord bs) 15 0
      (s.dbRecord 2 (.pf 0) q t 0).ringTail q t

/-- The outstanding dispatches of a queue (R56): the LAUNCH and STEP works that a group has taken, oldest first. -/
def dispatches (s : State) (q : Nat) : List Work := (s.qe.dispatched.filterMap s.work?).filter fun w => decide (w.q = q)

end State

end Sys2Proof.Machine
end

