-- ==== Sys2Proof/Machine/Movers.lean ====
section
/-! DEFINITION. The operations of the queue engine and the DMA movers: COPY, FILL, WRITE_INLINE (R49), HANDLE_UPDATE (R52),
LAUNCH with its patch points and dispatch (R53 to R56, R432), and the fence watchdog (R71). -/

namespace Sys2Proof.Machine

/-- A target moved on by `n` bytes. -/
def Target.plus (t : Target) (n : Nat) : Target :=
  match t with
  | .device da h => .device (da + n) h
  | .host a p r => .host (a + n) p r
  | .peer node da => .peer node (da + n)

/-- Translates an operand that reaches `len` bytes (R50, R174). -/
def operand (k : Who) (d : Desc) (a : Word) (len : Nat) (write : Bool) : M Target := do
  let a ← operandAddr k (dHandles d) a len write
  translate k a len write

/-- The lines fetched for a waiter are used up. -/
def State.dropGot (w : Waiter) (s : State) : State := s.modSf fun f => { f with got := f.got.filter fun g => g.who ≠ w }

/-- The bytes a mover copies in one piece before its progress is kept. -/
def pieceBytes : Nat := 4096

/-- The progress of a work: how many bytes of it are done. -/
def State.workNext (s : State) (id : Nat) : Nat := ((s.work? id).map (·.next)).getD 0

def State.setWorkNext (id n : Nat) (s : State) : State :=
  match s.work? id with
  | some w => s.setWork { w with next := n }
  | none => s

/-- A mover is needed (R393): none is left once both are fenced. -/
def needMover (w : Waiter) : M Unit := do
  let s ← get
  if !s.moverUp then failM St.DEVICE_ERROR
  else if s.domReady (Dom.mover 0) || s.domReady (Dom.mover 1) then pure ()
  else needDomain w (if s.isFenced (Dom.mover 0) then Dom.mover 1 else Dom.mover 0)

/-- Copies [next, total) piece by piece; a read of poisoned data ends it with DATA_ERROR (R387), and writes already performed
stand. -/
def copyPieces (k : Who) (id : Nat) (src dst : Target) (total : Nat) : Nat → M Unit
  | 0 => pure ()
  | n + 1 => do
    let s ← get
    let at_ := s.workNext id
    if total ≤ at_ then pure ()
    else
      let len := min pieceBytes (total - at_)
      let r ← readTarget k (src.plus at_) len
      if r.2 then failM St.DATA_ERROR
      else
        writeTarget k (dst.plus at_) r.1 false
        act (State.dropGot k.w)
        act (State.setWorkNext id (at_ + len))
        copyPieces k id src dst total n

/-- Writes [next, total) of a byte string given as a function of the offset. -/
def fillPieces (k : Who) (id : Nat) (dst : Target) (src : Nat → Byte) (total : Nat) : Nat → M Unit
  | 0 => pure ()
  | n + 1 => do
    let s ← get
    let at_ := s.workNext id
    if total ≤ at_ then pure ()
    else
      let len := min pieceBytes (total - at_)
      writeTarget k (dst.plus at_) ((List.range len).map fun i => src (at_ + i)) false
      act (State.setWorkNext id (at_ + len))
      fillPieces k id dst src total n

/-- Whether two targets of given lengths share bytes. -/
def Target.overlaps (t : Target) (n : Nat) (t' : Target) (n' : Nat) : Bool :=
  match t, t' with
  | .device a _, .device b _ => decide (a < b + n' ∧ b < a + n)
  | .host a _ _, .host b _ _ => decide (a < b + n' ∧ b < a + n)
  | .peer x a, .peer y b => decide (x = y ∧ a < b + n' ∧ b < a + n)
  | _, _ => false

/-- Leaves the bytes of a range unpredictable: each line of it receives a free value (log entry 6). -/
def scramble (k : Who) (t : Target) (len : Nat) : Nat → M Unit
  | 0 => pure ()
  | n + 1 => do
    let s ← get
    let r := s.freshLine
    set r.2
    writeTarget k (t.plus (64 * n)) ((lineBytes r.1).take (min 64 (len - 64 * n))) false
    scramble k t len n

/-- The same, where a stop changes nothing more: nothing is promised of the bytes. -/
def State.scrambleAt (k : Who) (t : Target) (len : Nat) (s : State) : State := ((scramble k t len (ceilDiv len 64)).exec s).2

/-- NOP (R49): no operand; every operand byte is reserved (log entry 17). -/
def runNop (_k : Who) (w : Work) : M Word :=
  if descNat w.desc 32 32 ≠ 0 then failM St.FORMAT_ERROR else pure 0

/-- COPY (R49). RESULT is the bytes copied. The spec states no contents for a destination that overlaps a source other than
itself: they are free values (log entry 6). -/
def runCopy (k : Who) (w : Work) : M Word := do
  let len := descBits w.desc 48 39 0
  if descBits w.desc 48 63 40 ≠ 0 ∨ len = 0 ∨ descNat w.desc 56 8 ≠ 0 then failM St.FORMAT_ERROR
  else
    let src ← operand k w.desc (descQ w.desc 32) len false
    let dst ← operand k w.desc (descQ w.desc 40) len true
    needMover k.w
    copyPieces k w.id src dst len (len / pieceBytes + 1)
    if src.overlaps len dst len ∧ src ≠ dst then act (State.scrambleAt k dst len) else pure ()
    pure (w64 len)

/-- FILL (R49): PATTERN repeated from DST upward. RESULT is the bytes written. Bytes 56 to 63 are
reserved (log entry 11). -/
def runFill (k : Who) (w : Work) : M Word := do
  let len := descBits w.desc 40 39 0
  if descBits w.desc 40 63 40 ≠ 0 ∨ len = 0 ∨ descNat w.desc 56 8 ≠ 0 then failM St.FORMAT_ERROR
  else
    let dst ← operand k w.desc (descQ w.desc 32) len true
    needMover k.w
    fillPieces k w.id dst (fun i => BitVec.ofNat 8 (descNat w.desc 48 8 >>> (8 * (i % 8)))) len (len / pieceBytes + 1)
    pure (w64 len)

/-- WRITE_INLINE (R49). With INLINE_LEN 0 nothing is written and DST is not translated. Bytes 40 to 63 are reserved (log entry
11). -/
def runWriteInline (k : Who) (w : Work) : M Word := do
  let len := dInline w.desc
  if descNat w.desc 40 24 ≠ 0 then failM St.FORMAT_ERROR
  else if len = 0 then pure 0
  else
    let dst ← operand k w.desc (descQ w.desc 32) len true
    needMover k.w
    writeTarget k dst (descBytes w.desc 64 len) false
    pure (w64 len)

/-- HANDLE_UPDATE (R52): writes the table; the engine's cache follows when the write is performed (handlesUpdated). RESULT is the count.
Bytes 35 to 63 are reserved (log entry 11). -/
def runHandleUpdate (k : Who) (w : Work) : M Word := do
  let first := descNat w.desc 32 2
  let count := descNat w.desc 34 1
  if count = 0 ∨ 12 < count ∨ dInline w.desc ≠ 16 * count ∨ 4096 < first + count ∨ descNat w.desc 35 29 ≠ 0 then failM St.FORMAT_ERROR
  else
    let s ← get
    let base := (handleView s k).1
    if base = 0 then failM St.HANDLE_INVALID
    else
      engWrite k (base + w64 (16 * first)) (descBytes w.desc 64 (16 * count))
      pure (w64 count)

/-! ### LAUNCH -/

/-- The bits of PATCH_MASK that are set, in ascending order (R54). -/
def patchPoints (d : Desc) : List Nat := (List.range 32).filter fun i => (descNat d 40 4).testBit i

/-- The format checks of a LAUNCH (R53, R54): the reserved bytes 44 to 47, and one value for each patch point. -/
def launchBad (d : Desc) : Bool := decide (descNat d 44 4 ≠ 0) || decide (dInline d ≠ 8 * (patchPoints d).length)

/-- The device address of a patched LAUNCH's buffer, by which buffers in use are told apart (R55). -/
def launchKey (k : Who) (d : Desc) : M Nat := do
  let t ← operand k d (descQ d 32) 16 false
  pure (match t with
    | .device da _ => da
    | .host a _ _ => 2 ^ 64 + a
    | .peer node da => 2 ^ 65 * (node + 1) + da)

/-- The reference that PROGRAM holds with HANDLES set is checked also where PATCH_MASK is 0 and the engine reads no byte of the buffer (R50, R53,
R54). -/
def programCheck (k : Who) (d : Desc) : M Unit := do
  if dHandles d then let _ ← handleAddr k (descQ d 32) 0 false else pure ()

/-- A patch point (R53): offset, width in bytes, RELOCATE, and whether its reserved bits are 0. -/
structure PatchPoint where
  off   : Nat
  width : Nat
  reloc : Bool
  clean : Bool
deriving DecidableEq, Repr

def patchPoint (w : Word) : PatchPoint :=
  { off := bits w 31 0, width := 2 ^ bits w 33 32, reloc := bit w 34, clean := decide (bits w 63 35 = 0) }

/-- A RELOCATE value (R54): its handle reference resolved to a device address, with no permission checked. -/
def relocate (k : Who) (v : Word) : M Word := do
  let a ← handleAddr k v 1 false
  let s ← get
  match s.segCheck k.ctx a 1 none with
  | some (.device da _) => pure (w64 da)
  | some _ => failM St.PATCH_ERROR
  | none => do
    act fun s => s.raise Reg.CH Err.CH_TRANSLATION (Capture.ctxAddr a false k.q k.ctx)
    failM St.TRANSLATION_FAULT

/-- The checks and patches of a LAUNCH whose PATCH_MASK is not 0 (R54). -/
def patchBuffer (k : Who) (d : Desc) : M Unit := do
  let prog := descQ d 32
  let t ← operand k d prog 16 false
  let h ← readTarget k t 16
  if h.2 then failM St.DATA_ERROR
  else
    let length := leNat (h.1.take 4)
    let count := leNat ((h.1.drop 4).take 1)
    if 32 < count ∨ leNat (h.1.drop 5) ≠ 0 ∨ count = 0 then failM St.PATCH_ERROR
    else
      let tt ← operand k d (prog + 16) (8 * count) false
      let table ← readTarget k tt (8 * count)
      if table.2 then failM St.DATA_ERROR
      else
        let sel := patchPoints d
        let point (i : Nat) : PatchPoint := patchPoint (leWord ((table.1.drop (8 * i)).take 8))
        let bad (i : Nat) : Bool :=
          decide (count ≤ i) || !(point i).clean || ((point i).reloc && decide ((point i).width ≠ 8)) ||
            decide ((point i).off < 16 + 8 * count) || decide (length < (point i).off + (point i).width)
        if sel.any bad then failM St.PATCH_ERROR
        else
          let vals ← (List.range sel.length).mapM fun j => do
            let p := point (sel.getD j 0)
            let v := descQ d (64 + 8 * j)
            let v ← if p.reloc then relocate k v else pure v
            pure (p, v)
          for pv in vals do
            let t ← operand k d (prog + w64 pv.1.off) pv.1.width true
            writeTarget k t (leBytes pv.1.width pv.2.toNat) false

/-- The dispatch record of a LAUNCH or STEP (R432 Table 10): PROGRAM as the descriptor has it, also where it is a handle reference (log entry
14). -/
def dispatchRecord (w : Work) : BitVec 320 :=
  let q0 := dOpcode w.desc + (w.q % 65536) * 2 ^ 8 + dCmdId w.desc * 2 ^ 24 + (w.ctx % 4096) * 2 ^ 40 + (w.fn % 256) * 2 ^ 52
  let d := w.desc
  if dOpcode d = 0x34 then
    BitVec.ofNat 320 (q0 + descNat d 40 8 * 2 ^ 64 + descNat d 32 8 * 2 ^ 128 + descNat d 56 8 * 2 ^ 192 +
      (descNat d 48 2 + descNat d 52 4 * 2 ^ 32) * 2 ^ 256)
  else
    BitVec.ofNat 320 (q0 + descNat d 32 8 * 2 ^ 64 + descNat d 48 8 * 2 ^ 128 + descNat d 56 8 * 2 ^ 192)

namespace State

/-- Offers a work on the dispatch channel of its queue's CORE_GROUP, behind those already offered there (R432). -/
def offer (w : Work) (s : State) : State :=
  let g := (s.queue w.q).group
  let waiting := Map.getD [] g s.qe.offers
  let s := (s.setWork { w with phase := .offered }).modQe fun e => { e with offers := Map.put [] g (waiting ++ [w.id]) e.offers }
  if waiting.isEmpty then s.emit (.dispatch g (dispatchRecord w)) else s

/-- The record on a channel is taken; the next is offered (R432). -/
def offerTaken (g : Nat) (s : State) : State :=
  match Map.getD [] g s.qe.offers with
  | [] => s
  | id :: rest =>
    let s := s.modQe fun e => { e with offers := Map.put [] g rest e.offers, dispatched := e.dispatched ++ [id] }
    let s : State := match s.work? id with
      | some w => s.setWork { w with phase := .taken }
      | none => s
    match rest.findSome? s.work? with
    | some w => s.emit (.dispatch g (dispatchRecord w))
    | none => s

/-- A LAUNCH goes on: its patches are written, and it is dispatched once they are complete (R54, R55). `count` 1 marks that
they have been issued. -/
def runLaunch (w : Work) (s : State) : State :=
  let k := s.workWho w
  if launchBad w.desc then s.endWork w.id St.FORMAT_ERROR 0
  else if patchPoints w.desc = [] then
    (match (programCheck k w.desc).exec s with
     | (.error .wait, s) => s
     | (.error (.fail st), s) => s.endWork w.id st 0
     | (.ok (), s) => s.offer w)
  else if w.count = 1 then
    let p := s.postedOf (.work w.id)
    if p.1 ≠ 0 then s
    else match p.2 with
      | some st => s.endWork w.id st 0
      | none => s.offer w
  else match (patchBuffer k w.desc).exec s with
    | (.error .wait, s) => s
    | (.error (.fail st), s) => s.endWork w.id st 0
    | (.ok (), s) =>
      let s := s.setWork { w with count := 1 }
      if (s.postedOf (.work w.id)).1 = 0 then s.offer { w with count := 1 } else s

/-- Tries to start the LAUNCH at the head of queue `q` (R55): a patched one waits, with WAIT_KIND 3, while its buffer is in use
or 256 are tracked. -/
def tryLaunch (q : Nat) (s : State) : State :=
  match s.headFor q 0x05 with
  | none => s
  | some h =>
    let go (buffer : Option Nat) (s : State) : State :=
      let w := { s.newWork q h .running 0 with buffer := buffer }
      ((s.takeHead q h .running 0).setWork w).runLaunch w
    if launchBad h.desc ∨ patchPoints h.desc = [] then go none s
    else match (launchKey (s.queueWho q (.slot q)) h.desc).exec s with
      | (.error .wait, s) => s
      | (.error (.fail st), s) =>
        let s := s.forget (.slot q)
        (s.takeHead q h .running 0).endWork s.qe.nextWork st 0
      | (.ok key, s) =>
        let s := s.forget (.slot q)
        let inUse := s.qe.works.filter fun w => w.buffer.isSome
        if (inUse.any fun w => decide (w.buffer = some key)) || decide (256 ≤ inUse.length) then s.waitResource q
        else go (some key) s

/-- Runs an engine operation of a work: it ends with its RESULT, or with a status and what it has come to, or waits. -/
def runUpTo (sofar : State → Nat) (f : Who → Work → M Word) (w : Work) (s : State) : State :=
  match (f (s.workWho w) w).exec s with
  | (.ok r, s) => (s.dropGot (.work w.id)).endWork w.id 0 r
  | (.error (.fail st), s) => (s.dropGot (.work w.id)).endWork w.id st (w64 (sofar s))
  | (.error .wait, s) => s

/-- The same for an operation that counts its progress in bytes. -/
def runWith (f : Who → Work → M Word) (w : Work) (s : State) : State := s.runUpTo (fun s => s.workNext w.id) f w

/-- Starts the granted head of a queue when its opcode is `op`, and runs it. -/
def startRun (op : Nat) (f : Who → Work → M Word) (q : Nat) (s : State) : State :=
  match s.startHead q op with
  | some (w, s) => s.runWith f w
  | none => s

/-- The same for an operation on the state. -/
def startWork (op : Nat) (f : Work → State → State) (q : Nat) (s : State) : State :=
  match s.startHead q op with
  | some (w, s) => f w s
  | none => s

/-! ### The fence watchdog -/

/-- The queue that a waiting queue's counter depends on (R71): PRODUCER where valid, else the last to signal it. -/
def producerOf (s : State) (q : Nat) : Option Nat :=
  let v := s.queue q
  if v.st ≠ .waiting then none
  else match v.waitKind with
    | .fence => let c := s.ctr false v.waitIndex; if c.prodValid then some c.producer else c.lastSig
    | .event => let c := s.ctr true v.waitIndex; if c.prodValid then some c.producer else c.lastSig
    | _ => none

/-- The walk of R71 from `start`, now at `q` with the queues behind it: the cycle, if it returns to its start.
It goes on through queues of a held context (log entry 19). -/
def walkFrom (s : State) (start : Nat) : Nat → Nat → List Nat → Option (List Nat)
  | 0, _, _ => none
  | n + 1, q, path =>
    match s.producerOf q with
    | none => none
    | some p => if p = start then some path else walkFrom s start n p (path ++ [p])

/-- Parks a queue: its head completes with `st` and applies no signal (R71, R69). -/
def parkQueue (st q : Nat) (s : State) : State :=
  let s := s.endHead q st
  (s.updQueue q fun v => { v.noWait with st := .parked }).rpEvent 0x07 0 q (w64 st) 0 none

/-- A queue that waits on a counter and is overdue at the watchdog's tick (R71, R407). -/
def overdue (s : State) (v : Queue) : Bool :=
  decide (v.st = .waiting) && decide (v.waitKind = .fence ∨ v.waitKind = .event) && !s.ctxHeld v.ctx &&
    decide (v.waitStart + s.regBits Reg.QE_CTRL 63 48 * 1000000 < s.now)

/-- One examination of the watchdog (R71), the first 1 ms after step 7 of power-up (R360). -/
def watchdog (s : State) : State :=
  if s.regBits Reg.QE_CTRL 63 48 = 0 ∨ s.rp.replaying ∨ !s.boot.loaded then s
  else
    -- WAIT_START holds timestamp bits [51:20] (R36 Table 1); equal times go by queue number
    let due := sortBy (fun e => e.2.waitStart / 2 ^ 20 % 2 ^ 32 * 65536 + e.1)
      (s.qe.queues.filter fun e => s.overdue e.2 && !s.isFenced (Dom.bank (e.1 / 16384)))
    due.foldl (fun s e =>
      if !s.overdue (s.queue e.1) then s
      else match s.walkFrom e.1 16 e.1 [e.1] with
        | some path => (path.foldl (fun s q => s.parkQueue St.FENCE_CYCLE q) s).raise Reg.QE Err.QE_FENCE_CYCLE
            { Capture.none with cls := 2, index := e.1, ctx := some e.2.ctx }
        | none => (s.parkQueue St.FENCE_TIMEOUT e.1).raise Reg.QE Err.QE_FENCE_TIMEOUT
            { Capture.none with cls := 2, index := e.1, ctx := some e.2.ctx }) s

/-! ### Arbitration (R63) -/

/-- A queue that a grant can serve: the tail to be read again, a slot to be read, or a head to be granted. -/
def wantsGrant (s : State) (q : Nat) (v : Queue) : Bool :=
  !s.ctxHeld v.ctx &&
    (decide (v.st = .idlePending) ||
     (decide (v.st = .fetching) && v.head.isNone && !v.reading && v.staleDue.isNone) || s.grantable q)

/-- The weight of a class; 0 acts as 1 (R63). -/
def classWeight (s : State) (c : Nat) : Nat := max 1 (s.regBits Reg.QE_CTRL (8 * c + 7) (8 * c))

/-- Serves one queue of a bank: the tail is read again, the slots are read, or the head is granted. -/
def serveQueue (q : Nat) (s : State) : State :=
  let v := s.queue q
  if v.st = .idlePending then s.rereadTail q
  else if s.grantable q then s.grantHead q
  else if v.sqTail = v.sqHead then s.reachTail q
  else s.setQueue q { v with reading := true }

/-- A bank's class credits at a grant (R63, R64): W_c for each grant since the classes began to share, less S for each of its own, so that a class
with credit 0 or more is due, and its next grant is owed within (S − credit) / W_c grants. The due class whose grant is owed soonest is granted,
the lowest of equals. A class without work has no credit. -/
def wrrGrant (s : State) (b : Nat) (classes : List Nat) : Option (Nat × NMap Int) :=
  let sum : Int := sumOf s.classWeight classes
  let credit (c : Nat) : Int := Map.getD 0 (b * 4 + c) s.qe.wrrCredit
  let due := classes.filter fun c => decide (0 ≤ credit c)
  let sooner (x y : Nat) : Bool := decide ((sum - credit x) * s.classWeight y ≤ (sum - credit y) * s.classWeight x)
  match (if due.isEmpty then classes else due).foldl (fun best c => match best with
    | some x => if sooner x c then some x else some c
    | none => some c) none with
  | none => none
  | some c => some (c, (List.range 4).foldl (fun m d => Map.put 0 (b * 4 + d)
      (if d ∈ classes then credit d + s.classWeight d - (if d = c then sum else 0) else 0) m) s.qe.wrrCredit)

/-- One grant of a bank (R63, R64, log entry 12): the class by weighted round-robin; within it, the next queue with work after the last one
served. -/
def grantBank (b : Nat) (s : State) : State :=
  let ready := s.qe.queues.filter fun e => decide (e.1 / 16384 = b) && s.wantsGrant e.1 e.2
  let classes := (List.range 4).filter fun c => ready.any fun e => decide (e.2.cls = c)
  match (if s.isFenced (Dom.bank b) then none else s.wrrGrant b classes) with
  | none => s
  | some (c, credits) =>
    let mine := (ready.filter fun e => decide (e.2.cls = c)).map (·.1)
    let last := Map.getD 0 (b * 4 + c) s.qe.wrrLast
    match (mine.find? fun q => decide (last < q + 1)).orElse fun _ => mine.head? with
    | none => s
    | some q => (s.modQe fun e => { e with wrrCredit := credits, wrrLast := Map.put 0 (b * 4 + c) (q + 1) e.wrrLast }).serveQueue q

end State

end Sys2Proof.Machine
end

