-- ==== Sys2Proof/Machine/Numbers.lean ====
section
/-! DEFINITION. The numeric formats of the Gazelles (R78 to R82), exact values, the one rounding at the end (R83, R88, R89),
the draws of Philox4x32-10 (R90), and tensor, block and group scales (R84 to R87). -/

namespace Sys2Proof.Machine

/-- An exact value: a NaN or infinity with its sign, or the fraction n / d with a sign. -/
inductive Num where
  | nan (neg : Bool)
  | inf (neg : Bool)
  | fin (neg : Bool) (n d : Nat)
deriving DecidableEq, Repr

namespace Num

def zero : Num := .fin false 0 1

/-- ±m × 2^e. -/
def dyadic (neg : Bool) (m : Nat) (e : Int) : Num :=
  if e < 0 then .fin neg m (2 ^ e.natAbs) else .fin neg (m * 2 ^ e.toNat) 1

def neg : Num → Bool
  | .nan s | .inf s | .fin s _ _ => s

def isNan : Num → Bool
  | .nan _ => true
  | _ => false

def isFin : Num → Bool
  | .fin _ _ _ => true
  | _ => false

def isZero : Num → Bool
  | .fin _ 0 _ => true
  | _ => false

/-- The exact product. -/
def mul (x y : Num) : Num :=
  let s := x.neg != y.neg
  match x, y with
  | .nan a, _ => .nan a
  | _, .nan b => .nan b
  | .fin _ n d, .fin _ n' d' => .fin s (n * n') (d * d')
  | .inf _, y => if y.isZero then .nan s else .inf s
  | x, .inf _ => if x.isZero then .nan s else .inf s

/-- The exact sum as IEEE 754 gives it with round-to-nearest: opposite infinities give NaN, and an exact cancellation +0. -/
def add (x y : Num) : Num :=
  match x, y with
  | .nan a, _ => .nan a
  | _, .nan b => .nan b
  | .inf a, .inf b => if a = b then .inf a else .nan false
  | .inf a, _ => .inf a
  | _, .inf b => .inf b
  | .fin a n d, .fin b n' d' =>
    let p := n * d'
    let q := n' * d
    if a = b then .fin a (p + q) (d * d')
    else if p = q then .fin false 0 1
    else if q < p then .fin a (p - q) (d * d')
    else .fin b (q - p) (d * d')

/-- The magnitude. -/
def abs : Num → Num
  | .nan _ => .nan false
  | .inf _ => .inf false
  | .fin _ n d => .fin false n d

def negate : Num → Num
  | .nan s => .nan !s
  | .inf s => .inf !s
  | .fin s n d => .fin (!s) n d

/-- x < y for values that are not NaN. -/
def lt (x y : Num) : Bool :=
  match x, y with
  | .fin a n d, .fin b n' d' =>
    (match a, b with
     | false, false => decide (n * d' < n' * d)
     | true, true => decide (n' * d < n * d')
     | true, false => decide (n ≠ 0 ∨ n' ≠ 0)
     | false, true => false)
  | .inf a, .inf b => a && !b
  | .inf a, _ => a
  | _, .inf b => !b
  | _, _ => false

/-- The larger of two values, a NaN ignored. -/
def max (x y : Num) : Num := if x.isNan then y else if y.isNan then x else if x.lt y then y else x
def min (x y : Num) : Num := if x.isNan then y else if y.isNan then x else if y.lt x then y else x

end Num

/-! ### Rounding -/

/-- The rounding modes (R88). -/
inductive RMode where
  | even
  | zero
  | stochastic (draw : Nat)
deriving DecidableEq, Repr

/-- N / D rounded to an integer under the mode (R88, R89). -/
def roundInt (rm : RMode) (n d : Nat) : Nat :=
  let q := n / d
  let r := n % d
  match rm with
  | .even => if d < 2 * r ∨ (2 * r = d ∧ q % 2 = 1) then q + 1 else q
  | .zero => q
  | .stochastic draw => if 2 ^ 32 ≤ r * 2 ^ 32 / d + draw then q + 1 else q

/-- ⌊log2 (n / d)⌋ for n > 0. -/
def ilog (n d : Nat) : Int :=
  let l : Int := (Nat.log2 n : Int) - (Nat.log2 d : Int)
  let ge : Bool := if l < 0 then decide (d ≤ n * 2 ^ l.natAbs) else decide (d * 2 ^ l.toNat ≤ n)
  if ge then l else l - 1

/-! ### Float encodings (R78 Table 2) -/

/-- A float encoding: exponent and mantissa bits, bias, whether the top exponent holds infinity and NaN, and whether the top code
alone is NaN (E4M3). -/
structure FFmt where
  eb   : Nat
  mb   : Nat
  bias : Nat
  inf  : Bool
  topNan : Bool
deriving DecidableEq, Repr

namespace FFmt
def fp32 : FFmt := ⟨8, 23, 127, true, false⟩
def bf16 : FFmt := ⟨8, 7, 127, true, false⟩
def fp16 : FFmt := ⟨5, 10, 15, true, false⟩
def e4m3 : FFmt := ⟨4, 3, 7, false, true⟩
def e5m2 : FFmt := ⟨5, 2, 15, true, false⟩
def e3m2 : FFmt := ⟨3, 2, 3, false, false⟩
def e2m3 : FFmt := ⟨2, 3, 1, false, false⟩
def e2m1 : FFmt := ⟨2, 1, 1, false, false⟩

/-- The magnitude code of the largest finite value. -/
def maxCode (f : FFmt) : Nat :=
  if f.inf then (2 ^ f.eb - 1) * 2 ^ f.mb - 1 else if f.topNan then 2 ^ (f.eb + f.mb) - 2 else 2 ^ (f.eb + f.mb) - 1

/-- The quiet NaN's magnitude code (R80). -/
def nanCode (f : FFmt) : Nat :=
  if f.inf then (2 ^ f.eb - 1) * 2 ^ f.mb + 2 ^ (f.mb - 1) else 2 ^ (f.eb + f.mb) - 1

def infCode (f : FFmt) : Nat := (2 ^ f.eb - 1) * 2 ^ f.mb

/-- The value of a code. -/
def decode (f : FFmt) (c : Nat) : Num :=
  let w := f.eb + f.mb
  let neg := c.testBit w
  let x := c % 2 ^ w
  let ef := x / 2 ^ f.mb
  let mf := x % 2 ^ f.mb
  if f.inf && decide (ef = 2 ^ f.eb - 1) then (if mf = 0 then .inf neg else .nan neg)
  else if f.topNan && decide (x = 2 ^ w - 1) then .nan neg
  else if ef = 0 then .dyadic neg mf (1 - (f.bias : Int) - f.mb)
  else .dyadic neg (2 ^ f.mb + mf) ((ef : Int) - f.bias - f.mb)

/-- The magnitude code of n / d rounded to the format's precision with an unbounded exponent range: codes rise with the
magnitude, so that one above `maxCode` is an overflow (R81). -/
def roundCode (f : FFmt) (rm : RMode) (n d : Nat) : Nat :=
  if n = 0 then 0
  else
    let emin : Int := 1 - (f.bias : Int)
    let e := max (ilog n d) emin
    let qe := e - f.mb
    let k := if qe < 0 then roundInt rm (n * 2 ^ qe.natAbs) d else roundInt rm n (d * 2 ^ qe.toNat)
    (e + f.bias - 1).toNat * 2 ^ f.mb + k

def sign (f : FFmt) (neg : Bool) : Nat := if neg then 2 ^ (f.eb + f.mb) else 0

/-- The code of the largest finite value with a sign. -/
def largest (f : FFmt) (neg : Bool) : Nat := f.sign neg + f.maxCode

/-- What an infinity or an overflow without saturation becomes (R81 Table 3): infinity, or NaN where there is none. -/
def beyond (f : FFmt) (neg : Bool) : Nat := f.sign neg + (if f.inf then f.infCode else f.nanCode)

/-- A value written to the format, and whether it counts as CLAMPED (R81 Table 3, R94). -/
def encode (f : FFmt) (rm : RMode) (sat : Bool) (v : Num) : Nat × Bool :=
  match v with
  | .nan s => (f.sign s + f.nanCode, false)
  | .inf s => if sat then (f.largest s, true) else (f.beyond s, !f.inf)
  | .fin s n d =>
    let c := f.roundCode rm n d
    if c ≤ f.maxCode then (f.sign s + c, false)
    else if sat || decide (rm = .zero) then (f.largest s, true)
    else (f.beyond s, true)

/-- Round-to-nearest-even into the format, as a value. -/
def rne (f : FFmt) (v : Num) : Num := f.decode (f.encode .even false v).1

end FFmt

/-! ### Formats (R78 Table 1) -/

/-- The element of a format code. -/
inductive Elem where
  | float (f : FFmt)
  | int8
  | int4
  | mx (f : FFmt)
  | mxint8
deriving DecidableEq, Repr

def elemOf (code : Nat) : Option Elem :=
  match code with
  | 0x00 => some (.float .fp32)
  | 0x01 => some (.float .bf16)
  | 0x02 => some (.float .fp16)
  | 0x03 => some (.float .e4m3)
  | 0x04 => some (.float .e5m2)
  | 0x05 => some .int8
  | 0x06 => some .int4
  | 0x10 => some (.mx .e4m3)
  | 0x11 => some (.mx .e5m2)
  | 0x12 => some (.mx .e3m2)
  | 0x13 => some (.mx .e2m3)
  | 0x14 => some (.mx .e2m1)
  | 0x15 => some .mxint8
  | _ => none

/-- FP32, BF16 and FP16 are the float formats (R78). -/
def isFloatFmt (code : Nat) : Bool := decide (code < 3)
def isMx (code : Nat) : Bool := decide (0x10 ≤ code ∧ code ≤ 0x15)
def isFp8 (code : Nat) : Bool := decide (code = 0x03 ∨ code = 0x04)
/-- Formats with a per-tensor scale (R84). -/
def isTensor (code : Nat) : Bool := decide (code = 0x03 ∨ code = 0x04 ∨ code = 0x05)
def isInt4 (code : Nat) : Bool := decide (code = 0x06)

/-- Bits per element in memory (Table 1). -/
def elemBits (code : Nat) : Nat :=
  match code with
  | 0x00 => 32
  | 0x01 | 0x02 => 16
  | 0x06 | 0x14 => 4
  | 0x12 | 0x13 => 6
  | _ => 8

/-- Bytes that `n` elements take. -/
def elemsBytes (code n : Nat) : Nat := ceilDiv (n * elemBits code) 8

/-- Element codes from packed bytes: sub-byte elements lie lowest bits first (Table 1). -/
def unpackElems (code n : Nat) (bs : List Byte) : List Nat :=
  let v := leNat bs
  (List.range n).map fun i => (v >>> (elemBits code * i)) % 2 ^ elemBits code

/-- Packed bytes of element codes. -/
def packElems (code : Nat) (cs : List Nat) : List Byte :=
  leBytes (elemsBytes code cs.length) ((cs.foldr (fun c acc => c % 2 ^ elemBits code + acc * 2 ^ elemBits code) 0))

/-- A two's-complement code of `w` bits as sign and magnitude. -/
def signMag (w c : Nat) : Bool × Nat := if c % 2 ^ w < 2 ^ (w - 1) then (false, c % 2 ^ w) else (true, 2 ^ w - c % 2 ^ w)

/-- ±m as a two's-complement code of `w` bits. -/
def twos (w : Nat) (neg : Bool) (m : Nat) : Nat := if neg ∧ m ≠ 0 then 2 ^ w - m else m

/-- A signed integer as a value, +0 for 0 (R79). -/
def intNum (neg : Bool) (m : Nat) : Num := if m = 0 then .zero else .fin neg m 1

/-- The E8M0 scale of a byte: 2^(s − 127), or NaN for 0xFF (R82). -/
def e8m0 (s : Nat) : Num := if s % 256 = 0xFF then .nan false else .dyadic false 1 ((s % 256 : Nat) - 127)

/-- A scaled integer element: an integer format has one zero, +0 (R79). -/
def scaleInt (v scale : Num) : Num :=
  match v.mul scale with
  | .fin _ 0 _ => .zero
  | x => x

/-- The value of an element under its scale: `scale` is the tensor, block or group scale, `zp` the zero point (R82, R84, R87). -/
def decodeElem (code : Nat) (scale : Num) (zp : Option Nat) (c : Nat) : Num :=
  match elemOf code with
  | some (.float f) => if isFp8 code then (f.decode c).mul scale else f.decode c
  | some .int8 => let p := signMag 8 c; scaleInt (intNum p.1 p.2) scale
  | some .int4 =>
    (match zp with
     | some z => if z ≤ c % 16 then scaleInt (intNum false (c % 16 - z)) scale else scaleInt (intNum true (z - c % 16)) scale
     | none => let p := signMag 4 c; scaleInt (intNum p.1 p.2) scale)
  | some (.mx f) => if scale.isNan then .nan (f.decode c).neg else (f.decode c).mul scale
  | some .mxint8 => let p := signMag 8 c; if scale.isNan then .nan p.1 else (scaleInt (intNum p.1 p.2) scale).mul (.fin false 1 64)
  | none => .zero

/-- A finite value rounded to an integer clamped to ±hi: sign, magnitude, and whether it was clamped. -/
def clampInt (rm : RMode) (lo hi : Nat) (v : Num) : Bool × Nat × Bool :=
  match v with
  | .nan _ => (false, 0, true)
  | .inf s => (s, if s then lo else hi, true)
  | .fin s n d =>
    let k := roundInt rm n d
    let lim := if s then lo else hi
    if lim < k then (s, lim, true) else (s, k, false)

/-! ### Scales -/

/-- The largest finite value of a per-tensor format (R84). -/
def tensorMax (code : Nat) : Nat := if code = 0x03 then 448 else if code = 0x04 then 57344 else 127

/-- 2^−126 and 2^127. -/
def minNormal32 : Num := .dyadic false 1 (-126)
def maxPow32 : Num := .dyadic false 1 127

/-- The per-tensor scale (R84): TSCALE, or the one derived from AMAX_IN. -/
def tensorScale (tsrc : Bool) (tscale amaxIn code : Nat) : Num :=
  if !tsrc then FFmt.fp32.decode tscale
  else match FFmt.fp32.decode amaxIn with
    | .fin false n d =>
      if n = 0 then .fin false 1 1
      else
        let s := FFmt.fp32.rne (.fin false n (d * tensorMax code))
        if s.lt minNormal32 then minNormal32 else if maxPow32.lt s then maxPow32 else s
    | _ => .fin false 1 1

/-- 1 / scale rounded to FP32 to nearest even (R84). -/
def reciprocal (s : Num) : Num :=
  match s with
  | .fin g n d => if n = 0 then .inf g else FFmt.fp32.rne (.fin g d n)
  | .inf g => .fin g 0 1
  | .nan g => .nan g

/-- TSCALE is positive, normal and finite (R84). -/
def goodScale (c : Nat) : Bool := decide (0x00800000 ≤ c ∧ c < 0x7F800000)

/-- emax of an MX element format (R85). -/
def mxEmax (code : Nat) : Int :=
  match code with
  | 0x10 => 8
  | 0x11 => 15
  | 0x12 => 4
  | 0x13 => 2
  | 0x14 => 2
  | _ => 0

/-- The largest magnitude of a list, NaNs ignored. -/
def amaxOf (xs : List Num) : Num := xs.foldl (fun a x => if x.isNan then a else a.max x.abs) .zero

/-- The scale byte of an MX block (R85). -/
def mxScale (code : Nat) (xs : List Num) : Nat :=
  if xs.any (fun x => !x.isFin) then 0xFF
  else match amaxOf xs with
    | .fin _ n d =>
      if n = 0 then 0
      else
        let e := ilog n d - mxEmax code
        ((if e < -127 then -127 else if 127 < e then 127 else e) + 127).toNat
    | _ => 0xFF

/-- One quantised element: its code, and whether it counts as CLAMPED (R94). -/
def mxElem (code s : Nat) (rm : RMode) (x : Num) : Nat × Bool :=
  if s = 0xFF then (0, true)
  else
    let y := x.mul (.dyadic false 1 (127 - (s : Int)))
    match elemOf code with
    | some (.mx f) => f.encode rm true y
    | _ => let r := clampInt rm 127 127 (y.mul (.fin false 64 1)); (twos 8 r.1 r.2.1, r.2.2)

/-- FP16 rounded to nearest even, saturating to 65,504 (R87). -/
def f16Sat (v : Num) : Nat := (FFmt.fp16.encode .even true v).1

/-- A quantised group of INT4_G (R87): its FP16 scale, zero point, codes, and which elements count as CLAMPED. -/
def int4Group (zpOn : Bool) (xs : List (Num × RMode)) : Nat × Nat × List (Nat × Bool) :=
  let vs := xs.map (·.1)
  if vs.any Num.isNan then (FFmt.fp16.nanCode, 0, xs.map fun _ => (0, true))
  else
    let mn := vs.foldl Num.min .zero
    let mx := vs.foldl Num.max .zero
    let s := if zpOn then f16Sat ((mx.add mn.negate).mul (.fin false 1 15)) else f16Sat ((amaxOf vs).mul (.fin false 1 7))
    let inv : Num := match FFmt.fp16.decode s with | .fin g n d => .fin g d n | x => x
    let zp := if !zpOn ∨ s = 0 then 0 else (clampInt .even 0 15 (mn.negate.mul inv)).2.1
    let one (x : Num × RMode) : Nat × Bool :=
      if s = 0 then (zp, false)
      else
        let r := clampInt x.2 (if zpOn then 65536 else 7) (if zpOn then 65536 else 7) (x.1.mul inv)
        if zpOn then
          -- round(x / s) + zp clamped to 0..15
          let k : Int := (if r.1 then -(r.2.1 : Int) else r.2.1) + zp
          (if k < 0 then (0, true) else if 15 < k then (15, true) else (k.toNat, r.2.2))
        else (twos 4 r.1 r.2.1, r.2.2)
    (s, zp, xs.map one)

/-! ### Philox4x32-10 (R90) -/

/-- One round on four words with a two-word key. -/
def philoxRound (c : Nat × Nat × Nat × Nat) (k0 k1 : Nat) : Nat × Nat × Nat × Nat :=
  let p0 := 0xD2511F53 * c.1
  let p1 := 0xCD9E8D57 * c.2.2.1
  (((p1 / 2 ^ 32) ^^^ c.2.1) ^^^ k0, p1 % 2 ^ 32, ((p0 / 2 ^ 32) ^^^ c.2.2.2) ^^^ k1, p0 % 2 ^ 32)

/-- Ten rounds; the key rises by the Weyl increments between rounds. -/
def philox (key ctr : Nat) : Nat × Nat × Nat × Nat :=
  let start := (ctr % 2 ^ 32, (ctr / 2 ^ 32) % 2 ^ 32, (ctr / 2 ^ 64) % 2 ^ 32, (ctr / 2 ^ 96) % 2 ^ 32)
  (List.range 10).foldl (fun c i =>
    philoxRound c ((key % 2 ^ 32 + i * 0x9E3779B9) % 2 ^ 32) ((key / 2 ^ 32 + i * 0xBB67AE85) % 2 ^ 32)) start

/-- Output word `i` mod 4. -/
def philoxWord (r : Nat × Nat × Nat × Nat) (i : Nat) : Nat :=
  match i % 4 with
  | 0 => r.1
  | 1 => r.2.1
  | 2 => r.2.2.1
  | _ => r.2.2.2

/-- The draw of element `i` (R90): PHILOX_STREAM in words 3 and 2 of the counter, ⌊i / 4⌋ in words 1 and 0. -/
def elemDraw (key stream i : Nat) : Nat := philoxWord (philox key (stream * 2 ^ 64 + i / 4)) i

end Sys2Proof.Machine
end

