-- ==== Sys2Proof/Machine/Yxp.lean ====
section
/-! DEFINITION. The YXP lossless code (R101 to R103, R105): encoding and checking 4 KiB blocks. -/

namespace Sys2Proof.Machine

namespace Yxp

/-- Exponent bits, mantissa bits and bytes of an element type (R101): ETYPE 0 to 4. -/
def expBits (ety : Nat) : Nat := match ety with | 0 | 1 => 8 | 2 | 4 => 5 | _ => 4
def manBits (ety : Nat) : Nat := match ety with | 0 => 23 | 1 => 7 | 2 => 10 | 3 => 3 | _ => 2
def elemBytes (ety : Nat) : Nat := match ety with | 0 => 4 | 1 | 2 => 2 | _ => 1

/-- Elements and groups in a block. -/
def elems (ety : Nat) : Nat := 4096 / elemBytes ety
def groups (ety : Nat) : Nat := elems ety / 32

/-- Bytes of the sign-and-mantissa plane (R102). -/
def planeBytes (ety : Nat) : Nat := elems ety * (manBits ety + 1) / 8

/-- The exponent field, and the sign above the mantissa, of an element. -/
def expOf (ety c : Nat) : Nat := (c >>> manBits ety) % 2 ^ expBits ety
def smOf (ety c : Nat) : Nat := c % 2 ^ manBits ety + (c >>> (manBits ety + expBits ety)) % 2 * 2 ^ manBits ety

/-- The element with exponent field `e` and sign-and-mantissa bits `sm`. -/
def elemOfParts (ety e sm : Nat) : Nat :=
  sm % 2 ^ manBits ety + e * 2 ^ manBits ety + sm / 2 ^ manBits ety * 2 ^ (manBits ety + expBits ety)

/-- A bit stream, least significant bit first: fields as value and width, in order. -/
def streamNat : List (Nat × Nat) → Nat
  | [] => 0
  | (v, w) :: fs => v % 2 ^ w + 2 ^ w * streamNat fs

def streamBits (fs : List (Nat × Nat)) : Nat := sumOf (·.2) fs

/-- The choices of the encoder for a group (R102): ZFLAG, BASE and WIDTH. -/
structure Group where
  zflag : Bool
  base  : Nat
  width : Nat
deriving DecidableEq, Repr

def groupOf (es : List Nat) : Group :=
  let live := es.filter (· ≠ 0)
  let zflag := es.any (· = 0)
  match live with
  | [] => { zflag := zflag, base := 0, width := 0 }
  | e :: rest =>
    let lo := rest.foldl min e
    let hi := rest.foldl max e
    { zflag := zflag, base := lo, width := if hi = lo then 0 else Nat.log2 (hi - lo) + 1 }

/-- The fields of a group in the exponent plane: its header, its mask with ZFLAG, and the offsets of unmarked elements. -/
def groupFields (es : List Nat) : List (Nat × Nat) :=
  let g := groupOf es
  let mask := (List.range es.length).foldl (fun m i => if es.getD i 0 = 0 then m + 2 ^ i else m) 0
  [(g.base + g.width * 2 ^ 8 + b2n g.zflag * 2 ^ 12, 16)] ++ (if g.zflag then [(mask, 32)] else []) ++
    (es.filter fun e => !g.zflag || decide (e ≠ 0)).map fun e => (e - g.base, g.width)

/-- The elements of a block. -/
def blockElems (ety : Nat) (bs : List Byte) : List Nat :=
  let w := 8 * elemBytes ety
  let v := leNat bs
  (List.range (elems ety)).map fun i => (v >>> (w * i)) % 2 ^ w

/-- The header of a block (R101 Table 6). -/
def header (expBytes ety raw lines : Nat) : Nat :=
  0xA5C3 * 2 ^ 48 + expBytes % 65536 * 2 ^ 16 + ety % 8 * 2 ^ 8 + raw % 2 * 2 ^ 7 + lines % 128

/-- One 4 KiB block coded (R102), or raw where the code would exceed 64 lines (R103). -/
def encodeBlock (ety : Nat) (bs : List Byte) : List Byte :=
  let cs := blockElems ety bs
  let es := cs.map (expOf ety)
  let fields := (List.range (groups ety)).flatMap fun g => groupFields ((es.drop (32 * g)).take 32)
  let expBytes := ceilDiv (streamBits fields) 8
  let plane := leBytes (planeBytes ety) (streamNat (cs.map fun c => (smOf ety c, manBits ety + 1)))
  let size := 8 + planeBytes ety + expBytes
  let lines := ceilDiv size 64
  if 64 < lines then leBytes 8 (header 0 ety 1 65) ++ bs ++ List.replicate 56 0
  else leBytes 8 (header expBytes ety 0 lines) ++ plane ++ leBytes expBytes (streamNat fields) ++
    List.replicate (64 * lines - size) 0

/-- Bits [off, off + w) of a stream. -/
def take (v off w : Nat) : Nat := (v >>> off) % 2 ^ w

/-- Decodes one group of 32 elements from bit `off` of the exponent plane `v`: the exponents and the bit after it, or none
where checks 7 and 8 of R105 fail. -/
def decodeGroup (ety v off : Nat) : Option (List Nat × Nat) :=
  let h := take v off 16
  let base := h % 256
  let width := (h >>> 8) % 16
  let zflag := (h >>> 12) % 2 = 1
  if expBits ety < width then none
  else
    let mask := if zflag then take v (off + 16) 32 else 0
    let start := off + 16 + if zflag then 32 else 0
    let r := (List.range 32).foldl (fun (acc : Option (List Nat × Nat)) j =>
      match acc with
      | none => none
      | some (es, o) =>
        if mask.testBit j then some (es ++ [0], o)
        else
          let e := base + take v o width
          if 2 ^ expBits ety ≤ e then none else some (es ++ [e], o + width)) (some ([], start))
    r

/-- Decodes the groups of a block. -/
def decodeGroups (ety v : Nat) : Nat → Nat → Option (List Nat × Nat)
  | 0, off => some ([], off)
  | n + 1, off =>
    match decodeGroup ety v off with
    | none => none
    | some (es, off) =>
      match decodeGroups ety v n off with
      | none => none
      | some (rest, off) => some (es ++ rest, off)

/-- What a block is found to be (R105): its length in bytes and its 4 KiB, or the status of the first check that fails. -/
inductive Block where
  | ok (size : Nat) (data : List Byte)
  | bad (status : Nat)
deriving DecidableEq, Repr

def CORRUPT : Nat := 0x42
def ETYPE : Nat := 0x43
def OVERRUN : Nat := 0x44

/-- The length of the block from its header, or the status of checks 2 to 6 of R105; `left` is what remains of SRC_LEN. -/
def checkHeader (ety left h : Nat) : Nat ⊕ Nat :=
  let lines := h % 128
  let raw := (h >>> 7) % 2
  let expBytes := (h >>> 16) % 65536
  if h >>> 48 ≠ 0xA5C3 ∨ (h >>> 32) % 65536 ≠ 0 ∨ (h >>> 11) % 32 ≠ 0 then .inr CORRUPT
  else if lines = 0 ∨ 65 < lines then .inr CORRUPT
  else if (raw = 1 ∧ (lines ≠ 65 ∨ expBytes ≠ 0)) ∨ (raw = 0 ∧ lines = 65) then .inr CORRUPT
  else if (h >>> 8) % 8 ≠ ety then .inr ETYPE
  else if left < 64 * lines then .inr OVERRUN
  else .inl (64 * lines)

/-- Checks 7 to 9 of R105 and the decoded bytes of a whole block. -/
def decodeBlock (ety : Nat) (bs : List Byte) : Block :=
  let h := leNat (bs.take 8)
  let size := 64 * (h % 128)
  if (h >>> 7) % 2 = 1 then .ok size ((bs.drop 8).take 4096)
  else
    let expBytes := (h >>> 16) % 65536
    let plane := leNat ((bs.drop 8).take (planeBytes ety))
    let v := leNat (bs.drop (8 + planeBytes ety))
    match decodeGroups ety v (groups ety) 0 with
    | none => .bad CORRUPT
    | some (es, off) =>
      if ceilDiv off 8 ≠ expBytes ∨ size < 8 + planeBytes ety + expBytes then .bad CORRUPT
      else
        let w := manBits ety + 1
        let n := (List.range (elems ety)).foldr (fun i acc =>
          elemOfParts ety (es.getD i 0) (take plane (w * i) w) + acc * 2 ^ (8 * elemBytes ety)) 0
        .ok size (leBytes 4096 n)

end Yxp

end Sys2Proof.Machine
end

