-- ==== Sys2Proof/Machine/Gazelle.lean ====
section
/-! DEFINITION. The Gazelles: the checks of R109, CONVERT and REDUCE in pieces (R92 to R98), the YXP opcodes (R104, R105),
reduce-writes (R99, R100) and conversion profiles (R106, R107). -/

namespace Sys2Proof.Machine

/-! ### Operands -/

/-- The operands of a CONVERT (R92 Table 4) or REDUCE (R98 Table 5). -/
structure GzOp where
  reduce   : Bool
  srcs     : List Word
  dst      : Word
  count    : Nat
  srcFmt   : Nat
  dstFmt   : Nat
  amaxOnly : Bool
  sat      : Bool
  rmode    : Nat
  accum    : Bool
  zp       : Bool
  gsize    : Nat
  scaleA   : Word
  zpA      : Word
  tscale   : Nat
  tsrc     : Bool
  amaxOut  : Word
  amaxIn   : Word
  key      : Nat
  stream   : Nat
deriving DecidableEq, Repr

/-- The operands of a descriptor: the side data of a CONVERT lie from byte 64, of a REDUCE from byte 128. -/
def gzOp (d : Desc) : GzOp :=
  let r := decide (dOpcode d = 0x11)
  let f := if r then 50 else 58
  let g := if r then 52 else 59
  let side := if r then 128 else 64
  let b (o i : Nat) : Bool := (descNat d o 1).testBit i
  { reduce := r,
    srcs := if r then (List.range (descNat d 51 1 % 16)).map fun i => descQ d (64 + 8 * i) else [descQ d 32],
    dst := if r then descQ d 32 else descQ d 40,
    count := descNat d (if r then 40 else 48) 5,
    srcFmt := descNat d (if r then 48 else 56) 1,
    dstFmt := descNat d (if r then 49 else 57) 1,
    amaxOnly := b f 3, sat := b f 2, rmode := descNat d f 1 % 4,
    accum := r && b 51 4, zp := b g 2, gsize := descNat d g 1 % 4,
    scaleA := descQ d side, zpA := descQ d (side + 8), tscale := descNat d (side + 16) 4, tsrc := b (side + 20) 0,
    amaxOut := descQ d (side + 24), amaxIn := descQ d (side + 32), key := descNat d (side + 40) 8, stream := descNat d (side + 48) 8 }

/-- The format that owns the scale operands: the quantised side (R83); for a REDUCE the destination. -/
def GzOp.sideFmt (o : GzOp) : Nat := if o.reduce then o.dstFmt else if isFloatFmt o.srcFmt then o.dstFmt else o.srcFmt

/-- Elements per group of INT4_G (Table 4). -/
def GzOp.group (o : GzOp) : Nat := 32 * 2 ^ o.gsize

/-- Check 1 of R109: the reserved fields and the ranges. -/
def gzFormBad (d : Desc) : Bool :=
  let o := gzOp d
  if o.reduce then
    decide (descBits d 40 63 40 ≠ 0) || decide (descNat d 50 1 / 16 ≠ 0) || decide (descNat d 51 1 / 32 ≠ 0) ||
    decide (descNat d 52 1 / 8 ≠ 0) || decide (descNat d 53 11 ≠ 0) || decide (descNat d 148 1 / 2 ≠ 0) || decide (descNat d 149 3 ≠ 0) ||
    decide (descNat d 184 72 ≠ 0) || decide (o.rmode = 3) || decide (o.count = 0) || o.amaxOnly ||
    decide (o.srcs.length = 0 ∨ 8 < o.srcs.length) ||
    (List.range 8).any (fun i => decide (o.srcs.length ≤ i) && decide (descQ d (64 + 8 * i) ≠ 0))
  else
    decide (descBits d 48 63 40 ≠ 0) || decide (descNat d 58 1 / 16 ≠ 0) || decide (descNat d 59 1 / 8 ≠ 0) || decide (descNat d 60 4 ≠ 0) ||
    decide (descNat d 84 1 / 2 ≠ 0) || decide (descNat d 85 3 ≠ 0) || decide (descNat d 120 136 ≠ 0) || decide (o.rmode = 3) || decide (o.count = 0)

/-- Check 2 of R109: format codes and pairs. -/
def gzPairBad (o : GzOp) : Bool :=
  (elemOf o.srcFmt).isNone || (elemOf o.dstFmt).isNone ||
  (if o.reduce then decide (4 < o.srcFmt) || (o.accum && !isFloatFmt o.dstFmt)
   else !isFloatFmt o.srcFmt && !isFloatFmt o.dstFmt)

/-- Check 3 of R109: operands that depend on the formats. -/
def gzSideBad (d : Desc) (o : GzOp) : Bool :=
  let f := o.sideFmt
  let four := isInt4 f
  let needScale := isMx f || four
  (!four && decide (descNat d (if o.reduce then 52 else 59) 1 ≠ 0)) || decide (o.gsize = 3) ||
  (needScale && decide (o.scaleA = 0)) || (!needScale && decide (o.scaleA ≠ 0)) ||
  (o.zp && decide (o.zpA = 0)) || (!o.zp && decide (o.zpA ≠ 0)) ||
  (o.tsrc && decide (o.amaxIn = 0)) || (!o.tsrc && decide (o.amaxIn ≠ 0)) ||
  (if isTensor f && !o.tsrc then !goodScale o.tscale else decide (o.tscale ≠ 0))

/-- The alignment that an element format asks of its address (R93). -/
def elemAlign (f : Nat) : Nat := if elemBits f < 16 then 1 else elemBits f / 8

/-- Check 4 of R109, the counts of R93. -/
def gzCountBad (o : GzOp) : Bool :=
  (isMx o.srcFmt || isMx o.dstFmt) && decide (o.count % 32 ≠ 0) ||
  ((isInt4 o.srcFmt || isInt4 o.dstFmt) && decide (o.count % o.group ≠ 0)) ||
  ((decide (elemBits o.srcFmt = 4) || decide (elemBits o.dstFmt = 4)) && decide (o.count % 2 ≠ 0))

/-- Check 4 of R109, the alignment of R93, on the addresses given. -/
def gzAlignBad (o : GzOp) (srcs : List Word) (dst scale amaxOut amaxIn : Word) : Bool :=
  srcs.any (fun a => decide (a.toNat % elemAlign o.srcFmt ≠ 0)) || (!o.amaxOnly && decide (dst.toNat % elemAlign o.dstFmt ≠ 0)) ||
  (isInt4 o.sideFmt && decide (scale.toNat % 2 ≠ 0)) || decide (amaxOut.toNat % 4 ≠ 0) || decide (amaxIn.toNat % 4 ≠ 0)

def GZ_FORMAT_PAIR : Nat := 0x40
def GZ_ALIGN : Nat := 0x41

/-- The checks of R109 on a Gazelle opcode at the head of a queue, in their order; the status of the first that fails. -/
def gzHeadCheck (d : Desc) : Option Nat :=
  let op := dOpcode d
  if op = 0x10 ∨ op = 0x11 then
    let o := gzOp d
    if gzFormBad d then some St.FORMAT_ERROR
    else if gzPairBad o then some GZ_FORMAT_PAIR
    else if gzSideBad d o then some St.FORMAT_ERROR
    else if gzCountBad o || (!dHandles d && gzAlignBad o o.srcs o.dst o.scaleA o.amaxOut o.amaxIn) then some GZ_ALIGN
    else none
  else if op = 0x12 ∨ op = 0x13 then
    if descNat d 48 4 = 0 ∨ descNat d 53 3 ≠ 0 ∨ (op = 0x13 ∧ descNat d 56 8 = 0) then some St.FORMAT_ERROR
    else if 4 < descNat d 52 1 then some GZ_FORMAT_PAIR
    else if !dHandles d && (decide (descNat d 32 8 % 64 ≠ 0) || decide (descNat d 40 8 % 64 ≠ 0) || (decide (op = 0x12) && decide (descNat d 56 8 % 4 ≠ 0))) then
      some GZ_ALIGN
    else none
  else none

/-! ### Values -/

/-- The rounding of element `i` of a descriptor (R88 to R90). -/
def GzOp.round (o : GzOp) (i : Nat) : RMode :=
  match o.rmode with
  | 0 => .even
  | 1 => .zero
  | _ => .stochastic (elemDraw o.key o.stream i)

/-- Groups of `g` elements. -/
def chunks {α : Type} (g : Nat) (l : List α) : List (List α) := (List.range (ceilDiv l.length g)).map fun i => (l.drop (g * i)).take g

/-- Decodes the elements of a piece from its bytes and its slices of the side arrays (R82, R84, R86, R87). -/
def gzDecode (fmt group : Nat) (zp : Bool) (tensor : Num) (n : Nat) (bytes scales zps : List Byte) : List Num :=
  let cs := unpackElems fmt n bytes
  (List.range n).map fun i =>
    let c := cs.getD i 0
    if isMx fmt then decodeElem fmt (e8m0 (scales.getD (i / 32) 0).toNat) none c
    else if isInt4 fmt then
      let s := FFmt.fp16.decode (leNat ((scales.drop (2 * (i / group))).take 2))
      decodeElem fmt s (if zp then some ((zps.getD (i / group) 0).toNat % 16) else none) c
    else decodeElem fmt tensor none c

/-- Writes the values of a piece in the destination format (R81, R84 to R89): its bytes, its side bytes, and how many elements
count as CLAMPED (R94). `rm` is the rounding of the piece's i-th element. -/
def gzEncode (fmt group : Nat) (zp sat : Bool) (tensor : Num) (rm : Nat → RMode) (vs : List Num) : List Byte × List Byte × List Byte × Nat :=
  let idx := (List.range vs.length).map fun i => (vs.getD i .zero, rm i)
  let pack (es : List (Nat × Bool)) : List Byte × Nat := (packElems fmt (es.map (·.1)), countOf (·.2) es)
  if isMx fmt then
    let bl := (chunks 32 idx).map fun b => let s := mxScale fmt (b.map (·.1)); (s, b.map fun x => mxElem fmt s x.2 x.1)
    let p := pack (bl.flatMap (·.2))
    (p.1, bl.map fun b => BitVec.ofNat 8 b.1, [], p.2)
  else if isInt4 fmt then
    let gs := (chunks group idx).map fun b => int4Group zp b
    let p := pack (gs.flatMap (·.2.2))
    (p.1, gs.flatMap fun g => leBytes 2 g.1, if zp then gs.map fun g => BitVec.ofNat 8 g.2.1 else [], p.2)
  else
    let rcp := reciprocal tensor
    let p := pack (idx.map fun x =>
      match elemOf fmt with
      | some (.float f) => if isFp8 fmt then f.encode x.2 sat (x.1.mul rcp) else f.encode x.2 sat x.1
      | _ => let r := clampInt x.2 127 127 (x.1.mul rcp); (twos 8 r.1 r.2.1, r.2.2))
    (p.1, [], [], p.2)

/-- The FP32 code of the largest magnitude (R94). -/
def amaxCode (vs : List Num) : Nat := (FFmt.fp32.encode .even false (amaxOf vs)).1

/-- A permutation of a list, drawn from a number: the order of terms is not promised (R91). -/
def permute {α : Type} : Nat → Nat → List α → List α
  | 0, _, _ => []
  | n + 1, w, l =>
    match l with
    | [] => []
    | a :: _ => let i := w % l.length; l.getD i a :: permute n (w / l.length) (l.eraseIdx i)

/-- The FP32 sum of terms in their order, each addition rounded to nearest even (R98). -/
def sum32 : List Num → Num
  | [] => .zero
  | t :: ts => ts.foldl (fun a x => FFmt.fp32.rne (a.add x)) t

/-! ### Pieces -/

/-- Elements per piece (R95). -/
def State.pieceElems (s : State) : Nat := 2 ^ max 12 (min 24 (s.regBits Reg.GZ_CTRL 20 16))

/-- The addresses of a CONVERT or REDUCE once its handles are resolved (R50). -/
structure GzAddrs where
  srcs    : List Target
  dst     : Option Target
  scale   : Option Target
  zp      : Option Target
  amaxOut : Option Target
  amaxIn  : Option Target
deriving DecidableEq, Repr

/-- Resolves and translates the operands, the sources before the destination, and with HANDLES checks their alignment (R98, R109, log entry 59).
With AMAX_ONLY the references of the side arrays are resolved all the same (R92, log entry 59). -/
def gzResolve (k : Who) (d : Desc) : M GzAddrs := do
  let o := gzOp d
  let h := dHandles d
  let f := o.sideFmt
  let srcLen := elemsBytes o.srcFmt o.count
  let dstLen := elemsBytes o.dstFmt o.count
  let dstSide := o.reduce || isFloatFmt o.srcFmt
  let scaleLen := if isMx f then o.count / 32 else 2 * (o.count / o.group)
  let opt (a : Word) (len : Nat) (w : Bool) : M (Option Word) := do if a = 0 then pure none else pure (some (← operandAddr k h a len w))
  let srcs ← o.srcs.mapM fun a => operandAddr k h a srcLen false
  let dst ← if o.amaxOnly then pure none else (do pure (some (← operandAddr k h o.dst dstLen true)))
  let scale ← opt o.scaleA scaleLen dstSide
  let zp ← opt o.zpA (o.count / o.group) dstSide
  let ao ← opt o.amaxOut 4 true
  let ai ← opt o.amaxIn 4 false
  if h && gzAlignBad o srcs (dst.getD 0) (scale.getD 0) (ao.getD 0) (ai.getD 0) then failM GZ_ALIGN
  else
    let tr (a : Option Word) (len : Nat) (w : Bool) : M (Option Target) := do
      match a with
      | none => pure none
      | some a => pure (some (← translate k a len w))
    let ts ← srcs.mapM fun a => translate k a srcLen false
    let td ← tr dst dstLen true
    if o.accum then let _ ← tr dst dstLen false; pure () else pure ()
    let tsc ← if o.amaxOnly && dstSide then pure none else tr scale scaleLen dstSide
    let tzp ← if o.amaxOnly && dstSide then pure none else tr zp (o.count / o.group) dstSide
    let tao ← tr ao 4 true
    let tai ← tr ai 4 false
    pure { srcs := ts, dst := td, scale := tsc, zp := tzp, amaxOut := tao, amaxIn := tai }

/-- Reads a slice of an optional side array. -/
def readSide (k : Who) (t : Option Target) (off len : Nat) : M (List Byte) := do
  match t with
  | none => pure []
  | some t => if len = 0 then pure [] else
    let r ← readTarget k (t.plus off) len
    if r.2 then failM St.DATA_ERROR else pure r.1

/-- The results go out as reduce-writes (R293): a REDUCE with ACCUM whose destination is a peer. -/
def gzToPeer (o : GzOp) (g : GzAddrs) : Bool := o.accum && (match g.dst with | some (.peer _ _) => true | _ => false)

/-- Computes a piece of elements [a, a + n) (R94, R95, R98). -/
def pieceCompute (k : Who) (d : Desc) (g : GzAddrs) (a n : Nat) : M GzOut := do
  let o := gzOp d
  let srcOff := a * elemBits o.srcFmt / 8
  let srcLen := elemsBytes o.srcFmt n
  let dstSide := o.reduce || isFloatFmt o.srcFmt
  let parts ← g.srcs.mapM fun t => readSide k (some t) srcOff srcLen
  let am ← readSide k g.amaxIn 0 4
  let tensor := tensorScale o.tsrc o.tscale (leNat am) o.sideFmt
  let vals ← if o.reduce then do
      let acc ← if o.accum && !gzToPeer o g then readSide k g.dst (a * elemBits o.dstFmt / 8) (elemsBytes o.dstFmt n) else pure []
      let s ← get
      let w := s.fresh
      set w.2
      let one (fmt : Nat) (bs : List Byte) : List Num := gzDecode fmt 32 false (.fin false 1 1) n bs [] []
      let cols := permute 9 w.1.toNat (parts.map (one o.srcFmt) ++ (if o.accum && !gzToPeer o g then [one o.dstFmt acc] else []))
      pure ((List.range n).map fun i => sum32 (cols.map fun c => c.getD i .zero))
    else do
      let gsz := if isMx o.srcFmt then 32 else o.group
      let sc ← if dstSide then pure [] else readSide k g.scale (if isMx o.srcFmt then a / 32 else 2 * (a / gsz)) (if isMx o.srcFmt then n / 32 else 2 * (n / gsz))
      let zs ← if dstSide then pure [] else readSide k g.zp (a / gsz) (n / gsz)
      pure (gzDecode o.srcFmt o.group o.zp tensor n (parts.headD []) sc zs)
  if o.amaxOnly then pure { bytes := [], scales := [], zps := [], amax := amaxCode vals, clamped := 0 }
  else
    let e := gzEncode o.dstFmt o.group o.zp o.sat tensor (fun i => o.round (a + i)) vals
    -- toward a peer, RESULT describes the sums as they are rounded here (R293)
    let shown := if gzToPeer o g then gzDecode o.dstFmt 32 false (.fin false 1 1) n e.1 [] [] else vals
    pure { bytes := e.1, scales := e.2.1, zps := e.2.2.1, amax := amaxCode shown, clamped := e.2.2.2 }

/-- Writes what a piece has computed. -/
def pieceWrite (k : Who) (d : Desc) (g : GzAddrs) (a : Nat) (r : GzOut) : M Unit := do
  let o := gzOp d
  let put (t : Option Target) (off : Nat) (bs : List Byte) : M Unit := do
    match t with
    | some t => if bs = [] then pure () else writeTarget k (t.plus off) bs false
    | none => pure ()
  match gzToPeer o g, g.dst with
  | true, some (.peer node da) => do
    let s ← get
    match s.peerReduce k.w node k.flow (da + a * elemBits o.dstFmt / 8) o.dstFmt r.bytes with
    | (none, s) => set (s.noteWrite k.w)
    | (some st, s) => do set s; failM st
  | _, t => put t (a * elemBits o.dstFmt / 8) r.bytes
  put g.scale (if isMx o.dstFmt then a / 32 else 2 * (a / o.group)) r.scales
  put g.zp (a / o.group) r.zps

namespace State

/-! ### Who has a Gazelle (R32, R95, R99, R104, R128) -/

/-- A Gazelle takes new pieces, YXP descriptors, page moves and reduce-writes: enabled and not fenced (Table 10). -/
def gzUsable (s : State) (u : Nat) : Bool := s.regBit Reg.GZ_CTRL u && !s.isFenced (Dom.gazelle u)
def gzAny (s : State) : Bool := (List.range 8).any s.gzUsable

/-- Nothing is under way in a Gazelle. -/
def gzIdle (s : State) (u : Nat) : Bool :=
  !(s.gz.running.any fun p => decide (p.unit = u)) && !(s.gz.holds.any fun x => decide (x.unit = u)) &&
    !(s.gz.rws.any fun r => decide (r.unit = u ∧ r.done = none) && r.begun)

/-- A Gazelle holds work (Table 11). -/
def gzBusy (s : State) (u : Nat) : Bool := !s.gzIdle u || s.gz.rws.any fun r => decide (r.unit = u ∧ r.done = none ∧ r.runs = 0)

/-- What a Gazelle that is idle may begin. -/
inductive GzJob where
  | reduceWrite
  | piece (p : GzPiece)
  | use (x : GzUse)
deriving DecidableEq, Repr

/-- The class of a use (R32 Table 5): Ibex's fetches, descriptors, other moves. -/
def useClass (s : State) (x : GzUse) : Nat :=
  match x.who with
  | .move id => if s.ch.moves.any fun m => decide (m.id = id ∧ m.kind = .fetch) then 1 else 3
  | _ => 2

/-- What has run on one Gazelle already runs again on another (R97). -/
def mayRunOn (u unit runs : Nat) : Bool := decide (runs = 0 ∨ unit ≠ u)

/-- A piece that Gazelle `u` can take: one to be run again that was not on it, else the next piece of the oldest descriptor
none of whose pieces has failed (R95 to R97). One that finds no other Gazelle waits for one (log entry 58). -/
def nextPiece (s : State) (u : Nat) : Option GzPiece :=
  match s.gz.redo.find? fun p => mayRunOn u p.unit p.runs with
  | some p => some p
  | none =>
    (s.qe.works.find? fun w => decide (w.phase = .running ∧ w.count = 1 ∧ w.next < w.total) && decide (dOpcode w.desc = 0x10 ∨ dOpcode w.desc = 0x11) &&
      !(s.gz.results.any fun r => decide (r.work = w.id ∧ r.status ≠ 0))).map fun w =>
      { work := w.id, idx := w.next, unit := u, runs := 0, out := none, ending := false, issued := false }

/-- A use that Gazelle `u` can take, of a class. -/
def nextUse (s : State) (u c : Nat) : Option GzUse := s.gz.unitWait.find? fun x => decide (s.useClass x = c) && mayRunOn u x.unit x.runs

/-- The reduce-write that Gazelle `u` can begin (R97, R99): the oldest of those it holds, or of those to be applied once more that were not on
it, for whose lines no earlier one is still to be applied. -/
def nextRw (s : State) (u : Nat) : Option RedWrite :=
  let lines (r : RedWrite) : List Nat := linesOf r.addr r.data.length
  let earlier (r : RedWrite) : Bool := s.gz.rws.any fun x => decide (x.id < r.id ∧ x.done = none) && (lines x).any fun l => decide (l ∈ lines r)
  s.gz.rws.find? fun r => decide (r.done = none) && !r.begun &&
    (if r.runs = 0 then decide (r.unit = u) else decide (r.unit ≠ u) && s.gzUsable u) && !earlier r

/-- What Gazelle `u` could begin, by class (R32 Table 5), highest first; descriptors in the order in which they started. -/
def gzJobs (s : State) (u : Nat) : List (Nat × GzJob) :=
  let rw := (s.nextRw u).isSome
  let desc : Option GzJob := match s.nextPiece u, s.nextUse u 2 with
    | some p, some x => if (x.who.workOf.getD 0) < p.work then some (.use x) else some (.piece p)
    | some p, none => some (.piece p)
    | none, some x => some (.use x)
    | none, none => none
  (if rw then [(0, .reduceWrite)] else []) ++
    (if s.gzUsable u then ((s.nextUse u 1).toList.map fun x => (1, .use x)) ++ (desc.toList.map (2, ·)) ++ ((s.nextUse u 3).toList.map fun x => (3, .use x))
     else [])

/-- What Gazelle `u`, if idle and not fenced, begins next: the highest class, but the lowest at each eighth grant (R32). -/
def gzNext (s : State) (u : Nat) : Option (Nat × GzJob) :=
  if !s.gzIdle u || s.isFenced (Dom.gazelle u) then none
  else if 7 ≤ Map.getD 0 u s.gz.turns then (s.gzJobs u).getLast? else (s.gzJobs u).head?

/-- Counts a grant of Gazelle `u` to a class (R32). -/
def gzGranted (u c : Nat) (s : State) : State :=
  let low := ((s.gzJobs u).getLast?.map (·.1)).getD c
  s.modGz fun g => { g with turns := Map.put 0 u (if low ≤ c then 0 else Map.getD 0 u g.turns + 1) g.turns }

/-- Gazelle `u` goes to the use whose turn it is, if its domain takes work. -/
def gzServeUnit (u : Nat) (s : State) : State :=
  match s.gzNext u with
  | some (c, .use x) =>
    if !s.domReady (Dom.gazelle u) then s
    else ((s.gzGranted u c).modGz fun g => { g with unitWait := g.unitWait.erase x, holds := g.holds ++ [{ x with unit := u, runs := x.runs + 1 }] }).wakeUp x.who
  | _ => s

/-- A use that only a sleeping Gazelle could take waits in its crossing (R97, R383). -/
def gzCross (u : Nat) (s : State) : State :=
  match s.gzNext u with
  | some (_, .use x) =>
    if s.pm.engines.any fun e => decide (e.2 = x.who ∧ 48 ≤ e.1 ∧ e.1 < 56) then s
    else s.modPm fun p => { p with engines := addNew (Dom.gazelle u, x.who) p.engines }
  | _ => s

/-- Free Gazelles go to the uses that wait for one. -/
def gzServe (s : State) : State :=
  if s.gz.unitWait.isEmpty then s
  else
    let s := (List.range 8).foldl (fun s u => s.gzServeUnit u) s
    if s.gz.unitWait.isEmpty then s else (List.range 8).foldl (fun s u => s.gzCross u) s

/-- A use of a Gazelle ends: a unit that completes one without a fault clears its strike (R391). -/
def gzRelease (w : Waiter) (s : State) : State :=
  let us := (s.gz.holds.filter fun x => decide (x.who = w)).map (·.unit)
  us.foldl (fun s u => s.opClean (Dom.gazelle u))
    (s.modGz fun g => { g with holds := g.holds.filter (fun x => !decide (x.who = w)), unitWait := g.unitWait.filter fun x => !decide (x.who = w) })

/-- What the Gazelles hold for a descriptor that is gone is dropped. -/
def dropPieces (id : Nat) (s : State) : State :=
  let mine (p : GzPiece) : Bool := decide (p.work = id)
  let ws := ((s.gz.running ++ s.gz.redo).filter mine).map fun p => Waiter.piece p.work p.idx
  let s := s.modGz fun g => { g with running := g.running.filter (!mine ·), redo := g.redo.filter (!mine ·), results := g.results.filter fun r => !decide (r.work = id) }
  (ws.foldl (fun s w => s.forget w) s).gzRelease (.work id)

/-- The identity of a piece's accesses. -/
def pieceWho (s : State) (w : Work) (idx : Nat) : Who := { s.workWho w with w := .piece w.id idx }

/-- Bytes that the first operand range and the destination share: their contents end unpredictable unless they are equal with
equal element sizes (the text after R97). -/
def gzOverlap (o : GzOp) (g : GzAddrs) : Bool :=
  match g.dst with
  | none => false
  | some t =>
    let sl := elemsBytes o.srcFmt o.count
    let dl := elemsBytes o.dstFmt o.count
    g.srcs.any fun x => x.overlaps sl t dl && !(decide (x = t) && decide (elemBits o.srcFmt = elemBits o.dstFmt))

/-- A CONVERT or REDUCE starts: its operands are resolved and its pieces stand ready (R95). `count` 1 marks it, `acc` holds the
piece size, `total` the number of pieces. -/
def runGz (w : Work) (s : State) : State :=
  if w.count ≠ 0 then s
  else match (gzResolve (s.workWho w) w.desc).exec s with
    | (.error .wait, s) => s
    | (.error (.fail st), s) => s.endWork w.id st 0
    | (.ok _, s) =>
      let p := s.pieceElems
      s.setWork { w with count := 1, acc := p, total := ceilDiv (gzOp w.desc).count p, next := 0 }

/-- Gazelle `u` takes a piece when its turn has come (R32, R95). -/
def dispatchPiece (u : Nat) (s : State) : State :=
  match s.gzNext u with
  | some (c, .piece p) =>
    let fresh := decide (p.runs = 0)
    let s := (s.gzGranted u c).modGz fun g => { g with redo := if fresh then g.redo else g.redo.erase p,
                                                       running := g.running ++ [{ p with unit := u, runs := p.runs + 1, out := none, ending := false, issued := false }] }
    if fresh then s.setWorkNext p.work (p.idx + 1) else s
  | _ => s

/-- All pieces of a work have ended, or one has failed and none is left that runs: the work ends (R95, R96). -/
def finishGz (w : Work) (s : State) : State :=
  let rs := s.gz.results.filter fun r => decide (r.work = w.id)
  let busy := (s.gz.running ++ s.gz.redo).any fun p => decide (p.work = w.id)
  let bad := rs.filter fun r => decide (r.status ≠ 0)
  let good := rs.filter fun r => decide (r.status = 0)
  let result : Word := fld (min 0xFFFFFFFF (sumOf (·.clamped) good)) 32 ||| w64 (good.foldl (fun m r => max m r.amax) 0)
  let o := gzOp w.desc
  let close (st : Nat) (s : State) : State :=
    ((s.modGz fun g => { g with results := g.results.filter fun r => !decide (r.work = w.id) }).dropGot (.work w.id)).endWork w.id st result
  if busy ∨ w.phase ≠ .running ∨ w.count ≠ 1 then s
  else match sortBy (·.idx) bad with
    | r :: _ =>
      -- pieces that were never started: their destination is unpredictable (R96)
      let s : State := match (gzResolve (s.workWho w) w.desc).exec s with
        | (.ok g, s) => (match g.dst with
          | some t => if w.next < w.total ∧ !gzToPeer o g then
              s.scrambleAt (s.workWho w) (t.plus (w.next * w.acc * elemBits o.dstFmt / 8)) (elemsBytes o.dstFmt (o.count - w.next * w.acc)) else s
          | none => s)
        | (_, s) => s
      close r.status s
    | [] =>
      if rs.length < w.total then s
      else match (do
          let g ← gzResolve (s.workWho w) w.desc
          match g.amaxOut with
          | some t => writeTarget (s.workWho w) t (leBytes 4 (bits result 31 0)) false
          | none => pure ()
          pure g : M GzAddrs).exec s with
        | (.error .wait, s) => s
        | (.error (.fail st), s) => close st s
        | (.ok g, s) =>
          let s : State := match g.dst with
            | some t => if gzOverlap o g then s.scrambleAt (s.workWho w) t (elemsBytes o.dstFmt o.count) else s
            | none => s
          close 0 s

/-- A piece ends with a status, its amax and its CLAMPED count. -/
def pieceResult (p : GzPiece) (w : Work) (st amax cl : Nat) (s : State) : State :=
  let s := (s.forget (.piece p.work p.idx)).modGz fun g =>
    { g with running := g.running.filter (fun x => !decide (x.work = p.work ∧ x.idx = p.idx)),
             results := g.results ++ [{ work := p.work, idx := p.idx, status := st, amax := amax, clamped := cl }] }
  s.finishGz w

/-- A piece fails: its destination bytes are unpredictable (R96). -/
def pieceFailed (p : GzPiece) (w : Work) (st : Nat) (s : State) : State :=
  let k := s.workWho w
  let o := gzOp w.desc
  let a := p.idx * w.acc
  let s : State := match (gzResolve k w.desc).exec s with
    | (.ok g, s) => (match g.dst with
      | some t => if gzToPeer o g then s else s.scrambleAt k (t.plus (a * elemBits o.dstFmt / 8)) (elemsBytes o.dstFmt (min w.acc (o.count - a)))
      | none => s)
    | (_, s) => s
  s.pieceResult p w st 0 0

/-- The writes of a piece have gone out: it has succeeded once every one is performed, and has failed if one of them has (R94, R96). -/
def closePiece (p : GzPiece) (w : Work) (s : State) : State :=
  match s.postedOf (.piece p.work p.idx), p.out with
  | (0, some st), _ => s.pieceFailed p w st
  | (0, none), some r => s.pieceResult p w 0 r.amax r.clamped
  | _, _ => s

/-- The piece in Gazelle `u` ends, unless it must still wait for memory (R95, R96). -/
def completePiece (u : Nat) (s : State) : State :=
  match s.gz.running.find? fun p => decide (p.unit = u) with
  | none => s
  | some p =>
    match s.work? p.work with
    | none => s.dropPieces p.work
    | some w =>
      let k := s.pieceWho w p.idx
      let a := p.idx * w.acc
      let n := min w.acc ((gzOp w.desc).count - a)
      let keep (q : GzPiece) (s : State) : State := s.modGz fun g => { g with running := updateWhere (fun x => decide (x.unit = u)) (fun _ => q) g.running }
      let p := { p with ending := true }
      let s := keep p s
      let compute : M GzOut := do
        match p.out with
        | some r => pure r
        | none => let g ← gzResolve k w.desc; pieceCompute k w.desc g a n
      if p.issued then s.closePiece p w
      else match compute.exec s with
      | (.error .wait, s) => s
      | (.error (.fail st), s) => s.pieceFailed p w st
      | (.ok r, s) =>
        let p := { p with out := some r }
        match (do let g ← gzResolve k w.desc; pieceWrite k w.desc g a r : M Unit).exec (keep p s) with
        | (.error .wait, s) => s
        | (.error (.fail st), s) => s.pieceFailed p w st
        | (.ok (), s) => let p := { p with issued := true }; (keep p s).closePiece p w

/-- A Gazelle fails a piece it holds (R97): it runs once more elsewhere, unless it has run twice, or adds to its destination and
has begun to write it. -/
def pieceFault (u : Nat) (s : State) : State :=
  match s.gz.running.find? fun p => decide (p.unit = u) with
  | none => s
  | some p =>
    match s.work? p.work with
    | none => s.dropPieces p.work
    | some w =>
      let me : Waiter := .piece p.work p.idx
      if p.runs < 2 ∧ !((gzOp w.desc).accum && decide (me ∈ s.gz.wrote)) then
        (s.forgetReads me).modGz fun g => { g with running := g.running.erase p, redo := g.redo ++ [p] }
      else s.pieceFailed p w St.DATA_ERROR

end State

/-- A use of a Gazelle waits until it has one (R104, R107). -/
def needGazelle (w : Waiter) : M Unit := do
  let has (s : State) : Bool := s.gz.holds.any fun x => decide (x.who = w)
  let s ← get
  if has s then pure ()
  else
    act fun s => (if s.gz.unitWait.any fun x => decide (x.who = w) then s
      else s.modGz fun g => { g with unitWait := g.unitWait ++ [{ who := w, unit := 0, runs := 0 }] }).gzServe
    let s ← get
    if has s then pure () else waitM

namespace State

/-! ### YXP opcodes -/

/-- Compresses the blocks from number `next` on; `acc` counts the bytes written (R104). -/
def yxpCompressLoop (k : Who) (w : Work) (src : Target) : Nat → M Word
  | 0 => do let s ← get; pure (w64 ((s.work? w.id).getD w).acc)
  | n + 1 => do
    let s ← get
    let x := (s.work? w.id).getD w
    let r ← readTarget k (src.plus (4096 * x.next)) 4096
    if r.2 then failM St.DATA_ERROR
    else
      let out := Yxp.encodeBlock (descNat w.desc 52 1) r.1
      let dst ← operand k w.desc (descQ w.desc 40 + w64 x.acc) out.length true
      writeTarget k dst out false
      if descNat w.desc 56 8 ≠ 0 then
        let t ← operand k w.desc (descQ w.desc 56 + w64 (4 * x.next)) 4 true
        writeTarget k t (leBytes 4 (x.acc / 64)) false
      else pure ()
      act (State.dropGot k.w)
      act (State.setWork { x with next := x.next + 1, acc := x.acc + out.length })
      yxpCompressLoop k w src n

/-- The base addresses of a YXP descriptor with HANDLES are checked for alignment when it starts (R109). -/
def yxpAligned (k : Who) (d : Desc) (len0 len1 : Nat) : M Unit := do
  if !dHandles d then pure ()
  else
    let a ← operandAddr k true (descQ d 32) len0 false
    let b ← operandAddr k true (descQ d 40) len1 true
    let c ← if dOpcode d = 0x12 ∧ descNat d 56 8 ≠ 0 then operandAddr k true (descQ d 56) 4 true else pure 0
    if a.toNat % 64 ≠ 0 ∨ b.toNat % 64 ≠ 0 ∨ c.toNat % 4 ≠ 0 then failM GZ_ALIGN else pure ()

/-- YXP_COMPRESS (R104). RESULT is the bytes written. -/
def runYxpCompress (k : Who) (w : Work) : M Word := do
  let blocks := descNat w.desc 48 4
  needGazelle k.w
  yxpAligned k w.desc 4096 64
  let src ← operand k w.desc (descQ w.desc 32) (4096 * blocks) false
  let s ← get
  yxpCompressLoop k w src (blocks - ((s.work? w.id).getD w).next)

/-- Decompresses the blocks from number `next` on; `acc` counts the bytes consumed (R105). -/
def yxpDecompressLoop (k : Who) (w : Work) (src dst : Target) (srcLen : Nat) : Nat → M Word
  | 0 => do let s ← get; pure (w64 ((s.work? w.id).getD w).acc)
  | n + 1 => do
    let s ← get
    let x := (s.work? w.id).getD w
    let left := srcLen - x.acc
    let out := dst.plus (4096 * x.next)
    let fail (st : Nat) : M Word := do
      act (State.scrambleAt k out 4096)
      failM st
    if left < 8 then fail Yxp.OVERRUN
    else
      let h ← readTarget k (src.plus x.acc) 8
      if h.2 then failM St.DATA_ERROR
      else match Yxp.checkHeader (descNat w.desc 52 1) left (leNat h.1) with
        | .inr st => fail st
        | .inl size => do
          let b ← readTarget k (src.plus x.acc) size
          if b.2 then failM St.DATA_ERROR
          else match Yxp.decodeBlock (descNat w.desc 52 1) b.1 with
            | .bad st => fail st
            | .ok size data => do
              writeTarget k out data false
              act (State.dropGot k.w)
              act (State.setWork { x with next := x.next + 1, acc := x.acc + size })
              yxpDecompressLoop k w src dst srcLen n

/-- YXP_DECOMPRESS (R104, R105). RESULT is the bytes consumed. -/
def runYxpDecompress (k : Who) (w : Work) : M Word := do
  let blocks := descNat w.desc 48 4
  let srcLen := descNat w.desc 56 8
  needGazelle k.w
  yxpAligned k w.desc srcLen (4096 * blocks)
  let src ← operand k w.desc (descQ w.desc 32) srcLen false
  let dst ← operand k w.desc (descQ w.desc 40) (4096 * blocks) true
  let s ← get
  yxpDecompressLoop k w src dst srcLen (blocks - ((s.work? w.id).getD w).next)

/-- Runs a YXP work on one Gazelle (R104): a failed one reports the bytes of the blocks before the failing one (R105). -/
def runYxp (w : Work) (s : State) : State :=
  let comp := decide (dOpcode w.desc = 0x12)
  let k := s.workWho w
  let fin (st : Nat) (r : Word) (s : State) : State := ((s.dropGot k.w).gzRelease k.w).endWork w.id st r
  match (if comp then runYxpCompress k w else runYxpDecompress k w).exec s with
  | (.ok r, s) => fin 0 r s
  | (.error (.fail st), s) => fin st (w64 ((s.work? w.id).getD w).acc) s
  | (.error .wait, s) => s

/-! ### Reduce-writes -/

/-- The Gazelle of a reduce-write (R99): DST[14:12], or the next usable one in ascending order. -/
def rwUnit (s : State) (addr : Nat) : Option Nat :=
  let u := addr / 4096 % 8
  ((List.range 8).map fun i => (u + i) % 8).find? s.gzUsable

/-- Gazelle `u` goes on with a reduce-write (R99): the destination is read, added to in FP32, rounded to nearest even and written back.
The sender's answer is owed once the write is performed. -/
def stepRw (r : RedWrite) (s : State) : State :=
  let w : Waiter := .reduceWrite r.id
  let upd (f : RedWrite → RedWrite) (s : State) : State := s.modGz fun g => { g with rws := updateWhere (fun x => decide (x.id = r.id)) f g.rws }
  let finish (st : Nat) (s : State) : State :=
    (((upd (fun x => { x with done := some st }) s).forget w).opClean (Dom.gazelle r.unit)).wakeUp (.peer r.node r.flow r.seq)
  let n := r.data.length * 8 / elemBits r.fmt
  let sum : M (List Byte) := do
    match r.out with
    | some b => pure b
    | none => do
      let old ← deviceRead w r.addr r.data.length
      if old.2 then failM St.DATA_ERROR
      else
        let one (bs : List Byte) : List Num := gzDecode r.fmt 32 false (.fin false 1 1) n bs [] []
        let a := one old.1
        let b := one r.data
        pure (gzEncode r.fmt 32 false false (.fin false 1 1) (fun _ => .even) ((List.range n).map fun i => sum32 [a.getD i .zero, b.getD i .zero])).1
  let close (s : State) : State := if (s.postedOf w).1 = 0 then finish ((s.postedOf w).2.getD 0) s else s
  if r.issued then close s
  else match sum.exec s with
    | (.error .wait, s) => s
    | (.error (.fail st), s) => finish st s
    | (.ok b, s) =>
      match (deviceWrite w r.addr b r.poison 0).exec (upd (fun x => { x with out := some b }) s) with
      | (.error .wait, s) => s
      | (.error (.fail st), s) => finish st s
      | (.ok (), s) => close (upd (fun x => { x with issued := true }) s)

/-- A Gazelle goes on with the reduce-write it has begun, or begins one when its turn has come (R32, R99). -/
def applyRw (u : Nat) (s : State) : State :=
  match s.gz.rws.find? fun r => decide (r.unit = u ∧ r.done = none) && r.begun with
  | some r => s.stepRw r
  | none =>
    match s.gzNext u, s.nextRw u with
    | some (c, .reduceWrite), some r =>
      let r' := { r with unit := u, begun := true, runs := r.runs + 1 }
      ((s.gzGranted u c).modGz fun g => { g with rws := updateWhere (fun x => decide (x.id = r.id)) (fun _ => r') g.rws }).stepRw r'
    | _, _ => s

/-- A Gazelle fails the reduce-write that it has begun (R97): it is to be applied once more, on another Gazelle (log entry 58), unless it has begun
its destination write or has been begun twice; then it ends with the given mark. -/
def rwFault (u mark : Nat) (s : State) : State :=
  match s.gz.rws.find? fun r => decide (r.unit = u ∧ r.done = none) && r.begun with
  | none => s
  | some r =>
    let w : Waiter := .reduceWrite r.id
    let put (f : RedWrite → RedWrite) (s : State) : State := (s.forget w).modGz fun g => { g with rws := updateWhere (fun x => decide (x.id = r.id)) f g.rws }
    if r.runs < 2 ∧ w ∉ s.gz.wrote then put (fun x => { x with begun := false, out := none }) s
    else (put (fun x => { x with done := some mark }) s).wakeUp (.peer r.node r.flow r.seq)

/-! ### Conversion profiles (R106, R107) -/

def profile (s : State) (i : Nat) : Word := s.reg (Reg.GZ_PROFILE + 8 * i)

end State

/-- A profile is valid (R106). -/
def profileValid (p : Word) : Bool :=
  let sf := bits p 7 0
  let df := bits p 15 8
  bit p 23 && decide (sf ≤ 4 ∧ df ≤ 4) && (isFloatFmt sf || isFloatFmt df) &&
    (if isFp8 sf || isFp8 df then goodScale (bits p 63 32) else decide (bits p 63 32 = 0))

/-- The size in bytes of `n` bytes after the outward conversion, before any compression. -/
def profileSize (p : Word) (n : Nat) : Nat := n * elemBits (bits p 15 8) / elemBits (bits p 7 0)

/-- Converts bytes between two formats of a profile. -/
def convBytes (sf df : Nat) (tscale : Nat) (sat : Bool) (rm : RMode) (bs : List Byte) : List Byte :=
  let n := bs.length * 8 / elemBits sf
  let t := if tscale = 0 then .fin false 1 1 else FFmt.fp32.decode tscale
  (gzEncode df 32 false sat t (fun _ => rm) (gzDecode sf 32 false t n bs [] [])).1

/-- The outward move (R106): conversion under RMODE and SAT, then, with YXP, compression block by block. -/
def profileOut (p : Word) (bs : List Byte) : List Byte :=
  let c := convBytes (bits p 7 0) (bits p 15 8) (bits p 63 32) (bit p 21) (if bit p 20 then .zero else .even) bs
  if bit p 22 then (chunks 4096 c).flatMap (Yxp.encodeBlock (bits p 15 8)) else c

/-- Decompresses whole blocks until `n` bytes have come out; none where a check of R105 fails. -/
def yxpAll (ety : Nat) : Nat → List Byte → Option (List Byte)
  | 0, _ => some []
  | n + 1, bs =>
    if bs.length < 8 then none
    else match Yxp.checkHeader ety bs.length (leNat (bs.take 8)) with
      | .inr _ => none
      | .inl size =>
        match Yxp.decodeBlock ety (bs.take size) with
        | .bad _ => none
        | .ok _ d => (yxpAll ety n (bs.drop size)).map (d ++ ·)

/-- The return move (R106): decompression with YXP, then conversion back to `n` bytes, to nearest even without saturation. -/
def profileBack (p : Word) (n : Nat) (bs : List Byte) : Option (List Byte) :=
  let raw := if bit p 22 then yxpAll (bits p 15 8) (profileSize p n / 4096) bs else some (bs.take (profileSize p n))
  raw.map (convBytes (bits p 15 8) (bits p 7 0) (bits p 63 32) false .even)

end Sys2Proof.Machine
end

