-- ==== Sys2Proof/Machine/Chamois.lean ====
section
/-! DEFINITION. Chamois: commits of segments and regions (R175, R198), ATS answers and invalidations (R176, R178), page requests
(R179 to R182), the placement loop and its moves (R185 to R192), PREFETCH and ADVISE (R194 to R196), and the region check
(R197). -/

namespace Sys2Proof.Machine

namespace State

/-! ### Commits (R175, R198) -/

/-- The entry staged in three registers. -/
def staged (s : State) (off : Nat) : Qw3 := { q0 := s.reg off, q1 := s.reg (off + 8), q2 := s.reg (off + 16) }

/-- A segment entry that R175 refuses. -/
def segRefused (g : Qw3) : Bool :=
  let len := segLen g
  let base := g.q0.toNat
  decide (bits g.q1 53 44 ≠ 0) || decide (bits g.q2 63 52 ≠ 0) || decide (bits g.q2 43 20 ≠ 0) ||
  (segValid g && (decide (len = 0) || decide (len % 4096 ≠ 0) || decide (base % 4096 ≠ 0) ||
    (decide (segTarget g = 1) && decide (tier1Size < base + len)) ||
    (decide (segTarget g = 3) && !(decide (placedBase ≤ base) && decide (base + len ≤ placedEnd)))))

/-- The waiters that have an access under way. -/
def accesses (s : State) : List Waiter :=
  let nc (a : Asker) : Option Waiter := match a with | .nc w => some w | _ => none
  let all := s.sf.txns.filterMap (fun t => nc t.asker) ++ s.sf.held.filterMap (fun h => nc h.asker) ++ s.sf.posted.map (·.who) ++
    s.ch.hostReads.map (·.1) ++ s.pl.tx.flatMap fun e => (e.2.unacked ++ e.2.wait).map (·.who)
  (all.foldl (fun l w => addNew w l) []).filter fun w => s.underWay w

/-- The context through whose segments a waiter's accesses are translated (R24, R140, R171), if any. -/
def ctxOfWaiter (s : State) (w : Waiter) : Option Nat :=
  match w with
  | .work id | .piece id _ | .done id => (s.work? id).map (·.ctx)
  | .entry q _ | .slot q | .shadow q | .deferred q => some (s.queue q).ctx
  | .head r | .token r => (Map.find? r s.bt.reqs).map (·.ctx)
  | .step | .row _ => some s.bt.ctx
  | .uc _ _ _ | .nt _ _ => if s.fp.ucs.any fun u => decide (u.who = w ∧ regionOf (64 * u.line) ≠ .corePeer) then none else some (s.regBits Reg.CH_CTRL 63 52)
  | _ => none

/-- The accesses through a context's segments that are under way. -/
def ctxAccesses (s : State) (ctx : Nat) : List Waiter := s.accesses.filter fun w => decide (s.ctxOfWaiter w = some ctx)

/-- A commit takes effect: BUSY stays set while accesses through the old entry are under way, for at most `limit` ns (R175, R198). -/
def committed (old : List Waiter) (limit : Nat) (s : State) : State :=
  let by_ := max s.ch.drainBy (s.now + limit)
  s.modCh fun c => { c with cmdRefused := false, cmdBusy := true, drain := old ++ c.drain, drainBy := by_ }

/-- SEG_COMMIT (R175). -/
def segCommit (s : State) : State :=
  let g := s.staged Reg.CH_SEGQ
  if segRefused g then s.modCh fun c => { c with cmdRefused := true }
  else
    let ctx := s.regBits Reg.CH_SEL 27 16
    let key := ctx * 16 + s.regBits Reg.CH_SEL 3 0
    (s.committed (s.ctxAccesses ctx) 100000).modCh fun c => { c with segs := Map.put { q0 := 0, q1 := 0, q2 := 0 } key g c.segs }

/-- Region fields (R197 Table 8). -/
def regionBase (g : Qw3) : Nat := g.q0.toNat
def regionLen (g : Qw3) : Nat := bits g.q1 31 0 * 4096

/-- The range lies within one direct or placed region of the device address map (R198). -/
def oneRegion (a n : Nat) : Bool :=
  match regionOf a, regionOf (a + n - 1) with
  | .tier1, .tier1 => true
  | .placed, .placed => true
  | .tier2 p, .tier2 p' => decide (p = p')
  | _, _ => false

/-- A region entry that R198 refuses. -/
def regionRefused (g : Qw3) : Bool :=
  bit g.q1 63 && (decide (bits g.q1 39 32 ≠ 0) || decide (bits g.q2 63 44 ≠ 0) || decide (regionBase g % 4096 ≠ 0) ||
    decide (regionLen g = 0) || !oneRegion (regionBase g) (regionLen g))

/-- REGION_COMMIT (R198). -/
def regionCommit (s : State) : State :=
  let g := s.staged Reg.CH_REGIONQ
  if regionRefused g then s.modCh fun c => { c with cmdRefused := true }
  else
    let n := s.regBits Reg.CH_SEL 41 32
    (s.committed (s.ch.ios.map fun r => Waiter.io r.id) 10000).modCh fun c => { c with regions := Map.put { q0 := 0, q1 := 0, q2 := 0 } n g c.regions }

/-- The region check of a CXL.io request (R197). -/
def regionPass (s : State) (requester : Nat) (pasid : Option Nat) (da len : Nat) (write : Bool) : Bool :=
  s.ch.regions.any fun e =>
    let g := e.2
    let mask := bits g.q2 31 16
    bit g.q1 63 && decide (requester &&& mask = bits g.q2 15 0 &&& mask) && decide (regionBase g ≤ da) &&
    decide (da + len ≤ regionBase g + regionLen g) && (if write then bit g.q1 62 else bit g.q1 61) &&
    (!bit g.q1 60 || decide (pasid = some (bits g.q1 59 40)))

/-! ### Page requests (R179 to R182) -/

/-- Page requests may be raised for a function (R179, Table 17). -/
def priAllowed (s : State) (fn : Nat) : Bool := s.priOn fn && !s.ch.stopped && s.regBit Reg.CH_PRI_CTRL 0

/-- Gives a waiter its verdict on a page, and tries it again. -/
def giveVerdict (key : AtsKey) (st : Nat) (w : Waiter) (s : State) : State :=
  (s.modCh fun c => { c with verdicts := c.verdicts ++ [{ who := w, key := key, status := st }] }).wakeUp w

/-- The last request of a group, if it has one that has not gone out. -/
def groupLast (s : State) (g : Nat) : Option PriRec := (s.ch.pri.filter fun r => decide (r.group = g)).getLast?

/-- Sends the request of a record (R180). -/
def sendPage (r : PriRec) (last : Bool) (s : State) : State := (s.emit (.pageRequest r.key r.group r.write last)).bump Reg.CH_STAT_FAULT

/-- Closes a group: its last request goes out and carries Last (R180). -/
def closeGroup (g : Nat) (s : State) : State :=
  match s.ch.groups.find? fun x => decide (x.id = g) && x.closed.isNone with
  | none => s
  | some _ =>
    let s : State := match s.groupLast g with
      | some r => s.sendPage r true
      | none => s
    s.modCh fun c => { c with groups := updateWhere (fun x => decide (x.id = g)) (fun x => { x with closed := some s.now }) c.groups }

/-- No record is free, or the function's allocation is used up (R180). -/
def priFull (s : State) (key : AtsKey) : Bool :=
  decide (4096 ≤ s.ch.pri.length) || decide (s.priAlloc key.fn.toNat ≤ countOf (fun r : PriRec => decide (r.key.fn = key.fn)) s.ch.pri)

/-- A record that covers a fault (R182). -/
def priCovers (key : AtsKey) (write : Bool) (r : PriRec) : Bool := decide (r.key = key) && (r.write || !write)

/-- Raises a page request for a fault, joins a record that covers it (R182), or waits for a record or for allocation (R180).
A request stays back until the next of its group, so that the last can carry Last. -/
def raisePage (key : AtsKey) (x : AtsWaiter) (s : State) : State :=
  let fn := key.fn.toNat
  match s.ch.pri.find? (priCovers key x.write) with
  | some r => s.modCh fun c => { c with pri := updateWhere (fun y => decide (y = r)) (fun y => { y with who := joinWaiters x y.who }) c.pri }
  | none =>
    if s.priFull key then s.modCh fun c => { c with priWait := c.priWait ++ [{ key := key, who := x }] }
    else
      let pasid := key.pasid.map (·.toNat)
      let found := s.ch.groups.find? fun g => decide (g.fn = fn ∧ g.pasid = pasid) && g.closed.isNone
      let id := match found with | some g => g.id | none => s.ch.nextGroup
      let s : State := match found with
        | some g => (match s.groupLast g.id with | some r => s.sendPage r false | none => s)
        | none => s.modCh fun c => { c with nextGroup := id + 1, groups := c.groups ++ [{ id := id, fn := fn, pasid := pasid, size := 0, opened := s.now, closed := none }] }
      let grow (g : PriGroup) : PriGroup := { g with size := g.size + 1 }
      let s := s.modCh fun c => { c with pri := c.pri ++ [{ key := key, write := x.write, group := id, who := [x] }],
                                         groups := updateWhere (fun g => decide (g.id = id)) grow c.groups }
      if s.ch.groups.any fun g => decide (g.id = id ∧ 64 ≤ g.size) then s.closeGroup id else s

/-- A host fault of a waiter (R179): a page request where its segment and its function allow one, and it has not had one already (R181);
else PAGE_FAULT. -/
def hostFault (key : AtsKey) (x : AtsWaiter) (s : State) : State :=
  if x.pri && !x.again && s.priAllowed key.fn.toNat then s.raisePage key x else s.giveVerdict key St.PAGE_FAULT x.who

/-- The answer to a translation request arrives (R176): a copy is filled, or the access is a host fault. -/
def atsAnswer (key : AtsKey) (a : Option AtsAnswer) (s : State) : State :=
  let rs := s.ch.reqs.filter fun r => decide (r.key = key)
  if rs = [] then s
  else
    let s := s.modCh fun c => { c with reqs := c.reqs.filter fun r => !decide (r.key = key) }
    let s : State := match a with
      | some x =>
        if (x.read || x.write) && s.atsOn key.fn.toNat then
          let l := max 12 (min 30 x.log2.toNat)
          let c : AtsCopy := { fn := key.fn.toNat, pasid := key.pasid.map (·.toNat), base := key.page * 4096 / 2 ^ l * 2 ^ l, log2 := l,
                               target := x.target.toNat / 2 ^ l * 2 ^ l, read := x.read, write := x.write }
          s.modCh fun h => { h with copies := (c :: h.copies.filter fun y => !(decide (y.fn = c.fn ∧ y.pasid = c.pasid ∧ y.base = c.base ∧ y.log2 = c.log2))).take 8192 }
        else s
      | none => s
    rs.foldl (fun s r =>
      let ok := match a with | some x => if r.write then x.write else x.read | none => false
      if ok then r.who.foldl (fun s x => s.wakeUp x.who) s else r.who.foldl (fun s x => s.hostFault key x) s) s

/-- Faults that waited for a record or for allocation meet the conditions of R179 again, and are raised where there is room now (R180). -/
def retryPages (s : State) : State :=
  let l := s.ch.priWait
  if l.isEmpty then s else l.foldl (fun s p => s.hostFault p.key p.who) (s.modCh fun c => { c with priWait := [] })

/-- Ends a group: `f` resolves each waiter of each of its records. -/
def endGroup (g : Nat) (f : AtsKey → AtsWaiter → State → State) (s : State) : State :=
  let rs := s.ch.pri.filter fun r => decide (r.group = g)
  let s := s.modCh fun c => { c with pri := c.pri.filter (fun r => !decide (r.group = g)), groups := c.groups.filter (fun x => !decide (x.id = g)) }
  (rs.foldl (fun s r => r.who.foldl (fun s x => f r.key x s) s) s).retryPages

/-- The PRG Response of a closed group (R181 Table 4); a response for no group is late and ignored. -/
def prgAnswer (g : Nat) (code : PrgCode) (s : State) : State :=
  if !(s.ch.groups.any fun x => decide (x.id = g) && x.closed.isSome) then s
  else match code with
    | .success => s.endGroup g fun key x s => s.askAts key { x with again := true }
    | .invalid => s.endGroup g fun key x s => s.giveVerdict key St.PAGE_FAULT x.who
    | .failure =>
      let s := s.modCh fun c => { c with stopped := true }
      (s.endGroup g fun key x s => s.giveVerdict key St.PAGE_FAULT x.who).raise Reg.CH Err.CH_PRI_FAIL { Capture.none with cls := 6 }

/-- No response within CH_PRI_CTRL.TIMEOUT (R181). -/
def prgTimeout (g : Nat) (s : State) : State :=
  if !(s.ch.groups.any fun x => decide (x.id = g) && x.closed.isSome) then s
  else (s.endGroup g fun key x s => s.giveVerdict key St.PAGE_FAULT x.who).raise Reg.CH Err.CH_PRI_TIMEOUT { Capture.none with cls := 6 }

/-- A write of CH_PRI_CTRL (R181): ENABLE from 0 to 1 clears STOPPED. -/
def priCtrl (h : Half) (v : Word) (s : State) : State :=
  let old := s.reg Reg.CH_PRI_CTRL
  let new := mergeHalf h old v &&& (fieldMask 63 48 ||| fieldMask 0 0)
  let s := s.setReg Reg.CH_PRI_CTRL new
  if !bit old 0 && bit new 0 then s.modCh fun c => { c with stopped := false } else s

/-! ### Invalidations (R178) -/

/-- An invalidation completes: its message goes out. -/
def invalDone (fn : Nat) (s : State) : State := (s.emit (.atsInvDone fn)).bump Reg.CH_STAT_ATS_INVAL

/-- A copy or page is matched by an invalidation of [base, base + 2^log2). -/
def invalHits (fn : Nat) (pasid : Option Nat) (base log2 : Nat) (f : Nat) (p : Option Nat) (a n : Nat) : Bool :=
  decide (f = fn ∧ p = pasid ∧ a < base + 2 ^ log2 ∧ base < a + n)

/-- An ATS Invalidate Request (R178): the copies it matches are gone, and it waits for the reads that used them. -/
def invalidate (fn : Nat) (pasid : Option Nat) (base log2 : Nat) (s : State) : State :=
  let hit (c : AtsCopy) : Bool := invalHits fn pasid base log2 c.fn c.pasid c.base (2 ^ c.log2)
  let gone := s.ch.copies.filter hit
  let s := s.modCh fun c => { c with copies := c.copies.filter fun x => !hit x }
  let used (k : AtsKey) : Bool := (gone.any fun c => c.covers k) || invalHits fn pasid base log2 k.fn.toNat (k.pasid.map (·.toNat)) (k.page * 4096) 4096
  let who := (s.ch.hostReads.filter fun r => used r.2).foldl (fun l r => addNew r.1 l) []
  if who = [] then s.invalDone fn else s.modCh fun c => { c with invals := c.invals ++ [{ fn := fn, since := s.now, who := who }] }

/-- A host read has ended one way or another: it holds up no invalidation any more. -/
def hostReadEnded (w : Waiter) (s : State) : State :=
  let drop (i : Inval) : Inval := { i with who := i.who.filter (· ≠ w) }
  let s := s.modCh fun c => { c with hostReads := c.hostReads.filter (·.1 ≠ w), invals := c.invals.map drop }
  let done := s.ch.invals.filter fun i => i.who.isEmpty
  done.foldl (fun s i => s.invalDone i.fn) (s.modCh fun c => { c with invals := c.invals.filter fun i => !i.who.isEmpty })

/-- Reads are still outstanding 100 µs after a function's oldest pending request (R178): it completes, and those reads are made again with a
fresh translation. -/
def invalTimeout (fn : Nat) (s : State) : State :=
  match s.ch.invals.find? fun i => decide (i.fn = fn) with
  | none => s
  | some i =>
    let s := (s.modCh fun c => { c with invals := c.invals.erase i }).invalDone fn
    (i.who.foldl (fun s w => (s.hostReadEnded w).wakeUp w) s).raise Reg.CH Err.CH_ATS_DRAIN { Capture.none with cls := 6 }

/-! ### Moves (R187 to R192) -/

def placePages (s : State) : Nat := s.regBits Reg.CH_PLACE_PAGES 21 0

def move? (s : State) (id : Nat) : Option Move := s.ch.moves.find? fun m => decide (m.id = id)
def setMove (m : Move) (s : State) : State :=
  s.modCh fun c => { c with moves := updateWhere (fun x => decide (x.id = m.id)) (fun _ => m) c.moves }
def dropMove (id : Nat) (s : State) : State := s.modCh fun c => { c with moves := c.moves.filter fun x => !decide (x.id = id) }

/-- A move of an Ibex page (R128), or the copy of one (R120). -/
def isIbexMove (m : Move) : Bool := decide (m.kind = .demote ∨ m.kind = .fetch ∨ m.kind = .evac ∨ m.kind = .cow)

/-- A placed page has a move queued or running. -/
def pageMove? (s : State) (page : Nat) : Option Move := s.ch.moves.find? fun m => decide (m.page = page) && !isIbexMove m

/-- A queued move, with nothing carried yet. -/
def newMove (id cls : Nat) (kind : MoveKind) (page : Nat) (work : Option Nat) : Move :=
  { id := id, cls := cls, kind := kind, page := page, srcPool := 0, srcFrame := 0, dstPool := 0, dstFrame := 0, mode := .lines, src := 0, dst := 0,
    cursor := 0, upTo := 0, total := pageBytes, inPos := 0, inLen := 0, outPos := 0, job := none, running := false, ending := false, fails := 0,
    corrupt := false, aborted := false, work := work }

/-- Adds a move to the migration queue. -/
def addMove (f : Nat → Move) (s : State) : State :=
  s.modCh fun c => { c with nextMove := c.nextMove + 1, moves := c.moves ++ [f c.nextMove] }

/-- Queues a move of a placed page. -/
def queueMove (cls : Nat) (kind : MoveKind) (page : Nat) (work : Option Nat) (s : State) : State :=
  s.addMove fun id => newMove id cls kind page work

/-- The packing profile, when it may be used (R190). -/
def packProfile (s : State) : Option Word :=
  let p := s.profile (s.regBits Reg.CH_CTRL 31 28)
  if profileValid p && decide (bits p 7 0 = bits p 15 8) && bit p 22 then some p else none

/-- How a demotion into tier 2 goes (R190): with PACK_EN it packs. -/
def demotion (s : State) : MoveKind := if s.regBit Reg.CH_CTRL 7 then .pack else .plainDemote

/-- The next move to start (R188): by class, and within a class as queued; a page makes one move at a time. -/
def nextMoveToStart (s : State) : Option Move :=
  let taken (m : Move) : Bool := s.ch.moves.any fun x => x.running && decide (x.page = m.page) && decide (isIbexMove x = isIbexMove m)
  (sortBy (·.cls) (s.ch.moves.filter fun m => !m.running && !taken m)).head?

/-- Copies the bytes of a range, and with them the poison of its lines. -/
def copyFrame (src dst n : Nat) (s : State) : State :=
  let bs := s.readBytes src n
  let ps := (linesOf src n).filter fun l => s.poisoned l
  let s := s.writeBytes dst bs
  let dl := linesOf dst n
  { s with poison := s.poison.filter (· ∉ dl) ++ ps.map fun l => l - src / 64 + dst / 64 }

/-- No access of a move is under way. -/
def moveIdle (s : State) (id : Nat) : Bool :=
  let w : Waiter := .move id
  !(s.sf.txns.any fun t => decide (t.asker = .nc w)) && !(s.sf.held.any fun h => decide (h.asker = .nc w)) && decide ((s.postedOf w).1 = 0)

/-- A move ends, and what the block kept for it is forgotten. -/
def endMove (id : Nat) (s : State) : State := ((s.dropMove id).forget (.move id)).gzRelease (.move id)

/-- A move of a placed page ends without effect: MOVING clears and its destination frame is freed. The lines already carried are where they were
again (R189, R192; log entry 85). -/
def cancelMove (m : Move) (s : State) : State :=
  let s := s.endMove m.id
  if !m.running then s
  else
    let s := if m.mode = .lines ∧ m.cursor ≠ 0 then s.copyFrame m.dst (s.frameAddr m.srcPool m.srcFrame) m.cursor else s
    (s.setMapEntry m.page (setBit (s.mapEntry m.page) 56 false)).freeFrame m.dstPool m.dstFrame

/-- The placement map in tier 1 (R184): base and size. -/
def mapRange (s : State) : Nat × Nat := (s.mapAddr 0, 8 * s.placePages)

/-- Placed memory goes into service once no cache holds a line of its map (R184). -/
def chStart (s : State) : State :=
  if s.ch.starting && (s.heldLines [s.mapRange]).isEmpty then s.modCh fun c => { c with active := true, starting := false } else s

/-- Works of ADVISE look at their pages again. -/
def wakeAdvise (s : State) : State :=
  (s.qe.works.filter fun w => decide (w.phase = .running ∧ dOpcode w.desc = 0x21)).foldl (fun s w => s.wakeUp (.work w.id)) s

/-- The waiters of a page that was packed are tried again. -/
def wakePage (page : Nat) (s : State) : State :=
  let ws := (s.ch.pageWait.filter fun p => decide (p.1 = page)).map (·.2)
  ws.foldl (fun s w => s.wakeUp w) (s.modCh fun c => { c with pageWait := c.pageWait.filter fun p => !decide (p.1 = page) })

/-- How a move of a placed page carries it, decided as it starts (R190, R191): with its source address, length, packed length. A page that is
not to be packed, its profile being none that R190 allows, is copied, and PROFILE_INVALID is set (R107). -/
def moveForm (m : Move) (e : Word) (s : State) : Move × State :=
  let at_ := s.frameAddr (poolOf e) (pFrame e)
  let lines := { m with mode := .lines, src := placedBase + m.page * pageBytes, total := pageBytes }
  if pLoc e = 3 then
    if m.kind = .relocate then ({ m with mode := .raw, src := at_, total := 4096 * pLen e }, s)
    else ({ m with mode := .back (s.profile (s.regBits Reg.CH_CTRL 31 28)), src := at_, total := pageBytes, inLen := 4096 * pLen e }, s)
  else if m.kind = .pack then
    match s.packProfile with
    | some p => ({ lines with mode := .out p }, s)
    | none => ({ lines with kind := .plainDemote }, s.raise Reg.GZ Err.GZ_PROFILE_INVALID Capture.none)
  else (lines, s)

/-- Starts a queued move of a placed page: its destination frame is allocated and MOVING set (R189). A demotion packs by PACK_EN as it starts
(R190), but in replay, where it goes as its record says. A move that no longer has anything to do is dropped. One without a frame stays queued,
and those behind it wait (log entry 109), but for an ADVISE's promotion, whose page is looked at again (R196). -/
def startMove (m : Move) (s : State) : State :=
  let e := s.mapEntry m.page
  let m := if !s.rp.replaying && decide (m.kind = .pack ∨ m.kind = .plainDemote) then { m with kind := s.demotion } else m
  let inTwo := decide (pLoc e = 2 ∨ pLoc e = 3)
  let dest : Option Nat :=
    match m.kind with
    | .promote => some 0
    | .plainDemote | .pack => s.bestTier2
    | .relocate => (List.range Config.downPorts).foldl (fun best p =>
        if p + 1 = poolOf e ∨ s.freeFrames (p + 1) = 0 then best
        else match best with
          | some b => if s.freeFrames b < s.freeFrames (p + 1) then some (p + 1) else best
          | none => some (p + 1)) none
    | _ => if 0 < s.freeFrames 0 then some 0 else s.bestTier2
  let fits := match m.kind with
    | .promote => inTwo
    | .plainDemote | .pack => decide (pLoc e = 1)
    | .relocate => inTwo
    | _ => decide (pLoc e = 3)
  -- a replayed move goes where its record says (R419)
  let told := s.rp.forced.findSome? fun f => match f with | .move g pool f => if g = m.page then some (pool, f) else none | _ => none
  let s := s.modRp fun r => { r with forced := r.forced.filter fun f => match f with | .move g _ _ => !decide (g = m.page) | _ => true }
  let again := decide (m.kind = .promote ∧ s.freeFrames 0 = 0) && m.work.isSome
  if pLost e || !fits || again then ((s.dropMove m.id).wakePage m.page).wakeAdvise
  else match (told.map (·.1)).orElse fun _ => dest with
    | none => s
    | some pool =>
      match (match told with | some x => (if x.2 ∈ s.usedFrames pool ∨ s.framesOf pool ≤ x.2 then s.findFrame pool else some x.2) | none => s.findFrame pool) with
      | none => s
      | some f =>
        let s := (s.takeFrame pool f).setMapEntry m.page (setBit e 56 true)
        let r := s.moveForm m e
        r.2.setMove { r.1 with running := true, srcPool := poolOf e, srcFrame := pFrame e, dstPool := pool, dstFrame := f, dst := r.2.frameAddr pool f }

/-! ### Carrying a page -/

/-- A move needs nothing more, or can do nothing more. -/
def moveOver (m : Move) : Bool :=
  m.aborted || m.corrupt || decide (2 ≤ m.fails) || (m.ending && decide (m.total ≤ m.cursor))

/-- The job in hand of a move has failed (R97, R128): it runs once more. -/
def jobFailed (id : Nat) (s : State) : State :=
  match s.move? id with
  | none => s
  | some m => ((s.forgetReads (.move id)).gzRelease (.move id)).setMove { m with fails := m.fails + 1, job := none }

end State

/-- The whole blocks of a YXP stream from `src + pos` on, decompressed (R105, R129): their bytes, and how many were read. A block that fails its
check gives its status. -/
def readBlocks (w : Waiter) (src len ety : Nat) : Nat → Nat → M (List Byte × Nat)
  | 0, _ => pure ([], 0)
  | n + 1, pos => do
    if len < pos + 8 then failM Yxp.OVERRUN
    else
      let h ← deviceRead w (src + pos) 8
      if h.2 then failM St.DATA_ERROR
      else match Yxp.checkHeader ety (len - pos) (leNat h.1) with
        | .inr st => failM st
        | .inl size => do
          let b ← deviceRead w (src + pos) size
          if b.2 then failM St.DATA_ERROR
          else match Yxp.decodeBlock ety b.1 with
            | .bad st => failM st
            | .ok size data => do
              let r ← readBlocks w src len ety n (pos + size)
              pure (data ++ r.1, r.2 + size)

/-- A job of a move through a Gazelle (R128): up to 256 KiB of tier-1 data, read, converted, and written after what the job before it wrote.
Poisoned data fails it. The answer is what it has written and read. -/
def convJob (m : Move) : M (Nat × Nat) := do
  let w : Waiter := .move m.id
  let n := min 262144 (m.total - m.cursor)
  needMover w
  needGazelle w
  match m.mode with
  | .out p => do
    let r ← deviceRead w (m.src + m.cursor) n
    if r.2 then failM St.DATA_ERROR
    else
      let out := profileOut p r.1
      deviceWrite w (m.dst + m.outPos) out false 0
      pure (out.length, n)
  | .back p => do
    let raw := profileSize p n
    let r ← if bit p 22 then readBlocks w m.src m.inLen (bits p 15 8) (raw / 4096) m.inPos else (do
      let r ← deviceRead w (m.src + m.inPos) raw
      if r.2 then failM St.DATA_ERROR else pure (r.1, raw))
    deviceWrite w (m.dst + m.cursor) (convBytes (bits p 15 8) (bits p 7 0) (bits p 63 32) false .even r.1) false 0
    pure (n, r.2)
  | _ => pure (0, 0)

/-- A status of R105. -/
def yxpStatus (st : Nat) : Bool := decide (0x42 ≤ st ∧ st ≤ 0x44)

namespace State

/-- A job's writes have gone out: it is over once they are performed, and has failed if one of them has. -/
def jobWritten (m : Move) (s : State) : State :=
  match m.job, s.postedOf (.move m.id) with
  | some _, (0, some _) => ((s.jobFailed m.id).forget (.move m.id)).wakeUp (.move m.id)
  | some j, (0, none) =>
    let n := min 262144 (m.total - m.cursor)
    (((s.forget (.move m.id)).gzRelease (.move m.id)).setMove
      { m with cursor := m.cursor + n, outPos := m.outPos + j.1, inPos := m.inPos + j.2, job := none, fails := 0 }).wakeUp (.move m.id)
  | _, _ => s

/-- A running move goes on as far as its jobs have been called for: one line after the other (R189), or one job (R128). -/
def carryOn (id : Nat) (s : State) : State :=
  match s.move? id with
  | none => s
  | some m =>
    if !m.running || moveOver m || !s.moveIdle id then s
    else if m.job.isSome then s.jobWritten m
    else if m.upTo ≤ m.cursor then s
    else match m.mode with
      | .out _ | .back _ =>
        (match (convJob m).exec s with
         | (.ok j, s) => let m := { m with job := some j }; (s.setMove m).jobWritten m
         | (.error (.fail st), s) =>
           let s := s.jobFailed id
           (match s.move? id with
            | some m => s.setMove { m with corrupt := m.corrupt || yxpStatus st }
            | none => s).wakeUp (.move id)
         | (.error .wait, s) => s)
      | _ =>
        match (needMover (.move id)).exec s with
        | (.ok _, s) => s.addHomeTxn ((m.src + m.cursor) / 64) (.moveLine (m.dst + m.cursor)) (.nc (.move id))
        | (.error (.fail _), s) => (s.jobFailed id).wakeUp (.move id)
        | (.error .wait, s) => s

/-- More of a running move is called for: its next job (R128), or all that is left. A conversion ends only after its jobs. -/
def callFor (all : Bool) (id : Nat) (s : State) : State :=
  match s.move? id with
  | none => s
  | some m =>
    let conv := match m.mode with | .out _ | .back _ => true | _ => false
    if !m.running then s
    else if all then
      if conv && decide (m.cursor < m.total) then s else (s.setMove { m with upTo := m.total, ending := true }).wakeUp (.move id)
    else if m.upTo ≤ m.cursor ∧ m.cursor < m.total then (s.setMove { m with upTo := min m.total (m.cursor + 262144) }).wakeUp (.move id)
    else s

/-! ### The end of a placed page's move -/

/-- The entry after a completed move (R189), the source frame freed; AGE becomes 0 (R186). -/
def moveWritten (m : Move) (loc len : Nat) (s : State) : State :=
  let old := s.mapEntry m.page
  let e := setBits (setBits (setBits old 63 62 loc) 61 59 (m.dstPool - 1)) 23 0 m.dstFrame
  let e := setBits (setBits (setBit e 56 false) 47 40 0) 33 24 len
  let s := ((s.setMapEntry m.page e).freeFrame m.srcPool m.srcFrame).endMove m.id
  let s := s.rpEvent 0x0C 0 0 (w64 m.page ||| fld (pLoc old) 21 ||| fld loc 23 ||| fld (m.dstPool - 1) 25) (w64 m.dstFrame) none
  (s.wakePage m.page).wakeAdvise

/-- A placed page's contents are lost: its entry says so, and its frame is free (R191, R192, R331). A move of it ends. -/
def loseEntry (page : Nat) (s : State) : State :=
  let s := match (s.pageMove? page).filter (·.running) with | some m => s.cancelMove m | none => s
  let e := s.mapEntry page
  if pLost e then s
  else
    let s := if pLoc e = 0 then s else s.freeFrame (poolOf e) (pFrame e)
    ((s.setMapEntry page (setBit e 39 true)).wakePage page).wakeAdvise

/-- A map entry that cannot be corrected (R184, R387): its page becomes LOST. -/
def mapLost (page : Nat) (s : State) : State := (s.loseEntry page).raise Reg.CH Err.CH_PAGE_LOST { Capture.none with cls := 6 }

/-- Chamois finds lines of its map poisoned (R184, R387): the pages of their entries are lost. -/
def mapPoison (s : State) : State :=
  let r := s.mapRange
  let bad := if s.poison.isEmpty || !s.ch.active then [] else s.poison.filter fun l => decide (r.1 < 64 * l + 64 ∧ 64 * l < r.1 + r.2)
  bad.foldl (fun s l =>
    let lost := (List.range 8).filterMap fun i => if r.1 ≤ 64 * l + 8 * i ∧ 64 * l + 8 * i < r.1 + r.2 then some ((64 * l + 8 * i - r.1) / 8) else none
    let s := lost.foldl (fun s p => s.mapLost p) { s with poison := s.poison.filter (· ≠ l) }
    s.raise Reg.CH Err.CH_MAP_UNCORR { Capture.none with cls := 6, addr := w64 (64 * l), space := 1 }) s

/-- A packed page fails its check (R107, R191): it becomes LOST. -/
def packLost (m : Move) (s : State) : State :=
  let s := ((s.cancelMove m).loseEntry m.page).raise Reg.GZ Err.GZ_YXP_PAGE Capture.none
  s.raise Reg.CH Err.CH_PACK_FAIL { Capture.none with cls := 6, addr := w64 (placedBase + m.page * pageBytes), space := 1 }

/-- A placed page's move has failed twice: the page stays where it was (R189). -/
def moveFails (m : Move) (s : State) : State :=
  ((s.cancelMove m).raise Reg.CH Err.CH_MOVE_FAIL { Capture.none with cls := 6, addr := w64 (placedBase + m.page * pageBytes), space := 1 }).wakeAdvise

/-- A move of a placed page is over (R189 to R191). -/
def finishMove (m : Move) (s : State) : State :=
  let toOne := decide (m.dstPool = 0)
  let count (s : State) : State := match m.kind with
    | .promote => s.bump Reg.CH_STAT_PROMOTE
    | .plainDemote | .pack => s.bump Reg.CH_STAT_DEMOTE
    | .unpack => if toOne then s.bump Reg.CH_STAT_PROMOTE else s
    | _ => s
  if m.aborted then (s.cancelMove m).wakeAdvise
  else if m.corrupt then s.packLost m
  else if 2 ≤ m.fails then s.moveFails m
  else match m.mode with
    | .out _ => count (s.moveWritten m 3 (ceilDiv m.outPos 4096))
    | .raw => s.moveWritten m 3 (pLen (s.mapEntry m.page))
    | _ => count (s.moveWritten m (if toOne then 1 else 2) 0)

/-- Pages that something waits for are to be unpacked (R191). -/
def queueUnpacks (s : State) : State :=
  s.ch.pageWait.foldl (fun s p =>
    if s.ch.moves.any fun m => decide (m.page = p.1) && !isIbexMove m && (m.running || decide (m.kind = .unpack)) then s else s.queueMove 1 .unpack p.1 none) s

/-- A freed frame has been zeroed (R185): what waits for a frame is tried again. -/
def frameZeroed (pool f : Nat) (s : State) : State :=
  if f ∈ s.dirtyFrames pool then
    let s := s.modCh fun c => { c with dirty := Map.put [] pool ((Map.getD [] pool c.dirty).filter (· ≠ f)) c.dirty }
    let s := s.clearFrame pool f
    let ws := s.ch.frameWait
    (ws.foldl (fun s w => s.wakeUp w) (s.modCh fun c => { c with frameWait := [] })).wakeUp .recorder
  else s

/-! ### The sweep (R186, R187) -/

/-- A page the sweep may gather: unpinned, not LOST, old enough, and with no move queued or running (log entry 107). -/
def gatherable (s : State) (page : Nat) (e : Word) : Bool :=
  !pPin e && !pLost e && decide (s.regBits Reg.CH_HEAT_CFG 55 48 ≤ pAge e) && !pMoving e && (s.pageMove? page).isNone

/-- One round of the sweep's moves (R187), with `free` tier-1 frames left after the moves queued so far, the gathered pages as
(page, HEAT), hottest and coldest first, and the budget left. A swap is queued where no tier-1 frame is free, the reserve's included (log entry
108). -/
def sweepMoves (s : State) : Nat → Nat → List (Nat × Nat) → List (Nat × Nat) → Nat → State
  | 0, _, _, _, _ => s
  | n + 1, free, hot, cold, budget =>
    let reserve := s.regBits Reg.CH_CTRL 51 32
    let margin := s.regBits Reg.CH_HEAT_CFG 47 40
    if budget = 0 then s
    else
      let demote : Option (Nat × List (Nat × Nat)) :=
        match cold with
        | c :: rest => if free < reserve ∧ c.2 ≤ s.regBits Reg.CH_HEAT_CFG 39 32 then some (c.1, rest) else none
        | [] => none
      match demote with
      | some (p, rest) => sweepMoves (s.queueMove 3 s.demotion p none) n (free + 1) hot rest (budget - 1)
      | none =>
        match hot with
        | [] => s
        | h :: hs =>
          if reserve < free then sweepMoves (s.queueMove 3 .promote h.1 none) n (free - 1) hs cold (budget - 1)
          else match cold with
            | c :: cs =>
              if free = 0 ∧ c.2 + margin ≤ h.2 ∧ 2 ≤ budget then
                sweepMoves ((s.queueMove 3 s.demotion c.1 none).queueMove 3 .promote h.1 none) n free hs cs (budget - 2)
              else s
            | [] => s

/-- A sweep (R186, R187): the pages are evaluated, HEAT is halved and AGE advanced, and moves are queued. -/
def sweep (s : State) : State :=
  if !s.ch.active || s.isFenced Dom.chamois then s
  else
    let pages := (List.range s.placePages).map fun p => (p, s.mapEntry p)
    let ok := pages.filter fun p => s.gatherable p.1 p.2
    let warm := ok.filter fun p => decide (2 ≤ pLoc p.2) && decide (s.regBits Reg.CH_HEAT_CFG 31 24 ≤ pHeat p.2)
    let hot := ((sortBy (fun p => 255 - pHeat p.2) warm).take 64).map fun p => (p.1, pHeat p.2)
    let cold := ((sortBy (fun p => pHeat p.2) (ok.filter fun p => decide (pLoc p.2 = 1))).take 64).map fun p => (p.1, pHeat p.2)
    let s := pages.foldl (fun s p => s.setMapEntry p.1 (setBits (setBits p.2 55 48 (pHeat p.2 / 2)) 47 40 (min 255 (pAge p.2 + 1)))) s
    if s.ch.quiet || !s.regBit Reg.CH_CTRL 4 || s.rp.replaying then s
    else s.sweepMoves 512 (s.freeFrames 0) hot cold (s.regBits Reg.CH_HEAT_CFG 63 56)

/-! ### Loss of a port (R192) -/

/-- Every page on port `p` becomes LOST; its moves end as R192 gives, and its pool is disabled. -/
def losePool (p : Nat) (s : State) : State :=
  let pool := p + 1
  let s := (s.ch.moves.filter fun m => !isIbexMove m && m.running && decide (m.srcPool = pool ∨ m.dstPool = pool)).foldl (fun s m => s.cancelMove m) s
  let hit := (List.range s.placePages).filter fun g => let e := s.mapEntry g; decide (2 ≤ pLoc e ∧ pPort e = p) && !pLost e
  let s := hit.foldl (fun s g => s.loseEntry g) s
  let s := s.setReg (poolReg pool) (setBit (s.reg (poolReg pool)) 31 false)
  let s := s.modCh fun c => { c with used := Map.erase pool c.used, dirty := Map.erase pool c.dirty }
  if hit = [] then s.wakeAdvise else (s.raise Reg.CH Err.CH_PAGE_LOST { Capture.none with cls := 6, index := p }).wakeAdvise

end State

/-! ### PREFETCH (R194) -/

/-- Bytes per element times two: the formats of a profile are whole bytes. -/
def fmtBytes (f : Nat) : Nat := elemBits f / 8

/-- Pieces of an outward PREFETCH, 4 KiB on the DST_FMT side each; `next` counts pieces, `acc` bytes written. -/
def prefetchOut (k : Who) (w : Work) (p : Word) (src : Target) (len : Nat) : Nat → M Word
  | 0 => do let s ← get; pure (w64 ((s.work? w.id).getD w).acc)
  | n + 1 => do
    let s ← get
    let x := (s.work? w.id).getD w
    let step := 4096 / fmtBytes (bits p 15 8) * fmtBytes (bits p 7 0)
    let at_ := x.next * step
    if len ≤ at_ then pure (w64 x.acc)
    else
      let r ← readTarget k (src.plus at_) (min step (len - at_))
      if r.2 then failM St.DATA_ERROR
      else
        let out := profileOut p r.1
        let t ← operand k w.desc (descQ w.desc 40 + w64 x.acc) out.length true
        writeTarget k t out false
        act (State.dropGot k.w)
        act (State.setWork { x with next := x.next + 1, acc := x.acc + out.length })
        prefetchOut k w p src len n

/-- Pieces of a return PREFETCH: `acc` counts the bytes consumed from SRC, `next` the pieces. -/
def prefetchBack (k : Who) (w : Work) (p : Word) (dst : Target) (len : Nat) : Nat → M Word
  | 0 => pure (w64 len)
  | n + 1 => do
    let s ← get
    let x := (s.work? w.id).getD w
    let d := fmtBytes (bits p 15 8)
    let step := 4096 / d * fmtBytes (bits p 7 0)
    let at_ := x.next * step
    if len ≤ at_ then pure (w64 len)
    else
      let outLen := min step (len - at_)
      let put (raw : List Byte) (size : Nat) : M Unit := do
        writeTarget k (dst.plus at_) (convBytes (bits p 15 8) (bits p 7 0) (bits p 63 32) false .even raw) false
        act (State.dropGot k.w)
        act (State.setWork { x with next := x.next + 1, acc := x.acc + size })
      if bit p 22 then
        let left := len * d / fmtBytes (bits p 7 0) / 4096 * 4160 - x.acc
        let fail (st : Nat) : M Unit := do
          act (State.scrambleAt k (dst.plus at_) outLen)
          failM st
        if left < 8 then fail Yxp.OVERRUN
        else
          let th ← operand k w.desc (descQ w.desc 32 + w64 x.acc) 8 false
          let h ← readTarget k th 8
          if h.2 then failM St.DATA_ERROR
          else match Yxp.checkHeader (bits p 15 8) left (leNat h.1) with
            | .inr st => fail st
            | .inl size => do
              let tb ← operand k w.desc (descQ w.desc 32 + w64 x.acc) size false
              let b ← readTarget k tb size
              if b.2 then failM St.DATA_ERROR
              else match Yxp.decodeBlock (bits p 15 8) b.1 with
                | .bad st => fail st
                | .ok size data => put data size
      else
        let size := outLen / fmtBytes (bits p 7 0) * d
        let t ← operand k w.desc (descQ w.desc 32 + w64 x.acc) size false
        let r ← readTarget k t size
        if r.2 then failM St.DATA_ERROR else put r.1 size
      prefetchBack k w p dst len n

/-- PREFETCH (R194). RESULT is the bytes written to DST. -/
def runPrefetch (k : Who) (w : Work) : M Word := do
  let d := w.desc
  let len := descBits d 48 39 0
  let flags := descNat d 56 1
  if descBits d 48 63 40 ≠ 0 ∨ len = 0 ∨ 64 ≤ flags ∨ descNat d 57 7 ≠ 0 then failM St.FORMAT_ERROR
  else if !flags.testBit 4 then
    let src ← operand k d (descQ d 32) len false
    let dst ← operand k d (descQ d 40) len true
    needMover k.w
    copyPieces k w.id src dst len (len / pieceBytes + 1)
    pure (w64 len)
  else
    let s ← get
    let p := s.profile (flags % 16)
    let sb := fmtBytes (bits p 7 0)
    let db := fmtBytes (bits p 15 8)
    if !profileValid p then failM St.FORMAT_ERROR
    else
      let outLen := len / sb * db
      let out := flags.testBit 5
      let src ← operandAddr k (dHandles d) (descQ d 32) (if out then len else if bit p 22 then 8 else outLen) false
      let dst ← operandAddr k (dHandles d) (descQ d 40) (if out then (if bit p 22 then 64 else outLen) else len) true
      if src.toNat % 64 ≠ 0 ∨ dst.toNat % 64 ≠ 0 ∨ len % sb ≠ 0 ∨ (bit p 22 ∧ outLen % 4096 ≠ 0) then failM GZ_ALIGN
      else
        needMover k.w
        needGazelle k.w
        if out then
          let t ← translate k src len false
          prefetchOut k w p t len (len / sb * db / 4096 + 1)
        else
          let t ← translate k dst len true
          prefetchBack k w p t len (len / sb * db / 4096 + 1)

/-- The bytes that a PREFETCH has written to DST so far (R194). -/
def State.prefetched (w : Work) (s : State) : Nat :=
  let x := (s.work? w.id).getD w
  let flags := descNat w.desc 56 1
  let p := s.profile (flags % 16)
  if !flags.testBit 4 then x.next
  else if flags.testBit 5 then x.acc
  else min (descBits w.desc 48 39 0) (x.next * (4096 / fmtBytes (bits p 15 8) * fmtBytes (bits p 7 0)))

/-- Runs a PREFETCH; its Gazelle is free again once it has ended. -/
def State.runConv (w : Work) (s : State) : State :=
  let s := s.runUpTo (fun s => s.prefetched w) runPrefetch w
  if (s.work? w.id).all fun x => decide (x.phase ≠ .running) then s.gzRelease (.work w.id) else s

/-! ### ADVISE (R195, R196) -/

namespace State

/-- Tier-1 pins (R196). -/
def tier1Pins (s : State) : Nat := countOf (fun g => let e := s.mapEntry g; pPin e && decide (pPinTier e = 0)) (List.range s.placePages)

/-- The coldest unpinned tier-1 page that is not moving (R196). -/
def coldestOne (s : State) : Option Nat :=
  let l := (List.range s.placePages).filter fun g => let e := s.mapEntry g; decide (pLoc e = 1) && !pPin e && !pLost e && (s.pageMove? g).isNone
  (sortBy (fun g => pHeat (s.mapEntry g)) l).head?

/-- A demotion for this ADVISE is queued or running (R196). -/
def demoting (s : State) (work : Nat) : Bool := s.ch.moves.any fun m => decide (m.work = some work) && decide (m.kind = .pack ∨ m.kind = .plainDemote)

/-- Back-invalidates the lines of a page that any cache holds and throws their data away (R195). -/
def discardLines (page : Nat) (s : State) : State :=
  let lo := (placedBase + page * pageBytes) / 64
  let held := s.sf.entries.filterMap fun e =>
    let l := sfLine (e.1 / 16 % 32768) e.2.tag
    if lo ≤ l ∧ l < lo + pageBytes / 64 then some l else none
  held.foldl (fun s l => s.addHomeTxn l (.backInv true) .home) s

/-- The page's cached lines are gone. -/
def pageQuiet (s : State) (page : Nat) : Bool :=
  let lo := (placedBase + page * pageBytes) / 64
  let mine (l : Nat) : Bool := decide (lo ≤ l ∧ l < lo + pageBytes / 64)
  !(s.sf.txns.any fun t => mine t.line) && !(s.sf.held.any fun h => mine h.line) && !(s.sf.backs.any fun b => mine b.line) &&
    !(s.dn.reqs.any fun r => match r.for_ with | .txnWrite 16 l => mine l | _ => false)

end State

/-- What one page of an ADVISE has come to: done (and whether it changed), or a wait, or a failure of the action. -/
inductive AdviseStep where
  | done (changed : Bool)
  | wait
  | fail (status : Nat)
deriving DecidableEq, Repr

namespace State

/-- Queues a move for an ADVISE (class 2). -/
def adviseMove (kind : MoveKind) (page work : Nat) (s : State) : AdviseStep × State := (.wait, s.queueMove 2 kind page (some work))

/-- Tier 1 for a page of PIN_T1 or HOT (R196): a move there, a demotion first where no frame is free, or PIN_LIMIT. -/
def adviseToOne (page work : Nat) (s : State) : AdviseStep × State :=
  if 0 < s.freeFrames 0 then s.adviseMove .promote page work
  else if s.demoting work then (.wait, s)
  else match s.coldestOne with
    | some g => s.adviseMove s.demotion g work
    | none => (.fail St.PIN_LIMIT, s)

/-- One page of an ADVISE (Table 7). A move in progress runs to its end first; a queued heat-loop move of a page that is pinned
or discarded is dropped. A LOST page has nothing to move: its PIN or HEAT alone is set (log entry 110). -/
def advisePage (action page work : Nat) (s : State) : AdviseStep × State :=
  let drop (s : State) : State := match s.pageMove? page with
    | some m => if !m.running ∧ m.cls = 3 then s.dropMove m.id else s
    | none => s
  let s : State := if action = 0 ∨ action = 1 ∨ action = 5 then drop s else s
  let e := s.mapEntry page
  let put (e' : Word) (s : State) : AdviseStep × State := (.done (e' ≠ e), if e' = e then s else s.setMapEntry page e')
  if (s.pageMove? page).isSome then (.wait, s)
  else match action with
    | 2 => put (setBits e 58 57 0) s
    | 0 =>
      let pin := setBits e 58 57 2
      if pLost e ∨ pLoc e = 1 then put pin s
      else if pLoc e = 0 then
        (match s.findFrame 0 with
         | some f => (.done true, (s.takeFrame 0 f).setMapEntry page (setBits (setBits pin 63 62 1) 23 0 f))
         | none =>
           if 0 < s.freeFrames 0 ∨ s.demoting work then (.wait, s.modCh fun c => { c with frameWait := addNew (.work work) c.frameWait })
           else match s.coldestOne with
             | some g => s.adviseMove s.demotion g work
             | none => (.fail St.PIN_LIMIT, s))
      else s.adviseToOne page work
    | 1 =>
      let pin := setBits e 58 57 3
      if pLost e ∨ 2 ≤ pLoc e then put pin s
      else if pLoc e = 0 then
        (match s.bestTier2 with
         | none => (.fail St.PLACE_FULL, s)
         | some pool =>
           match s.findFrame pool with
           | some f => (.done true, (s.takeFrame pool f).setMapEntry page (setBits (setBits (setBits pin 63 62 2) 61 59 (pool - 1)) 23 0 f))
           | none => (.wait, s.modCh fun c => { c with frameWait := addNew (.work work) c.frameWait }))
      else if s.bestTier2.isNone then (.fail St.PLACE_FULL, s)
      else s.adviseMove s.demotion page work
    | 3 =>
      if pPin e || decide (pLoc e = 0) then (.done false, s)
      else if pLost e ∨ pLoc e = 1 then put (setBits e 55 48 255) s
      else s.adviseToOne page work
    | 4 =>
      if pPin e || decide (pLoc e = 0) then (.done false, s)
      else if pLost e ∨ 2 ≤ pLoc e then put (setBits e 55 48 0) s
      else if s.bestTier2.isNone then (.fail St.PLACE_FULL, s)
      else s.adviseMove s.demotion page work
    | _ =>
      if !s.pageQuiet page then (.wait, s)
      else
        let held := s.discardLines page
        if !held.pageQuiet page then (.wait, held)
        else
          let s := held
          let s : State := if pLoc e = 0 || pLost e then s else s.freeFrame (poolOf e) (pFrame e)
          let lo := (placedBase + page * pageBytes) / 64
          let s := { s with poison := s.poison.filter fun l => decide (l < lo) || decide (lo + pageBytes / 64 ≤ l) }
          put (setBits (setBits (setBits (setBit e 39 false) 63 57 0) 33 24 0) 23 0 0) s

/-- The pages of an ADVISE from number `next` on; `count` holds how many it has changed. -/
def adviseLoop (id action first : Nat) : Nat → State → State
  | 0, s => match s.work? id with
    | some w => s.endWork id 0 (w64 w.count)
    | none => s
  | n + 1, s =>
    match s.work? id with
    | none => s
    | some w =>
      let p := first + w.next
      match s.advisePage action p id with
      | (.done c, s) => adviseLoop id action first n (s.setWork { w with next := w.next + 1, count := w.count + b2n (c || decide (p ∈ w.pages)) })
      | (.wait, s) => if s.ch.moves.any fun m => decide (m.page = p ∧ m.work = some id) then s.setWork { w with pages := addNew p w.pages } else s
      | (.fail st, s) => s.endWork id st (w64 w.count)

/-- ADVISE in Chamois's domain (R195, R196). `total` becomes the number of pages once its checks have passed, and `acc` the first page plus 1. -/
def adviseAt (w : Work) (s : State) : State :=
  let d := w.desc
  let len := descBits d 40 39 0
  let action := descNat d 48 1
  if w.acc ≠ 0 then s.adviseLoop w.id action (w.acc - 1) (w.total - w.next)
  else if descBits d 40 63 40 ≠ 0 ∨ descNat d 49 15 ≠ 0 ∨ 5 < action then s.endWork w.id St.FORMAT_ERROR 0
  else if len = 0 then s.endWork w.id 0 0
  else match (operandAddr (s.workWho w) (dHandles d) (descQ d 32) len false).exec s with
    | (.error .wait, s) => s
    | (.error (.fail st), s) => s.endWork w.id st 0
    | (.ok a, s) =>
      let ok := match s.segCheck w.ctx a len none with
        | some (.device da _) => if regionOf da = .placed ∧ segTarget (s.segOf w.ctx (bits a 47 44)) = 3 then some da else none
        | _ => none
      match ok with
      | none => s.endWork w.id St.ADVISE_TARGET 0
      | some da =>
        let first := (da - placedBase) / pageBytes
        let n := (da + len - 1 - placedBase) / pageBytes - first + 1
        let pins := countOf (fun i => let e := s.mapEntry (first + i); !(pPin e && decide (pPinTier e = 0))) (List.range n)
        if action = 5 ∧ (a.toNat % pageBytes ≠ 0 ∨ len % pageBytes ≠ 0) then s.endWork w.id St.CH_ALIGN 0
        else if action = 0 ∧ s.regBits Reg.CH_CTRL 27 8 < s.tier1Pins + pins then s.endWork w.id St.PIN_LIMIT 0
        else
          let w := { w with acc := first + 1, total := n }
          (s.setWork w).adviseLoop w.id action first n

/-- ADVISE (R195): it passes Chamois's crossing (R24). -/
def runAdvise (w : Work) (s : State) : State := s.atChamois (.work w.id) (adviseAt w)

end State

end Sys2Proof.Machine
end

