-- ==== Sys2Proof/Machine/Ibex.lean ====
section
/-! DEFINITION. Ibex: its tables in memory (R111 to R117), page states (R118), allocation and sharing (R119 to R124), the budget and
reclaim (R125 to R127), moves between tiers (R128, R129), lost pages (R130, R131), closing (R133). -/

namespace Sys2Proof.Machine

/-! ### SipHash-2-4 (R121) -/

/-- One SipRound. -/
def sipRound (v : Word × Word × Word × Word) : Word × Word × Word × Word :=
  let (v0, v1, v2, v3) := v
  let v0 := v0 + v1
  let v1 := v1.rotateLeft 13 ^^^ v0
  let v0 := v0.rotateLeft 32
  let v2 := v2 + v3
  let v3 := v3.rotateLeft 16 ^^^ v2
  let v0 := v0 + v3
  let v3 := v3.rotateLeft 21 ^^^ v0
  let v2 := v2 + v1
  let v1 := v1.rotateLeft 17 ^^^ v2
  let v2 := v2.rotateLeft 32
  (v0, v1, v2, v3)

def sipWord (v : Word × Word × Word × Word) (m : Word) : Word × Word × Word × Word :=
  let r := sipRound (sipRound (v.1, v.2.1, v.2.2.1, v.2.2.2 ^^^ m))
  (r.1 ^^^ m, r.2)

/-- SipHash-2-4 of a message whose whole words are `ws` and whose last, partial word holds `rest`, of `len` bytes in all. -/
def sipHash (k0 k1 : Word) (ws : List Word) (rest : Nat) (len : Nat) : Word :=
  let v := (k0 ^^^ 0x736f6d6570736575, k1 ^^^ 0x646f72616e646f6d, k0 ^^^ 0x6c7967656e657261, k1 ^^^ 0x7465646279746573)
  let v := ws.foldl sipWord v
  let v := sipWord v (w64 (rest + len % 256 * 2 ^ 56))
  let v := sipRound (sipRound (sipRound (sipRound (v.1, v.2.1, v.2.2.1 ^^^ 0xff, v.2.2.2))))
  v.1 ^^^ v.2.1 ^^^ v.2.2.1 ^^^ v.2.2.2

/-- SipHash-2-4 of a byte string. -/
def sipBytes (k0 k1 : Word) (bs : List Byte) : Word :=
  let n := bs.length / 8
  sipHash k0 k1 ((List.range n).map fun i => w64 (leNat ((bs.drop (8 * i)).take 8))) (leNat (bs.drop (8 * n))) bs.length

namespace State

/-! ### Geometry (R111 to R115) -/

def ibPageBytes (s : State) : Nat := 2 ^ s.regBits Reg.IB_POOL_CFG 4 0
def blockTokens (s : State) : Nat := 16 * 2 ^ s.regBits Reg.IB_POOL_CFG 9 8
def maxBlocks (s : State) : Nat := 2 ^ s.regBits Reg.IB_POOL_CFG 20 16
def reqCount (s : State) : Nat := 2 ^ s.regBits Reg.IB_POOL_CFG 25 21
/-- The tokens a history can hold (R115). -/
def histCap (s : State) : Nat := s.blockTokens * s.maxBlocks

def pageCount (s : State) : Nat := s.regBits Reg.IB_PAGES 31 0
def recBase (s : State) (r : Nat) : Nat := (s.reg Reg.IB_REQ_BASE).toNat + 64 * r
def btabAddr (s : State) (r i : Nat) : Nat := (s.reg Reg.IB_BTAB_BASE).toNat + 8 * (r * s.maxBlocks + i)
def ftabAddr (s : State) (r i : Nat) : Nat := (s.reg Reg.IB_FTAB_BASE).toNat + 4 * (r * s.maxBlocks + i)
def histAddr (s : State) (r i : Nat) : Nat := (s.reg Reg.IB_HIST_BASE).toNat + 4 * (r * s.histCap + i)
def pageAddr (s : State) (p : Nat) : Nat := (s.reg Reg.IB_PAGE_BASE).toNat + 16 * p

/-- The profile of demotions, when it applies (R113): DEMOTE_CONV with a valid profile. -/
def demoteProfile (s : State) : Option Word :=
  let p := s.profile (s.regBits Reg.IB_POOL_CFG 29 26)
  if s.regBit Reg.IB_POOL_CFG 30 && profileValid p then some p else none

/-- The slot size (R113). -/
def slotSize (s : State) : Nat :=
  let n := match s.demoteProfile with
    | some p => let n := profileSize p s.ibPageBytes; if bit p 22 then n * 65 / 64 else n
    | none => s.ibPageBytes
  ceilDiv n 4096 * 4096

/-- Pools: 0 the frames of tier 1, 1 + p the slots of port p. -/
def ibPool (s : State) (pool : Nat) : Nat :=
  if pool = 0 then s.regBits Reg.IB_T1_FRAMES 31 0 else s.regBits (Reg.IB_T2_POOL + 8 * (pool - 1)) 63 32

/-- The device address of a frame or slot (R112). -/
def ibAddr (s : State) (pool f : Nat) : Nat :=
  if pool = 0 then (s.reg Reg.IB_T1_BASE).toNat + f * s.ibPageBytes
  else tier2Base (pool - 1) + s.regBits (Reg.IB_T2_POOL + 8 * (pool - 1)) 30 0 * 65536 + f * s.slotSize

/-- Port p is usable, as IB_STATUS.T2_UP reports (R114, R325): up, which it is in EVACUATING too, and unfenced. -/
def ibPortUp (s : State) (p : Nat) : Bool := s.portUp p && !s.isFenced (Dom.dnCtl p)

/-- Slots may be taken there: usable and enabled. -/
def ibPoolUsable (s : State) (p : Nat) : Bool := s.ibPortUp p && s.regBit (Reg.IB_T2_POOL + 8 * p) 31

/-- The bitmap of a pool (R115 Table 1): a set bit marks a frame or slot in use (log entry 20). -/
def bitmapAddr (s : State) (pool : Nat) : Nat :=
  (List.range pool).foldl (fun a q => a + ceilDiv (s.ibPool q) 512 * 64) (s.pageAddr s.pageCount)

def ibUsed (s : State) (pool f : Nat) : Bool := (Mem.byte s.mem (s.bitmapAddr pool + f / 8)).getLsbD (f % 8)

def setIbUsed (pool f : Nat) (v : Bool) (s : State) : State :=
  let a := s.bitmapAddr pool + f / 8
  let old := Mem.byte s.mem a
  let m := BitVec.ofNat 8 (2 ^ (f % 8))
  s.tableWrite a [if v then old ||| m else old &&& ~~~m]

/-- The set bits of a byte. -/
def popcount (b : Byte) : Nat := countOf (fun i => b.getLsbD i) (List.range 8)

/-- Free frames or slots of a pool. -/
def ibFree (s : State) (pool : Nat) : Nat :=
  let a := s.bitmapAddr pool
  let n := s.ibPool pool
  n - sumOf (fun e => popcount e.2) (s.mem.filter fun e => decide (a ≤ e.1 ∧ e.1 < a + ceilDiv n 8))

/-- The first number from `i` on that satisfies `p`, looking at `n` numbers. -/
def firstFrom (p : Nat → Bool) : Nat → Nat → Option Nat
  | 0, _ => none
  | n + 1, i => if p i then some i else firstFrom p n (i + 1)

/-- The lowest-numbered free frame or slot of a pool. -/
def ibFind (s : State) (pool : Nat) : Option Nat :=
  if s.ibFree pool = 0 then none else firstFrom (fun f => !s.ibUsed pool f) (s.ibPool pool) 0

/-- IB_BUDGET (R125). -/
def freeT1 (s : State) : Nat := s.ibFree 0
def available (s : State) : Nat := s.freeT1 - s.regBits Reg.IB_CTRL 47 32

/-! ### Request records (R115 Table 2) -/

def recQ (s : State) (r k : Nat) : Word := w64 (s.readNat (s.recBase r + 8 * k) 8)
def setRecQ (r k : Nat) (v : Word) (s : State) : State := s.tableWrite (s.recBase r + 8 * k) (leBytes 8 v.toNat)
def setRecBits (r k hi lo v : Nat) (s : State) : State := s.setRecQ r k (setBits (s.recQ r k) hi lo v)

def rState (s : State) (r : Nat) : Nat := bits (s.recQ r 0) 2 0
def rFork (s : State) (r : Nat) : Bool := bit (s.recQ r 0) 6
def rRedo (s : State) (r : Nat) : Bool := bit (s.recQ r 0) 7
def rBlocks (s : State) (r : Nat) : Nat := bits (s.recQ r 0) 31 15
def rTokens (s : State) (r : Nat) : Nat := bits (s.recQ r 0) 63 32
def rSpace (s : State) (r : Nat) : Nat := bits (s.recQ r 1) 31 0
def rLost (s : State) (r : Nat) : Nat := bits (s.recQ r 3) 31 0

/-- The codes of STATE (Table 2). -/
def FREE : Nat := 0
def WAITING : Nat := 1
def RUNNING : Nat := 2
def HELD : Nat := 3
def CLOSING : Nat := 4

def bReq? (s : State) (r : Nat) : Option BReq := Map.find? r s.bt.reqs
def openReqs (s : State) : List Nat := s.bt.reqs.map (·.1)

/-! ### Block tables and page records -/

def btab (s : State) (r i : Nat) : Nat × Nat :=
  let e := w64 (s.readNat (s.btabAddr r i) 8)
  (bits e 31 0, bits e 38 32)

def setBtab (r i page fill : Nat) (s : State) : State := s.tableWrite (s.btabAddr r i) (leBytes 8 (page % 2 ^ 32 + fill % 128 * 2 ^ 32))

/-- The pages of a request's block table. -/
def pagesIn (s : State) (r : Nat) : List Nat := (List.range (s.rBlocks r)).map fun i => (s.btab r i).1

def pageQ (s : State) (p k : Nat) : Word := w64 (s.readNat (s.pageAddr p + 8 * k) 8)
def setPageQ (p k : Nat) (v : Word) (s : State) : State := s.tableWrite (s.pageAddr p + 8 * k) (leBytes 8 v.toNat)
def setPageBits (p hi lo v : Nat) (s : State) : State := s.setPageQ p 0 (setBits (s.pageQ p 0) hi lo v)

def pgState (s : State) (p : Nat) : Nat := bits (s.pageQ p 0) 63 61
def pgPort (s : State) (p : Nat) : Nat := bits (s.pageQ p 0) 60 58
def pgConv (s : State) (p : Nat) : Bool := bit (s.pageQ p 0) 57
def pgProfile (s : State) (p : Nat) : Nat := bits (s.pageQ p 0) 56 53
def pgIndexed (s : State) (p : Nat) : Bool := bit (s.pageQ p 0) 52
def pgPinned (s : State) (p : Nat) : Bool := bit (s.pageQ p 0) 51
def pgRefs (s : State) (p : Nat) : Nat := bits (s.pageQ p 0) 49 32
def pgFrame (s : State) (p : Nat) : Nat := bits (s.pageQ p 0) 31 0
def pgLength (s : State) (p : Nat) : Nat := bits (s.pageQ p 1) 63 40
def pgLastUse (s : State) (p : Nat) : Nat := bits (s.pageQ p 1) 25 0

/-- The codes of a page's STATE (Table 3). -/
def RESIDENT : Nat := 1
def DEMOTING : Nat := 2
def DEMOTED : Nat := 3
def FETCHING : Nat := 4
def LOST : Nat := 5

/-- Timestamp bits [49:24], as LAST_USE holds them. -/
def useStamp (s : State) : Nat := bits (w64 s.now) 49 24
def touchPage (p : Nat) (s : State) : State := s.setPageQ p 1 (setBits (s.pageQ p 1) 25 0 s.useStamp)
/-- A page's age, modulo 2^26 (Table 3). -/
def pageAge (s : State) (p : Nat) : Nat := (s.useStamp + 2 ^ 26 - s.pgLastUse p) % 2 ^ 26

/-- The requests that hold a page, with the block it stands in. -/
def holders (s : State) (p : Nat) : List (Nat × Nat) :=
  s.openReqs.flatMap fun r => (List.range (s.rBlocks r)).filterMap fun i => if (s.btab r i).1 = p then some (r, i) else none

def heldByRunning (s : State) (p : Nat) : Bool := (s.holders p).any fun h => decide (s.rState h.1 = RUNNING)

/-- T2_BLOCKS of a request (Table 2): blocks whose page is not in a frame. -/
def countT2 (r : Nat) (s : State) : State :=
  s.setRecBits r 3 63 32 (countOf (fun p => decide (s.pgState p = DEMOTED ∨ s.pgState p = LOST)) (s.pagesIn r))

def countHolders (p : Nat) (s : State) : State := (s.holders p).foldl (fun s h => s.countT2 h.1) s

/-- A page's STATE changes; the recorder sees each change between the tiers (R417). -/
def setPgState (p st : Nat) (s : State) : State := (s.setPageBits p 63 61 st).countHolders p

/-- Records a page's new state, with the frame or slot that it takes (R417 Table 6). -/
def pageEventAt (p frame : Nat) (s : State) : State := s.rpEvent 0x0D 0 0 (w64 p ||| fld (s.pgState p) 32) (w64 frame) none

def pageEvent (p : Nat) (s : State) : State := s.pageEventAt p (s.pgFrame p)

/-! ### The prefix index (R121 to R123) -/

def indexAddr (s : State) (set way : Nat) : Nat := (s.reg Reg.IB_INDEX_BASE).toNat + 16 * (8 * set + way)

/-- An index entry: hash, validity and page. -/
def indexEntry (s : State) (a : Nat) : Word × Bool × Nat :=
  let q1 := w64 (s.readNat (a + 8) 8)
  (w64 (s.readNat a 8), bit q1 63, bits q1 31 0)

def setIndex (a : Nat) (h : Word) (page : Nat) (s : State) : State :=
  s.tableWrite a (leBytes 8 h.toNat ++ leBytes 8 (2 ^ 63 + page % 2 ^ 32))

def clearIndex (a : Nat) (s : State) : State := s.tableWrite a (List.replicate 16 0)

def indexSet (s : State) (h : Word) : List Nat := (List.range 8).map fun w => s.indexAddr (bits h 18 0) w

/-- The page indexed under a chain hash (R121). -/
def indexFind (s : State) (h : Word) : Option Nat :=
  (s.indexSet h).findSome? fun a => let e := s.indexEntry a; if e.2.1 && decide (e.1 = h) then some e.2.2 else none

/-- The entries of the index that name a page. -/
def indexOf (s : State) (p : Nat) : List Nat :=
  let lo := (s.reg Reg.IB_INDEX_BASE).toNat
  let slots := (s.mem.filter fun c => decide (lo ≤ c.1 ∧ c.1 < lo + 2 ^ 26 ∧ (c.1 - lo) % 16 = 15)).map fun c => c.1 - 15
  slots.filter fun a => let e := s.indexEntry a; e.2.1 && decide (e.2.2 = p)

/-- A token of a request's history. -/
def histToken (s : State) (r i : Nat) : Nat := s.readNat (s.histAddr r i) 4

/-- The chain hashes of blocks 0 to n − 1 of a request (R121). -/
def chainHashes (s : State) (r n : Nat) : List Word :=
  ((List.range n).foldl (fun (acc : List Word × Word) i =>
    let toks := s.readBytes (s.histAddr r (i * s.blockTokens)) (4 * s.blockTokens)
    let m := leBytes 8 acc.2.toNat ++ leBytes 4 (s.rSpace r) ++ toks
    let h := sipBytes (s.reg Reg.IB_HASH_KEY0) (s.reg Reg.IB_HASH_KEY1) m
    (acc.1 ++ [h], h)) ([], 0)).1

/-! ### References and frames (R118) -/

/-- A queued or running move of an Ibex page (R128). -/
def ibMove? (s : State) (p : Nat) : Option Move := s.ch.moves.find? fun m => isIbexMove m && decide (m.page = p)

/-- Frees a page: its frame or slot is released and its record is FREE (R118). The copy of a shared tail into it ends (R120). -/
def freePage (p : Nat) (s : State) : State :=
  let st := s.pgState p
  let s : State := match s.ibMove? p with
    | some m => if m.kind = .cow then s.endMove m.id else s
    | none => s
  let s : State :=
    if st = RESIDENT then s.setIbUsed 0 (s.pgFrame p) false
    else if st = DEMOTED then s.setIbUsed (1 + s.pgPort p) (s.pgFrame p) false
    else s
  (s.setPageQ p 0 0).setPageQ p 1 0

/-- One reference fewer; at 0 the page is freed, unless it is moving (R118). -/
def dropRef (p : Nat) (s : State) : State :=
  let n := s.pgRefs p - 1
  let s := s.setPageBits p 49 32 n
  if n = 0 ∧ s.pgState p ≠ DEMOTING ∧ s.pgState p ≠ FETCHING then s.freePage p else s

def addRef (p : Nat) (s : State) : State := s.setPageBits p 49 32 (s.pgRefs p + 1)

/-- Removes a page from the index, with the index's reference. -/
def unindex (p : Nat) (s : State) : State :=
  if !s.pgIndexed p then s
  else (((s.indexOf p).foldl (fun s a => s.clearIndex a) s).setPageBits p 52 52 0).dropRef p

/-- A fresh page in a frame that nothing names yet (R119): none when no frame or no record is free. -/
def allocPage (s : State) : Option (Nat × State) :=
  match s.ibFind 0, firstFrom (fun p => decide (s.pgState p = 0)) s.pageCount 0 with
  | some f, some p =>
    some (p, ((s.setIbUsed 0 f true).setPageQ p 0 (fld RESIDENT 61 ||| w64 f)).setPageQ p 1 (w64 s.useStamp))
  | _, _ => none

/-- Page records that are FREE, counted no further than `n`. -/
def freeRecords (s : State) : Nat :=
  let lo := s.pageAddr 0
  let n := s.pageCount
  n - countOf (fun c => decide (lo ≤ c.1 ∧ c.1 < lo + 16 * n ∧ (c.1 - lo) % 16 = 7 ∧ 32 ≤ c.2.toNat)) s.mem

/-! ### Moves (R128, R129) -/

/-- Queues a move of an Ibex page, ahead of every Chamois move (R33, R128). -/
def queueIbex (kind : MoveKind) (page srcPool srcFrame dstPool dstFrame : Nat) (s : State) : State :=
  s.addMove fun id => { newMove id 0 kind page none with mode := .raw, srcPool := srcPool, srcFrame := srcFrame, dstPool := dstPool, dstFrame := dstFrame }

/-- The enabled, usable port with the most free slots, the lowest-numbered on a tie (R114), as a pool. -/
def bestSlotPool (s : State) : Option Nat :=
  (List.range Config.downPorts).foldl (fun best p =>
    if !s.ibPoolUsable p ∨ s.ibFree (p + 1) = 0 then best
    else match best with
      | some b => if s.ibFree b < s.ibFree (p + 1) then some (p + 1) else best
      | none => some (p + 1)) none

/-- Starts the demotion of a page into a pool's slot (Table 5). -/
def demoteTo (p pool slot : Nat) (s : State) : State :=
  let f := s.pgFrame p
  let s := (s.setIbUsed pool slot true).setPageBits p 60 58 (pool - 1)
  let s := s.setPgState p DEMOTING
  (s.queueIbex .demote p 0 f pool slot).pageEventAt p slot

/-- Starts the fetch of a DEMOTED page, when a frame is free (Table 5). -/
def fetchPage (p : Nat) (s : State) : State :=
  if s.pgState p ≠ DEMOTED then s
  else match s.ibFind 0 with
    | none => s
    | some f =>
      let slot := s.pgFrame p
      let port := s.pgPort p
      let s := (s.setIbUsed 0 f true).setPageBits p 31 0 f
      let s := s.setPgState p FETCHING
      (s.queueIbex .fetch p (1 + port) slot 0 f).pageEvent p

/-- Marks the holders of a page that is lost (R131). -/
def markHolders (p : Nat) (s : State) : State :=
  let hs := s.holders p
  let s := hs.foldl (fun s h =>
    let s : State := if s.rRedo h.1 then s else (s.setRecBits h.1 0 7 7 1).bump Reg.IB_STAT_REPREFILL
    (s.setRecBits h.1 3 31 0 (min (s.rLost h.1) h.2)).countT2 h.1) s
  if hs = [] then s else s.raise Reg.IB Err.IB_PAGE_LOST { Capture.none with cls := 5, index := p }

/-- A page becomes LOST (Table 5, R130, R131): it leaves the index, and its holders are marked. One that no block names yet is no request's
growth page any more. The frame or slot that it held is released by the caller. -/
def losePage (p : Nat) (s : State) : State :=
  let other (m : NMap Nat) : NMap Nat := m.filter fun e => !decide (e.2 = p)
  let s := (s.setPgState p LOST).modIb fun b => { b with growth := other b.growth, spare := other b.spare }
  let s := (s.setPageQ p 1 (w64 (s.pgLastUse p))).setPageBits p 31 0 0
  let s := s.markHolders p
  let s := s.unindex p
  if s.pgState p = LOST ∧ s.pgRefs p = 0 then s.freePage p else s

/-- A move of an Ibex page starts (R128, R129): a demotion goes through a Gazelle with a valid DEMOTE_PROFILE, a fetch with the profile by
which the page went out. One that names an invalid profile is a plain copy (R107). -/
def startIbex (m : Move) (s : State) : State :=
  let m := { m with running := true, src := s.ibAddr m.srcPool m.srcFrame, dst := s.ibAddr m.dstPool m.dstFrame, total := s.ibPageBytes }
  match m.kind with
  | .demote =>
    (match s.demoteProfile with
     | some p => s.setMove { m with mode := .out p }
     | none => if s.regBit Reg.IB_POOL_CFG 30 then (s.setMove m).raise Reg.GZ Err.GZ_PROFILE_INVALID Capture.none else s.setMove m)
  | .fetch => if s.pgConv m.page then s.setMove { m with mode := .back (s.profile (s.pgProfile m.page)), inLen := 64 * s.pgLength m.page } else s.setMove m
  | .evac => s.setMove { m with total := 64 * s.pgLength m.page }
  | _ => s.setMove m

/-- A demotion ends with the page where it was (Table 5): the slot is freed. -/
def keepResident (m : Move) (s : State) : State :=
  let s := (s.endMove m.id).setIbUsed m.dstPool m.dstFrame false
  let s := (s.setPageBits m.page 60 58 0).setPgState m.page RESIDENT
  if s.pgRefs m.page = 0 then s.freePage m.page else s.pageEvent m.page

/-- A page's move has failed twice (R128). -/
def moveFailed (m : Move) (s : State) : State := s.raise Reg.IB Err.IB_MOVE_FAIL { Capture.none with cls := 5, index := m.page }

/-- A demotion is over (Table 5): the page has left for its slot, unless the move failed, a holder became RUNNING meanwhile, or nothing
holds the page any more. -/
def demoteDone (m : Move) (s : State) : State :=
  let page := m.page
  if 2 ≤ m.fails then (s.keepResident m).moveFailed m
  else if m.aborted || decide (s.pgRefs page = 0) || s.heldByRunning page then s.keepResident m
  else
    let conv := match m.mode with | .out _ => true | _ => false
    let s := (s.endMove m.id).setIbUsed 0 m.srcFrame false
    let q0 := setBits (setBits (setBits (s.pageQ page 0) 31 0 m.dstFrame) 57 57 (b2n conv)) 56 53 (if conv then s.regBits Reg.IB_POOL_CFG 29 26 else 0)
    let s := (s.setPageQ page 0 q0).setPageQ page 1 (setBits (s.pageQ page 1) 63 40 (ceilDiv (if conv then m.outPos else m.total) 64))
    ((s.setPgState page DEMOTED).bump Reg.IB_STAT_DEMOTE).pageEvent page

/-- A fetching page is lost, its frame and its slot released (Table 5, R130). -/
def loseFetch (m : Move) (s : State) : State :=
  let s := ((s.endMove m.id).setIbUsed 0 m.dstFrame false).setIbUsed m.srcPool m.srcFrame false
  if s.pgRefs m.page = 0 then (s.setPgState m.page LOST).freePage m.page else s.losePage m.page

/-- A fetch is over (Table 5, R107, R128, R129): the page is in its frame, or its return has failed and it is lost. -/
def fetchDone (m : Move) (s : State) : State :=
  let page := m.page
  if m.corrupt then (s.loseFetch m).raise Reg.GZ Err.GZ_YXP_PAGE Capture.none
  else if 2 ≤ m.fails then (s.loseFetch m).moveFailed m
  else
    let s := (s.endMove m.id).setIbUsed m.srcPool m.srcFrame false
    let s := (s.setPageQ page 0 (setBits (setBits (s.pageQ page 0) 60 58 0) 57 53 0)).setPageQ page 1 (w64 (s.pgLastUse page))
    let s := (s.setPgState page RESIDENT).bump Reg.IB_STAT_FETCH
    if s.pgRefs page = 0 then s.freePage page else s.pageEvent page

/-- A request becomes RUNNING: the demotions of its pages end with the pages RESIDENT (Table 5). -/
def stopDemotions (r : Nat) (s : State) : State :=
  let ps := s.pagesIn r
  let mine (m : Move) : Bool := decide (m.kind = .demote ∧ m.page ∈ ps)
  let ids := (s.ch.moves.filter fun m => mine m && m.running).map (·.id)
  let s := (s.ch.moves.filter fun m => mine m && !m.running).foldl (fun s m => s.keepResident m) s
  ids.foldl (fun s id => s.wakeUp (.move id)) (s.modCh fun c => { c with moves := updateWhere mine (fun m => { m with aborted := true }) c.moves })

/-! ### Reclaim (R127) -/

/-- The oldest of some pages, the lowest-numbered on a tie. -/
def oldest (s : State) (ps : List Nat) : Option Nat :=
  ps.foldl (fun best p => match best with | some b => if s.pageAge b < s.pageAge p then some p else best | none => some p) none

/-- The page records in use. -/
def livePages (s : State) : List Nat :=
  let lo := s.pageAddr 0
  (s.mem.filter fun c => decide (lo ≤ c.1 ∧ c.1 < lo + 16 * s.pageCount ∧ (c.1 - lo) % 16 = 7 ∧ 32 ≤ c.2.toNat)).map fun c => (c.1 - lo) / 16

def indexOnly (s : State) (p : Nat) : Bool := s.pgIndexed p && decide (s.pgRefs p = 1)

/-- A slot for a demotion: while none is free, slots of DEMOTED pages whose only reference is the index are freed, oldest
first (R127). -/
def slotFor (s : State) : Option (Nat × Nat) × State :=
  let take (s : State) : Option (Nat × Nat) := match s.bestSlotPool with
    | some pool => (s.ibFind pool).map fun f => (pool, f)
    | none => none
  match take s with
  | some x => (some x, s)
  | none =>
    match s.oldest (s.livePages.filter fun p => decide (s.pgState p = DEMOTED) && s.indexOnly p && s.ibPoolUsable (s.pgPort p)) with
    | some p => let s := s.unindex p; (take s, s)
    | none => (none, s)

/-- Pages that a demotion may take from requests in a state (R127, Table 5). -/
def heldPages (s : State) (st : Nat) : List Nat :=
  let own := s.openReqs.filter fun r => decide (s.rState r = st)
  (own.flatMap s.pagesIn).filter fun p => decide (s.pgState p = RESIDENT) && decide (1 ≤ s.pgRefs p) && !s.pgPinned p && !s.heldByRunning p

/-- Reclaims one page: an index-only page first, then one of a HELD request, then of a WAITING one (R127). -/
def reclaimOne (s : State) : Option State :=
  let idx := s.livePages.filter fun p => decide (s.pgState p = RESIDENT) && s.indexOnly p && !s.pgPinned p
  match s.oldest idx with
  | some p =>
    let r := s.slotFor
    some (match r.1 with | some x => r.2.demoteTo p x.1 x.2 | none => r.2.unindex p)
  | none =>
    match (s.oldest (s.heldPages HELD)).orElse fun _ => s.oldest (s.heldPages WAITING) with
    | some p =>
      let r := s.slotFor
      some (match r.1 with
        | some x => r.2.demoteTo p x.1 x.2
        | none => (r.2.setIbUsed 0 (r.2.pgFrame p) false).losePage p)
    | none => none

def reclaimLoop : Nat → Nat → State → State
  | 0, _, s => s
  | n + 1, goal, s =>
    let moving := countOf isIbexMove s.ch.moves
    let leaving := countOf (fun m => decide (m.kind = .demote)) s.ch.moves
    if goal ≤ s.freeT1 + leaving ∨ 64 ≤ moving then s
    else match s.reclaimOne with
      | some s => reclaimLoop n goal s
      | none => s

/-- Reclaim (R127): it starts below LOW_WM and runs until HIGH_WM. In replay it chooses only recorded pages (R419). -/
def reclaim (s : State) : State :=
  let frames := s.regBits Reg.IB_T1_FRAMES 31 0
  let low := frames * s.regBits Reg.IB_CTRL 15 8
  let high := frames * s.regBits Reg.IB_CTRL 23 16
  if !s.ib.active || s.rp.replaying then s
  else
    let on := if high ≤ 256 * s.freeT1 then false else s.ib.reclaiming || decide (256 * s.freeT1 < low)
    let s := s.modIb fun b => { b with reclaiming := on }
    if on then s.reclaimLoop (frames + 1) (ceilDiv high 256) else s

/-- A recorded demotion is taken in replay (R419): the recorded page, to the recorded slot of the port with the most room. -/
def forceDemote (p slot : Nat) (s : State) : Option State :=
  if s.pgState p = RESIDENT ∧ !s.pgPinned p ∧ !s.heldByRunning p then
    match s.bestSlotPool with
    | some pool => if !s.ibUsed pool slot ∧ slot < s.ibPool pool then some (s.demoteTo p pool slot) else none
    | none => none
  else none

/-! ### Admission (R119, R122, R125) -/

/-- The pages that the index supplies for a request whose first missing block is `b0` (R122): with the chain hashes. -/
def prefixPages (s : State) (r b0 hist : Nat) : List (Nat × Word) :=
  if !s.regBit Reg.IB_CTRL 4 ∨ s.rFork r then []
  else
    let n := (hist - 1) / s.blockTokens
    if n ≤ b0 then []
    else
      let hs := (s.chainHashes r n).drop b0
      (hs.foldl (fun (acc : List (Nat × Word) × Bool) h =>
        if acc.2 then acc else match s.indexFind h with
          | some p => (acc.1 ++ [(p, h)], false)
          | none => (acc.1, true)) ([], false)).1

/-- The first block an admission must supply (R119, R131), and the blocks the history fills. -/
def firstMissing (s : State) (r : Nat) : Nat := if s.rRedo r then min (s.rLost r) (s.rBlocks r) else s.rBlocks r

/-- The tail that the next step writes is shared (R120): the block of position TOKENS, among the first `b0`. -/
def sharedTail (s : State) (r b0 tokens : Nat) : Bool :=
  let i := tokens / s.blockTokens
  decide (i < b0) && decide (1 < s.pgRefs (s.btab r i).1)

/-- The history an admission counts: a re-prefill counts the sampled token that is still to be written (log entry 21). -/
def admitHist (s : State) (r : Nat) (b : BReq) : Nat := b.hist + (if s.rRedo r ∧ b.last.isSome then 1 else 0)

/-- The new pages that an admission needs: blocks that neither the index nor a parent supplies, a growth page, the copy of a shared tail (R125).
A page that the request still holds aside is not needed again (log entry 35). -/
def admitRecords (s : State) (r : Nat) (b : BReq) : Nat :=
  let b0 := s.firstMissing r
  let hist := s.admitHist r b
  let tokens := if s.rRedo r then b0 * s.blockTokens else s.rTokens r
  ceilDiv hist s.blockTokens - b0 - (s.prefixPages r b0 hist).length + b2n (Map.find? r s.ib.growth).isNone +
    b2n (s.sharedTail r b0 tokens && (Map.find? r s.ib.spare).isNone)

/-- The admission cost of a request (R125): its new pages, and a frame for each page that is to be fetched. -/
def admitCost (s : State) (r : Nat) (b : BReq) : Nat :=
  let b0 := s.firstMissing r
  let out (p : Nat) : Bool := decide (s.pgState p = DEMOTED)
  s.admitRecords r b + countOf out ((List.range b0).map fun i => (s.btab r i).1) +
    countOf (fun x => out x.1) (s.prefixPages r b0 (s.admitHist r b))

/-- Adds fresh pages as blocks `i` to `i + n − 1` of a request, counted in BLOCKS and with FILL 0 before anything is written (R119; log entry
100). -/
def addBlocks (r : Nat) : Nat → Nat → State → State
  | 0, _, s => s
  | n + 1, i, s =>
    match s.allocPage with
    | some (p, s) => addBlocks r n (i + 1) (((s.setBtab r i p 0).addRef p).setRecBits r 0 31 15 (i + 1))
    | none => s

/-- Drops the references of blocks `b0` onward (R131). -/
def dropBlocks (r b0 : Nat) (s : State) : State :=
  let n := s.rBlocks r
  let s := ((List.range n).drop b0).foldl (fun s i => s.dropRef (s.btab r i).1) s
  s.setRecBits r 0 31 15 (min b0 n)

/-- A growth page for a request (R119, R126). -/
def growPage (r : Nat) (s : State) : Option State :=
  match s.allocPage with
  | some (p, s) => some (s.modIb fun b => { b with growth := Map.insert r p b.growth })
  | none => none

/-- The pages a request holds outside its block table are freed. -/
def dropGrowth (r : Nat) (s : State) : State :=
  let drop (m : NMap Nat) (s : State) : State := match Map.find? r m with | some p => s.freePage p | none => s
  let s := drop s.ib.spare (drop s.ib.growth s)
  s.modIb fun b => { b with growth := Map.erase r b.growth, spare := Map.erase r b.spare }

/-- Writes the frame table of a RUNNING request (R117): a core's copies of its lines go. -/
def writeFrames (r : Nat) (s : State) : State := s.tableWrite (s.ftabAddr r 0) ((s.pagesIn r).flatMap fun p => leBytes 4 (s.pgFrame p))

/-- Ibex's part of an admission (R119, R122, R125, R131, R162): blocks, growth page, fetches; the request is RUNNING. -/
def ibAdmit (r hist : Nat) (s : State) : State :=
  let b0 := s.firstMissing r
  let s : State :=
    if s.rRedo r then
      let s := s.dropBlocks r b0
      let s := s.setRecBits r 0 63 32 (b0 * s.blockTokens)
      let s := s.setRecQ r 2 (((s.chainHashes r b0).getLast?).getD 0)
      (s.setRecBits r 0 7 7 0).setRecBits r 3 31 0 0xFFFFFFFF
    else s
  let m := s.prefixPages r b0 hist
  let s := m.zipIdx.foldl (fun s e =>
    let s := ((s.setBtab r (b0 + e.2) e.1.1 s.blockTokens).addRef e.1.1).touchPage e.1.1
    let s := (s.setRecBits r 0 31 15 (b0 + e.2 + 1)).setRecBits r 0 63 32 ((b0 + e.2 + 1) * s.blockTokens)
    (s.setRecQ r 2 e.1.2).bump Reg.IB_STAT_PREFIX_HIT) s
  let b1 := b0 + m.length
  let shared := s.sharedTail r b1 (s.rTokens r)
  let s := s.addBlocks r (ceilDiv hist s.blockTokens - b1) b1
  let s := if (Map.find? r s.ib.growth).isSome then s else (s.growPage r).getD s
  let s : State := if shared && (Map.find? r s.ib.spare).isNone then (match s.allocPage with
      | some (p, s) => s.modIb fun b => { b with spare := Map.insert r p b.spare }
      | none => s) else s
  let s := (s.pagesIn r).foldl (fun s p => s.fetchPage p) s
  let n := s.ib.nextAdmit
  let s := s.modIb fun b => { b with admitted := Map.insert r n b.admitted, nextAdmit := n + 1 }
  ((s.setRecBits r 0 2 0 RUNNING).countT2 r).stopDemotions r |>.writeFrames r

/-- Every page of a request is RESIDENT (R27). -/
def allResident (s : State) (r : Nat) : Bool := (s.pagesIn r).all fun p => decide (s.pgState p = RESIDENT)

/-- The copy of a shared tail that is under way for a request (R120). -/
def tailCopy? (s : State) (r : Nat) : Option Move :=
  (Map.find? r s.ib.spare).bind fun p => s.ch.moves.find? fun m => decide (m.kind = .cow ∧ m.page = p)

/-- A request leaves RUNNING for WAITING or HELD (R31, R127): it keeps its pages, a preempted one without its growth page (log entry
35). -/
def leaveRunning (r st : Nat) (s : State) : State :=
  let s := match s.tailCopy? r with | some m => s.endMove m.id | none => s
  (if st = WAITING then s.dropGrowth r else s).setRecBits r 0 2 0 st

/-- The copy of a shared tail is over (R120): it becomes the tail, and the old page loses a reference. One that failed, or is not needed any
more, changes nothing, and the request's next step needs another (log entry 86). -/
def cowDone (m : Move) (s : State) : State :=
  let s := s.endMove m.id
  match (s.ib.spare.find? fun e => decide (e.2 = m.page)).map (·.1) with
  | none => s
  | some r =>
    let i := s.rTokens r / s.blockTokens
    let old := s.btab r i
    if 2 ≤ m.fails then s.moveFailed m
    else if !s.sharedTail r (s.rBlocks r) (s.rTokens r) ∨ s.pgState old.1 ≠ RESIDENT then s
    else ((((s.modIb fun b => { b with spare := Map.erase r b.spare }).setBtab r i m.page old.2).addRef m.page).dropRef old.1).bump Reg.IB_STAT_COW

/-- The RUNNING request admitted most recently is preempted (R127). -/
def preempt (s : State) : Option State :=
  let rs := s.openReqs.filter fun r => decide (s.rState r = RUNNING)
  let at_ (r : Nat) : Nat := Map.getD 0 r s.ib.admitted
  match (sortBy (fun r => s.ib.nextAdmit - at_ r) rs).head? with
  | some r => some ((s.leaveRunning r WAITING).bump Reg.IB_STAT_PREEMPT)
  | none => none

/-! ### A step's writes (R120, R123) -/

/-- The block that position `pos` of a request lies in is made ready to be written (R120): a new tail from the growth page, or the
copy of a shared one begins, at whose end the block is ready. None when neither can be. -/
def readyBlock (r pos : Nat) (s : State) : Option State :=
  let i := pos / s.blockTokens
  if s.rBlocks r ≤ i then
    match (match Map.find? r s.ib.growth with | some g => some (g, s) | none => s.allocPage) with
    | none => none
    | some (g, s) =>
      let s := (((s.setBtab r i g 0).addRef g).setRecBits r 0 31 15 (i + 1)).modIb fun b => { b with growth := Map.erase r b.growth }
      s.growPage r
  else
    let old := (s.btab r i).1
    if (s.tailCopy? r).isSome then some s
    else if s.pgRefs old ≤ 1 then
      some (match Map.find? r s.ib.spare with
        | some p => (s.freePage p).modIb fun b => { b with spare := Map.erase r b.spare }
        | none => s)
    else
      let got : Option (Nat × State) := match Map.find? r s.ib.spare with
        | some p => some (p, s)
        | none => s.allocPage.map fun x => (x.1, x.2.modIb fun b => { b with spare := Map.insert r x.1 b.spare })
      match got with
      | none => none
      | some (p, s) =>
        if !s.moverUp then none
        else
          let sf := s.pgFrame old
          let df := s.pgFrame p
          let id := s.ch.nextMove
          let s := s.addMove fun id => { newMove id 0 .cow p none with
            mode := .raw, srcFrame := sf, dstFrame := df, src := s.ibAddr 0 sf, dst := s.ibAddr 0 df, total := s.ibPageBytes, upTo := s.ibPageBytes,
            running := true, ending := true }
          some (s.wakeUp (.move id))

/-- Inserts a block's page under its hash (R123). -/
def indexInsert (h : Word) (p : Nat) (s : State) : State :=
  let put (a : Nat) (s : State) : State := ((s.setIndex a h p).setPageBits p 52 52 1).addRef p
  if (s.indexFind h).isSome ∨ s.pgIndexed p then s
  else match (s.indexSet h).find? fun a => !(s.indexEntry a).2.1 with
    | some a => put a s
    | none =>
      let only := (s.indexSet h).filter fun a => decide (s.pgRefs (s.indexEntry a).2.2 = 1)
      match s.oldest (only.map fun a => (s.indexEntry a).2.2) with
      | some v =>
        (match only.find? fun a => decide ((s.indexEntry a).2.2 = v) with
         | some a => put a (s.unindex v)
         | none => s)
      | none => s.bump Reg.IB_STAT_INDEX_SKIP

/-- A step has written positions [start, start + n) of a request (R120, R123): TOKENS and FILL advance, and blocks that became
full are hashed and indexed. -/
def stepWrote (r start n : Nat) (s : State) : State :=
  let bt := s.blockTokens
  let fin := start + n
  let s := s.setRecBits r 0 63 32 fin
  let touched := (List.range (s.rBlocks r)).filter fun i => decide (start / bt ≤ i ∧ i * bt < fin)
  let s := touched.foldl (fun s i => s.setBtab r i (s.btab r i).1 (min bt (fin - i * bt))) s
  if !s.regBit Reg.IB_CTRL 4 then s
  else
    let hs := s.chainHashes r (fin / bt)
    (touched.filter fun i => decide ((i + 1) * bt ≤ fin)).foldl (fun s i =>
      match hs[i]? with
      | some h => (s.setRecQ r 2 h).indexInsert h (s.btab r i).1
      | none => s) s

/-- A fork receives references to its parent's pages for the first `n` positions (R124). -/
def ibFork (r parent n : Nat) (s : State) : State :=
  let bt := s.blockTokens
  let k := ceilDiv n bt
  let s := (List.range k).foldl (fun s i =>
    let p := (s.btab parent i).1
    (s.setBtab r i p (if i + 1 = k then n - i * bt else bt)).addRef p) s
  let s := (s.setRecBits r 0 31 15 k).setRecBits r 0 63 32 n
  -- of the parent's pages that are lost the fork is a holder as well (R131)
  let s : State := match (List.range k).find? fun i => decide (s.pgState (s.btab r i).1 = LOST) with
    | some i => ((s.setRecBits r 0 7 7 1).setRecBits r 3 31 0 i).bump Reg.IB_STAT_REPREFILL
    | none => s
  (s.setRecQ r 2 (((s.chainHashes r (n / bt)).getLast?).getD 0)).countT2 r

/-- A request's record as it opens (R140, Table 2). -/
def ibOpen (r space : Nat) (fork : Bool) (s : State) : State :=
  let s := (List.range 8).foldl (fun s k => s.setRecQ r k 0) s
  ((s.setRecQ r 0 (fld (b2n fork) 6 ||| w64 WAITING)).setRecQ r 1 (w64 space)).setRecQ r 3 0xFFFFFFFF

/-- A request closes (R133): its references are dropped and its record is FREE. -/
def ibClose (r : Nat) (s : State) : State :=
  let s := (s.dropGrowth r).dropBlocks r 0
  let s := s.modIb fun b => { b with admitted := Map.erase r b.admitted }
  (List.range 8).foldl (fun s k => s.setRecQ r k 0) s

/-! ### Loss of a port (R130) and table errors (R132) -/

/-- Port `p` becomes unusable (R130). -/
def ibLosePort (p : Nat) (s : State) : State :=
  let lose (s : State) : State :=
    let mine := s.ch.moves.filter fun m => isIbexMove m && decide (m.srcPool = p + 1 ∨ m.dstPool = p + 1)
    let s := mine.foldl (fun s m =>
      if m.kind = .demote then s.keepResident m
      else if m.kind = .evac then (s.endMove m.id).setIbUsed m.dstPool m.dstFrame false
      else s.loseFetch m) s
    (s.livePages.filter fun g => decide (s.pgState g = DEMOTED ∧ s.pgPort g = p)).foldl (fun s g => (s.setIbUsed (p + 1) (s.pgFrame g) false).losePage g) s
  let s := if s.ib.active then lose s else s
  (s.setRegBits (Reg.IB_T2_POOL + 8 * p) 31 31 0).raise Reg.IB Err.IB_T2_PORT_LOST { Capture.none with cls := 5, index := p }

/-- An uncorrectable error in a page record or an index entry makes the page LOST (R132). -/
def pageUncorr (p : Nat) (s : State) : State :=
  let s : State := match s.ibMove? p with
    | some m => if m.kind = .demote then s.keepResident m
        else if m.kind = .evac ∨ m.kind = .cow then (s.endMove m.id).setIbUsed m.dstPool m.dstFrame false
        else ((s.endMove m.id).setIbUsed 0 m.dstFrame false).setIbUsed m.srcPool m.srcFrame false
    | none => s
  let st := s.pgState p
  if st = 0 ∨ st = LOST then s
  else
    let s : State := if st = RESIDENT then s.setIbUsed 0 (s.pgFrame p) false
      else if st = DEMOTED then s.setIbUsed (1 + s.pgPort p) (s.pgFrame p) false else s
    s.losePage p

/-! ### Service (R134) -/

/-- Ibex's structures in tier 1 (R115 Table 1): base and size. -/
def ibTables (s : State) : List (Nat × Nat) :=
  let n := s.reqCount * s.maxBlocks
  [(s.recBase 0, 64 * s.reqCount), (s.btabAddr 0 0, 8 * n), (s.ftabAddr 0 0, 4 * n), (s.histAddr 0 0, 4 * s.reqCount * s.histCap),
   (s.pageAddr 0, s.bitmapAddr (1 + Config.downPorts) - s.pageAddr 0), (s.indexAddr 0 0, 2 ^ 26)]

/-- A range of memory becomes 0, and no line of it is poisoned. -/
def clearRange (s : State) (r : Nat × Nat) : State :=
  { s with mem := Mem.clear r.1 r.2 s.mem, poison := s.poison.filter fun l => !decide (r.1 ≤ 64 * l ∧ 64 * l < r.1 + r.2) }

/-- Ibex goes into service once no cache holds a line of its tables (R115). After a fundamental reset it finds them at their reset values, which
are 0 (R134). -/
def ibStart (s : State) : State :=
  if !s.ib.starting || !(s.heldLines s.ibTables).isEmpty then s
  else
    let s := if s.ib.fresh then s.ibTables.foldl clearRange s else s
    s.modIb fun i => { i with active := true, starting := false, fresh := false }

/-- IB_CTRL.ENABLE is accepted with this configuration (R134): every field lies in the range its table gives. -/
def ibConfigOk (s : State) : Bool :=
  let inRange (v lo hi : Nat) : Bool := decide (lo ≤ v ∧ v ≤ hi)
  inRange (s.regBits Reg.IB_POOL_CFG 25 21) 10 16 && inRange (s.regBits Reg.IB_POOL_CFG 20 16) 6 16 &&
  inRange (s.regBits Reg.IB_POOL_CFG 9 8) 0 2 && inRange (s.regBits Reg.IB_POOL_CFG 4 0) 16 26 &&
  inRange (s.regBits Reg.IB_PAGES 31 0) 0 (2 ^ 28) && decide (s.regBits Reg.IB_CTRL 15 8 < s.regBits Reg.IB_CTRL 23 16)

end State

end Sys2Proof.Machine
end

