-- ==== Sys2Proof/Machine/Springbok.lean ====
section
/-! DEFINITION. The sampling pass of a Springbok (R144 to R151): the count table, the adjustment in FP32, the candidates, the
draw, log-probabilities, and the token record (R153). -/

namespace Sys2Proof.Machine

namespace Sb

/-! ### Sampling parameters (spec/05 Table 3) -/

/-- A sampling parameter block. -/
structure Params where
  seed     : Nat
  bias     : Nat
  counts   : Nat
  temp     : Nat
  topP     : Nat
  minP     : Nat
  rep      : Nat
  presence : Nat
  freq     : Nat
  topK     : Nat
  nbias    : Nat
  logprobs : Nat
  nstop    : Nat
  flags    : Nat
  rest     : Nat
  stops    : List Nat
deriving DecidableEq, Repr

/-- The block from its 128 bytes. -/
def params (bs : List Byte) : Params :=
  let f (o n : Nat) : Nat := leNat ((bs.drop o).take n)
  { seed := f 0 8, bias := f 8 8, counts := f 16 8, temp := f 24 4, topP := f 28 4, minP := f 32 4, rep := f 36 4,
    presence := f 40 4, freq := f 44 4, topK := f 48 2, nbias := f 50 2, logprobs := f 52 1, nstop := f 53 1,
    flags := f 54 1, rest := f 55 9, stops := (List.range 16).map fun i => f (64 + 4 * i) 4 }

/-- TOP_K as it acts. -/
def Params.k (p : Params) : Nat := if p.topK = 0 then 1024 else p.topK

/-- An FP32 code. -/
def f32 (c : Nat) : Num := FFmt.fp32.decode c

def one32 : Num := .fin false 1 1

/-- A field lies outside Table 3; `inOpen` also demands that COUNTS is 0. -/
def badParams (inOpen : Bool) (p : Params) : Bool :=
  let bad01 (x : Num) (lowOpen highOpen : Bool) : Bool :=
    !x.isFin || x.lt .zero || (lowOpen && x.isZero) || one32.lt x || (highOpen && !x.lt one32)
  !(f32 p.temp).isFin || (f32 p.temp).lt .zero || bad01 (f32 p.topP) true false || bad01 (f32 p.minP) false true ||
  !(f32 p.rep).isFin || !(Num.zero.lt (f32 p.rep)) || !(f32 p.presence).isFin || !(f32 p.freq).isFin ||
  decide (1024 < p.topK) || decide (1024 < p.nbias) || decide (20 < p.logprobs) || decide (p.k < p.logprobs) ||
  decide (16 < p.nstop) || decide (1 < p.flags) || decide (p.rest ≠ 0) || (p.stops.drop p.nstop).any (· ≠ 0) ||
  decide (p.bias % 8 ≠ 0) || (inOpen && decide (p.counts ≠ 0))

/-- Temperature 0 selects greedy. -/
def Params.greedy (p : Params) : Bool := (f32 p.temp).isZero

/-! ### Count tables (R144) -/

/-- A token's home entry. -/
def home (token : Nat) : Nat := (token * 0x9E3779B1 % 2 ^ 32) >>> 20

/-- Probes a table upward from a token's home: the entry that holds it, or the first that is not valid; none in a full table
without it. -/
def probe (tbl : Nat → Word) (token : Nat) : Nat → Nat → Option Nat
  | 0, _ => none
  | n + 1, i =>
    let e := tbl (i % 4096)
    if !bit e 63 || decide (bits e 50 32 = token) then some (i % 4096) else probe tbl token n (i + 1)

/-- A token's count, 0 when the table does not hold it. -/
def count (tbl : Nat → Word) (token : Nat) : Nat :=
  match probe tbl token 4096 (home token) with
  | some i => if bit (tbl i) 63 then bits (tbl i) 31 0 else 0
  | none => 0

/-- The entry with the token counted once more. -/
def counted (token : Nat) (e : Word) : Word :=
  if bit e 63 then setBits e 31 0 (bits e 31 0 + 1) else fld 1 63 ||| fld token 32 ||| w64 1

/-! ### The first pass (R145, R146) -/

/-- The arithmetic of R145: every operation rounds to nearest even in FP32. -/
def add32 (x y : Num) : Num := FFmt.fp32.rne (x.add y)
def sub32 (x y : Num) : Num := add32 x y.negate
def mul32 (x y : Num) : Num := FFmt.fp32.rne (x.mul y)

def div32 (x y : Num) : Num :=
  match x, y with
  | .fin a n d, .fin b n' d' => if n' = 0 then (if n = 0 then .nan false else .inf (a != b)) else FFmt.fp32.rne (.fin (a != b) (n * d') (d * n'))
  | .inf a, .fin b _ _ => .inf (a != b)
  | .fin a _ _, .inf b => .fin (a != b) 0 1
  | x, _ => if x.isNan then x else .nan false

/-- A logit was NaN or +infinity. -/
def nonFinite (l : Num) : Bool := match l with | .nan _ => true | .inf g => !g | _ => false

/-- The sum of the bias entries of a token (R145). -/
def biasSum (bias : List (Nat × Nat)) (id : Nat) : Num :=
  (bias.filter fun e => decide (e.1 = id)).foldl (fun a e => add32 a (f32 e.2)) .zero

/-- The adjusted logit of a token (R145); a NaN, of which R145 and R146 say nothing, is replaced by the free value `open_`. -/
def adjust (p : Params) (bias : List (Nat × Nat)) (c : Nat) (id : Nat) (l : Num) (open_ : Nat) : Num :=
  let l : Num := match l with | .nan _ => .inf true | .inf false => f32 0x7F7FFFFF | x => x
  let l := add32 l (biasSum bias id)
  let l : Num :=
    if 0 < c then
      let l := if Num.zero.lt l then div32 l (f32 p.rep) else mul32 l (f32 p.rep)
      sub32 l (add32 (f32 p.presence) (mul32 (f32 p.freq) (FFmt.fp32.rne (.fin false c 1))))
    else l
  let l := if p.greedy then l else div32 l (f32 p.temp)
  if l.isNan then (let o := f32 (open_ % 2 ^ 32); if o.isNan then .inf true else o) else l

/-- A candidate: its id and adjusted logit. -/
abbrev Cand := Nat × Num

/-- Keeps the `k` largest, ties to the lower id; ids come in rising order (R146). -/
def rankIn (k : Nat) (c : Cand) (l : List Cand) : List Cand :=
  (l.takeWhile (fun x => !x.2.lt c.2) ++ c :: l.dropWhile (fun x => !x.2.lt c.2)).take k

/-! ### Exponentials and logarithms -/

/-- Fixed point with 256 fraction bits: the smallest FP32 value keeps more than 100 of them. -/
def oneFx : Nat := 2 ^ 256

/-- 2 × atanh(n / d) in fixed point, for n / d at most 1/3. -/
def atanh2 (n d : Nat) : Nat :=
  let x := n * oneFx / d
  ((List.range 84).foldl (fun (acc : Nat × Nat) i => (acc.1 + acc.2 / (2 * i + 1), acc.2 * x / oneFx * x / oneFx)) (0, x)).1 * 2

/-- ln 2. -/
def ln2 : Nat := atanh2 1 3

/-- ln of s / 2^256 for s at least 2^256. -/
def lnOf (s : Nat) : Nat :=
  let k := Nat.log2 s - 256
  let f := s / 2 ^ k
  k * ln2 + atanh2 (f - oneFx) (f + oneFx)

/-- e^r in fixed point, for r below ln 2. -/
def expSmall (r : Nat) : Nat :=
  ((List.range 62).foldl (fun (acc : Nat × Nat) i => (acc.1 + acc.2, acc.2 * r / oneFx / (i + 1))) (0, oneFx)).1

/-- e^(−x) for x in fixed point, as (f, k) with value f × 2^(−256 − k). The exponent is held at 8,191. -/
def expNeg (x : Nat) : Nat × Nat :=
  (oneFx * oneFx / expSmall (x % ln2), min 8191 (x / ln2))

/-- m − a in fixed point, for finite values with a at most m. -/
def below (m a : Num) : Nat :=
  match (m.add a.negate) with
  | .fin _ n d => n * oneFx / d
  | _ => 0

/-! ### The second pass (R146 to R150) -/

/-- What a row gives: the token and its log-probability, and the alternatives, as FP32 codes. -/
structure Pick where
  token : Nat
  lp    : Nat
  alts  : List (Nat × Nat)
deriving DecidableEq, Repr

/-- Everything a row is sampled from. -/
structure Row where
  logits : List Num
  bias   : List (Nat × Nat)
  counts : Nat → Word
  p      : Params
  pos    : Nat
  /-- The logits, parameters, biases and counts as numbers, to which the open parts of the arithmetic are tied together with SEED and POSITION
  (R151); where they lie does not enter. -/
  key    : List Nat

/-- What a row is sampled from, as numbers: the parameter block but for SEED and the two addresses, and of a count table its tokens with their
counts. -/
def rowKey (block : List Byte) (codes : List Nat) (bias : List (Nat × Nat)) (table : List Word) : List Nat :=
  let used := sortBy (·.1) ((table.filter fun e => bit e 63).map fun e => (bits e 50 32, bits e 31 0))
  leNat (block.drop 24) :: bias.length :: used.length :: (bias ++ used).flatMap (fun e => [e.1, e.2]) ++ codes

def Row.free (r : Row) (i : Nat) : Nat := (Config.sampleFree r.key i).toNat

/-- The adjusted logits of a row in the order of ids. -/
def Row.adjusted (r : Row) : List Cand :=
  let penal := decide (r.p.rep ≠ 0x3F800000 ∨ r.p.presence % 2 ^ 31 ≠ 0 ∨ r.p.freq % 2 ^ 31 ≠ 0)
  let cnt (id : Nat) : Nat := if penal then count r.counts id else 0
  (r.logits.zipIdx).map fun e => (e.2, adjust r.p r.bias (cnt e.2) e.2 e.1 (r.free (2 ^ 32 + e.2)))

/-- The candidate set, in rank order (R146). -/
def cands (k : Nat) (l : List Cand) : List Cand :=
  (l.filter fun c => c.2 ≠ .inf true).foldl (fun acc c => rankIn k c acc) []

/-- The FP32 code of a log-probability −(x + lnS): a free one of those within the bound of R150 of the exact value, or the nearest where none is.
The sign of a zero is free too. -/
def lpCode (x lnS free : Nat) : Nat :=
  let l := x + lnS
  let small := min l oneFx
  let bound := small / 2 ^ 16 - small / 2 ^ 80
  let floor (n : Nat) : Nat := FFmt.fp32.roundCode .zero n oneFx
  let lo := floor (l - bound)
  let lo := if (FFmt.fp32.decode lo).lt (.fin false (l - bound) oneFx) then lo + 1 else lo
  let hi := floor (l + bound)
  let c := if lo ≤ hi then lo + free % (hi - lo + 1) else FFmt.fp32.roundCode .even l oneFx
  FFmt.fp32.sign (c ≠ 0 || free.testBit 63) + min c FFmt.fp32.infCode

/-- Samples a row: none when it has no candidate (R146). `seed` is the draw's key and position (R147, R419). -/
def sample (r : Row) (seed pos : Nat) : Option Pick :=
  let r := { r with key := seed :: pos :: r.key }
  let adj := r.adjusted
  let cs := cands r.p.k adj
  match cs with
  | [] => none
  | top :: _ =>
    let m := top.2
    let fin := m.isFin
    let x (c : Cand) : Nat := if fin then (if c.2.isFin then below m c.2 else 2 ^ 300) else 0
    let s := sumOf (fun c => if c.2 = .inf true then 0 else let e := expNeg (x c); e.1 / 2 ^ e.2) adj
    let lnS := lnOf (max oneFx s)
    -- numerators of the probabilities over 2^(256 + 8191 + 116), each moved by less than 2^-16 of it
    let num (i : Nat) (c : Cand) : Nat :=
      if !fin then r.free i * 2 ^ 8191
      else
        let e := expNeg (x c)
        e.1 * (2 ^ 116 + r.free i * (2 ^ 101 - 2 ^ 50) / 2 ^ 64 - 2 ^ 100 + 2 ^ 49) * 2 ^ (8191 - e.2)
    let ps := cs.zipIdx.map fun e => (e.1.1, num e.2 e.1)
    let whole := 2 ^ (8191 + 116) * s
    let p0 := (ps.head?.map (·.2)).getD 0
    let ge (n d : Nat) (v : Num) : Bool := match v with | .fin _ a b => decide (a * d ≤ n * b) | _ => false
    let kept := ps.filter fun e => ge e.2 p0 (f32 r.p.minP)
    let prefixOf : List (Nat × Nat) :=
      if f32 r.p.topP = one32 then kept
      else (kept.foldl (fun (acc : List (Nat × Nat) × Nat) e => if ge acc.2 whole (f32 r.p.topP) then acc else (acc.1 ++ [e], acc.2 + e.2)) ([], 0)).1
    let sum := sumOf (·.2) prefixOf
    let w0 := (philox seed (pos % 2 ^ 32 + 0x53420000 * 2 ^ 64)).1
    let drawn := (prefixOf.foldl (fun (acc : Option Nat × Nat) e =>
      let run := acc.2 + e.2
      (if acc.1.isNone ∧ w0 * sum < run * 2 ^ 32 then some e.1 else acc.1, run)) (none, 0)).1
    let token := if r.p.greedy then top.1 else drawn.getD top.1
    let lp (i : Nat) (c : Cand) : Nat := if fin ∧ c.2.isFin then lpCode (x c) lnS (r.free (2 ^ 16 + i)) else r.free (2 ^ 16 + i) % 2 ^ 32
    let lps := cs.zipIdx.map fun e => (e.1.1, lp e.2 e.1)
    some { token := token, lp := ((lps.find? fun e => decide (e.1 = token)).map (·.2)).getD 0, alts := lps.take r.p.logprobs }

/-! ### The token record (R153 Table 4) -/

/-- The bytes of a token record. -/
def record (k : Pick) (phase : Bool) (ending req pos : Nat) : List Byte :=
  let n := k.alts.length
  let body := leBytes 8 (k.lp % 2 ^ 32 * 2 ^ 32 + k.token % 2 ^ 32) ++
    leBytes 8 (b2n phase * 2 ^ 63 + ending % 8 * 2 ^ 56 + n % 256 * 2 ^ 48 + req % 65536 * 2 ^ 32 + pos % 2 ^ 32) ++
    k.alts.flatMap fun a => leBytes 8 (a.2 % 2 ^ 32 * 2 ^ 32 + a.1 % 2 ^ 32)
  body ++ List.replicate (if n % 2 = 1 then 8 else 0) 0

/-- The bytes a record takes with `n` alternatives. -/
def recordBytes (n : Nat) : Nat := (16 + 8 * n + 15) / 16 * 16

end Sb

end Sys2Proof.Machine
end

