-- ==== Sys2Proof/Machine/Batcher.lean ====
section
/-! DEFINITION. The batcher (spec/05): serving configuration (R135 to R137), opening and cancelling (R139 to R143), steps (R159 to
R163), sampling and the token ring (R152 to R157), deadlines (R164), parked requests (R316, R317). -/

namespace Sys2Proof.Machine

/-! ### Status codes (R166 Table 8) -/

namespace Sv
def STATE : Nat := 0x50
def DENIED : Nat := 0x51
def REQ_BUSY : Nat := 0x52
def NOT_OPEN : Nat := 0x53
def TOO_LONG : Nat := 0x54
def NO_CANDIDATE : Nat := 0x55
def FORK_PARENT : Nat := 0x56
end Sv

namespace State

/-! ### Serving configuration -/

def srvVocab (s : State) : Nat := s.regBits Reg.BT_SERVE 18 0
def srvFmt (s : State) : Nat := s.regBits Reg.BT_SERVE 25 24
def srvBatch (s : State) : Nat := s.regBits Reg.BT_SERVE 44 32
def srvQueue (s : State) : Nat := s.regBits Reg.BT_SERVE 63 48
def srvStride (s : State) : Nat := s.regBits (Reg.BT_SERVE + 8) 31 0
def srvTokens (s : State) : Nat := s.regBits (Reg.BT_SERVE + 8) 48 32
def srvChunk (s : State) : Nat := s.regBits (Reg.BT_SERVE + 8) 63 49

/-- Bytes of a logit in a format (R136 Table 1). -/
def logitBytes (fmt : Nat) : Nat := if fmt = 0 then 4 else 2

/-- A range of a context translates into tier 1, at this device address. -/
def inTier1 (s : State) (ctx : Nat) (a : Word) (len : Nat) : Option Nat :=
  match s.segCheck ctx a len none with
  | some (.device da _) => if regionOf da = .tier1 ∧ regionOf (da + len - 1) = .tier1 then some da else none
  | _ => none

/-- A SERVE_CONFIG outside Table 1 or the conditions of R137, but for LOGITS_BASE's translation. A STEP_QUEUE in any state but DISABLED is
enabled, a DRAINING one too (log entry 105). -/
def serveBad (s : State) (w : Work) : Bool :=
  let d := w.desc
  let vocab := descNat d 44 4
  let fmt := descNat d 48 1
  let batch := descNat d 50 2
  let v := s.queue (descNat d 52 2)
  decide (vocab < 2 ∨ 262144 < vocab) || decide (2 < fmt) || decide (1 < descNat d 49 1) || decide (batch = 0 ∨ 4096 < batch) ||
  decide (descNat d 54 2 = 0 ∨ 16384 < descNat d 54 2) || decide (descNat d 56 4 < batch ∨ 65536 < descNat d 56 4) ||
  decide (descNat d 60 196 ≠ 0) || decide (descNat d 40 4 % 64 ≠ 0 ∨ descNat d 40 4 < vocab * logitBytes fmt) ||
  decide (v.st = .disabled ∨ v.ctx ≠ w.ctx) || !v.serve || (s.inTier1 w.ctx v.sqBase (64 * v.slots)).isNone ||
  (s.inTier1 w.ctx v.cqBase (16 * v.entries)).isNone

/-- The batcher's structures in tier 1 (R138): base and size. -/
def btTables (s : State) : List (Nat × Nat) :=
  [((s.reg Reg.BT_REQ_BASE).toNat, 512 * s.reqCount), ((s.reg Reg.BT_CNT_BASE).toNat, 32768 * s.reqCount), ((s.reg Reg.BT_LIST_BASE).toNat, 262144)]

/-- The batcher finds its structures at their reset values, which are 0, when it first serves after a fundamental reset (R167). -/
def btStart (s : State) : State :=
  if s.bt.fresh then (s.btTables.foldl clearRange s).modBt fun t => { t with fresh := false } else s

/-- SERVE_CONFIG (R135 to R137). -/
def runServeConfig (w : Work) (s : State) : State :=
  let d := w.desc
  let done (st : Nat) (s : State) : State := s.endWork w.id st 0
  if s.isFenced Dom.ibex then done St.DEVICE_ERROR s
  else if w.fn ≠ 0 then done Sv.DENIED s
  else if descNat d 49 1 % 2 = 0 then
    (if s.bt.reqs = [] then done 0 (s.modBt fun t => { t with serving := false }) else done Sv.STATE s)
  else if !s.ib.active || s.bt.serving then done Sv.STATE s
  else s.atChamois (.work w.id) fun s =>
    if s.serveBad w then done St.FORMAT_ERROR s
    else
    let len := descNat d 50 2 * descNat d 40 4
    match (operandAddr (s.workWho w) (dHandles d) (descQ d 32) len false).exec s with
    | (.error .wait, s) => s
    | (.error (.fail st), s) => done st s
    | (.ok a, s) =>
      if a.toNat % 64 ≠ 0 ∨ (s.segCheck w.ctx a len (some false)).isNone then done St.FORMAT_ERROR s
      else match (translate (s.workWho w) a len false).exec s with
        | (.error .wait, s) => s
        | (.error (.fail st), s) => done st s
        | (.ok (.device da _), s) =>
          if regionOf da ≠ .tier1 ∨ regionOf (da + len - 1) ≠ .tier1 then done St.FORMAT_ERROR s
          else
            let q0 := fld (descNat d 52 2) 48 ||| fld (descNat d 50 2) 32 ||| fld (descNat d 48 1) 24 ||| w64 (descNat d 44 4)
            let q1 := fld (descNat d 54 2) 49 ||| fld (descNat d 56 4) 32 ||| w64 (descNat d 40 4)
            let s := ((s.setReg Reg.BT_SERVE q0).setReg (Reg.BT_SERVE + 8) q1).setReg (Reg.BT_SERVE + 16) (descQ d 32)
            done 0 (s.btStart.modBt fun t => { t with serving := true, ctx := w.ctx, logits := da })
        | (.ok _, s) => done St.FORMAT_ERROR s

/-! ### Shared accessors -/

/-- The accesses of a request: its ring and head word, through its context's segments (R140), on the batcher's flow (R276 Table 1). -/
def reqWho (b : BReq) (w : Waiter) : Who := { w := w, ctx := b.ctx, fn := b.fn, q := b.q, flow := 80 }

def stateAddr (s : State) (r : Nat) : Nat := (s.reg Reg.BT_REQ_BASE).toNat + 512 * r
def countAddr (s : State) (r i : Nat) : Nat := (s.reg Reg.BT_CNT_BASE).toNat + 32768 * r + 8 * i
def listAddr (s : State) (n i : Nat) : Nat := (s.reg Reg.BT_LIST_BASE).toNat + (n % 2) * 131072 + 32 * i

/-- A request's sampling parameters (R138). -/
def reqParams (s : State) (r : Nat) : Sb.Params := Sb.params (s.readBytes (s.stateAddr r) 128)

def countEntry (s : State) (r i : Nat) : Word := w64 (s.readNat (s.countAddr r i) 8)

/-- Writes what chip cores read: its lines are taken from their holders as a block write takes them (R209). -/
def share (w : Waiter) (a : Nat) (bs : List Byte) (s : State) : State :=
  (linesOf a bs.length).foldl (fun s l =>
    let p := linePart a bs l
    if s.lineFree l true && s.canTake l (.ncWrite p.1 p.2 false) (.nc w) then s.breakRsv l none else (s.ncWrite w l p.1 p.2 false 0).2.2) (s.writeBytes a bs)

/-- Bytes 128 to 191 of a request's state (R138): its ring, deadline, arrival and progress, in the model's layout (log entry 88). -/
def progressBytes (b : BReq) : List Byte :=
  leBytes 8 b.ring.toNat ++ leBytes 8 b.headAddr.toNat ++ leBytes 8 b.deadline ++ leBytes 8 b.arrival ++ leBytes 4 b.hist ++ leBytes 4 b.init ++
    leBytes 4 b.maxNew ++ leBytes 4 b.gen ++ leBytes 4 b.written ++ leBytes 4 b.lastHead ++ leBytes 4 b.total ++
    leBytes 4 (b.ringShift + b.lastEnd % 8 * 2 ^ 8 + b2n b.phase * 2 ^ 16)

/-- What the batcher holds of a request changes, its state in tier 1 with it (R138). -/
def setBReq (r : Nat) (b : BReq) (s : State) : State :=
  (s.modBt fun t => { t with reqs := Map.insert r b t.reqs }).tableWrite (s.stateAddr r + 128) (progressBytes b)

def updBReq (r : Nat) (f : BReq → BReq) (s : State) : State := match s.bReq? r with | some b => s.setBReq r (f b) | none => s

/-- Counts a token of a request (R144). -/
def countToken (r token : Nat) (s : State) : State :=
  match Sb.probe (s.countEntry r) token 4096 (Sb.home token) with
  | some i => s.tableWrite (s.countAddr r i) (leBytes 8 (Sb.counted token (s.countEntry r i)).toNat)
  | none => s.bump Reg.BT_STAT_COUNT_FULL

/-- Appends a token to a request's history (R115, R159). -/
def appendHist (r token : Nat) (s : State) : State :=
  match s.bReq? r with
  | some b => (s.share .step (s.histAddr r b.hist) (leBytes 4 token)).setBReq r { b with hist := b.hist + 1, last := none }
  | none => s

/-- The ring of a request is full by the last reading of its head word (R154). -/
def ringFull (b : BReq) : Bool := decide ((b.written + 2 ^ 32 - b.lastHead) % 2 ^ 32 = 2 ^ b.ringShift)

/-- A record waits behind a full ring: the head word is to be read (R154). -/
def needHead (b : BReq) : Bool := !b.recs.isEmpty && ringFull b

/-- The request stands in the step in flight. -/
def inStep (s : State) (r : Nat) : Bool :=
  match s.bt.step, s.bReq? r with
  | some t, some b => t.ents.any fun e => decide (e.r = r ∧ e.seq = b.seq)
  | _, _ => false

/-- The waiting list has room (R74): HELD requests take no place in it (log entry 63). -/
def openRoom (s : State) : Bool :=
  decide (countOf (fun r => decide (s.rState r = WAITING)) s.openReqs +
    countOf (fun w => decide (dOpcode w.desc = 0x31 ∧ w.phase = .running)) s.qe.works < max 1 (s.regBits Reg.BT_CTRL 47 32))

/-- Heads that wait for room in the waiting list are tried again (R74). -/
def wakeOpen (s : State) : State :=
  if !s.openRoom then s else s.wakeResource fun _ v => (v.head.map fun h => decide (dOpcode h.desc = 0x31)).getD false

/-! ### Closing (R142, R143, R164) -/

/-- A request begins to close with a status: REQUEST_CLOSE completes it (R133). -/
def beginClose (r st : Nat) (s : State) : State :=
  match s.bReq? r with
  | none => s
  | some b =>
    if b.closing.isSome then s
    else
      let s := s.setBReq r { b with closing := some st, recs := [], ending := none, stage := 0 }
      let s := s.setRecBits r 0 2 0 CLOSING
      let s : State := if st = St.DEADLINE_EXCEEDED then s.bump Reg.BT_STAT_DEADLINE
        else if st = St.CANCELLED then s.bump Reg.BT_STAT_CANCELLED else s
      (s.forget (.token r)).forget (.head r)

/-- A request that is to end closes. An expired one whose token has been sampled has it written first, unless its ring is full: where it was
by the last reading, its head word is read again (R143, R154, R155, R164). -/
def dueClose (r : Nat) (s : State) : State :=
  match s.bReq? r with
  | none => s
  | some b =>
    match b.ending with
    | none => s
    | some st =>
      if st = St.DEADLINE_EXCEEDED ∧ s.rState r = RUNNING ∧ !b.recs.isEmpty ∧ !b.parked then
        if !needHead b ∨ b.reading then s
        else if b.pollDue.isNone then (s.setBReq r { b with reading := true }).wakeUp (.head r)
        else s.beginClose r st
      else s.beginClose r st

/-- Pages of a placed request are pinned and marked as used (R28, Table 3), and its frame table is written (R117). -/
def pinRequest (r : Nat) (s : State) : State :=
  let s := (s.pagesIn r).foldl (fun s p => (s.setPageBits p 51 51 1).touchPage p) s
  s.share .step (s.ftabAddr r 0) ((s.pagesIn r).flatMap fun p => leBytes 4 (s.pgFrame p))

/-- The pages of a settled request are no longer pinned, but for those another placed request still needs (R28). -/
def unpinRequest (r : Nat) (s : State) : State :=
  let others : List Nat := match s.bt.step with
    | some t => (t.ents.filter fun (e : StepEnt) => decide (e.r ≠ r) && !e.settled).flatMap fun (e : StepEnt) => s.pagesIn e.r
    | none => []
  (s.pagesIn r).foldl (fun s p => if p ∈ others then s else s.setPageBits p 51 51 0) s

/-- Every request of the step is settled: the step is over, and requests that were to end close (R29, R143, R164). -/
def endStep (s : State) : State :=
  match s.bt.step with
  | none => s
  | some t =>
    if !t.ents.all (·.settled) then s
    else
      let s := s.modBt fun x => { x with step := none }
      t.ents.foldl (fun s e => if decide ((s.bReq? e.r).map (·.seq) = some e.seq) then s.dueClose e.r else s) s

def setEnts (f : StepEnt → StepEnt) (s : State) : State :=
  s.modBt fun x => { x with step := x.step.map fun t => { t with ents := t.ents.map f } }

/-- A request of a quiesced function is parked (R316): it is HELD, and UP_FN_PARKED says so. -/
def parkNow (r : Nat) (b : BReq) (s : State) : State :=
  (if s.rState r = RUNNING then s.leaveRunning r HELD else s).setRegBits (Reg.UP_FN_PARKED + 8 * (b.fn / 64)) (b.fn % 64) (b.fn % 64) 1

/-- An entry of the step needs nothing more of it (R29): its request is parked now if its function has been quiesced meanwhile (R316). -/
def settleEnt (r : Nat) (s : State) : State :=
  let mark (e : StepEnt) : StepEnt := if e.r = r then { e with settled := true } else e
  let s : State := match s.bReq? r with
    | some b => if b.parked && s.inStep r then s.parkNow r b else s
    | none => s
  ((s.setEnts mark).unpinRequest r).endStep

/-- The entry's request is open still: it has not closed while the step ran (R155, R161). -/
def entOpen (s : State) (e : StepEnt) : Bool := decide ((s.bReq? e.r).map (·.seq) = some e.seq)

/-- A Springbok is left (R161): one that UNIT_EN keeps out is left, a fenced one is not (log entry 104). -/
def samplerUp (s : State) : Bool := (List.range Config.springboks).any fun u => !s.isFenced (Dom.springbok u)

/-- Rows of a completed step wait, and no Springbok is left (R161). -/
def rowsStuck (s : State) : Bool :=
  match s.bt.step with
  | some t => t.done && !t.rows.isEmpty && !s.samplerUp
  | none => false

/-- A request leaves the step in flight: its row is not sampled any more. -/
def leaveStep (r : Nat) (s : State) : State :=
  if !s.inStep r then s
  else
    let mine (t : Step) : List Nat := (t.ents.filter fun e => decide (e.r = r) && e.sample && !e.settled).map (·.row)
    (s.modBt fun x => { x with step := x.step.map fun t => { t with rows := t.rows.filter fun n => !decide (n ∈ mine t) } }).settleEnt r

/-- A request is to end with a status (R143, R164): at once, unless it runs in a step, whose last row comes first. Where no Springbok is left to
sample it, an expired request does not wait for that (R161). -/
def endRequest (r st : Nat) (s : State) : State :=
  let s := s.updBReq r fun b => { b with ending := b.ending.orElse fun _ => some st }
  let late := decide ((s.bReq? r).bind (·.ending) = some St.DEADLINE_EXCEEDED)
  if !(s.inStep r && decide (s.rState r = RUNNING)) then s.dueClose r
  else if late && s.rowsStuck then (s.leaveStep r).dueClose r
  else s

/-- A request closes now with a status (R142, R152, R155), or with the one with which it was to end. -/
def closeNow (r st : Nat) (s : State) : State := s.beginClose r (((s.bReq? r).bind (·.ending)).getD st)

/-- A request's deadline passes (R164). In replay deadlines are not evaluated (R419). -/
def deadline (r : Nat) (s : State) : State :=
  match s.bReq? r with
  | some b => if b.deadline = 0 ∨ s.rp.replaying then s else s.endRequest r St.DEADLINE_EXCEEDED
  | none => s

/-- RESULT of an OPEN_REQUEST (R142). -/
def openResult (b : BReq) : Word := w64 (b.total % 2 ^ 32 + b.lastEnd % 8 * 2 ^ 32)

/-- A request closes (R133, R142, R316): its OPEN_REQUEST completes, or its detached completion is written or discarded, and Ibex
releases its pages. -/
def requestClose (r : Nat) (s : State) : State :=
  match s.bReq? r with
  | none => s
  | some b =>
    match b.closing with
    | none => s
    | some st =>
      let s := s.rpEvent 0x0A 0 r (w64 st ||| fld b.lastEnd 8) (w64 b.total) none
      let s : State := match b.work with
        | some id => s.endWork id st (openResult b)
        | none =>
          let x := s.signalAt b.desc b.ctx (some b.q) st b.noSig
          if (x.2.queue b.q).st = .disabled ∨ (dQuiet b.desc ∧ x.1 = 0) then x.2
          else x.2.deferEntry b.q { status := x.1, slot := none, cmdId := dCmdId b.desc, result := openResult b,
                                    irq := dIrq b.desc, detached := true }
      let s := (if s.inStep r then s.unpinRequest r else s).ibClose r
      (s.modBt fun t => { t with reqs := Map.erase r t.reqs }).wakeOpen

/-- CANCEL_REQUESTs whose request's completion has been written complete (R143). -/
def finishCancels (s : State) : State :=
  let isOver (c : Cancel) : Bool :=
    (match s.bReq? c.r with | some b => decide (b.seq ≠ c.seq) | none => true) &&
    (match c.work with | some id => (s.work? id).isNone | none => true) && !(s.queue c.q).deferred.any (·.detached)
  let gone := s.bt.cancels.filter isOver
  gone.foldl (fun s c => s.endWork c.id 0 0) (s.modBt fun t => { t with cancels := t.cancels.filter fun c => !isOver c })

/-- CANCEL_REQUEST (R143). -/
def runCancel (w : Work) (s : State) : State :=
  let r := descNat w.desc 32 4
  if 0xFFFF < r ∨ descNat w.desc 36 28 ≠ 0 then s.endWork w.id St.FORMAT_ERROR 0
  else match s.bReq? r with
    | none => s.endWork w.id Sv.NOT_OPEN 0
    | some b =>
      if b.ctx ≠ w.ctx then s.endWork w.id Sv.NOT_OPEN 0
      else (s.endRequest r St.CANCELLED).modBt fun t => { t with cancels := t.cancels ++ [{ id := w.id, r := r, seq := b.seq, work := b.work, q := b.q }] }

/-! ### OPEN_REQUEST (R139 to R141) -/

/-- A field of an OPEN_REQUEST lies outside Table 2 or Table 3. -/
def openBad (d : Desc) : Bool :=
  let fork := (descNat d 81 1).testBit 0
  let mis (o n : Nat) : Bool := !dHandles d && decide (descNat d o 8 % n ≠ 0)
  mis 40 4 || mis 64 16 || mis 72 8 || decide (descNat d 48 4 = 0 ∧ !fork) || decide (descNat d 52 4 = 0) ||
  decide (descNat d 80 1 = 0 ∨ 16 < descNat d 80 1) || decide (1 < descNat d 81 1) ||
  (!fork && decide (descNat d 82 2 ≠ 0 ∨ descNat d 84 4 ≠ 0)) || decide (descNat d 88 40 ≠ 0) ||
  Sb.badParams true (Sb.params (descBytes d 128 128))

/-- The positions a fork shares with its parent (R124). -/
def forkShared (d : Desc) : Nat := if descNat d 48 4 = 0 then descNat d 84 4 - 1 else descNat d 84 4

/-- The checks of R140, in its order: the status of the first that fails. A FORK_LEN of 0 is FORK_PARENT (R141; log entry 101). -/
def openCheck (s : State) (ctx : Nat) (d : Desc) : Option Nat :=
  let r := descNat d 32 4
  let fork := (descNat d 81 1).testBit 0
  let flen := if fork then descNat d 84 4 else 0
  let parent := descNat d 82 2
  if !s.bt.serving then some Sv.STATE
  else if s.reqCount ≤ r ∨ openBad d then some St.FORMAT_ERROR
  else if s.rState r ≠ FREE ∨ (s.bReq? r).isSome then some Sv.REQ_BUSY
  else if fork && (match s.bReq? parent with
      | some b => decide (s.rState parent = FREE ∨ s.rState parent = CLOSING ∨ b.ctx ≠ ctx ∨ flen = 0 ∨ b.hist < flen ∨
                    s.rTokens parent < forkShared d)
      | none => true) then some Sv.FORK_PARENT
  else if s.histCap ≤ flen + descNat d 48 4 then some Sv.TOO_LONG
  else if descNat d 56 8 ≠ 0 ∧ descNat d 56 8 < s.now ∧ !s.rp.replaying then some St.DEADLINE_EXCEEDED
  else none

/-- The prompt's bytes and the context addresses of the ring and the head word. -/
def openRead (k : Who) (d : Desc) : M (List Byte × Word × Word) := do
  let n := 4 * descNat d 48 4
  let h := dHandles d
  let prompt ← if n = 0 then pure [] else do
    let a ← operandAddr k h (descQ d 40) n false
    if a.toNat % 4 ≠ 0 then failM St.FORMAT_ERROR else engRead k a n
  let ring ← operandAddr k h (descQ d 64) (2 ^ descNat d 80 1 * Sb.recordBytes (descNat d (128 + 52) 1)) true
  let head ← operandAddr k h (descQ d 72) 8 false
  if ring.toNat % 16 ≠ 0 ∨ head.toNat % 8 ≠ 0 then failM St.FORMAT_ERROR else pure (prompt, ring, head)

/-- A request is accepted (R140, R141): history, parameters, count table and record are built. The history is written as the lists of a step
are, which no step is rung before (R26). -/
def openAccept (w : Work) (prompt : List Byte) (ring head : Word) (s : State) : State :=
  let d := w.desc
  let r := descNat d 32 4
  let fork := (descNat d 81 1).testBit 0
  let parent := descNat d 82 2
  let flen := if fork then descNat d 84 4 else 0
  let hist := flen + descNat d 48 4
  let pInit := ((s.bReq? parent).map (·.init)).getD 0
  let s := s.share .step (s.histAddr r 0) (s.readBytes (s.histAddr parent 0) (4 * flen) ++ prompt)
  let s := s.tableWrite (s.stateAddr r) (descBytes d 128 128)
  let s := { s with mem := Mem.clear (s.countAddr r 0) 32768 s.mem }
  let all := (descNat d (128 + 54) 1).testBit 0
  let s := ((List.range hist).filter fun i => all || (fork && decide (pInit ≤ i ∧ i < flen))).foldl (fun s i => s.countToken r (s.histToken r i)) s
  let s := s.ibOpen r (descNat d 36 4) fork
  let s : State := if fork then s.ibFork r parent (forkShared d) else s
  let n := s.bt.nextSeq
  let b : BReq := { ctx := w.ctx, fn := w.fn, q := w.q, work := some w.id, desc := d, noSig := w.noSig, ring := ring, headAddr := head,
                    ringShift := descNat d 80 1, deadline := descNat d 56 8, arrival := s.now, seq := n, maxNew := descNat d 52 4, gen := 0,
                    hist := hist, init := hist, last := none, written := 0, total := 0, lastHead := 0, phase := true, recs := [], lastEnd := 0,
                    stage := 0, reading := false, pollDue := none, bypass := 0, ending := none, closing := none, parked := false }
  ((s.modBt fun t => { t with nextSeq := n + 1 }).setBReq r b).setWork { w with phase := .open }

/-- An OPEN_REQUEST that has left the head goes on: its prompt is read, and it is accepted unless a check fails by then. -/
def runOpen (w : Work) (s : State) : State :=
  if w.phase ≠ .running then s
  else match s.openCheck w.ctx w.desc with
    | some st => s.endWork w.id st 0
    | none => match (openRead (s.workWho w) w.desc).exec s with
      | (.error .wait, s) => s
      | (.error (.fail st), s) => s.endWork w.id st 0
      | (.ok x, s) => (s.dropGot (.work w.id)).openAccept w x.1 x.2.1 x.2.2

/-- OPEN_REQUEST at the head of its queue (R74, R140): its checks are made each time it is tried. -/
def tryOpen (q : Nat) (s : State) : State :=
  let v := s.queue q
  let waits := decide (v.st = .waiting ∧ v.waitKind = .resource) && (v.head.map fun h => decide (dOpcode h.desc = 0x31)).getD false
  let s0 := s
  let s : State := if waits then s.setQueue q { v.noWait with st := .fetching } else s
  match s.headFor q 0x31 with
  | none => s0
  | some h =>
    match s.openCheck v.ctx h.desc with
    | some st => (s.takeHead q h .running 0).endWork s.qe.nextWork st 0
    | none =>
      if !s.openRoom then (if waits then s0 else s.waitResource q)
      else (s.takeHead q h .running 0).runOpen (s.newWork q h .running 0)

/-! ### Building a step (R159, R162, R163) -/

/-- What a build has placed so far: the entries and the positions left. -/
structure Build where
  ents : List StepEnt
  left : Nat

/-- A request may be placed: RUNNING, its pages RESIDENT, no record of it behind a full ring (R27, R31). -/
def placeable (s : State) (r : Nat) (b : BReq) : Bool :=
  decide (s.rState r = RUNNING) && s.allResident r && b.closing.isNone && b.ending.isNone && !needHead b && !b.parked

/-- Makes the block of a request's next position ready (R120), preempting the request admitted most recently while a growth page
cannot be replaced (R127), or no frame or mover is left for the copy of a shared tail (log entry 102). -/
def readyOrPreempt (r pos : Nat) : Nat → State → State
  | 0, s => s
  | n + 1, s =>
    match s.readyBlock r pos with
    | some s => s
    | none => match s.preempt with
      | some s => if s.rState r = RUNNING then readyOrPreempt r pos n s else s
      | none => s

/-- What a build keeps once requests have been preempted (R127): those leave the step that is being built. -/
def stillRunning (s : State) (x : Build) : Build :=
  let out := x.ents.filter fun e => decide (s.rState e.r ≠ RUNNING)
  { ents := x.ents.filter fun e => decide (s.rState e.r = RUNNING), left := x.left + sumOf (·.ntok) out }

/-- Rows are given to the entries that SAMPLE, in list order (R160). -/
def numberRows (es : List StepEnt) : List StepEnt :=
  (es.foldl (fun (acc : List StepEnt × Nat) e => (acc.1 ++ [{ e with row := if e.sample then acc.2 else 0 }], acc.2 + b2n e.sample)) ([], 0)).1

/-- The block of a position is RESIDENT and the request's own (R120). -/
def blockReady (s : State) (r pos : Nat) : Bool :=
  let i := pos / s.blockTokens
  decide (i < s.rBlocks r) && decide (s.pgState (s.btab r i).1 = RESIDENT) && decide (s.pgRefs (s.btab r i).1 = 1)

/-- Places a request in the step being built, if it can be (R159 steps 2 and 3): `want` caps the positions in replay. -/
def place (r : Nat) (want : Option Nat) (x : Build) (s : State) : Build × State :=
  match s.bReq? r with
  | none => (x, s)
  | some b =>
    if !s.placeable r b || decide (s.srvBatch ≤ x.ents.length) then (x, s)
    else
      let decode := b.last.isSome
      let start := if decode then b.hist else s.rTokens r
      let n := if decode then min 1 x.left else min (min s.srvChunk (b.hist - start)) x.left
      let n := min n (want.getD n)
      if n = 0 then (x, s)
      else
        let s := s.readyOrPreempt r start (s.bt.reqs.length + 1)
        let x := s.stillRunning x
        if !(s.placeable r b && s.blockReady r start) then (x, s)
        else
          let s : State := match b.last with | some t => s.appendHist r t | none => s
          let sample := decode || decide (start + n = b.hist)
          let e : StepEnt := { r := r, prefill := !decode, sample := sample, ntok := n, start := start, row := 0, settled := false, seq := b.seq }
          ({ ents := x.ents ++ [e], left := x.left - n }, s)

/-- Requests in age order: acceptance follows the arrival timestamps (R162). -/
def byAge (s : State) : List Nat := (sortBy (fun e => e.2.seq) s.bt.reqs).map (·.1)

/-- A request stands in the waiting list: WAITING or HELD, not closing or parked (R162, R316). -/
def listed (s : State) (r : Nat) : Bool :=
  match s.bReq? r with
  | some b => decide (s.rState r = WAITING ∨ s.rState r = HELD) && b.closing.isNone && !b.parked
  | none => false

/-- A request is admissible (R162), while there are page records for its new pages (log entry 89). -/
def admissible (s : State) (r : Nat) : Bool :=
  match s.bReq? r with
  | some b =>
    let c := s.admitCost r b
    s.listed r && decide (c ≤ s.available) && decide (s.admitRecords r b ≤ s.freeRecords) && (!decide (s.rState r = HELD) || (b.recs.isEmpty && !ringFull b))
  | none => false

/-- Admits a request (R162). -/
def takeIn (r : Nat) (s : State) : State :=
  match s.bReq? r with
  | none => s
  | some b =>
    let s : State := match b.last with
      | some t => if s.rRedo r then s.appendHist r t else s
      | none => s
    let hist := ((s.bReq? r).getD b).hist
    ((s.updBReq r fun b => { b with bypass := 0, pollDue := none }).ibAdmit r hist).bump Reg.BT_STAT_ADMITTED

/-- The admissions of a build (R159 step 4, R162, R163): `older` are the requests passed over, whose counts rise by at most 1 for a step, built
more than once or not; `forced` are the recorded ones in replay. -/
def admitAll (num : Nat) (forced : Option (List (Nat × Nat))) : List Nat → List Nat → Build → State → Build × State
  | [], _, x, s => (x, s)
  | r :: rs, older, x, s =>
    let max_ := max 1 (s.regBits Reg.BT_CTRL 23 16)
    let chosen := match forced with | some l => l.any fun f => decide (f.1 = r) | none => true
    if s.srvBatch ≤ x.ents.length ∨ x.left = 0 then (x, s)
    else if !chosen || !s.listed r then admitAll num forced rs older x s
    else if !s.admissible r then admitAll num forced rs (older ++ [r]) x s
    else if forced.isNone && older.any (fun o => match s.bReq? o with | some b => decide (max_ ≤ b.bypass) | none => false) then
      (x, if s.bt.blockedAt = some num then s else (s.bump Reg.BT_STAT_BYPASS_BLOCK).modBt fun t => { t with blockedAt := some num })
    else
      let pass (b : BReq) : BReq := if b.bypassAt = some num then b else { b with bypass := b.bypass + 1, bypassAt := some num }
      let s := older.foldl (fun s o => s.updBReq o pass) s
      let s := s.takeIn r
      let want := forced.bind fun l => (l.find? fun f => decide (f.1 = r)).map (·.2)
      let n := x.ents.length
      let y := s.place r want x
      let e := y.1.ents[n]?
      let s := y.2.rpEvent 0x08 0 r (w64 num) (w64 ((e.map (·.start)).getD (y.2.rTokens r)) ||| fld ((e.map (·.ntok)).getD 0) 32) none
      admitAll num forced rs older y.1 s

/-- The pages of the first FETCH_AHEAD requests of the admission order are fetched, while AVAILABLE covers their cost (R129). -/
def fetchAhead (s : State) : State :=
  if s.rp.replaying || !s.ib.active then s
  else ((s.byAge.filter s.listed).take (s.regBits Reg.IB_CTRL 3 1)).foldl (fun s r =>
    match s.bReq? r with
    | some b =>
      if s.admitCost r b ≤ s.available then
        let b0 := s.firstMissing r
        let ps := (List.range b0).map (fun i => (s.btab r i).1) ++ (s.prefixPages r b0 (s.admitHist r b)).map (·.1)
        ps.foldl (fun s p => s.fetchPage p) s
      else s
    | none => s) s

/-- The bytes of a step list entry (R160 Table 7). -/
def entBytes (s : State) (e : StepEnt) : List Byte :=
  leBytes 4 (b2n e.prefill * 2 ^ 17 + b2n e.sample * 2 ^ 16 + e.r % 65536) ++ leBytes 4 e.ntok ++ leBytes 4 e.start ++
    leBytes 4 e.row ++ leBytes 8 (s.ftabAddr e.r 0) ++ leBytes 8 (s.histAddr e.r e.start)

/-- The STEP descriptor (R160 Table 6), without GEN. -/
def stepDesc (s : State) (num : Nat) (ents : List StepEnt) : Desc :=
  BitVec.ofNat 2048 (0x34 + num % 65536 * 2 ^ 32 + num % 2 ^ 64 * 2 ^ 256 + s.listAddr num 0 * 2 ^ 320 + ents.length * 2 ^ 384 +
    sumOf (·.ntok) ents * 2 ^ 416 + (s.reg (Reg.BT_SERVE + 16)).toNat * 2 ^ 448)

/-- GEN of the slot that the tail of a queue points at (R41). -/
def tailGen (v : Queue) : Nat := if v.sqTail < v.sqHead then (if v.sqGen = 255 then 1 else v.sqGen + 1) else v.sqGen

/-- Every request of a step closes with a status (R161). -/
def failStep (st : Nat) (s : State) : State :=
  match s.bt.step with
  | none => s
  | some t =>
    let s := t.ents.foldl (fun s e => s.setEnts fun x => if x.r = e.r then { x with settled := true } else x) s
    let s := t.ents.foldl (fun s e => s.unpinRequest e.r) s
    let s := s.modBt fun x => { x with step := none }
    let s := t.ents.foldl (fun s e => if s.entOpen e then s.beginClose e.r st else s) s
    s.raise Reg.BT Err.BT_STEP_FAIL { Capture.none with cls := 5 }

/-- The step's descriptor is written into its slot and rung, once every write that the cores will read is performed (R26, R160). A write of the
step's that fails ends it, and its requests, with the write's status (log entry 103). -/
def ringStep (s : State) : State :=
  match s.bt.step with
  | none => s
  | some t =>
    let p := s.postedOf .step
    if t.rung ∨ p.1 ≠ 0 then s
    else if p.2.isSome then (s.forget .step).failStep (p.2.getD 0)
    else
      let q := s.srvQueue
      let v := s.queue q
      let k : Who := { w := .step, ctx := s.bt.ctx, fn := (s.queue q).fn, q := q, flow := q % 64 }
      let d : Desc := t.desc ||| BitVec.ofNat 2048 (tailGen v * 2 ^ 8)
      match (engWrite k (v.sqBase + w64 (64 * v.sqTail)) (descBytes d 0 64)).exec s with
      | (.error .wait, s) => s
      | (.error (.fail st), s) => s.failStep st
      | (.ok (), s) =>
        if (s.postedOf .step).1 ≠ 0 then s
        else
          let s := (s.forget .step).modBt fun x => { x with step := some { t with rung := true } }
          let s := s.setReg Reg.BT_STEP (w64 t.num)
          s.doorbell .sqTail { origin := .batcher (BitVec.ofNat 10 (q / 64)), index := BitVec.ofNat 6 (q % 64), half := some .low,
                               value := w64 ((v.sqTail + 1) % v.slots) }

/-- Requests that are cancelled or whose deadline has passed close as a step is built (R159 step 1). -/
def closeDue (s : State) : State :=
  s.byAge.foldl (fun s r => match s.bReq? r with
    | some b => if b.deadline ≠ 0 ∧ b.deadline < s.now ∧ !s.rp.replaying then s.endRequest r St.DEADLINE_EXCEEDED else s.dueClose r
    | none => s) s

/-- A RUNNING request that has lost a page goes back to be admitted again (R131). -/
def shelveLost (s : State) : State :=
  s.openReqs.foldl (fun s r => if s.rState r = RUNNING ∧ s.rRedo r then s.leaveRunning r WAITING else s) s

end State

/-- A step that has been built uses up what a replay has forced of it (R419). -/
def Rp.stepTaken (p : Rp) : Rp :=
  if p.replaying then { p with forced := p.forced.filter fun f => match f with | .entered _ _ _ | .step _ _ => false | _ => true, since := none } else p

namespace State

/-- The batcher builds the next step (R29, R159). -/
def stepBuild (s : State) : State :=
  let forcedStep := s.rp.forced.find? fun f => match f with | .step _ _ => true | _ => false
  if !s.bt.serving || s.bt.step.isSome || !s.ib.active || s.isFenced Dom.ibex || (s.rp.replaying && forcedStep.isNone) then s
  else
    let forced : Option (List (Nat × Nat)) :=
      if s.rp.replaying then some (s.rp.forced.filterMap fun f => match f with | .entered r _ n => some (r, n) | _ => none) else none
    let s := s.closeDue.shelveLost
    let num := (s.reg Reg.BT_STEP).toNat + 1
    let x0 : Build := { ents := [], left := s.srvTokens }
    let running := s.byAge.filter fun r => decide (s.rState r = RUNNING)
    let isDecode (s : State) (r : Nat) : Bool := match s.bReq? r with | some b => b.last.isSome | none => false
    let dec := running.filter (isDecode s)
    let pre := running.filter fun r => !isDecode s r
    let x := (dec ++ pre).foldl (fun (x : Build × State) r => x.2.place r none x.1) (x0, s)
    let y := x.2.admitAll num forced x.2.byAge [] x.1
    let ents := numberRows y.1.ents
    let s := y.2
    let s := s.modRp Rp.stepTaken
    let s : State := if ents = [] then s
      else
        let s := ents.foldl (fun s e => s.pinRequest e.r) s
        let s := ents.zipIdx.foldl (fun s e => s.share .step (s.listAddr num e.2) (s.entBytes e.1)) s
        let s := s.modBt fun t => { t with step := some { num := num, ents := ents, desc := s.stepDesc num ents, rung := false,
                                                          retried := false, done := false, rows := [] } }
        (s.rpEvent 0x09 0 ents.length (w64 num) (w64 (sumOf (·.ntok) ents)) none).ringStep
    (s.reclaim.fetchAhead).wakeOpen

/-! ### Completion of a step (R160, R161) -/

/-- No Springbok is left while rows wait (R161): requests close as their deadlines pass. -/
def checkSampler (s : State) : State :=
  if !s.rowsStuck then s
  else
    let s := s.raise Reg.BT Err.BT_NO_SAMPLER { Capture.none with cls := 5 }
    s.openReqs.foldl (fun s r => match s.bReq? r with
      | some b => if b.ending = some St.DEADLINE_EXCEEDED then s.endRequest r St.DEADLINE_EXCEEDED else s
      | none => s) s

/-- The STEP in flight has completed with a status (R161). -/
def stepCompleted (st : Nat) (s : State) : State :=
  match s.bt.step with
  | none => s
  | some t =>
    if !t.rung || t.done then s
    else if st = 0 then
      let s := t.ents.foldl (fun s e => if s.entOpen e then s.stepWrote e.r e.start e.ntok else s) s
      let rows := (t.ents.filter (·.sample)).map (·.row)
      let s := s.modBt fun x => { x with step := some { t with done := true, rows := rows } }
      let s := (t.ents.filter fun e => !e.sample).foldl (fun s e => s.settleEnt e.r) s
      s.checkSampler
    else if !t.retried then
      let s := s.raise Reg.BT Err.BT_STEP_RETRY { Capture.none with cls := 5 }
      (s.modBt fun x => { x with step := some { t with rung := false, retried := true } }).ringStep
    else s.failStep st

/-- The batcher reads STEP_QUEUE's completion ring (R137): the STEP's status, and the place is released. -/
def readStepQueue (s : State) : State :=
  let q := s.srvQueue
  let v := s.queue q
  if !s.bt.serving || decide (v.cqHead = v.cqTail) then s
  else
    let s := s.doorbell .cqHead { origin := .batcher (BitVec.ofNat 10 (q / 64)), index := BitVec.ofNat 6 (q % 64), half := some .low, value := w64 v.cqTail }
    s.stepCompleted v.lastStatus

/-- STEP starts (R160): dispatched to its queue's core group; from a queue without SERVE it is denied. -/
def runStep (w : Work) (s : State) : State :=
  if !(s.queue w.q).serve then s.endWork w.id Sv.DENIED 0
  else if descNat w.desc 50 2 ≠ 0 then s.endWork w.id St.FORMAT_ERROR 0
  else s.offer w

/-! ### Rows (R146, R156, R157, R161) -/

def sbUnit (s : State) (u : Nat) : SbUnit := Map.getD SbUnit.reset u s.bt.units
def setSbUnit (u : Nat) (v : SbUnit) (s : State) : State := s.modBt fun t => { t with units := Map.put SbUnit.reset u v t.units }

/-- A row or a SAMPLE is handed to a free, enabled, unfenced Springbok (R157, R161): a row first, but at least one of every eight
dispatches to a SAMPLE while both wait. -/
def rowHandout (u : Nat) (s : State) : State :=
  let x := s.sbUnit u
  if x.first.isSome || !s.regBit Reg.SB_CTRL u || s.isFenced (Dom.springbok u) then s
  else
    let rows := match s.bt.step with | some t => if t.done then t.rows else [] | none => []
    match rows, s.bt.samples with
    | [], [] => s
    | row :: rest, samples =>
      if !samples.isEmpty && decide (7 ≤ s.bt.turn) then
        (match samples with
         | w :: ws => (s.setSbUnit u { x with first := some (.sample w) }).modBt fun t => { t with samples := ws, turn := 0 }
         | [] => s)
      else
        let s := s.modBt fun t => { t with step := t.step.map (fun p => { p with rows := rest }), turn := if samples.isEmpty then 0 else t.turn + 1 }
        s.setSbUnit u { x with first := some (.serve row) }
    | [], w :: ws => (s.setSbUnit u { x with first := some (.sample w) }).modBt fun t => { t with samples := ws, turn := 0 }

/-- The first pass of a row ends: the unit is free for the next (R158). -/
def firstPassEnd (u : Nat) (s : State) : State :=
  let x := s.sbUnit u
  if x.first.isSome && x.second.isNone then s.setSbUnit u { first := none, second := x.first } else s

/-- A row in hand goes back to be sampled again from the start (R161). -/
def rowsBack (u : Nat) (s : State) : State :=
  let x := s.sbUnit u
  let back (j : Option RowJob) (s : State) : State := match j with
    | some (.serve row) => s.modBt fun t => { t with step := t.step.map fun p => { p with rows := sortBy id (addNew row p.rows) } }
    | some (.sample w) => s.modBt fun t => { t with samples := w :: t.samples }
    | none => s
  ((back x.second (back x.first s)).setSbUnit u SbUnit.reset).forget (.row u)

/-- The logits of a row from its bytes. -/
def logitCodes (fmt : Nat) : Nat → List Byte → List Nat
  | 0, _ => []
  | n + 1, bs => leNat (bs.take (logitBytes fmt)) :: logitCodes fmt n (bs.drop (logitBytes fmt))

def logitFmt (fmt : Nat) : FFmt := if fmt = 0 then FFmt.fp32 else if fmt = 1 then FFmt.bf16 else FFmt.fp16

/-- The bias list of a parameter block (R139 Table 3). -/
def readBias (k : Who) (p : Sb.Params) : M (List (Nat × Nat)) := do
  if p.bias = 0 ∨ p.nbias = 0 then pure []
  else
    let bs ← engRead k (w64 p.bias) (8 * p.nbias)
    pure ((List.range p.nbias).map fun i => (leNat ((bs.drop (8 * i)).take 4), leNat ((bs.drop (8 * i + 4)).take 4)))

/-- Everything that the row of request `r` is sampled from (R135, R145, R151). -/
def serveRow (u row r : Nat) (b : BReq) : M Sb.Row := do
  let s ← get
  let vocab := s.srvVocab
  let x ← deviceRead (.row u) (s.bt.logits + row * s.srvStride) (vocab * logitBytes s.srvFmt)
  if x.2 then failM St.DATA_ERROR
  else
    let codes := logitCodes s.srvFmt vocab x.1
    let p := s.reqParams r
    let bias ← readBias (reqWho b (.row u)) p
    let lo := s.countAddr r 0
    let own := s.mem.filter fun c => decide (lo ≤ c.1 ∧ c.1 < lo + 32768)
    pure { logits := codes.map (logitFmt s.srvFmt).decode, bias := bias.filter (fun e => decide (e.1 < vocab)),
           counts := fun i => w64 (leNat (Mem.read own (lo + 8 * i) 8)), p := p, pos := b.hist,
           key := Sb.rowKey (s.readBytes (s.stateAddr r) 128) codes bias
             ((own.foldl (fun l c => addNew ((c.1 - lo) / 8) l) []).map fun i => w64 (leNat (Mem.read own (lo + 8 * i) 8))) }

/-- The END reason of a sampled token (R152). -/
def endReason (s : State) (b : BReq) (p : Sb.Params) (token : Nat) : Nat :=
  if token ∈ p.stops.take p.nstop then 1
  else if b.maxNew ≤ b.gen + 1 then 2
  else if s.histCap ≤ b.hist + 1 then 3
  else 0

/-- What a replayed record says of a draw (R419): SEED, TOKEN and POSITION. -/
def forcedSeed (s : State) (src : Nat) (isSample : Bool) : Option (Word × Nat × Nat) :=
  if !s.rp.replaying then none
  else s.rp.forced.findSome? fun f => match f with
    | .seed r i sd t p => if r = src ∧ i = isSample then some (sd, t, p) else none
    | _ => none

def dropSeed (src : Nat) (isSample : Bool) (s : State) : State :=
  s.modRp fun p => { p with forced := p.forced.filter fun f => match f with | .seed r i _ _ _ => !decide (r = src ∧ i = isSample) | _ => true, since := none }

/-- The draw of a row: in replay it waits for its record (R419), whose TOKEN replaces the sampled one with FORCE_TOKENS. -/
def drawRow (src : Nat) (isSample : Bool) (row : Sb.Row) (s : State) : Option (Option Sb.Pick × State) :=
  match s.forcedSeed src isSample with
  | some f =>
    let k := Sb.sample row f.1.toNat f.2.2
    let s := s.dropSeed src isSample
    let differs := match k with | some k => decide (k.token ≠ f.2.1) | none => false
    let s : State := if differs then s.bump Reg.RP_STAT_MISMATCH else s
    some (if s.regBit Reg.RP_CTRL 3 then k.map (fun k => { k with token := f.2.1 }) else k, s)
  | none => if s.rp.replaying then none else some (Sb.sample row row.p.seed row.pos, s)

/-- A row has been sampled (R146, R152): the token is counted, stop conditions are checked, and its record is built. -/
def rowResult (r : Nat) (b : BReq) (row : Sb.Row) (k : Option Sb.Pick) (s : State) : State :=
  let s := (s.bump Reg.SB_STAT_ROWS).bumpBy (countOf Sb.nonFinite row.logits) Reg.SB_STAT_NONFINITE
  match k with
  | none => (s.settleEnt r).endRequest r Sv.NO_CANDIDATE
  | some k =>
    let s := s.rpEvent 0x0B 0 r (w64 row.p.seed) (w64 k.token ||| fld row.pos 32) none
    let s := s.countToken r k.token
    let ending := s.endReason b row.p k.token
    let bytes := Sb.record k false ending r row.pos
    let bytes := bytes ++ List.replicate (Sb.recordBytes row.p.logprobs - bytes.length) 0
    let s := s.tableWrite (s.stateAddr r + 192) bytes
    let s := s.setBReq r { b with gen := b.gen + 1, last := if ending = 0 then some k.token else none, recs := b.recs ++ [{ bytes := bytes, ending := ending }] }
    s.settleEnt r

/-- Everything that a SAMPLE is sampled from (R156), with the address of OUT. -/
def sampleRow (k : Who) (w : Work) : M (Sb.Row × Word) := do
  let d := w.desc
  let vocab := descBits d 56 18 0
  let fmt := descBits d 56 25 24
  let n := vocab * logitBytes fmt
  let h := dHandles d
  let la ← operandAddr k h (descQ d 32) n false
  let pa ← operandAddr k h (descQ d 48) 128 false
  let pb ← engRead k pa 128
  let p := Sb.params pb
  let oa ← operandAddr k h (descQ d 40) (Sb.recordBytes p.logprobs) true
  if la.toNat % 64 ≠ 0 ∨ oa.toNat % 16 ≠ 0 ∨ Sb.badParams false p then failM St.FORMAT_ERROR
  else
    let lb ← engRead k la n
    let bias ← readBias k p
    let cb ← if p.counts = 0 then pure [] else engRead k (w64 p.counts) 32768
    let tbl := (List.range (cb.length / 8)).map fun i => leWord ((cb.drop (8 * i)).take 8)
    let codes := logitCodes fmt vocab lb
    pure ({ logits := codes.map (logitFmt fmt).decode, bias := bias.filter (fun e => decide (e.1 < vocab)),
            counts := fun i => tbl.getD i 0, p := p, pos := descNat d 60 4,
            key := Sb.rowKey pb codes bias tbl }, oa)

/-- SAMPLE starts (R156): it waits for a Springbok once its form is checked. VOCAB lies in the range that R136 gives a served model (log entry
106). -/
def runSample (w : Work) (s : State) : State :=
  let d := w.desc
  let vocab := descBits d 56 18 0
  let h := dHandles d
  if vocab < 2 ∨ 262144 < vocab ∨ 2 < descBits d 56 25 24 ∨ descBits d 56 23 19 ≠ 0 ∨ descBits d 56 31 26 ≠ 0 ∨
      (!h ∧ (descNat d 32 8 % 64 ≠ 0 ∨ descNat d 40 8 % 16 ≠ 0)) then s.endWork w.id St.FORMAT_ERROR 0
  else s.modBt fun t => { t with samples := t.samples ++ [w.id] }

/-- The record of a SAMPLE is written to OUT (R153, R156), bytes 8 to 15 after every other byte is performed. `count` 1 marks that it has been
sampled, 2 that the other bytes have gone out; `pages` holds the record's bytes, `next` their address and `acc` the RESULT. -/
def sampleOut (w : Work) (s : State) : State :=
  let k := s.workWho w
  let bs : List Byte := w.pages.map (BitVec.ofNat 8)
  let last (s : State) : State :=
    if (s.postedOf (.work w.id)).1 ≠ 0 then s
    else match (s.postedOf (.work w.id)).2 with
      | some st => s.endWork w.id st 0
      | none => match (engWrite k (w64 w.next + 8) ((bs.drop 8).take 8)).exec s with
        | (.error .wait, s) => s
        | (.error (.fail st), s) => s.endWork w.id st 0
        | (.ok (), s) => s.endWork w.id 0 (w64 w.acc)
  let body : M Unit := do
    engWrite k (w64 w.next) (bs.take 8)
    engWrite k (w64 w.next + 16) (bs.drop 16)
  if w.count = 0 then s
  else if w.count = 2 then last s
  else match body.exec s with
    | (.error .wait, s) => s
    | (.error (.fail st), s) => s.endWork w.id st 0
    | (.ok (), s) => last ((s.forgetReads (.work w.id)).setWork { w with count := 2 })

/-- Ends the second pass of a Springbok (R146, R156). -/
def rowSampled (u : Nat) (s : State) : State :=
  let x := s.sbUnit u
  let free (s : State) : State := (s.setSbUnit u { s.sbUnit u with second := none }).forget (.row u)
  match x.second with
  | none => s
  | some (.serve row) =>
    (match s.bt.step.bind fun t => t.ents.find? fun e => e.sample && decide (e.row = row) with
     | none => free s
     | some e =>
       match (s.bReq? e.r).filter fun b => b.seq = e.seq with
       | none => (free s).settleEnt e.r
       | some b =>
         match (serveRow u row e.r b).exec s with
         | (.error .wait, s) => s
         | (.error (.fail st), s) => ((free s).settleEnt e.r).endRequest e.r st
         | (.ok data, s) =>
           match s.drawRow e.r false data with
           | none => s
           | some (k, s) => (free s).rowResult e.r b data k)
  | some (.sample id) =>
    match s.work? id with
    | none => free s
    | some w =>
      if w.phase ≠ .running then free s
      else match (sampleRow (s.workWho w) w).exec s with
        | (.error .wait, s) => s
        | (.error (.fail st), s) => (free s).endWork id st 0
        | (.ok x, s) =>
          match s.drawRow w.q true x.1 with
          | none => s
          | some (k, s) =>
            let s := (((free s).forgetReads (.work id)).bump Reg.SB_STAT_ROWS).bumpBy (countOf Sb.nonFinite x.1.logits) Reg.SB_STAT_NONFINITE
            match k with
            | none => s.endWork id Sv.NO_CANDIDATE 0
            | some k =>
              let s := s.rpEvent 0x0B 1 w.q (w64 x.1.p.seed) (w64 k.token ||| fld x.1.pos 32) none
              let y := s.fresh
              let bs := Sb.record k true 0 y.1.toNat x.1.pos
              let w := { w with count := 1, pages := bs.map (·.toNat), next := x.2.toNat, acc := k.token % 2 ^ 32 + k.lp % 2 ^ 32 * 2 ^ 32 }
              (y.2.setWork w).sampleOut w

/-! ### The token ring (R153 to R155) -/

/-- Where the next record of a request goes. -/
def recordAddr (b : BReq) (t : TokRec) : Word := b.ring + w64 (b.written % 2 ^ b.ringShift * t.bytes.length)

/-- A record has been written (R152 to R154). -/
def recordDone (r : Nat) (b : BReq) (t : TokRec) (s : State) : State :=
  let n := (b.written + 1) % 2 ^ 32
  let b := { b with written := n, total := b.total + 1, phase := if n % 2 ^ b.ringShift = 0 then !b.phase else b.phase,
                    lastEnd := t.ending, recs := b.recs.tail, stage := 0 }
  let s := (s.forget (.token r)).setBReq r b
  match b.ending with
  | some st => s.endRequest r st
  | none => if t.ending ≠ 0 then s.beginClose r 0 else s

/-- A record write fails (R155). -/
def recordFailed (r st : Nat) (s : State) : State :=
  let s := (s.forget (.token r)).updBReq r fun b => { b with recs := [], stage := 0, last := none }
  (s.raise Reg.BT Err.BT_RING_WRITE { Capture.none with cls := 5, index := r }).closeNow r st

/-- The oldest record of a request is written (R153, R155): every other byte first, then bytes 8 to 15. -/
def tokenWrite (r : Nat) (s : State) : State :=
  match s.bReq? r with
  | none => s
  | some b =>
    match b.recs with
    | [] => s
    | t :: _ =>
      let p := s.postedOf (.token r)
      let k := reqWho b (.token r)
      let a := recordAddr b t
      if b.parked || b.closing.isSome || ringFull b || decide (p.1 ≠ 0) then s
      else match p.2 with
        | some st => s.recordFailed r st
        | none =>
          let flag : List Byte := leBytes 8 (leNat ((t.bytes.drop 8).take 8) + b2n b.phase * 2 ^ 63)
          let body : M Unit := do
            engWrite k a (t.bytes.take 8)
            engWrite k (a + 16) (t.bytes.drop 16)
          let final (s : State) : State := s.recordDone r b t
          let second (s : State) : State :=
            match (engWrite k (a + 8) flag).exec s with
            | (.error .wait, s) => s
            | (.error (.fail st), s) => s.recordFailed r st
            | (.ok (), s) => if (s.postedOf (.token r)).1 = 0 then final s else s.setBReq r { b with stage := 2 }
          if b.stage = 2 then final s
          else if b.stage = 1 then second s
          else match body.exec s with
            | (.error .wait, s) => s
            | (.error (.fail st), s) => s.recordFailed r st
            | (.ok (), s) =>
              let s := s.setBReq r { b with stage := 1 }
              if (s.postedOf (.token r)).1 = 0 then second s else s

/-- The read of a ring's head word returns (R154): a ring that is still full holds the request (R31). -/
def headRead (r : Nat) (s : State) : State :=
  match s.bReq? r with
  | none => s
  | some b =>
    if b.parked || b.closing.isSome || !(b.reading || (ringFull b && b.pollDue.isNone && (needHead b || decide (s.rState r = HELD)))) then s
    else match (engRead (reqWho b (.head r)) b.headAddr 8).exec s with
      | (.error .wait, s) => s.setBReq r { b with reading := true }
      | (.error (.fail st), s) => ((s.forget (.head r)).setBReq r { b with reading := false }).closeNow r st
      | (.ok bs, s) =>
        let b := { b with lastHead := leNat (bs.take 4), reading := false }
        let s := (s.forget (.head r)).setBReq r b
        if !ringFull b then s.setBReq r { b with pollDue := none }
        else
          let b := { b with pollDue := some (s.now + 1000 * max 1 (s.regBits Reg.BT_CTRL 63 48)) }
          let s := s.setBReq r b
          if (s.rState r = RUNNING ∨ s.rState r = WAITING) ∧ needHead b then ((s.leaveRunning r HELD).bump Reg.BT_STAT_HELD).dueClose r else s

/-- The poll interval of a held request ends: its head word is read again (R154). -/
def pollExpiry (r : Nat) (s : State) : State :=
  match s.bReq? r with
  | some b => if s.rState r = HELD ∧ b.pollDue.isSome ∧ !b.parked then s.setBReq r { b with reading := true } else s
  | none => s

/-! ### Parked requests (R316, R317) and fencing (R393) -/

/-- The ring or the head word of a request leads to the host. -/
def ringAtHost (s : State) (b : BReq) : Bool :=
  let host (a : Word) (w : Bool) : Bool := match s.segCheck b.ctx a 1 (some w) with | some (.host _ _ _) => true | _ => false
  host b.ring true || host b.headAddr false

/-- The open requests of a quiesced function are detached, and parked where their ring lies in the host (R316). A request in a step
is parked once its row is sampled. -/
def parkRequests (fn : Nat) (s : State) : State :=
  (s.bt.reqs.filter fun e => decide (e.2.fn = fn)).foldl (fun s e =>
    let b := e.2
    let park := s.ringAtHost b && b.closing.isNone
    let s : State := match b.work with
      | some id => s.modQe fun q => { q with works := q.works.filter fun w => !decide (w.id = id) }
      | none => s
    let s := s.setBReq e.1 { b with work := none, parked := b.parked || park, reading := if park then false else b.reading,
                                    stage := if park then 0 else b.stage }
    let s : State := if park then (s.forget (.token e.1)).forget (.head e.1) else s
    if park ∧ !(s.inStep e.1 && decide (s.rState e.1 = RUNNING)) then s.parkNow e.1 b else s) s

/-- RESUME_FN restarts the ring state of the function's parked requests (R317). -/
def resumeRequests (fn : Nat) (s : State) : State :=
  let s := (s.bt.reqs.filter fun e => decide (e.2.fn = fn) && e.2.parked).foldl (fun s e =>
    s.setBReq e.1 { e.2 with parked := false, written := 0, lastHead := 0, phase := true, stage := 0 }) s
  s.setRegBits (Reg.UP_FN_PARKED + 8 * (fn / 64)) (fn % 64) (fn % 64) 0

/-- DISCARD_FN closes the function's parked requests as CANCELLED (R317). -/
def discardRequests (fn : Nat) (s : State) : State :=
  let s := (s.bt.reqs.filter fun e => decide (e.2.fn = fn) && e.2.parked).foldl (fun s e => s.endRequest e.1 St.CANCELLED) s
  s.setRegBits (Reg.UP_FN_PARKED + 8 * (fn / 64)) (fn % 64) (fn % 64) 0

/-- The Ibex domain is fenced (R393): every open request closes with DEVICE_ERROR, and serving stops. -/
def ibexFenced (s : State) : State :=
  let s := s.modBt fun t => { t with step := none, serving := false }
  let s := s.openReqs.foldl (fun s r => s.beginClose r St.DEVICE_ERROR) s
  s.wakeOpen

/-- An uncorrectable error in a request's record, block table, request state or count table (R132, Table 13): it closes with
DATA_ERROR. -/
def requestUncorr (r : Nat) (s : State) : State :=
  match s.bReq? r with
  | some _ => s.endRequest r St.DATA_ERROR
  | none => s

/-- A poisoned line of Ibex's tables or of the batcher's structures is an uncorrectable error in what it holds (R132, R167). -/
def tableError (l : Nat) (s : State) : State :=
  let at_ (base size : Nat) : Option Nat := if base ≤ 64 * l ∧ 64 * l < base + size then some (64 * l - base) else none
  let n := s.reqCount * s.maxBlocks
  let ib (s : State) : State := s.raise Reg.IB Err.IB_TABLE_UNCORR { Capture.none with cls := 5, addr := w64 (64 * l), space := 1 }
  let bt (s : State) : State := s.raise Reg.BT Err.BT_STATE_UNCORR { Capture.none with cls := 5, addr := w64 (64 * l), space := 1 }
  match at_ (s.recBase 0) (64 * s.reqCount), at_ (s.btabAddr 0 0) (8 * n), at_ (s.pageAddr 0) (16 * s.pageCount), at_ (s.indexAddr 0 0) (2 ^ 26),
      at_ (s.reg Reg.BT_REQ_BASE).toNat (512 * s.reqCount), at_ (s.reg Reg.BT_CNT_BASE).toNat (32768 * s.reqCount) with
  | some o, _, _, _, _, _ => (s.requestUncorr (o / 64))|> ib
  | _, some o, _, _, _, _ =>
    let r := o / (8 * s.maxBlocks)
    let i0 := o / 8 % s.maxBlocks
    let bad := (List.range 8).filter fun k => decide (i0 + k < s.rBlocks r)
    ((bad.foldl (fun s k => (s.addRef (s.btab r (i0 + k)).1).bump Reg.IB_STAT_LEAKED) s).requestUncorr r)|> ib
  | _, _, some o, _, _, _ => ((List.range 4).foldl (fun s k => s.pageUncorr (o / 16 + k)) s)|> ib
  | _, _, _, some o, _, _ =>
    let lost := (List.range 4).filterMap fun k => let e := s.indexEntry (s.indexAddr 0 0 + o + 16 * k); if e.2.1 then some e.2.2 else none
    (lost.foldl (fun s p => s.pageUncorr p) s)|> ib
  | _, _, _, _, some o, _ => (s.requestUncorr (o / 512))|> bt
  | _, _, _, _, _, some o => (s.requestUncorr (o / 32768))|> bt
  | _, _, _, _, _, _ => s

/-- Ibex and the batcher find the poisoned lines of their structures (log entry 90). -/
def findTableErrors (s : State) : State :=
  if s.poison = [] ∨ !s.ib.active then s
  else
    let own := s.ibTables ++ s.btTables
    let bad := s.poison.filter fun l => own.any fun r => decide (r.1 ≤ 64 * l ∧ 64 * l < r.1 + r.2)
    bad.foldl (fun s l => s.tableError l) { s with poison := s.poison.filter fun l => !decide (l ∈ bad) }

/-- The serving hold is asserted (R34). -/
def servingHold (s : State) : Bool := s.regBit Reg.BT_CTRL 0 && s.openReqs.any fun r => decide (s.rState r = RUNNING)

end State

end Sys2Proof.Machine
end

