-- ==== Sys2Proof/Machine/Coherence.lean ====
section
/-! DEFINITION. Answers and races at the homes (spec/07): snoop answers and their data (R207), eviction notices (R218), BIConflict (R219),
timeouts (R216, R220), the near and far choice of an atomic (R226), and the progress of waiting transactions (R213 to R215). -/

namespace Sys2Proof.Machine

/-- The answers of a chip agent to a snoop (R207 Table 4). -/
inductive Answer where
  | i
  | s
  | fwdS
  | fwdF
  | fwdI
  | iWb
  | fwdV
deriving DecidableEq, Repr

/-- Whether a snoop may be answered so (R207 Table 4). -/
def Answer.fits (a : Answer) (k : Snoop) : Bool :=
  match k, a with
  | .data, .fwdS | .data, .s | .data, .i => true
  | .shr, .fwdF | .shr, .s | .shr, .i => true
  | .invFwd, .fwdI | .invFwd, .i => true
  | .inv, .iWb | .inv, .i => true
  | .cur, .fwdV | .cur, .s | .cur, .i => true
  | _, _ => false

namespace State

/-! ### Starting what waits -/

/-- The index of a predictor counter (R226). -/
def predIndex (line : Nat) : Nat :=
  let la := if isHostLine line then hostLa line else line
  (la % 4096) ^^^ ((la >>> 12) % 4096) ^^^ ((la >>> 24) % 4096) ^^^ ((la >>> 36) % 64)

/-- A predictor counter; every counter starts at 1 (R226). -/
def predCounter (s : State) (slice i : Nat) : Nat := Map.getD 1 (slice * 4096 + i) s.sf.pred
def setPred (slice i v : Nat) (s : State) : State := s.modSf fun f => { f with pred := Map.put 1 (slice * 4096 + i) v f.pred }

/-- An atomic is contended (R226): the line has another holder, or another request for it waits. -/
def contended (s : State) (t : Txn) : Bool :=
  (s.sf.txns.any fun x => decide (x.line = t.line) && !decide (x.slice = t.slice ∧ x.tag = t.tag)) ||
    (match s.sfEntry t.line with
     | some e => e.multi || e.host || decide (e.st = .hostx) || decide (e.fwd ≠ 31 ∧ e.fwd ≠ askerAgent t.asker)
     | none => false)

/-- An agent's atomic is made near or far when it is looked up (R226). -/
def decideAtomic (t : Txn) (s : State) : Txn × State :=
  match t.kind, t.asker with
  | .atomic _ aop size off opnd bad, .agent _ _ _ =>
    if t.decided then (t, s)
    else
      let i := predIndex t.line
      let c := s.predCounter t.slice i
      let far := match s.regBits Reg.SF_CTRL 1 0 with
        | 1 => false
        | 2 => true
        | _ => decide (2 ≤ c)
      let s := s.setPred t.slice i (if s.contended t then min 3 (c + 1) else c - 1)
      let t := { t with kind := .atomic far aop size off opnd bad, decided := true }
      (t, (s.setTxn t).bump (if far then Reg.SF_STAT_ATOMIC_FAR else Reg.SF_STAT_ATOMIC_NEAR))
  | _, _ => (t, s)

/-- Starts a transaction, or tries it again where it waited for a way, a frame, or an earlier write of its line. -/
def startTxn (t : Txn) (s : State) : State :=
  if t.phase = .needWay ∧ s.victimOpen t then s else
  let r := s.decideAtomic t
  match r.1.phase with
  | .queued | .needWay => if isHostLine t.line then r.2.startDc r.1 else r.2.startHome r.1
  | .place => if s.putWaits t.line then s else r.2.proceed r.1
  | .snooping => r.2.checkAnswers r.1
  | _ => r.2

/-- The transactions that can be tried: the first of their lines, waiting for nothing that a message brings (R213, R214). -/
def startable (s : State) : List Txn :=
  s.sf.txns.filter fun t =>
    (match t.phase with
     | .queued | .needWay | .place => true
     | .snooping => t.snoops.isEmpty && !t.needDat && t.early.isNone
     | _ => false) && (!s.moving t.line || decide (t.asker = .home)) &&
      (match s.openTxn? t.line with | some o => decide (o.slice = t.slice ∧ o.tag = t.tag) | none => false)

/-- The class of a request at its home (R32 Table 5): 0 the chip cores' and the host's, 1 critical block traffic, 2 bulk. -/
def homeClass (s : State) (t : Txn) : Nat :=
  match t.asker with
  | .nc (.nt _ _) | .nc (.uc _ _ _) => 0
  | .nc (.row _) | .nc (.slot _) | .nc (.shadow _) | .nc (.entry _ _) | .nc (.deferred _) | .nc (.token _) | .nc (.head _) => 1
  | .nc (.move id) => if s.ch.moves.any fun m => decide (m.id = id ∧ m.kind = .fetch) then 1 else 2
  | .nc _ => 2
  | _ => 0

/-- A transaction that can be tried is tried, if it is still there and the first of its line. -/
def tryTxn (t : Txn) (s : State) : State :=
  match s.txn? t.slice t.tag with
  | some x => if (match s.openTxn? x.line with | some o => decide (o.slice = x.slice ∧ o.tag = x.tag) | none => false) then s.startTxn x else s
  | none => s

/-- Tries each of some transactions once, home by home, in the turns of R32: chip cores and critical traffic in turn, and bulk traffic at least
at each eighth grant. -/
def pumpTurns : Nat → List Txn → State → State
  | 0, _, s => s
  | n + 1, l, s =>
    let mine (t : Txn) : Bool := match l with | h :: _ => decide (t.slice = h.slice) | [] => false
    let last := Map.getD (0, 0) ((l.head?.map (·.slice)).getD 0) s.sf.turns
    let rank (t : Txn) : Nat := if s.homeClass t = 2 then 2 else if s.homeClass t = last.1 then 1 else 0
    match nextGrant rank last.2 (l.filter mine) with
    | none => s
    | some t =>
      let c := s.homeClass t
      let bulk := (l.filter mine).any fun x => decide (s.homeClass x = 2)
      let r := s.tryTxn t
      pumpTurns n (l.erase t)
        (if r.txn? t.slice t.tag = s.txn? t.slice t.tag then r
         else r.modSf fun f => { f with turns := Map.put (0, 0) t.slice (c, if c = 2 ∨ !bulk then 0 else last.2 + 1) f.turns })

/-- Tries each transaction that can be tried, once. -/
def pumpTxns (s : State) : State :=
  let l := s.startable
  pumpTurns l.length l s

/-- A request that waits in an ingress is tried once more, unless one before it waits on (R215). An agent's REQ credit, withheld until then,
returns. -/
def readmit (s : State) (h : Held) : State :=
  let slice := s.sliceOf h.line
  let again : State := s.hold slice h.line h.kind h.asker h.credit h.ctx h.off
  if !s.homeReady slice h.line || (h.credit.isNone && s.heldBefore slice h.asker) then again
  else match h.asker with
  | .agent p g x =>
    if h.credit.isSome || ((s.generalTag slice).isSome && !s.allPinned h.line h.kind) || (s.bullpenFree slice).isSome then
      ((s.agentRequest slice h.line h.kind p g x h.credit h.ctx h.off).modFp fun f =>
        { f with reqCrd := Map.put 48 p (Map.getD 48 p f.reqCrd + 1) f.reqCrd }).sendCrd p (.crd p 1 0 0 false)
    else again
  | .host _ => if isHostLine h.line then s.hostSnoop (hostLa h.line) h.kind else s.addHomeTxn h.line h.kind h.asker
  | _ => s.addHomeTxnFor h.ctx h.line h.kind h.asker

/-- The requests held in the ingresses are tried in their order (R215). -/
def pumpHeld (s : State) : State := s.sf.held.foldl (fun s h => s.readmit h) (s.modSf fun f => { f with held := [] })

/-! ### Snoop answers (R207) -/

/-- The snoop that a transaction sent an agent. -/
def snoopOf (s : State) (t : Txn) (a : Nat) : Option Snoop :=
  ((snoopPlan t.kind (s.sfEntry t.line) (askerAgent t.asker) s.portOn).1.find? fun p => decide (p.1 = a)).map (·.2)

/-- An agent is the recorded holder in EXCL or FWD. -/
def isHolder (s : State) (line a : Nat) : Bool :=
  match s.sfEntry line with
  | some e => decide (e.fwd = a) && decide (e.st = .excl ∨ e.st = .fwd)
  | none => false

/-- A snoop answer of an agent (R207). RSP_I from the recorded holder to a snoop that it would have answered with data waits for the
holder's eviction notice (R218; log entry 23). -/
def snoopAnswer (slice tag a : Nat) (x : Answer) (s : State) : State :=
  match s.txnAt slice tag with
  | none => s.protocolErr 0
  | some t =>
    match s.snoopOf t a with
    | none => s.protocolErr t.line
    | some k =>
      if a ∉ t.snoops ∨ t.phase ≠ .snooping ∨ !x.fits k then s.protocolErr t.line
      else
        let t := { t with snoops := t.snoops.filter (· ≠ a) }
        let lacks := t.data.isNone && !t.direct
        let s := if x ≠ .i ∧ x ≠ .s ∧ t.evicted ∧ t.tag < 256 then s.awaitLate t a 0 else s
        match x with
        | .i =>
          if k ≠ .inv ∧ s.isHolder t.line a ∧ !t.evicted then s.setTxn { t with early := some a, since := s.now }
          else s.checkAnswers t
        | .s => s.checkAnswers t
        | .fwdF => s.checkAnswers { t with fwd := true, keptF := true, needDat := t.needDat || lacks }
        | .iWb => s.checkAnswers { t with needDat := t.needDat || t.data.isNone }
        | _ => s.checkAnswers { t with fwd := true, needDat := t.needDat || lacks }

/-- Data of a holder that comes after its answer has closed the transaction (R207): the bytes that nothing has replaced go to memory. -/
def lateData (slice tag : Nat) (d : Dat) (s : State) : State :=
  match s.sf.late.find? fun l => decide (l.slice = slice ∧ l.tag = tag ∧ l.agent = d.agent.toNat) with
  | some l =>
    let s := s.modSf fun f => { f with late := f.late.filter (· ≠ l) }
    if isHostLine l.line ∨ l.mask = 0 then s else s.memPut l.line l.mask d.data d.poison
  | none => s.protocolErr 0

/-- The data differs from the slice's line: the holder had it in M (R222, R223). -/
def wasDirty (s : State) (line : Nat) (d : Line) : Bool :=
  isHostLine line && (match s.dcFind (hostLa line) with | some (_, e) => decide (e.data ≠ d) | none => false)

/-- A SNOOP slot (R207, Table 8 of spec/17): data for the home, or for the requester, to which the block delivers it. Data for the home is
dirty where it is so marked, where an agent is the requester, where it is the holder's second, and where a host line differs from the
slice's. -/
def snoopData (d : Dat) (s : State) : State :=
  let slice := d.homeTag.toNat / 256
  let tag := d.homeTag.toNat % 256
  match (s.txnAt slice tag).filter fun t => decide (t.phase = .snooping) && (s.snoopOf t d.agent.toNat).isSome with
  | none => s.lateData slice tag d
  | some t =>
    if d.dest.toNat = 31 then
      let agentAsks := match t.asker with | .agent _ _ _ => true | _ => false
      let dirty := d.dirty || agentAsks || t.data.isSome || s.wasDirty t.line d.data
      (if dirty then s.wroteRsv t.line d.agent.toNat else s).checkAnswers
        { t with data := some d.data, poison := t.poison || d.poison, dirty := t.dirty || dirty, needDat := false }
    else if (match t.asker with | .agent _ a x => decide (a = d.dest.toNat ∧ x = d.txn.toNat) | _ => false) then
      -- the dirty line of a holder that keeps a copy goes to the home as well
      let more := t.data.isNone && !d.dirty && s.snoopOf t d.agent.toNat = some .data && s.wasDirty t.line d.data
      ((if d.dirty || more then s.wroteRsv t.line d.agent.toNat else s).emit
        (.dat (agentPort s d.dest.toNat) d.dest.toNat d.txn.toNat 0 d.data d.poison d.dirty)).checkAnswers
        { t with direct := true, directDirty := t.directDirty || d.dirty, needDat := more }
    else s.protocolErr t.line

/-! ### Eviction notices (R209, R218) -/

/-- CMP ends an eviction. -/
def cmpTo (a x : Nat) (err : Bool) (s : State) : State := s.emit (.rsp (agentPort s a) a x .cmp err false 0)

/-- The slice of a line is being moved and agent `a` flushes it (R431). -/
def flushingFor (s : State) (line a : Nat) : Bool :=
  s.sf.flushing.any fun f => decide (f.1 = sliceHash line) && decide (agentPort s a ∈ f.2)

/-- An eviction notice with its data, none for EVICT_CLEAN (R209, R218, R222, R431). It is matched to the line's open transaction, where it
answers the snoop that crosses it, or else ends the holder's entry at once. -/
def evictNotice (a x line : Nat) (d : Option (Line × Bool)) (s : State) : State :=
  let put (s : State) : State := match d with
    | some (l, p) => ((s.sampleLine line).memPut line (BitVec.allOnes 64) l p).wroteRsv line a
    | none => s
  let entry := s.sfEntry line
  let recorded := match entry with
    | some e => decide (e.fwd = a) && (decide (e.st = .excl) || (d.isNone && decide (e.st = .fwd)))
    | none => false
  if !recorded then
    if d.isSome && !isHostLine line && s.flushingFor line a then (put s).cmpTo a x false else s.protocolErr line
  else
    match s.sf.txns.find? fun t => decide (t.line = line) && decide (t.phase = .snooping) && (decide (t.early = some a) || (s.snoopOf t a).isSome) with
    | some t =>
      -- the holder may have answered already: its notice serves in place of the data still to come
      let answered := decide (a ∉ t.snoops ∧ t.early ≠ some a)
      let s := if answered && t.needDat && d.isSome then s.awaitLate t a 0 else s
      ((put (s.bump Reg.SF_STAT_CROSS)).cmpTo a x false).checkAnswers
        { t with evicted := true, keptF := false, early := none, data := (d.map (·.1)).orElse fun _ => t.data, needDat := t.needDat && d.isNone,
                 poison := t.poison || (d.map (·.2)).getD false }
    | none =>
      let s : State := match s.openTxn? line with
        | some t =>
          let s := s.bump Reg.SF_STAT_CROSS
          -- a page move copies the newer bytes as well (R189)
          (match t.kind, d with
           | .moveLine _, some (l, p) => s.setTxn { t with data := some l, poison := p, decided := false }
           | _, _ => s)
        | none => s
      let left := entry.bind fun e => if e.st = .fwd ∧ (e.multi ∨ e.host) then some { e with st := SfSt.shared, fwd := 31 } else none
      let s := put s
      (match left with | some e => s.sfWrite line (some e) | none => s.sfFree line).cmpTo a x false

/-! ### Timeouts (R216, R220) -/

/-- An agent has not answered a snoop (R220): as if it had answered RSP_I. The line of an EXCL holder, or of the host in HOSTX, is written
to memory poisoned, with bytes that no reader sees (log entry 6). -/
def snoopLost (slice tag a : Nat) (s : State) : State :=
  match s.txnAt slice tag with
  | none => s
  | some t =>
    if t.phase ≠ .snooping ∨ (a ∉ t.snoops ∧ t.early ≠ some a) then s
    else
      let cap : Capture := { Capture.none with addr := w64 (64 * t.line), space := 1, access := 3, cls := if a = 16 then 0 else 1, index := a }
      let s : State := if t.early = some a then s.raise Reg.SF Err.SF_PROTOCOL cap else s
      let s := s.raise Reg.SF Err.SF_SNOOP_TIMEOUT cap
      let lost := match s.sfEntry t.line with
        | some e => (decide (e.st = .excl) && decide (e.fwd = a)) || (decide (e.st = .hostx) && decide (a = 16))
        | none => false
      let held := s.isHolder t.line a || lost
      let t := { t with snoops := t.snoops.filter (· ≠ a), early := if t.early = some a then none else t.early, evicted := t.evicted || held }
      if lost then
        let r := s.freshLine
        (r.2.memPut t.line (BitVec.allOnes 64) r.1 true).checkAnswers { t with data := some r.1, dirty := false, poison := true }
      else s.checkAnswers t

/-- A Bullpen credit returns unused (R216). -/
def creditExpire (slice n : Nat) (s : State) : State :=
  if s.sf.credits.any fun c => decide (c.slice = slice ∧ c.num = n) then
    (s.modSf fun f => { f with credits := f.credits.filter fun c => !decide (c.slice = slice ∧ c.num = n) }).bump Reg.SF_STAT_CREDIT_EXPIRE
  else s

/-! ### The host's side (R209, R210, R219) -/

/-- The transaction that awaits the host's answer to a BISnp for a line. -/
def biTxn? (s : State) (line : Nat) : Option Txn :=
  s.sf.txns.find? fun t => decide (t.line = line) && decide (t.phase = .snooping) && decide (16 ∈ t.snoops)

/-- BIRsp (R209, R219). -/
def biAnswer (line : Nat) (s : State) : State :=
  match s.biTxn? line with
  | none => s.protocolErr line
  | some t =>
    s.checkAnswers { t with snoops := t.snoops.filter (· ≠ 16) }

/-- BIConflict (R219): it waits for the BIRsp of an outstanding BISnp, or for the grant of the host request that the home serves. -/
def biConflict (line : Nat) (s : State) : State :=
  let s := s.bump Reg.SF_STAT_BICONFLICT
  let waits (c : Option (Nat × Nat)) : State := s.modSf fun f => { f with conflicts := f.conflicts ++ [(line, c)] }
  if (s.biTxn? line).isSome then waits none
  else match (s.openTxn? line).filter fun t => match t.asker with | .host _ => true | _ => false with
    | some t => waits (some (t.slice, t.tag))
    | none => s.emit (.biConflictAck line)

/-- BIConflictAck for the conflicts whose wait is over (R219). -/
def ackConflicts (s : State) : State :=
  let ended (c : Nat × Option (Nat × Nat)) : Bool := match c.2 with
    | none => (s.biTxn? c.1).isNone
    | some r => !(s.sf.txns.any fun t => decide (t.line = c.1 ∧ t.slice = r.1 ∧ t.tag = r.2))
  (s.sf.conflicts.filter ended).foldl (fun s c => s.emit (.biConflictAck c.1)) (s.modSf fun f => { f with conflicts := f.conflicts.filter fun c => !ended c })

/-- A host request reaches the home of a device-memory line (R210, R219). A write while the home's BISnp is out is the write-back that
comes before the host's answer. -/
def hostRequest (line tag : Nat) (k : TxnKind) (s : State) : State :=
  match k, s.biTxn? line with
  | .memWrite _ mask d p, some _ => ((s.memPut line mask d p).breakRsv line none).emit (.memCmp tag .i)
  | _, _ => s.accept line k (.host tag) none 0 0

end State

end Sys2Proof.Machine
end

