-- ==== Sys2Proof/Machine/ConfigSpace.lean ====
section
/-! DEFINITION. Configuration space of the PF and the VFs (R298 to R301, R305, R307): what each dword reads, which of its bits can be
written, and what a write of them does to the dword. The offsets, capabilities and values are those of Tables 2 and 3 of spec/11; the
places of the fields inside a capability, which the tables leave to the standards they name, are those of PCIe and CXL (PRESUMED, log
entry 15). -/

namespace Sys2Proof.Machine

/-- One dword of configuration space: what it reads after reset, and the bits that are RW and W1C. -/
structure CfgDw where
  off  : Nat
  init : Nat
  rw   : Nat
  w1c  : Nat
deriving DecidableEq, Repr

/-- The header of an extended capability: identifier, version and the next capability. -/
def extCap (id ver next : Nat) : Nat := id + ver * 2 ^ 16 + next * 2 ^ 20

/-- The dwords of the PF (R298 Table 2, R299 Table 3) whose value no other state of the block gives. -/
def pfHeader : List CfgDw :=
  [⟨0x04, 0x00100000, 0x546, 0xF9000000⟩, ⟨0x0C, 0, 0xFF, 0⟩,
   ⟨0x10, 0x4, 0xFC000000, 0⟩, ⟨0x14, 0, 0xFFFFFFFF, 0⟩, ⟨0x1C, 0, 0xFFFFFFFF, 0⟩,
   ⟨0x20, 0x4, 0xFFC00000, 0⟩, ⟨0x24, 0, 0xFFFFFFFF, 0⟩, ⟨0x30, 0, 0, 0⟩, ⟨0x34, 0x40, 0, 0⟩, ⟨0x3C, 0x100, 0xFF, 0⟩]

/-- Power Management, PCI Express, MSI and MSI-X. -/
def pfCaps : List CfgDw :=
  [⟨0x40, 0x00035001, 0, 0⟩, ⟨0x44, 0x8, 0x3, 0⟩,
   ⟨0x50, 0x00029010, 0, 0⟩, ⟨0x58, 0x2000, 0x71EF, 0x000F0000⟩, ⟨0x60, 0, 0xCB, 0⟩, ⟨0x74, 0x00030993, 0, 0⟩,
   ⟨0x78, 0, 0x141F, 0⟩, ⟨0x7C, 0x7E, 0, 0⟩, ⟨0x80, 0x6, 0xF, 0x00200000⟩,
   ⟨0x90, 0x018AB005, 0x00710000, 0⟩, ⟨0x94, 0, 0xFFFFFFFC, 0⟩, ⟨0x98, 0, 0xFFFFFFFF, 0⟩, ⟨0x9C, 0, 0xFFFF, 0⟩,
   ⟨0xA0, 0, 0xFFFFFFFF, 0⟩, ⟨0xA4, 0, 0, 0⟩, ⟨0xB4, 0x00940000, 0, 0⟩, ⟨0xB8, 0x00960000, 0, 0⟩]

/-- AER, ATS, PRI, PASID, PTM, LTR and L1 PM Substates. -/
def pfExt : List CfgDw :=
  [⟨0x100, extCap 0x0001 2 0x148, 0, 0⟩, ⟨0x104, 0, 0, 0x34DFF030⟩, ⟨0x108, 0x00400000, 0x34DFF030, 0⟩,
   ⟨0x10C, 0x00462030, 0x34DFF030, 0⟩, ⟨0x110, 0, 0, 0xF1C1⟩, ⟨0x114, 0xE000, 0xF1C1, 0⟩, ⟨0x118, 0xA0, 0x140, 0⟩,
   ⟨0x148, extCap 0x000F 1 0x150, 0, 0⟩, ⟨0x14C, 0x60, 0x801F0000, 0⟩,
   ⟨0x150, extCap 0x0013 1 0x160, 0, 0⟩, ⟨0x154, 0x80000000, 0x1, 0x00030000⟩, ⟨0x158, 4096, 0, 0⟩, ⟨0x15C, 0, 0xFFFFFFFF, 0⟩,
   ⟨0x160, extCap 0x001B 1 0x168, 0, 0⟩, ⟨0x164, 0x1400, 0x10000, 0⟩,
   ⟨0x168, extCap 0x001F 1 0x174, 0, 0⟩, ⟨0x16C, 0x101, 0, 0⟩, ⟨0x170, 0, 0xFF01, 0⟩,
   ⟨0x174, extCap 0x0018 1 0x17C, 0, 0⟩, ⟨0x178, 0, 0x1FFF1FFF, 0⟩,
   ⟨0x17C, extCap 0x001E 1 0x190, 0, 0⟩, ⟨0x180, 0x00210A1C, 0, 0⟩, ⟨0x184, 0, 0xE3FFFF0C, 0⟩, ⟨0x188, 0x21, 0xFB, 0⟩]

/-- The link capabilities, Lane Margining, DOE, ARI, IDE and SR-IOV. -/
def pfLink : List CfgDw :=
  [⟨0x190, extCap 0x0019 1 0x1C0, 0, 0⟩, ⟨0x194, 0, 0x3, 0⟩, ⟨0x198, 0, 0, 0xFFFF⟩,
   ⟨0x1C0, extCap 0x0025 1 0x1D0, 0, 0⟩, ⟨0x1C4, 0x80000001, 0, 0⟩,
   ⟨0x1D0, extCap 0x0026 1 0x200, 0, 0⟩, ⟨0x1DC, 0, 0, 0x10⟩, ⟨0x1E0, 0, 0, 0xFFFF⟩, ⟨0x200, extCap 0x002A 1 0x230, 0, 0⟩, ⟨0x204, 0x1, 0, 0⟩,
   ⟨0x208, 0, 0x703, 0⟩, ⟨0x20C, 0, 0, 0x10⟩, ⟨0x230, extCap 0x0031 1 0x250, 0, 0⟩, ⟨0x23C, 0, 0, 0x10⟩,
   ⟨0x250, extCap 0x0027 1 0x2A0, 0, 0⟩, ⟨0x254, 0x00010000, 0, 0⟩, ⟨0x2A0, extCap 0x002E 1 0x2B8, 0, 0⟩, ⟨0x2A4, 0x1, 0, 0⟩, ⟨0x2A8, 0, 0x2, 0⟩,
   ⟨0x2B8, extCap 0x000E 1 0x2C0, 0, 0⟩, ⟨0x2C0, extCap 0x0030 1 0x340, 0, 0⟩, ⟨0x2C4, 0x00010003, 0, 0⟩, ⟨0x2C8, 0, 0x1, 0⟩,
   ⟨0x2CC, 0, 0xFF00C1FF, 0⟩, ⟨0x2D0, 0, 0, 0x80000000⟩,
   ⟨0x2D4, 0x1, 0, 0⟩, ⟨0x2D8, 0, 0xFF00C3FF, 0⟩, ⟨0x2DC, 0, 0, 0x80000000⟩, ⟨0x2E0, 0, 0x00FFFF00, 0⟩, ⟨0x2E4, 0, 0x00FFFF01, 0⟩,
   ⟨0x2E8, 0, 0xFFF00001, 0⟩, ⟨0x2EC, 0, 0xFFFFFFFF, 0⟩, ⟨0x2F0, 0, 0xFFFFFFFF, 0⟩,
   ⟨0x2F4, 0x1, 0, 0⟩, ⟨0x2F8, 0, 0xFF00C3FF, 0⟩, ⟨0x2FC, 0, 0, 0x80000000⟩, ⟨0x300, 0, 0x00FFFF00, 0⟩, ⟨0x304, 0, 0x00FFFF01, 0⟩,
   ⟨0x308, 0, 0xFFF00001, 0⟩, ⟨0x30C, 0, 0xFFFFFFFF, 0⟩, ⟨0x310, 0, 0xFFFFFFFF, 0⟩,
   ⟨0x340, extCap 0x0010 1 0x380, 0, 0⟩, ⟨0x344, 0, 0, 0⟩, ⟨0x348, 0, 0x19, 0⟩, ⟨0x350, 0, 0xFFFF, 0⟩, ⟨0x354, 0x00010001, 0, 0⟩,
   ⟨0x35C, 0x11, 0, 0⟩, ⟨0x360, 0x1, 0x11, 0⟩, ⟨0x364, 0x4, 0xFFFFC000, 0⟩, ⟨0x368, 0, 0xFFFFFFFF, 0⟩,
   ⟨0x374, 0x4, 0xFFFFF000, 0⟩, ⟨0x378, 0, 0xFFFFFFFF, 0⟩]

/-- The DVSECs of CXL: devices, non-CXL functions, Flex Bus Port and Register Locator. -/
def pfCxl : List CfgDw :=
  [⟨0x380, extCap 0x0023 1 0x3C0, 0, 0⟩, ⟨0x384, 0x03C31E98, 0, 0⟩, ⟨0x388, 0x00270000, 0, 0⟩, ⟨0x38C, 0x2, 0x5, 0⟩,
   ⟨0x394, 0x40020000, 0x1, 0⟩, ⟨0x3A0, 0, 0xFFFFFFFF, 0⟩, ⟨0x3A4, 0, 0xF0000000, 0⟩, ⟨0x3B0, 0, 0xFFFFFFFF, 0⟩, ⟨0x3B4, 0, 0xF0000000, 0⟩,
   ⟨0x3C0, extCap 0x0023 1 0x400, 0, 0⟩, ⟨0x3C4, 0x02C01E98, 0, 0⟩, ⟨0x3C8, 0x2, 0, 0⟩, ⟨0x3CC, 0xFFFFFFFE, 0, 0⟩,
   ⟨0x3D0, 0xFFFFFFFF, 0, 0⟩, ⟨0x3D4, 0xFFFFFFFF, 0, 0⟩, ⟨0x3D8, 0xFFFFFFFF, 0, 0⟩, ⟨0x3DC, 0xFFFFFFFF, 0, 0⟩, ⟨0x3E0, 0xFFFFFFFF, 0, 0⟩,
   ⟨0x3E4, 0xFFFFFFFF, 0, 0⟩, ⟨0x3E8, 0xFFFFFFFF, 0, 0⟩,
   ⟨0x400, extCap 0x0023 1 0x420, 0, 0⟩, ⟨0x404, 0x02021E98, 0, 0⟩, ⟨0x408, 0x20270007, 0, 0⟩,
   ⟨0x420, extCap 0x0023 1 0, 0, 0⟩, ⟨0x424, 0x01C01E98, 0, 0⟩, ⟨0x428, 0x8, 0, 0⟩, ⟨0x42C, 0x00980100, 0, 0⟩, ⟨0x434, 0x00990300, 0, 0⟩]

/-- The dwords of the PF. -/
def pfDws : List CfgDw := pfHeader ++ pfCaps ++ pfExt ++ pfLink ++ pfCxl

/-- The dwords of a VF (R301): the header, PCI Express, MSI-X, AER, ATS, PRI and ARI, and nothing else. -/
def vfDws : List CfgDw :=
  [⟨0x00, 0xFFFFFFFF, 0, 0⟩, ⟨0x04, 0x00100000, 0x4, 0xF9000000⟩, ⟨0x34, 0x50, 0, 0⟩,
   ⟨0x50, 0x0002B010, 0, 0⟩, ⟨0x54, 0x10008022, 0, 0⟩, ⟨0x58, 0, 0, 0x000F0000⟩, ⟨0x74, 0x00030993, 0, 0⟩,
   ⟨0xB4, 0, 0, 0⟩, ⟨0xB8, 0x2000, 0, 0⟩,
   ⟨0x100, extCap 0x0001 2 0x148, 0, 0⟩, ⟨0x104, 0, 0, 0x34DFF030⟩, ⟨0x108, 0, 0, 0⟩, ⟨0x10C, 0, 0, 0⟩, ⟨0x110, 0, 0, 0xF1C1⟩,
   ⟨0x148, extCap 0x000F 1 0x150, 0, 0⟩, ⟨0x14C, 0x60, 0x801F0000, 0⟩,
   ⟨0x150, extCap 0x0013 1 0x160, 0, 0⟩, ⟨0x154, 0x80000000, 0x1, 0x00030000⟩, ⟨0x158, 4096, 0, 0⟩, ⟨0x15C, 0, 0xFFFFFFFF, 0⟩,
   ⟨0x160, extCap 0x000E 1 0, 0, 0⟩]

/-- The BAR2 size as a shift (R302 Table 4). -/
def State.bar2Shift (s : State) : Nat := 28 + min 4 (bits s.up.trainedCfg 4 2)

/-- TotalVFs (R307). -/
def State.totalVfs (s : State) : Nat :=
  min 255 (min s.boot.ids.vfCount ((2048 - s.vectorCount 0) / s.vectorCount 1))

/-- The pages of a VF's BAR4 (R302, R322). -/
def State.vfDbPages (s : State) : Nat := max 1 (min 16 (bits s.up.trainedCfg 39 32))

/-- The System Page Size in force (R307): 4 KiB or 64 KiB. -/
def State.sysPage (s : State) : Nat :=
  let v : BitVec 32 := 1 ^^^ s.cfgDw 0 0x360
  if !v.getLsbD 0 && v.getLsbD 4 then 65536 else 4096

/-- The size of a VF BAR (R302 Table 4): rounded up to the System Page Size, and to a power of two as a BAR's size is. -/
def State.vfBarSize (s : State) (bytes : Nat) : Nat :=
  let n := max bytes s.sysPage
  (List.range 32).foldl (fun r k => if n ≤ 2 ^ (31 - k) then 2 ^ (31 - k) else r) (2 ^ 31)

/-- The equalisation control of two lanes of the upstream port at a speed (R299, R335): the transmitter presets of both ends, from the image. -/
def State.laneEq (s : State) (speed : Nat) : Nat :=
  match s.boot.eq.find? fun r => decide (r.port = 8 ∧ r.rate + 3 = speed) with
  | some r => r.own % 16 + r.far % 16 * 2 ^ 4
  | none => if speed = 6 then 0 else 0x44

/-- The dwords of lane equalisation control: two lanes each at 8 GT/s, four at the higher speeds. -/
def State.eqDyn (s : State) (off : Nat) : Nat :=
  if 0x19C ≤ off ∧ off < 0x1BC then
    let p := s.laneEq 3
    (p % 16 + p / 16 * 2 ^ 8) * (1 + 2 ^ 16)
  else if 0x1F0 ≤ off ∧ off < 0x200 then s.laneEq 4 * 0x01010101
  else if 0x220 ≤ off ∧ off < 0x230 then s.laneEq 5 * 0x01010101
  else if 0x240 ≤ off ∧ off < 0x250 then s.laneEq 6 * 0x01010101
  else 0

/-- The AER header log of a function. -/
def State.hdrDyn (s : State) (fn off : Nat) : Nat :=
  let h := Map.getD (0, 0) fn s.up.hdrLog
  if off = 0x11C then bits h.1 31 0
  else if off = 0x120 then bits h.1 63 32
  else if off = 0x124 then bits h.2 31 0
  else if off = 0x128 then bits h.2 63 32
  else 0

/-- What the DOE mailbox's status and read mailbox read. -/
def State.doeDyn (s : State) (off : Nat) : Nat :=
  if off = 0x2AC then b2n s.up.doe.intr * 2 + b2n (!s.up.doe.rd.isEmpty) * 2 ^ 31
  else if off = 0x2B4 then (s.up.doe.rd.headD 0).toNat
  else 0

/-- What the block's state gives a dword of the PF to read, in bits that are not RW. -/
def State.pfDyn (s : State) (off : Nat) : Nat :=
  let ids := s.boot.ids
  let u := s.up
  let range (size : Word) (high : Bool) : Nat :=
    let bytes := bits size 19 0 * 2 ^ 28
    if high then bytes / 2 ^ 32 else bytes % 2 ^ 32 / 2 ^ 28 * 2 ^ 28 + (if bytes = 0 then 0 else 1) + b2n s.boot.loaded * 2
  if off = 0x00 then ids.vendor + ids.device * 2 ^ 16
  else if off = 0x04 then b2n u.intaLevel * 2 ^ 19
  else if off = 0x08 then ids.revision + ids.cls * 2 ^ 8
  else if off = 0x18 then 0xC
  else if off = 0x2C then ids.subVendor + ids.subsystem * 2 ^ 16
  else if off = 0x54 then 0x10008DA2 + min 255 u.slotPower * 2 ^ 18
  else if off = 0x5C then 6 + (if bit u.trainedCfg 0 then 8 else 16) * 2 ^ 4 + 3 * 2 ^ 10 + 3 * 2 ^ 12 + 4 * 2 ^ 15 + 2 ^ 22
  else if off = 0x60 then u.speed * 2 ^ 16 + u.width * 2 ^ 20
  else if off = 0xB0 then 0x11 + (s.vectorCount 0 - 1) * 2 ^ 16
  else if off = 0x154 then b2n s.ch.stopped * 2 ^ 24
  else if off = 0x34C then s.totalVfs + s.totalVfs * 2 ^ 16
  else if off = 0x358 then ids.vfDevice * 2 ^ 16
  else if off = 0x398 then range u.hdmSize0 true
  else if off = 0x39C then range u.hdmSize0 false
  else if off = 0x3A8 then range u.hdmSize1 true
  else if off = 0x3AC then range u.hdmSize1 false
  else s.eqDyn off + s.hdrDyn 0 off + s.doeDyn off

/-- What the block's state gives a dword of a VF to read. -/
def State.vfDyn (s : State) (fn off : Nat) : Nat :=
  if off = 0xB0 then 0x11 + (s.vectorCount 1 - 1) * 2 ^ 16 else s.hdrDyn fn off

/-- The row of a dword: what is not listed reads 0 and cannot be written. The sizes of BAR2 and of the VFs' BARs follow UP_CFG and the System Page
Size, MSI-X control can be written in every function, and Lane Margining has a control register for each of 16 lanes. -/
def State.cfgRow (s : State) (fn off : Nat) : CfgDw :=
  if off = 0xB0 then ⟨off, 0, 0xC0000000, 0⟩
  else if fn = 0 ∧ off = 0x18 then ⟨off, 0, 2 ^ 32 - 2 ^ min 32 s.bar2Shift, 0⟩
  else if fn = 0 ∧ off = 0x364 then ⟨off, 0x4, 2 ^ 32 - s.vfBarSize 16384, 0⟩
  else if fn = 0 ∧ off = 0x374 then ⟨off, 0x4, 2 ^ 32 - s.vfBarSize (4096 * s.vfDbPages), 0⟩
  else if fn = 0 ∧ 0x258 ≤ off ∧ off < 0x298 then ⟨off, 0x9C38, 0xFF7F, 0⟩
  else ((if fn = 0 then pfDws else vfDws).find? fun r => decide (r.off = off)).getD ⟨off, 0, 0, 0⟩

/-- What a dword of configuration space reads. The stored dword holds the bits that differ from reset. -/
def State.cfgRead (s : State) (fn off : Nat) : BitVec 32 :=
  (BitVec.ofNat 32 ((s.cfgRow fn off).init + (if fn = 0 then s.pfDyn off else s.vfDyn fn off))) ^^^ s.cfgDw fn off

/-- The dword that a write of `v` under the byte enables leaves stored: RW bits take the value, W1C bits written as 1 are cleared. -/
def State.cfgMerge (s : State) (fn off : Nat) (be : BitVec 4) (v : BitVec 32) : BitVec 32 :=
  let r := s.cfgRow fn off
  let lanes : BitVec 32 := BitVec.ofNat 32 ((List.range 4).foldl (fun n i => if be.getLsbD i then n + 0xFF * 2 ^ (8 * i) else n) 0)
  let rw := BitVec.ofNat 32 r.rw &&& lanes
  let w1c := BitVec.ofNat 32 r.w1c &&& lanes &&& v
  let old := s.cfgDw fn off
  ((old &&& ~~~ rw) ||| ((v ^^^ BitVec.ofNat 32 r.init) &&& rw)) &&& ~~~ w1c

/-- A function's configuration space after its reset (R318 Table 7): every dword at its reset value. A hot reset keeps the sticky AER
registers. -/
def State.cfgReset (fn : Nat) (keepAer : Bool) (s : State) : State :=
  let sticky (dw : Nat) : Bool := keepAer && decide (0x104 / 4 ≤ dw ∧ dw ≤ 0x118 / 4)
  s.modUp fun u => { u with
    cfgSpace := Map.keep (fun k _ => !decide (k / 1024 = fn) || sticky (k % 1024)) u.cfgSpace
    hdrLog := if keepAer then u.hdrLog else Map.erase fn u.hdrLog
    doe := if fn = 0 then Doe.reset else u.doe
    msix := Map.keep (fun k _ => !decide (k / 2048 = fn)) u.msix }

end Sys2Proof.Machine
end

