-- ==== Sys2Proof/Machine/Doe.lean ====
section
/-! DEFINITION. The DOE mailbox of the PF (R299 Table 3) and what it serves: DOE Discovery and CXL Table Access with the CDAT (R299, R346). Objects
of CMA/SPDM and Secured CMA/SPDM are the SPDM commands of the table. The formats are those of PCIe and CXL (PRESUMED, log entry 15). -/

namespace Sys2Proof.Machine

/-- The bytes of a CDAT structure: its type, then its length as 24, then `rest`. -/
def cdatStruct (type : Nat) (rest : List Byte) : List Byte := leBytes 2 type ++ leBytes 2 24 ++ rest

/-- A DSLBIS of decoder `n`: one figure of a data type, as a base unit and the entry 1. -/
def dslbis (n type base : Nat) : List Byte := cdatStruct 1 (leBytes 4 (n + type * 2 ^ 16) ++ leBytes 8 base ++ leBytes 8 1)

namespace State

/-- The CDAT entries of a committed decoder (R299): its DSMAS, and the latencies (in ps) and bandwidths that the image gives. -/
def cdatOf (s : State) (n : Nat) (h : Hdm) : List (List Byte) :=
  if !h.committed then []
  else
    let e := s.boot.cdat.find? fun e => decide ((e.getD 0 0).toNat = n)
    let num (i k : Nat) : Nat := leNat (((e.getD []).drop i).take k)
    let base := s.regBits (Reg.UP_HDM_DEVBASE0 + 8 * n) 19 0 * 2 ^ 28
    cdatStruct 0 (leBytes 4 n ++ leBytes 8 base ++ leBytes 8 h.size) ::
      (if e.isNone then [] else [dslbis n 1 (1000 * num 2 2), dslbis n 2 (1000 * num 4 2), dslbis n 4 (num 8 4), dslbis n 5 (num 12 4)])

/-- The structures of the CDAT: its header, with length, revision and checksum, and the entries of each committed decoder. -/
def cdat (s : State) : List (List Byte) :=
  let body := s.cdatOf 0 s.up.hdm0 ++ s.cdatOf 1 s.up.hdm1
  let head (sum : Nat) : List Byte := leBytes 4 (16 + 24 * body.length) ++ leBytes 2 (1 + sum * 256) ++ leBytes 10 0
  let total := ((head 0 ++ body.flatten).map (·.toNat)).foldl (· + ·) 0
  head ((256 - total % 256) % 256) :: body

/-- Bytes as dwords. -/
def dwords (bs : List Byte) : List (BitVec 32) :=
  (List.range (ceilDiv bs.length 4)).map fun i => BitVec.ofNat 32 (leNat ((bs.drop (4 * i)).take 4))

/-- The object that answers a request object: of DOE Discovery, or of CXL Table Access; no other is answered by the mailbox. -/
def doeAnswer (s : State) (req : List (BitVec 32)) : Option (List (BitVec 32)) :=
  let dw (i : Nat) : Nat := (req.getD i 0).toNat
  let object (body : List (BitVec 32)) : List (BitVec 32) := BitVec.ofNat 32 (dw 0) :: BitVec.ofNat 32 (2 + body.length) :: body
  if req.length < 3 ∨ dw 1 % 2 ^ 18 ≠ req.length then none
  else match dw 0 % 2 ^ 24 with
    | 0x000001 =>
      let i := dw 2 % 256
      let protocol := match i with | 0 => 0x000001 | 1 => 0x010001 | 2 => 0x020001 | 3 => 0x021E98 | _ => 0xFFFF
      some (object [BitVec.ofNat 32 (protocol + (if i < 3 then i + 1 else 0) * 2 ^ 24)])
    | 0x021E98 =>
      if dw 2 % 2 ^ 16 ≠ 0 then none
      else
        let i := dw 2 / 2 ^ 16
        s.cdat[i]?.map fun e => object (BitVec.ofNat 32 ((if i + 1 < s.cdat.length then i + 1 else 0xFFFF) * 2 ^ 16) :: dwords e)
    | _ => none

/-- GO: the object written is taken, and its answer, if it has one, stands ready; with the interrupt enabled PF vector 0 is sent (R299). -/
def doeGo (s : State) : State :=
  match s.doeAnswer s.up.doe.wr with
  | none => s.modUp fun u => { u with doe := { u.doe with wr := [] } }
  | some rd =>
    let on := (s.cfgDw 0 0x2A8).getLsbD 1
    let s := s.modUp fun u => { u with doe := { wr := [], rd := rd, intr := u.doe.intr || on } }
    if on then s.sendVector 0 0 else s

/-- A write of a dword of the mailbox: control, status, or one of the two mailbox registers. -/
def doeWrite (off : Nat) (v : BitVec 32) (be : BitVec 4) (s : State) : State :=
  if off = 0x2A8 then
    let s := if be.getLsbD 0 && v.getLsbD 0 then s.modUp fun u => { u with doe := Doe.reset } else s
    if be.getLsbD 3 && v.getLsbD 31 then s.doeGo else s
  else if off = 0x2AC then (if be.getLsbD 0 && v.getLsbD 1 then s.modUp fun u => { u with doe := { u.doe with intr := false } } else s)
  else if off = 0x2B0 then s.modUp fun u => { u with doe := { u.doe with wr := u.doe.wr ++ [v] } }
  else s.modUp fun u => { u with doe := { u.doe with rd := u.doe.rd.drop 1 } }

end State

end Sys2Proof.Machine
end

