-- ==== Sys2Proof/Machine/HostEndpoint.lean ====
section
/-! DEFINITION. The host endpoint (spec/11): functions and their quiescing (R315 to R318), attachment (R319), BAR2, the HDM
decoders and CXL.io (R303, R305), CXL.mem (R306), interrupts (R308), the completion timeout (R312), and the upstream link (R313, R314). -/

namespace Sys2Proof.Machine

namespace State

/-- A function answers: the PF, and the VFs that VF Enable has made respond (R307). -/
def fnPresent (s : State) (fn : Nat) : Bool := decide (fn ≤ s.up.vfOn)

/-- A function in D3hot (R315). -/
def inD3 (s : State) (fn : Nat) : Bool := decide ((s.cfgDw fn 0x44).toNat % 4 = 3)

/-- A function's quiescing in progress (R315). -/
def quiescingOf (s : State) (fn : Nat) : Option Quiesce := s.up.quiescing.find? fun x => decide (x.fn = fn)

/-- Every function there can be. -/
def allFns : List Nat := List.range 256

/-! ### Presets (R335) -/

/-- Equalisation state of a link: 0 to 7 the downstream ports, 8 the upstream port. -/
def eqLink (s : State) (i : Nat) : EqLink := Map.getD EqLink.reset i s.dn.eq
def setEqLink (i : Nat) (v : EqLink) (s : State) : State := s.modDn fun d => { d with eq := Map.put EqLink.reset i v d.eq }

/-- The presets with which link `i` starts at a speed (R346, R351): the image's, or the fallback's P4 and Q0. -/
def initialPreset (s : State) (i speed : Nat) : Nat :=
  match s.boot.eq.find? fun r => decide (r.port = i ∧ r.rate + 3 = speed) with
  | some r => 16 * r.own + r.far
  | none => if speed = 6 then 0 else 16 * 4 + 4

/-- Every training equalises at 8, 16, 32 and 64 GT/s, from the initial presets (R335). -/
def startPresets (i : Nat) (s : State) : State :=
  s.setEqLink i { s.eqLink i with presets := [3, 4, 5, 6].map fun v => (v, s.initialPreset i v) }

/-- Training of the upstream port starts (R335, R341). -/
def trainUp (s : State) : State :=
  let s := s.startPresets 8
  s.emit (.upTrain ((s.eqLink 8).presets.map (·.2)))

/-! ### Quiescing a function (R315, R316) -/

/-- A started descriptor of a quiesced function is gone, without completion, signal or interrupt (R315 step 2). -/
def abandonWork (w : Work) (s : State) : State :=
  let s := s.dropPieces w.id
  let s := s.modBt fun t => { t with samples := t.samples.filter (· ≠ w.id), cancels := t.cancels.filter fun c => !decide (c.id = w.id) }
  s.dropWork w

/-- A waiter has a host read that has not been answered. -/
def readOut (s : State) (w : Waiter) : Bool := s.ch.hostReads.any fun h => decide (h.1 = w)

/-- The accesses of a started descriptor, its pieces' too, whose host reads have not been answered. -/
def workReads (s : State) (id : Nat) : List Waiter :=
  (s.ch.hostReads.filter fun h => decide (h.1.workOf = some id)).foldl (fun l h => addNew h.1 l) []

/-- The queues of a function that quiescing stops: those without SERVE (R315 step 1). -/
def fnQueues (s : State) (fn : Nat) : List Nat :=
  (s.qe.queues.filter fun e => decide (e.2.fn = fn) && !e.2.serve).map (·.1)

/-- A queue stops: its head stays in the ring unstarted, and its reads and entries are discarded (R315 steps 1 and 2). A DISABLE of it stays
busy until it is DISABLED (Table 12 of spec/02). -/
def stopQueue (q : Nat) (s : State) : State :=
  let v := s.queue q
  if v.st = .disabled then s.updQueue q fun v => { v with deferred := [] }
  else
    let s := s.setQueue q { v.noWait with st := .draining, head := none, reading := false, staleDue := none, partialTail := none,
                                          reserved := 0, deferred := [], coalCount := 0, coalDue := none }
    let s := (s.modQe fun e => { e with shadows := e.shadows.filter (· ≠ q) }).forget (.slot q)
    ((s.forget (.shadow q)).forget (.deferred q)).forget (.entry q v.cqTail)

/-- Every engine that waits for a translation or a page request of a function. -/
def translationWaiters (s : State) (fn : Nat) : List Waiter :=
  let mine (k : AtsKey) : Bool := decide (k.fn.toNat = fn)
  (((s.ch.reqs.filter fun r => mine r.key).flatMap (·.who)) ++ ((s.ch.pri.filter fun r => mine r.key).flatMap (·.who)) ++
    ((s.ch.priWait.filter fun w => mine w.key).map (·.who))).foldl (fun l x => addNew x.who l) []

/-- A function's ATS copies and page-request records are discarded (R200, R315 step 3). -/
def dropTranslations (fn : Nat) (s : State) : State :=
  let mine (k : AtsKey) : Bool := decide (k.fn.toNat = fn)
  s.modCh fun c => { c with
    copies := c.copies.filter fun x => !decide (x.fn = fn)
    reqs := c.reqs.filter fun r => !mine r.key
    pri := c.pri.filter fun r => !mine r.key
    groups := c.groups.filter fun g => !decide (g.fn = fn)
    priWait := c.priWait.filter fun w => !mine w.key
    verdicts := c.verdicts.filter fun v => !mine v.key }

/-- A waiter of a discarded record ends as the work of a reset function does (R200, R315 step 2): a started descriptor is gone, without
completion, signal or interrupt; a read of the engine's own is made again. -/
def endWaiter (w : Waiter) (s : State) : State :=
  match w with
  | .work id | .piece id _ | .done id => (match s.work? id with | some x => s.abandonWork x | none => s)
  | w => s.wakeUp w

/-- A function's pending messages and INTx causes are discarded (R315 step 4). -/
def dropInterrupts (fn : Nat) (s : State) : State :=
  let s := s.modUp fun u => { u with msix := Map.mapVals (fun k v => if k / 2048 = fn then { v with pending := false } else v) u.msix }
  if fn ≠ 0 then s
  else ((s.setCfgDw 0 0xA4 0).setRange Reg.UP_INTX_CAUSE 32 0).updateInta

/-- Quiescing of a function begins (R315): its queues stop, its open requests are detached (R316), and its started descriptors end
unless a read of theirs is still out. -/
def quiesceFn (flr : Bool) (fn : Nat) (s : State) : State :=
  let qs := s.fnQueues fn
  let s := s.parkRequests fn
  let s := qs.foldl (fun s q => s.stopQueue q) s
  let ws := s.qe.works.filter fun w => decide (w.q ∈ qs)
  let out := ws.filter fun w => !(s.workReads w.id).isEmpty
  let s := ws.foldl (fun s w => if !(s.workReads w.id).isEmpty then s.setWork { w with phase := .ended, status := St.ABORTED, noSig := true } else s.abandonWork w) s
  let who := s.translationWaiters fn
  let s := ((who.filter fun w => !s.readOut w).foldl (fun s w => s.endWaiter w) (s.dropTranslations fn)).dropInterrupts fn
  let old := s.quiescingOf fn
  let x : Quiesce := { fn := fn, flr := flr || (old.map (·.flr)).getD false, since := s.now, reads := (old.map (·.reads)).getD [] ++ out.map (·.id),
                       writes := (old.map (·.writes)).getD [] ++ ws.map (·.id) }
  s.modUp fun u => { u with quiescing := u.quiescing.filter (fun x => !decide (x.fn = fn)) ++ [x] }

def quiesceFns (flr : Bool) (fns : List Nat) (s : State) : State := fns.foldl (fun s f => s.quiesceFn flr f) s

/-- The functions that a reset of every function quiesces (R315): those that answer, and those that own a queue, an open request or a translation.
With nothing of its own a function is quiesced at once. -/
def usedFns (s : State) : List Nat :=
  allFns.filter fun f => s.fnPresent f || (s.qe.queues.any fun e => decide (e.2.fn = f)) || (s.bt.reqs.any fun r => decide (r.2.fn = f)) ||
    (s.ch.copies.any fun c => decide (c.fn = f)) || (s.ch.reqs.any fun r => decide (r.key.fn.toNat = f)) ||
    (s.ch.pri.any fun r => decide (r.key.fn.toNat = f)) || s.ch.priWait.any fun w => decide (w.key.fn.toNat = f)

/-- A read of a quiesced descriptor has ended: the descriptor is gone. -/
def quiescedRead (id : Nat) (s : State) : State :=
  let s := s.modUp fun u => { u with quiescing := u.quiescing.map fun x => { x with reads := x.reads.filter (· ≠ id) } }
  match s.work? id with
  | some w => s.abandonWork w
  | none => s

/-- An access that a descriptor has issued to a home, an expander or a peer is not over yet. -/
def accessOut (s : State) (id : Nat) : Bool :=
  let mine (w : Waiter) : Bool := decide (w.workOf = some id)
  let by_ (a : Asker) : Bool := match a with | .nc w => mine w | _ => false
  (s.sf.txns.any fun t => by_ t.asker) || (s.sf.held.any fun h => by_ h.asker) ||
    (s.dn.reqs.any fun r => match r.for_ with | .write w => mine w | _ => false) ||
    s.pl.tx.any fun e => (e.2.unacked ++ e.2.wait).any fun y => mine y.who

/-- Quiescing completes (R315 step 5): once no read is out and every write issued is performed (R267), the function's queues are DISABLED, pointers,
SQ_GEN and CQ_PHASE kept. -/
def quiesceEnd (fn : Nat) (s : State) : State :=
  match s.quiescingOf fn with
  | none => s
  | some x =>
    if x.reads ≠ [] ∨ x.writes.any s.accessOut then s
    else
      let s := (s.fnQueues fn).foldl (fun s q => s.updQueue q fun v =>
        if v.st = .draining then { v with st := .disabled, deferred := [] } else v) s
      let s := match s.qe.qcmdBusy with
        | some q => if decide ((s.queue q).st = QState.disabled) then s.modQe fun e => { e with qcmdBusy := none } else s
        | none => s
      s.modUp fun u => { u with quiescing := u.quiescing.filter fun y => !decide (y.fn = fn) }

/-- Reads still out 90 ms after an FLR are abandoned (R315): their tags stay out of use. -/
def abandonReads (fn : Nat) (s : State) : State :=
  match s.quiescingOf fn with
  | none => s
  | some x =>
    if !x.flr then s
    else
      let s := x.reads.foldl (fun s id => ((s.workReads id).foldl (fun s w => s.hostReadEnded w) s).quiescedRead id) s
      s.modUp fun u => { u with abandoned := u.abandoned ++ x.reads.map fun id => (id, fn) }

/-! ### Resets of functions and the link (R318) -/

/-- Every host holding is dropped without a snoop (R227), and every line and lock of the device cache is discarded (R247). -/
def dropHostState (s : State) : State :=
  let held := s.sf.entries.filter fun e => e.2.host || decide (e.2.st = .hostx)
  let drop (s : State) (e : Nat × SfEntry) : State :=
    if e.2.st = .hostx ∨ (e.2.st = .shared ∧ !e.2.multi) then s.sfFree (sfLine (e.1 / 16 % 32768) e.2.tag)
    else s.modSf fun f => { f with entries := Map.insert e.1 { e.2 with host := false } f.entries }
  let s := (held.foldl drop s).bumpBy held.length Reg.SF_STAT_HOST_DROP
  let s := (List.range 16).foldl (fun s n => let s := s.prefDrop n; s.setPref n { s.pref n with inFlight := [] }) s
  let s := (s.modDc fun d => { d with lines := [] }).modSf fun f => { f with conflicts := [] }
  -- no BIRsp comes any more
  (s.sf.txns.filter fun t => decide (16 ∈ t.snoops)).foldl (fun s t => s.checkAnswers { t with snoops := t.snoops.filter (· ≠ 16) }) s

/-- A transaction that waits for the host on CXL.cache when the host is lost (R318 Table 7): a read completes with poisoned data, a
write is discarded. -/
def hostLost (t : Txn) (s : State) : State :=
  let d := s.freshLine
  let s : State := match t.asker, t.kind with
    | .agent _ _ _, .rdOwnNodata _ => s.answer t .goI false
    | .agent _ _ _, .rdShared | .agent _ _ _, .rdOwn _ | .agent _ _ _, .rdCur | .agent _ _ _, .atomic _ _ _ _ _ _ => (d.2.sendData t d.1 true false).answer t .goI false
    | .agent _ _ _, _ => s.answer t .cmp false
    | .nc w, .ncRead | .nc w, .atomic _ _ _ _ _ _ =>
        (d.2.modSf fun f => { f with got := f.got ++ [{ who := w, line := t.line, data := some d.1, poison := true }] }).wakeUp w
    | .nc w, _ => s.postedDone w none
    | .home, _ => if s.dc.cmd ≠ 0 ∧ t.tag < 256 then s.raise Reg.DC Err.DC_CMD_FAIL { Capture.none with addr := w64 (64 * t.line), space := 1 } else s
    | _, _ => s
  s.closeTxn t

/-- Requests of CXL.cache that the lost host can no longer answer (R318 Table 7). -/
def dropHostWaits (s : State) : State :=
  let waits (t : Txn) : Bool := match t.phase with | .hostReq _ | .writePull _ => true | _ => false
  (s.sf.txns.filter waits).foldl (fun s t => s.hostLost t) s

/-- VF Enable is cleared: the VFs stop answering (R307, R315). A hot reset keeps their sticky AER bits (R318). -/
def clearVfs (keepAer : Bool) (s : State) : State :=
  let vfs := (allFns.drop 1).take s.up.vfOn
  let s := s.quiesceFns false vfs
  let s := vfs.foldl (fun s f => s.cfgReset f keepAer) s
  (s.modUp fun u => { u with vfOn := 0 }).setCfgDw 0 0x348 (s.cfgDw 0 0x348 &&& ~~~ 1)

/-- ATTACHED becomes PARKED (R319 Table 8). -/
def parkAttach (s : State) : State := s.modUp fun u => { u with attach := if u.attach = .attached then .parked else u.attach }

/-- What hot reset, DL_Down and PF FLR share (R318 Table 7). -/
def resetPf (keepAer : Bool) (s : State) : State :=
  let s := ((s.clearVfs keepAer).cfgReset 0 keepAer).parkAttach
  (s.setRange Reg.UP_INTX_CAUSE 32 0).updateInta

/-- Hot reset, or DL_Down (R318). -/
def hostReset (s : State) : State :=
  let s := s.quiesceFns false s.usedFns
  let s := ((s.resetPf true).dropHostWaits.dropHostState).modIdent fun i => { i with keys := [] }
  (s.modFp fun f => { f with rsv := [] }).modUp fun u => { u with hdm0 := Hdm.reset, hdm1 := Hdm.reset, ltr := 0, comp := Map.erase 0x81204 u.comp }

/-- HOT_RESET (R318): the next training of the link reads UP_CFG and UP_HDM_SIZEn (R322). -/
def hotResetOp (s : State) : State := s.hostReset.modUp fun u => { u with reread := true }

/-- DL_DOWN (R318, R321): the data link is down until the link has trained again. -/
def dlDownOp (s : State) : State :=
  let s := s.hostReset.raise Reg.UP Err.UP_DL_DOWN Capture.none
  let s := s.modUp fun u => { u with linkUp := false, speed := 0, width := 0, flit := false, cxl := false, lpm := 0 }
  if s.isFenced Dom.upCtl || s.isFenced Dom.upPhy then s else s.trainUp

/-- A function-level reset (R315, R318). -/
def flrOp (fn : Nat) (s : State) : State :=
  if !s.fnPresent fn then s
  else if fn = 0 then
    ((s.quiesceFns true s.usedFns).resetPf false).dropHostWaits
  else (s.quiesceFn true fn).cfgReset fn false

/-- Bus Master Enable is cleared (R315). -/
def bmeClearOp (fn : Nat) (s : State) : State :=
  if s.fnPresent fn && s.bme fn then (s.setCfgDw fn 0x04 (s.cfgDw fn 0x04 &&& ~~~ 4)).quiesceFn false fn else s

/-- A function enters D3hot (R315). Only the PF carries Power Management; a VF follows the command (log entry 15). -/
def d3hotOp (fn : Nat) (s : State) : State :=
  if s.fnPresent fn && !s.inD3 fn then (s.setCfgDw fn 0x44 (s.cfgDw fn 0x44 ||| 3)).quiesceFn false fn else s

/-- VF Enable is set (R307): VFs 1 to NumVFs answer, only 1 to 7 while ARI Capable Hierarchy is 0. -/
def vfEnableOp (s : State) : State :=
  let c := s.cfgDw 0 0x348
  let n := min (s.cfgDw 0 0x350).toNat s.totalVfs
  let n := if c.getLsbD 4 then n else min n 7
  if c.getLsbD 0 then s else (s.setCfgDw 0 0x348 (c ||| 1)).modUp fun u => { u with vfOn := n }

/-- VF Enable is cleared (R307, R315). -/
def vfClearOp (s : State) : State := if (s.cfgDw 0 0x348).getLsbD 0 then s.clearVfs false else s

/-! ### Commands of the driver (R317, R319) -/

/-- A function may be acted on by UP_FN_CMD (R317). -/
def fnReady (s : State) (fn : Nat) : Bool :=
  decide (s.up.attach = .attached) && s.bme fn && !s.inD3 fn && (s.quiescingOf fn).isNone && s.fnPresent fn

/-- RESUME_FN and DISCARD_FN (R317). -/
def fnCmd (f : State → State) (fn : Nat) (s : State) : State :=
  if s.fnReady fn then f (s.modUp fun u => { u with fnRefused := false }) else s.modUp fun u => { u with fnRefused := true }

/-- A new token (R319), and ATTACHED. -/
def attachNow (s : State) : State :=
  let t : Word := (Config.entropy s.ident.draws).setWidth 64
  (s.modUp fun u => { u with attach := .attached, token := t, attRefused := false }).modIdent fun i => { i with draws := i.draws + 1 }

def refuseAttach (s : State) : State := s.modUp fun u => { u with attRefused := true }

/-- Warm reattach drops what described the host before (R200, R227, R247), and clears UP_INTX_CAUSE (Table 19 of spec/18). -/
def reattach (s : State) : State :=
  let s := allFns.foldl (fun s f => (s.translationWaiters f).foldl (fun s w => s.endWaiter w) (s.dropTranslations f)) s
  (s.dropHostState.setRange Reg.UP_INTX_CAUSE 32 0).updateInta

/-- ATTACH (R319 Table 8): refused while the entropy source has failed. -/
def attachOp (s : State) : State :=
  if s.ident.entropyBad then s.refuseAttach
  else match s.up.attach with
    | .fresh => s.attachNow
    | .attached => s.refuseAttach
    | .parked => (allFns.foldl (fun s f => s.discardRequests f) s).reattach.attachNow

/-- RESUME with the staged token (R319 Table 8): the token stays in force while the entropy source has failed. -/
def attachResumeOp (s : State) : State :=
  match s.up.attach with
  | .parked =>
    if s.up.staged ≠ s.up.token then s.refuseAttach
    else if s.ident.entropyBad then s.reattach.modUp fun u => { u with attach := .attached, attRefused := false }
    else s.reattach.attachNow
  | _ => s.refuseAttach

/-- PARK (R319 Table 8). -/
def parkOp (s : State) : State :=
  if s.up.attach = .attached then (s.modUp fun u => { u with attRefused := false }).parkAttach else s.refuseAttach

/-! ### Interrupts (R308, R309) -/

/-- A pending MSI-X vector is sent once nothing masks it (R308). -/
def msixSend (fn vec : Nat) (s : State) : State :=
  let key := fn * 2048 + vec
  let v := Map.getD MsixVec.reset key s.up.msix
  if v.pending && !v.masked then
    (s.modUp fun u => { u with msix := Map.put MsixVec.reset key { v with pending := false } u.msix }).sendVector0 fn vec
  else s

/-- Every pending vector of a function that can now be sent. -/
def msixSweep (fn : Nat) (s : State) : State :=
  ((s.up.msix.filter fun e => decide (e.1 / 2048 = fn) && e.2.pending).map (·.1 % 2048)).foldl (fun s v => s.msixSend fn v) s

/-- An MSI-X vector's mask is written (R308). -/
def msixMask (fn vec : Nat) (masked : Bool) (s : State) : State :=
  let key := fn * 2048 + vec
  let v := Map.getD MsixVec.reset key s.up.msix
  (s.modUp fun u => { u with msix := Map.put MsixVec.reset key { v with masked := masked } u.msix }).msixSend fn vec

/-- MSIX_UNMASK (R308). -/
def msixUnmaskOp (fn vec : Nat) (s : State) : State := if vec < s.vectorCount fn then s.msixMask fn vec false else s

/-- Pending MSI messages whose mask bit is clear are sent (R309). -/
def msiSweep (s : State) : State :=
  let ready := s.cfgDw 0 0xA4 &&& ~~~ s.cfgDw 0 0xA0
  if ready = 0 then s
  else (List.range 32).foldl (fun s m => if ready.getLsbD m then s.sendVector0 0 m else s) (s.setCfgDw 0 0xA4 (s.cfgDw 0 0xA4 &&& ~~~ ready))

/-! ### Configuration requests (R300) -/

/-- What a write of a dword brings about beside the dword's value. -/
def cfgEffect (fn off : Nat) (old : BitVec 32) (v : BitVec 32) (be : BitVec 4) (s : State) : State :=
  let now := s.cfgDw fn off
  let fell (i : Nat) : Bool := old.getLsbD i && !now.getLsbD i
  let rose (i : Nat) : Bool := !old.getLsbD i && now.getLsbD i
  if off = 0x04 then
    let s := s.updateInta
    if fell 2 then s.quiesceFn false fn else s
  else if off = 0x44 ∧ fn = 0 then
    (if now.toNat % 4 = 3 ∧ old.toNat % 4 ≠ 3 then s.quiesceFn false fn
     else if now.toNat % 4 = 1 ∨ now.toNat % 4 = 2 then s.setCfgDw fn off old else s)
  else if off = 0x58 ∧ be.getLsbD 1 ∧ v.getLsbD 15 then s.flrOp fn
  else if off = 0x14C ∧ fell 31 then
    -- with ATS disabled no copies are kept (R177)
    s.modCh fun c => { c with copies := c.copies.filter fun x => !decide (x.fn = fn) }
  else if off = 0xB0 then s.msixSweep fn
  else if off = 0xA0 ∧ fn = 0 then s.msiSweep
  else if fn = 0 ∧ (off = 0x2A8 ∨ off = 0x2AC ∨ off = 0x2B0 ∨ off = 0x2B4) then s.doeWrite off v be
  else if off = 0x348 ∧ fn = 0 ∧ rose 0 then (s.setCfgDw 0 0x348 (now &&& ~~~ 1)).vfEnableOp
  else if off = 0x348 ∧ fn = 0 ∧ fell 0 then (s.setCfgDw 0 0x348 (now ||| 1)).vfClearOp
  else if off = 0x350 ∧ fn = 0 ∧ (s.cfgDw 0 0x348).getLsbD 0 then s.setCfgDw fn off old
  else s

/-- A configuration request (R300, R301, R310): Request Retry Status until the image load has ended, UR for a function that is absent. -/
def configRequestOp (fn reg : Nat) (a : CfgAccess) (s : State) : State :=
  if !s.boot.loaded then s.emit .cfgRetry
  else if !s.fnPresent fn then s.unsupported false
  else match a with
    | .read => s.emit (.cfgCpl (s.cfgRead fn (4 * reg)))
    | .write be v =>
      let old := s.cfgDw fn (4 * reg)
      let s := (s.setCfgDw fn (4 * reg) (s.cfgMerge fn (4 * reg) be v)).cfgEffect fn (4 * reg) old v be
      s.emit (.cfgCpl 0)

/-! ### BAR2, the HDM range and CXL.io (R303, R305, R259) -/

def setIo (r : IoReq) (s : State) : State :=
  s.modCh fun c => { c with ios := updateWhere (fun x => decide (x.id = r.id)) (fun _ => r) c.ios }
def dropIo (r : IoReq) (s : State) : State :=
  (s.modCh fun c => { c with ios := c.ios.filter fun x => !decide (x.id = r.id) }).forget (.io r.id)

/-- One CXL.io request goes on at its home. -/
def ioStep (r : IoReq) (s : State) : State :=
  let w : Waiter := .io r.id
  let ended (s : State) : State := s.dropIo r
  match r.data, r.atomic with
  | some bs, _ =>
    if r.issued then (if (s.postedOf w).1 = 0 then ended s else s)
    else match (deviceWrite w r.addr bs r.poison 0).exec s with
      | (.error .wait, s) => s
      | (.error (.fail st), s) => ended (if st = St.TRANSLATION_FAULT then s.unsupported true else s)
      | (.ok (), s) => if (s.postedOf w).1 = 0 then ended s else s.setIo { r with issued := true }
  | none, some (aop, size, opnd, cmp) =>
    if !r.issued then
      (match s.placeOf r.addr with
       | .hole => ended (s.unsupported false)
       | _ =>
         let line : Line := BitVec.ofNat 512 (opnd.toNat + cmp.toNat * 2 ^ 64)
         (s.setIo { r with issued := true }).addHomeTxn (r.addr / 64) (.atomic true aop size (r.addr % 64) line false) (.nc w))
    else match s.sf.got.find? fun g => decide (g.who = w) with
      | some g => (match g.data with
        | some d => ended (s.emit (.cpl (leBytes (2 ^ size) d.toNat) g.poison))
        | none => ended (s.unsupported false))
      | none => s
  | none, none =>
    match (deviceRead w r.addr r.len).exec s with
    | (.error .wait, s) => s
    | (.error (.fail _), s) => ended (s.unsupported false)
    | (.ok x, s) => ended (s.emit (.cpl x.1 x.2))

/-- Goes on with the CXL.io requests (R259): each after every write that arrived before it, on BAR0 and BAR4 also. -/
def pumpIos : List IoReq → State → State
  | [], s => s
  | r :: rest, s =>
    let behind := (s.ch.ios.any fun x => decide (x.id < r.id) && x.data.isSome) || (s.barParked && !r.issued)
    pumpIos rest (if behind then s else s.ioStep r)

/-- A CXL.io request enters. -/
def addIo (da len : Nat) (a : HdmAccess) (bar2 : Bool) (s : State) : State :=
  let r : IoReq :=
    { id := s.ch.nextIo, addr := da, len := len, data := match a with | .write bs _ => some bs | _ => none, poison := match a with | .write _ p => p | _ => false,
      atomic := match a with | .atomic aop size8 x y => some (aop.toNat, if size8 then 3 else 2, x, y) | _ => none, bar2 := bar2, issued := false }
  -- a poisoned request is an AER event, and its data is written with its mark (R311)
  let s := if r.poison then s.aer 0 .poisoned else s
  let s := s.modCh fun c => { c with ios := c.ios ++ [r], nextIo := c.nextIo + 1 }
  pumpIos s.ch.ios s

/-- Bytes that no home has: a hole, or what lies outside tier 1, tier 2 and the placed window (R169, R303). -/
def ioHole (s : State) (da len : Nat) : Bool :=
  let at_ (a : Nat) : Bool := match s.placeOf a with | .hole => true | _ => false
  !oneRegion da (max 1 len) || at_ da || at_ (da + len - 1)

/-- A CXL.io request is posted: a write. -/
def ioPosted (a : HdmAccess) : Bool := match a with | .write _ _ => true | _ => false

/-- The bytes that a CXL.io request reaches. -/
def ioLen (len : Nat) (a : HdmAccess) : Nat :=
  match a with | .write bs _ => bs.length | .atomic _ size8 _ _ => if size8 then 8 else 4 | .read | .cas128 => len

/-- A BAR2 request (R296, R303, R310). -/
def bar2Op (off len : Nat) (a : HdmAccess) (s : State) : State :=
  let da := s.regBits Reg.UP_BAR2_MAP 26 0 * pageBytes + off
  let n := ioLen len a
  if !s.mse 0 || decide (2 ^ s.bar2Shift < off + n) || s.ioHole da n || decide (a = .cas128) then s.unsupported (ioPosted a)
  else s.addIo da n a true

/-- A write of UP_BAR2_MAP (R303): refused where the window would not lie within one region. -/
def bar2MapOp (h : Half) (v : Word) (s : State) : State :=
  let base := bits (mergeHalf h (s.reg Reg.UP_BAR2_MAP) v) 26 0
  if oneRegion (base * pageBytes) (2 ^ s.bar2Shift) then
    let old := (s.ch.ios.filter (·.bar2)).map fun r => Waiter.io r.id
    let now := s.now
    (s.setReg Reg.UP_BAR2_MAP (w64 base)).modUp fun u => { u with bar2Refused := false, bar2Busy := true, bar2Drain := old ++ u.bar2Drain, bar2From := now }
  else s.modUp fun u => { u with bar2Refused := true }

def hdm (s : State) (n : Bool) : Hdm := if n then s.up.hdm1 else s.up.hdm0
def setHdm (n : Bool) (h : Hdm) (s : State) : State := s.modUp fun u => if n then { u with hdm1 := h } else { u with hdm0 := h }

/-- The device address at which a decoder's range starts (R305). -/
def hdmDev (s : State) (n : Bool) : Nat := s.regBits (Reg.UP_HDM_DEVBASE0 + 8 * b2n n) 19 0 * 2 ^ 28

/-- The device address that a host physical address reaches through a committed decoder (R305). -/
def hdmDecode (s : State) (hpa : Nat) : Option Nat :=
  let by_ (n : Bool) : Option Nat :=
    let h := s.hdm n
    if h.committed ∧ h.base ≤ hpa ∧ hpa < h.base + h.size then some (s.hdmDev n + (hpa - h.base)) else none
  (by_ false).orElse fun _ => by_ true

/-- A decoder is committed (R305): refused with Error Not Committed for interleaving, a DPA Skip, a range that is not in 256 MiB granules,
or one that leaves a region of R303. A locked decoder keeps what it holds. -/
def hdmCommitOp (n : Bool) (base size skip ways : Nat) (lock : Bool) (s : State) : State :=
  let h := s.hdm n
  if h.committed ∧ h.lock then s
  else if ways ≠ 0 ∨ skip ≠ 0 ∨ size = 0 ∨ base % 2 ^ 28 ≠ 0 ∨ size % 2 ^ 28 ≠ 0 ∨ !oneRegion (s.hdmDev n) size then
    s.setHdm n { h with base := base, size := size, committed := false, lock := false, err := true, skip := skip, ways := ways }
  else s.setHdm n { base := base, size := size, committed := true, lock := lock, err := false, skip := 0, ways := 0 }

/-- A CXL.io request into the HDM range (R197, R305). -/
def hdmIoOp (requester : Nat) (pasid : Option Nat) (hpa len : Nat) (a : HdmAccess) (s : State) : State :=
  let posted := ioPosted a
  let n := ioLen len a
  match s.hdmDecode hpa with
  | none => s.unsupported posted
  | some da =>
    let ok : Bool := (posted || s.regionPass requester pasid da n false) && (decide (a = .read) || s.regionPass requester pasid da n true)
    if !ok then (s.raise Reg.CH Err.CH_REGION_DENIED { Capture.none with addr := w64 da, space := 1, access := b2n posted, cls := 6, index := requester }).unsupported posted
    else if s.ioHole da n ∨ a = .cas128 then s.unsupported posted
    else s.addIo da n a false

/-! ### CXL.mem (R210, R306) -/

/-- A CXL.mem request by its host physical address (R305). What no decoder maps, and everything in the
whole-block safe state (R399), is answered as an unsupported request is (log entry 15). -/
def memOp (m : MemReq) (read : Bool) (f : Nat → State → State) (s : State) : State :=
  match (if s.wholeSafe then none else s.hdmDecode m.hpa.toNat) with
  | some da => f (da / 64) s
  | none =>
    let s := s.raise Reg.UP Err.UP_MEM_UNSUP Capture.none
    if read then (let d := s.freshLine; d.2.emit (.memData m.tag.toNat d.1 true .i)) else s.emit (.memCmp m.tag.toNat .i)

def memRdOp (m : MemReq) (s : State) : State :=
  s.memOp m true (fun line => hostRequest line m.tag.toNat
    (if m.noOp then .memCur else match m.metaV with | .s => .memShared | .a => .memOwn | .i => .memCur)) 

/-- MemInv, which Table 6 of spec/07 handles in one way whatever its metadata. -/
def memInvOp (m : MemReq) (s : State) : State := s.memOp m false fun line => hostRequest line m.tag.toNat .memOwn

def memWrOp (m : MemReq) (s : State) : State :=
  s.memOp m false fun line => hostRequest line m.tag.toNat (.memWrite (if m.noOp then .i else m.metaV) m.mask m.data m.poison)

def memClnEvctOp (m : MemReq) (s : State) : State := s.memOp m false fun line => hostRequest line m.tag.toNat .memClean

/-- A CXL.mem request that the block does not support (R306). A MetaField other than Meta0-State is taken as No-Op: the request itself is
one of the others. -/
def memUnsupportedOp (k : MemOther) (s : State) : State :=
  let s := s.raise Reg.UP Err.UP_MEM_UNSUP Capture.none
  match k with
  | .specRd | .metaField _ => s
  | .read tag => (let d := s.freshLine; d.2.emit (.memData tag.toNat d.1 true .i))
  | .write tag => s.emit (.memCmp tag.toNat .i)

/-! ### Completion timeouts (R311, R312) -/

/-- A read of the block times out: CPL_TIMEOUT and AER. -/
def cplTimeout (fn : Nat) (s : State) : State := (s.aer fn .completionTimeout).raise Reg.UP Err.UP_CPL_TIMEOUT Capture.none

/-- A waiter's host read has timed out (R311, R312): what waits for it finds DEVICE_ERROR for its page when it goes on. -/
def readTimedOut (w : Waiter) (fn : Nat) (s : State) : State :=
  match s.ch.hostReads.find? fun h => decide (h.1 = w) with
  | none => s
  | some h => ((s.hostReadEnded w).cplTimeout fn).giveVerdict h.2 St.DEVICE_ERROR w

/-- COMPLETION_TIMEOUT (R312): what ends is what has a read out. -/
def completionTimeoutOp (what : TimedOut) (s : State) : State :=
  match what with
  | .work id =>
    match s.up.abandoned.find? fun a => decide (a.1 = id) with
    | some a => (s.modUp fun u => { u with abandoned := u.abandoned.erase a }).cplTimeout a.2
    | none => match s.work? id with
      | none => s
      | some w =>
        match s.workReads id with
        | [] => s
        | r :: _ => if s.isQuiesced id then ((s.hostReadEnded r).cplTimeout w.fn).quiescedRead id else s.readTimedOut r w.fn
  | .slot q => s.readTimedOut (.slot q.toNat) (s.queue q.toNat).fn
  | .shadow q => s.readTimedOut (.shadow q.toNat) (s.queue q.toNat).fn
  | .translation key =>
    if s.ch.reqs.any fun r => decide (r.key = key) then (s.cplTimeout key.fn.toNat).atsAnswer key none else s
  | .head r => s.readTimedOut (.head r.toNat) ((s.bReq? r.toNat).map (·.fn) |>.getD 0)

/-- The link has trained (R322): after a fundamental or hot reset it reads UP_CFG and UP_HDM_SIZEn. -/
def upTrainedOp (speed width : Nat) (flit cxl : Bool) (power : Nat) (s : State) : State :=
  let cfg := s.reg Reg.UP_CFG
  let h0 := s.reg Reg.UP_HDM_SIZE0
  let h1 := s.reg Reg.UP_HDM_SIZE1
  if s.isFenced Dom.upCtl || s.isFenced Dom.upPhy then s else
  s.modUp fun u => { u with linkUp := true, speed := speed, width := width, flit := flit, cxl := cxl, slotPower := power, lpm := 0,
                            trainedCfg := if u.reread then cfg else u.trainedCfg, hdmSize0 := if u.reread then h0 else u.hdmSize0,
                            hdmSize1 := if u.reread then h1 else u.hdmSize1, reread := false }

/-- Nothing is outstanding or queued upstream (R313). -/
def upQuiet (s : State) : Bool :=
  s.ch.hostReads.isEmpty && s.ch.reqs.isEmpty && s.ch.pri.isEmpty && s.up.abandoned.isEmpty &&
  !(s.sf.txns.any fun t => match t.phase with | .hostReq _ | .writePull _ => true | _ => false)

/-- The latency tolerance in force (R313). -/
def ltrNow (s : State) : Nat := if s.servingHold then s.regBits Reg.UP_LTR 63 32 else s.regBits Reg.UP_LTR 31 0

/-- LTR messages go out when the tolerance changes, while the host has enabled LTR (R313). -/
def ltrReport (s : State) : State :=
  let v := s.ltrNow
  if s.up.linkUp && (s.cfgDw 0 0x78).getLsbD 10 && decide (v ≠ s.up.ltr) then (s.modUp fun u => { u with ltr := v }).emit (.ltr v) else s

/-- The L1 substate entered from L1 (R313): L1.2 where it is enabled, the tolerance reaches the threshold and the serving hold allows it,
else L1.1 where it is enabled. -/
def l1Sub (s : State) : Nat :=
  let c := (s.cfgDw 0 0x184).toNat
  let threshold := (c >>> 16) % 1024 * 32 ^ min 5 ((c >>> 29) % 8)
  if c.testBit 2 && decide (threshold ≤ s.ltrNow) && (!s.servingHold || s.regBit Reg.UP_CTRL 0) then 4
  else if c.testBit 3 then 3 else 2

def setLink (st : Nat) (s : State) : State := (s.modUp fun u => { u with lpm := st }).emit (.linkState st)

/-- The idle time before L1 is over (R313). -/
def l1IdleOp (s : State) : State :=
  if s.up.linkUp && decide (s.up.lpm < 2) && decide (s.regBits Reg.UP_CTRL 31 16 ≠ 0) && (s.cfgDw 0 0x60).getLsbD 1 && s.upQuiet then s.setLink s.l1Sub else s

/-- 1 µs with nothing to transmit, in non-FLIT mode (R313). -/
def l0sOp (s : State) : State :=
  if s.up.linkUp && !s.up.flit && decide (s.up.lpm = 0) && (s.cfgDw 0 0x60).getLsbD 0 then s.setLink 1 else s

/-- The link returns to L0 (R313). -/
def l1ExitOp (s : State) : State := if s.up.lpm = 0 then s else s.setLink 0

/-- A PTM dialogue (R314): a forward correction at once, a backward one absorbed over twice its length. -/
def ptmOp (offset : Word) (s : State) : State :=
  if !(s.cfgDw 0 0x170).getLsbD 0 || !s.up.linkUp then s
  else
    let s := s.setReg Reg.UP_PTM_OFFSET offset
    if offset.msb then { s with slew := 2 * (2 ^ 64 - offset.toNat) } else { s with now := s.now + offset.toNat, slew := 0 }

end State

end Sys2Proof.Machine
end

