-- ==== Sys2Proof/Machine/CompRegs.lean ====
section
/-! DEFINITION. The CXL component registers and CXL device registers in BAR0 (R299, R302, R305): the HDM Decoder Capability with its two decoders, the
RAS and the Link Capability. Their places are those that the Register Locator gives, their formats those of CXL (PRESUMED, log entry 15). -/

namespace Sys2Proof.Machine

/-- The dwords of the component registers, by their place in the UP_ window, whose value no other state gives: the capability headers, RAS, Link,
and the HDM Decoder Capability's own registers, then the device registers: the array of Device Status and Memory Device Status, the media ready
(Table 11 of spec/18). -/
def compDws : List CfgDw :=
  [⟨0x81000, 0x03110001, 0, 0⟩, ⟨0x81004, 0x10020002, 0, 0⟩, ⟨0x81008, 0x18020004, 0, 0⟩, ⟨0x8100C, 0x20010005, 0, 0⟩,
   ⟨0x81100, 0, 0, 0x1CFFF⟩, ⟨0x81104, 0x1CFFF, 0x1CFFF, 0⟩, ⟨0x81108, 0x1CFFF, 0x1CFFF, 0⟩, ⟨0x8110C, 0, 0, 0x7F⟩, ⟨0x81110, 0x7F, 0x7F, 0⟩,
   ⟨0x81200, 0x1, 0, 0⟩, ⟨0x81204, 0, 0x3, 0⟩, ⟨0x90000, 0x01010000, 0, 0⟩, ⟨0x90004, 2, 0, 0⟩,
   ⟨0x90010, 0x00010001, 0, 0⟩, ⟨0x90014, 0x100, 0, 0⟩, ⟨0x90018, 8, 0, 0⟩, ⟨0x90020, 0x00014000, 0, 0⟩, ⟨0x90024, 0x110, 0, 0⟩,
   ⟨0x90028, 8, 0, 0⟩, ⟨0x90110, 4, 0, 0⟩]

/-- The place of a dword among the registers of decoder 0 or 1. -/
def hdmReg (o : Nat) : Option (Bool × Nat) :=
  if 0x81210 ≤ o ∧ o < 0x81250 then some (decide (0x81230 ≤ o), (o - 0x81210) % 0x20) else none

namespace State

/-- What a dword of the component or device registers reads. -/
def compRead (s : State) (o : Nat) : BitVec 32 :=
  match hdmReg o with
  | some (n, k) =>
    let h := s.hdm n
    BitVec.ofNat 32 (match k with
      | 0x00 => h.base % 2 ^ 32
      | 0x04 => h.base / 2 ^ 32
      | 0x08 => h.size % 2 ^ 32
      | 0x0C => h.size / 2 ^ 32
      | 0x10 => h.ways * 2 ^ 4 + b2n h.lock * 2 ^ 8 + b2n h.committed * 2 ^ 9 + b2n h.committed * 2 ^ 10 + b2n h.err * 2 ^ 11
      | 0x14 => h.skip % 2 ^ 32
      | 0x18 => h.skip / 2 ^ 32
      | _ => 0)
  | none => BitVec.ofNat 32 (((compDws.find? fun r => decide (r.off = o)).map (·.init)).getD 0) ^^^ Map.getD 0 o s.up.comp

/-- A write of a dword of a decoder's registers (R305): base, size and DPA Skip while it is not committed, and its control, which commits it or, unless
it is locked, takes it back. -/
def hdmRegWrite (n : Bool) (k : Nat) (v : Nat) (s : State) : State :=
  let h := s.hdm n
  let low (old : Nat) : Nat := old / 2 ^ 32 * 2 ^ 32 + v
  let high (old : Nat) : Nat := old % 2 ^ 32 + v * 2 ^ 32
  if k = 0x10 then
    (if v.testBit 9 then (if h.committed then s else s.hdmCommitOp n h.base h.size h.skip (v / 2 ^ 4 % 16) (v.testBit 8))
     else if h.committed && h.lock then s
     else s.setHdm n { h with ways := v / 2 ^ 4 % 16, lock := v.testBit 8, committed := false, err := false })
  else if h.committed then s
  else match k with
    | 0x00 => s.setHdm n { h with base := low h.base / 2 ^ 28 * 2 ^ 28 }
    | 0x04 => s.setHdm n { h with base := high h.base }
    | 0x08 => s.setHdm n { h with size := low h.size / 2 ^ 28 * 2 ^ 28 }
    | 0x0C => s.setHdm n { h with size := high h.size }
    | 0x14 => s.setHdm n { h with skip := low h.skip }
    | 0x18 => s.setHdm n { h with skip := high h.skip }
    | _ => s

/-- A write of a dword of the component registers. -/
def compDwWrite (o : Nat) (v : BitVec 32) (s : State) : State :=
  match hdmReg o, compDws.find? fun r => decide (r.off = o) with
  | some x, _ => s.hdmRegWrite x.1 x.2 v.toNat
  | none, some r =>
    let old := Map.getD 0 o s.up.comp
    let rw := BitVec.ofNat 32 r.rw
    s.modUp fun u => { u with comp := Map.put 0 o (((old &&& ~~~ rw) ||| ((v ^^^ BitVec.ofNat 32 r.init) &&& rw)) &&& ~~~ (BitVec.ofNat 32 r.w1c &&& v)) u.comp }
  | none, none => s

/-- A write in their range by a register access (R13). -/
def compWrite (o : Nat) (h : Half) (v : Word) (s : State) : State :=
  let w := halfValue h v
  let lo (s : State) : State := if h = .high then s else s.compDwWrite o (w.setWidth 32)
  let hi (s : State) : State := if h = .low then s else s.compDwWrite (o + 4) ((w >>> 32).setWidth 32)
  hi (lo s)

/-- What a 64-bit read in their range gives. -/
def compView (s : State) (o : Nat) : Word := (s.compRead o).setWidth 64 ||| ((s.compRead (o + 4)).setWidth 64 <<< 32)

end State

end Sys2Proof.Machine
end

