-- ==== Sys2Proof/Machine/RegStore.lean ====
section
/-! DEFINITION. Writing a register by its access codes (R10 to R13): what a write stores, before any action it has. -/

namespace Sys2Proof.Machine

namespace State

/-- The value a write leaves in a register (R10): RW bits, and RWL bits while configuration is not locked (R11), take the value, W1C bits
written as 1 clear, W1S bits written as 1 set; all other bits stay (R12). A 32-bit access writes only its half (R13). -/
def merged (s : State) (off : Nat) (h : Half) (v : Word) : Word :=
  let old := s.reg off
  match regInfo? off with
  | none => old
  | some r =>
    let m := halfMask h
    let v := halfValue h v
    let rw := (if s.locked then r.rw else r.rw ||| r.rwl) &&& m
    (((old &&& ~~~ rw) ||| (v &&& rw)) &&& ~~~ (r.w1c &&& v &&& m)) ||| (r.w1s &&& v &&& m)

/-- Writes a register by its access codes. -/
def storeReg (off : Nat) (h : Half) (v : Word) (s : State) : State := s.setReg off (s.merged off h v)

/-- A BAR0 access of the PF (R13, R302, R310, R399): what part of which register it is to; none where it is an unsupported request. -/
def bar0Target (s : State) (off size : Nat) : Option (Nat × Half) :=
  if !s.mse 0 || s.wholeSafe || decide (0x1200000 ≤ off) then none
  else if size = 8 ∧ off % 8 = 0 then some (off, .full)
  else if size = 4 ∧ off % 8 = 0 then some (off, .low)
  else if size = 4 ∧ off % 8 = 4 then some (off - 4, .high)
  else none

end State

end Sys2Proof.Machine
end

