-- ==== Sys2Proof/Machine/DownPorts.lean ====
section
/-! DEFINITION. The downstream ports (spec/12): bring-up (R326), the slot (R329, R330), CXL.mem requests and their ends (R323, R324,
R332), the loss of a port (R331), evacuation (R333), power-off (R334) and in-service equalisation (R336 to R338). -/

namespace Sys2Proof.Machine

namespace State

def updDnPort (p : Nat) (f : DnPort → DnPort) (s : State) : State := s.setDnPort p (f (s.dnPort p))

/-- A port event (R329): its bit is set, and with IRQ_EN the PF vector VECTOR is sent. -/
def dnEvent (p i : Nat) (s : State) : State :=
  let off := Reg.DN_PORT_EVENT + 8 * p
  let s := s.setReg off (setBit (s.reg off) i true)
  if s.regBit Reg.DN_CTRL 0 then s.sendVector 0 (s.regBits Reg.DN_CTRL 11 1) else s

/-- An error source of the downstream ports, for port `p`. -/
def dnRaise (i p : Nat) (addr : Nat) (s : State) : State :=
  s.raise Reg.DN i { Capture.none with addr := w64 addr, space := if addr = 0 then 0 else 1, access := if addr = 0 then 6 else 1, cls := 10, index := p }

/-- The indicator as ATTN_IND has it (R329): 3 acts as 0. -/
def attnInd (s : State) (p : Nat) : Nat := let v := s.regBits (Reg.DN_PORT_CTRL + 8 * p) 7 6; if v = 3 then 0 else v

/-- What lies in the expander's memory is gone (R331): what it holds when it comes back is what nothing has written (log entry 32). -/
def dropRange (p : Nat) (s : State) : State := s.clearRange (tier2Base p, 2 ^ 39)

/-- The slot is left without power and with its reset asserted, in the order that R334 or that R326 and R331 give. A button window of the slot ends
with it, and the indicator goes back to ATTN_IND (R330). -/
def slotDown (p : Nat) (resetFirst : Bool) (s : State) : State :=
  let s := if (s.dnPort p).button.isSome then s.emit (.slotLed p (s.attnInd p)) else s
  let s := (s.dropRange p).updDnPort p fun d =>
    { d with powered := false, powerGood := false, linkUp := false, speed := 0, width := 0, capacity := 0, step := 0, button := none,
             eqPending := false, eqRedo := false, eqIn := false, toRow := 0, setup := DnSetup.reset }
  if resetFirst then (s.emit (.slotReset p true)).emit (.slotPower p false) else (s.emit (.slotPower p false)).emit (.slotReset p true)

/-! ### Bring-up (R326) -/

/-- Bring-up begins: slot power is enabled. -/
def dnStart (p : Nat) (s : State) : State :=
  if s.isFenced (Dom.dnCtl p) || s.isFenced (Dom.dnPhy p) then s else
  ((s.updDnPort p fun d => { d with st := .starting, step := 1, since := s.now, powered := true, busy := true, evacDone := false, offAfter := false }).emit
    (.slotReset p true)).emit (.slotPower p true)

/-- A step of bring-up fails. -/
def dnFail (p code : Nat) (s : State) : State :=
  let s := (s.slotDown p false).updDnPort p fun d => { d with st := .failed, reason := code, busy := false }
  s.dnRaise Err.DN_START_FAIL p 0

/-- The codes of Table 3. -/
def stepCode : BringStep → Nat
  | .power => 1
  | .link => 2
  | .noResponse => 3
  | .notMemory => 4
  | .notActive => 5
  | .decoder => 6

/-- A step's limit passes (R326 Table 3): steps 1, 3, 4 and 6 have one. -/
def dnTimeout (p : Nat) (at_ : BringStep) (s : State) : State :=
  let d := s.dnPort p
  let due : Bool := match at_ with
    | .power => decide (d.step = 1)
    | .link => decide (d.step = 3)
    | .noResponse => decide (d.step = 4)
    | .notActive => decide (d.step = 6)
    | .notMemory | .decoder => false
  if d.st = .starting ∧ due then s.dnFail p (stepCode at_) else s

/-- The slot reports power good: the reset is held for 100 ms more. -/
def dnPowerGood (p : Nat) (s : State) : State :=
  let d := s.dnPort p
  if d.st = .starting ∧ d.step = 1 then s.setDnPort p { d with powerGood := true, step := 2, since := s.now } else s

/-- The reset hold ends: training begins. -/
def dnResetHold (p : Nat) (s : State) : State :=
  let d := s.dnPort p
  if d.st = .starting ∧ d.step = 2 then
    let s := ((s.setDnPort p { d with step := 3, since := s.now }).emit (.slotReset p false)).startPresets p
    s.emit (.dnTrain p ((s.eqLink p).presets.map (·.2)))
  else s

/-- The bases of memory BARs of the given sizes, in BAR order and naturally aligned, in a space of 4 GiB; one that does not fit stays disabled, and
0 is a BAR that is not there (R326 step 8). -/
def barBases : Nat → List Nat → List (Option Nat)
  | _, [] => []
  | at_, n :: rest =>
    let base := ceilDiv at_ (max 1 n) * max 1 n
    if n = 0 ∨ 2 ^ 32 < base + n then none :: barBases at_ rest else some base :: barBases (base + n) rest

/-- The link is up, and function 0's configuration space has been read (steps 3 to 5). A function 0 that does not respond stays at step 4
until its limit. -/
def dnLinked (p : Nat) (x : ExpanderId) (s : State) : State :=
  let d := s.dnPort p
  if d.st ≠ .starting ∨ (d.step ≠ 3 ∧ d.step ≠ 4) then s
  else
    let s := s.setDnPort p { d with linkUp := true, speed := x.speed.toNat, width := x.width.toNat, step := if x.responds then 6 else 4, since := s.now,
                                       setup := { DnSetup.reset with bars := barBases 0 x.bars, vectors := if x.msix then 2 else b2n x.msi } }
    if !x.responds then s
    else if !x.memCapable || decide (x.hdmCount = 0) || !x.hdmDecoder then s.dnFail p 4 else s

/-- Memory_Active: the capacity is taken, the decoder is committed, and the port is UP (steps 6 to 10). -/
def dnActive (p : Nat) (size : Nat) (decoderOk : Bool) (s : State) : State :=
  let d := s.dnPort p
  let c := min (2 ^ 39) (size / 2 ^ 28 * 2 ^ 28)
  if d.st ≠ .starting ∨ d.step ≠ 6 then s
  else if c = 0 then s.dnFail p 4
  else
    let s := (s.emit (.dnProgram p d.setup.bars d.setup.vectors)).emit (.dnDecoder p (tier2Base p) c 1 true)
    if !decoderOk then s.dnFail p 6
    else
      let s := s.setDnPort p
        { d with st := .up, capacity := c, step := 0, busy := false, toRow := 0,
                 setup := { d.setup with memSpace := true, busMaster := true, decoder := some (tier2Base p, c) } }
      s.dnEvent p 3

/-! ### CXL.mem requests (R323, R324, R332) -/

/-- Requests that wait at a port are sent as places come free, unless a redo holds them (R323, R337). -/
def dnRelease (p : Nat) (s : State) : State :=
  if (s.dnPort p).eqRedo then s
  else
    let out := countOf (fun r : DnReq => decide (r.port = p) && !r.held) s.dn.reqs
    let go := (s.dn.reqs.filter fun r => decide (r.port = p) && r.held).take (1024 - out)
    go.foldl (fun s r => (s.modDn fun d => { d with reqs := updateWhere (fun x => decide (x.id = r.id)) (fun x => { x with held := false, sent := s.now }) d.reqs }).emit
      (.m2s r.port r.id r.line r.write r.mask r.data)) s

def dnReq? (s : State) (p id : Nat) : Option DnReq := s.dn.reqs.find? fun r => decide (r.id = id ∧ r.port = p)
def dropDnReq (id : Nat) (s : State) : State := s.modDn fun d => { d with reqs := d.reqs.filter fun r => !decide (r.id = id) }

/-- A transaction's tier-2 read has its data. -/
def txnRead (slice tag : Nat) (d : Line) (poison : Bool) (s : State) : State :=
  match s.txn? slice tag with
  | some t => if t.phase = .memory then s.finishTxn { t with data := some d, poison := t.poison || poison } else s
  | none => s

/-- A transaction's tier-2 write is over: performed, or discarded (R401). -/
def txnWritten (slice tag : Nat) (failed : Bool) (s : State) : State :=
  match s.txn? slice tag with
  | some t =>
    if t.phase ≠ .writing then s
    else
      let t := { t with owes := 0, err := if failed then some St.DEVICE_ERROR else t.err }
      if wantsData t && t.data.isNone then s.readMemory { t with owes := 1, phase := .snooping } else s.finishTxn t
  | none => s

/-- The expander completes a request (R323, R324, R401). Poisoned data keeps its mark. -/
def dnComplete (p id : Nat) (poison : Bool) (s : State) : State :=
  match s.dnReq? p id with
  | none => s.dnRaise Err.DN_UNEXPECTED p 0
  | some r =>
    if r.held then s.dnRaise Err.DN_UNEXPECTED p 0
    else
      let s := ((s.dropDnReq id).updDnPort p fun d => { d with toRow := 0 }).opClean (Dom.dnCtl p)
      if r.write then
        let s := s.writeLine r.line r.mask r.data r.poison
        match r.for_ with
        | .txnWrite sl tag => s.txnWritten sl tag false
        | .write w => s.postedDone w none
        | .txnRead _ _ => s
      else
        let s : State := if poison then { s with poison := addNew r.line s.poison } else s
        let s := if poison then s.dnRaise Err.DN_POISON_RX p 0 else s
        match r.for_ with
        | .txnRead sl tag => s.txnRead sl tag (s.memLine r.line) (s.poisoned r.line)
        | _ => s

/-- A request ends without the expander (R331 step 1): a read returns poisoned data, a write is discarded. -/
def dnEndReq (r : DnReq) (s : State) : State :=
  let s := s.dropDnReq r.id
  match r.for_ with
  | .txnRead sl tag => let d := s.freshLine; d.2.txnRead sl tag d.1 true
  | .txnWrite sl tag => s.txnWritten sl tag true
  | .write w => s.postedDone w (some St.DEVICE_ERROR)

/-! ### Losing a port (R331) -/

/-- The address of the first write among requests that end (R331 step 1, R401). -/
def firstWrite (rs : List DnReq) : Nat := match rs.find? (·.write) with | some r => 64 * r.line | none => 0

/-- The port is lost. -/
def dnLose (p : Nat) (fault : Bool) (s : State) : State :=
  let d := s.dnPort p
  if d.st ≠ .up ∧ d.st ≠ .evacuating then s
  else
    let rs := s.dn.reqs.filter fun r => decide (r.port = p)
    -- the range is a hole before anything asks for it again
    let s := s.updDnPort p fun d => { d with st := if d.present then .failed else .empty, busy := false, offAfter := false, evacDone := false }
    let s := rs.foldl (fun s r => s.dnEndReq r) s
    let s := (s.ibLosePort p).losePool p
    let s := (s.slotDown p false).emit (.slotLed p (b2n fault))
    (s.dnEvent p 4).dnRaise Err.DN_PORT_LOST p (firstWrite rs)

/-- A request's completion timeout (R332): it ends, and TO_LIMIT timeouts in a row lose the port. -/
def dnCplTimeout (p id : Nat) (s : State) : State :=
  match s.dnReq? p id with
  | none => s
  | some r =>
    if r.held then s
    else
      let d := s.dnPort p
      let s := (s.dnRaise Err.DN_CPL_TIMEOUT p (firstWrite [r])).dnEndReq r
      -- the drain of a POWER_OFF, or of a redo, ends them so, and the port is not lost (R334, R337)
      if (d.st = .evacuating ∧ d.evacDone ∧ d.offAfter) ∨ d.eqRedo then s
      else
        let n := (s.dnPort p).toRow + 1
        let s := s.updDnPort p fun d => { d with toRow := n }
        if max 1 (s.regBits Reg.DN_CTRL 39 32) ≤ n then s.dnLose p false else s

/-! ### Orderly removal (R333, R334) -/

/-- POWER_OFF ends: nothing is outstanding any more. A port that was up becomes unusable by it (R130, R192). -/
def powerOffEnd (p : Nat) (s : State) : State :=
  let s := if (s.dnPort p).st = .evacuating then (((s.updDnPort p fun d => { d with st := .off }).ibLosePort p).losePool p) else s
  ((s.slotDown p true).updDnPort p fun d => { d with st := .off, busy := false, offAfter := false, evacDone := false }).emit (.slotLed p 0)

/-- A POWER_OFF that waits for the port's requests goes on once none is left. -/
def dnDrain (p : Nat) (s : State) : State :=
  let d := s.dnPort p
  if d.st = .evacuating ∧ d.evacDone ∧ d.offAfter ∧ !(s.dn.reqs.any fun r => decide (r.port = p)) then s.powerOffEnd p else s

/-- POWER_OFF (R334). -/
def dnPowerOff (p : Nat) (s : State) : State :=
  let d := s.dnPort p
  match d.st with
  | .evacuating => if d.evacDone then (s.setDnPort p { d with offAfter := true, busy := true, refused := false }).dnDrain p else s.setDnPort p { d with refused := true }
  | .failed | .off => (s.setDnPort p { d with refused := false }).powerOffEnd p
  | _ => s.setDnPort p { d with refused := true }

/-- The Ibex pages of a port that no move takes away yet are given a slot elsewhere, or become LOST (R333 step 2). -/
def evacIbex (p : Nat) (s : State) : State :=
  if !s.ib.active then s
  else (s.livePages.filter fun g => decide (s.pgState g = DEMOTED ∧ s.pgPort g = p) && (s.ibMove? g).isNone).foldl (fun s g =>
    match s.bestSlotPool.bind fun pool => (s.ibFind pool).map fun f => (pool, f) with
    | some x => (s.setIbUsed x.1 x.2 true).queueIbex .evac g (p + 1) (s.pgFrame g) x.1 x.2
    | none => (s.setIbUsed (p + 1) (s.pgFrame g) false).losePage g) s

/-- The placed pages of a port. -/
def pagesOn (s : State) (p : Nat) : List Nat :=
  (List.range s.placePages).filter fun g => let e := s.mapEntry g; decide (2 ≤ pLoc e ∧ pPort e = p) && !pLost e

/-- A frame of another enabled port is free (R333 step 3). -/
def otherFrame (s : State) (p : Nat) : Bool :=
  (List.range Config.downPorts).any fun x => decide (x ≠ p) && decide (0 < s.freeFrames (x + 1))

/-- The evacuation finds no room (R333 step 3): the port returns to UP, its pools disabled. -/
def evacFull (p : Nat) (s : State) : State :=
  let s := s.modCh fun c => { c with moves := c.moves.filter fun m => !(decide (m.kind = .relocate) && !m.running && decide (m.srcPool = p + 1)) }
  (s.updDnPort p fun d => { d with st := .up, busy := false, offAfter := false, evacDone := false }).dnEvent p 6

/-- Steps 1 and 2 of the evacuation are not over (R333): a demotion toward the port that has started, or an Ibex page on its way from it. -/
def evacBusy (s : State) (p : Nat) : Bool :=
  s.ch.moves.any fun m => if isIbexMove m then decide (m.srcPool = p + 1 ∨ m.dstPool = p + 1) else m.running && decide (m.dstPool = p + 1)

/-- The evacuation goes on (R333), one step after the other: each page of the port has its move, a placed page to another port, or unpinned to tier 1, or the
evacuation stops. -/
def evacStep (p : Nat) (s : State) : State :=
  let d := s.dnPort p
  if d.st ≠ .evacuating ∨ d.evacDone then s
  else
    let s := if s.ch.moves.any (fun m => m.dstPool = p + 1 ∧ (isIbexMove m ∨ m.running)) then s else s.evacIbex p
    if s.evacBusy p then s else
    let ps := s.pagesOn p
    let stuck := ps.any fun g => (match s.pageMove? g with | some m => !m.running | none => true) && !s.otherFrame p &&
      (pPin (s.mapEntry g) || decide (s.freeFrames 0 = 0))
    if stuck then s.evacFull p
    else ps.foldl (fun s g =>
      let kind : MoveKind := if s.otherFrame p then .relocate else if pLoc (s.mapEntry g) = 3 then .unpack else .promote
      match s.pageMove? g with
      | some m => if m.running then s else s.setMove { m with kind := kind, cls := min m.cls 2, srcPool := p + 1 }
      | none =>
        let id := s.ch.nextMove
        let s := s.queueMove 2 kind g none
        match s.move? id with
        | some m => s.setMove { m with srcPool := p + 1 }
        | none => s) s

/-- Every evacuating port goes on. -/
def evacSteps (s : State) : State := (List.range Config.downPorts).foldl (fun s p => s.evacStep p) s

/-- EVACUATE (R333): both pools are disabled, and the moves begin. -/
def dnEvacuate (p : Nat) (s : State) : State :=
  let d := s.dnPort p
  if d.st ≠ .up then s.setDnPort p { d with refused := true }
  else
    let s := s.setDnPort p { d with st := .evacuating, busy := true, refused := false, evacDone := false, offAfter := false }
    ((s.setRegBits (Reg.IB_T2_POOL + 8 * p) 31 31 0).setRegBits (Reg.CH_T2_POOL + 8 * p) 31 31 0).evacStep p

/-- The copy of an Ibex page to a new slot is over (R333 step 2): the page lies there, unless the copy failed or the page has left. -/
def evacMoved (m : Move) (s : State) : State :=
  let g := m.page
  let s := s.endMove m.id
  if s.pgState g ≠ DEMOTED ∨ s.pgPort g + 1 ≠ m.srcPool ∨ s.pgFrame g ≠ m.srcFrame then s.setIbUsed m.dstPool m.dstFrame false
  else if 2 ≤ m.fails then (s.setIbUsed m.dstPool m.dstFrame false).moveFailed m
  else ((s.setIbUsed m.srcPool m.srcFrame false).setPageBits g 31 0 m.dstFrame).setPageBits g 60 58 (m.dstPool - 1)

/-- Nothing of the port's pools is left on it. -/
def evacOver (s : State) (p : Nat) : Bool :=
  (s.pagesOn p).isEmpty && !(s.ch.moves.any fun m => decide (m.srcPool = p + 1 ∨ m.dstPool = p + 1)) &&
  (!s.ib.active || !(s.livePages.any fun g => decide (s.pgState g = DEMOTED ∧ s.pgPort g = p)))

/-- EVAC_DONE (R333 step 4): the button's evacuation goes on with POWER_OFF (R330). -/
def evacDone (p : Nat) (s : State) : State :=
  let s := s.evacStep p
  let d := s.dnPort p
  if d.st ≠ .evacuating ∨ d.evacDone ∨ !s.evacOver p then s
  else
    let s := (s.setDnPort p { d with evacDone := true, busy := false, offAfter := false }).dnEvent p 5
    if d.offAfter then s.dnPowerOff p else s

/-- POWER_ON (R325): from OFF or FAILED. Before power-up has ended no port trains, and it is refused (R341, R349). -/
def dnPowerOn (p : Nat) (s : State) : State :=
  let d := s.dnPort p
  if s.boot.loaded ∧ (d.st = .off ∨ d.st = .failed) then (s.setDnPort p { d with refused := false }).dnStart p else s.setDnPort p { d with refused := true }

/-- A write of DN_PORT_CTRLp (Table 5): its fields, and its command. -/
def dnPortCtrl (p : Nat) (h : Half) (v : Word) (s : State) : State :=
  let old := s.attnInd p
  let s := s.storeReg (Reg.DN_PORT_CTRL + 8 * p) h v
  let s := if s.attnInd p ≠ old ∧ (s.dnPort p).button.isNone then s.emit (.slotLed p (s.attnInd p)) else s
  match h with
  | .high => s
  | _ =>
    match bits v 2 0 with
    | 1 => s.dnPowerOn p
    | 2 => s.dnEvacuate p
    | 3 => s.dnPowerOff p
    | _ => s

/-! ### Slot events (R329 to R331) -/

/-- Bring-up at presence (R325), once the image load has ended. -/
def autoPower (p : Nat) (s : State) : State :=
  if s.boot.loaded && s.regBit (Reg.DN_PORT_CTRL + 8 * p) 4 && decide ((s.dnPort p).st = .off) && (s.dnPort p).present then s.dnStart p else s

/-- Presence changes (R325, R329, R331). -/
def dnPresence (p : Nat) (present : Bool) (s : State) : State :=
  let d := s.dnPort p
  if d.present = present then s
  else
    let s := (s.setDnPort p { d with present := present }).dnEvent p 0
    if present then
      if d.st = .empty then (s.updDnPort p fun d => { d with st := .off }).autoPower p else s
    else if d.st = .up ∨ d.st = .evacuating then s.dnLose p false
    else if d.st = .empty then s
    else (s.slotDown p false).updDnPort p fun d => { d with st := .empty, busy := false }

/-- A power fault (R329, R331). -/
def dnPowerFault (p : Nat) (s : State) : State :=
  let d := s.dnPort p
  let s := s.dnEvent p 2
  if d.st = .up ∨ d.st = .evacuating then s.dnLose p true
  else if d.st = .starting then s.dnFail p 1
  else s

/-- The data link goes down (R331). -/
def dnDlDown (p : Nat) (s : State) : State :=
  let d := s.dnPort p
  if d.st = .up ∨ d.st = .evacuating then s.dnLose p false
  else if d.st = .starting ∧ 3 ≤ d.step then s.dnFail p 2
  else s

/-- A press of the attention button (R330). -/
def attnButton (p : Nat) (s : State) : State :=
  let s := s.dnEvent p 1
  let d := s.dnPort p
  if !s.regBit (Reg.DN_PORT_CTRL + 8 * p) 5 ∨ (d.st ≠ .up ∧ d.st ≠ .off) then s
  else match d.button with
    | some _ => (s.setDnPort p { d with button := none }).emit (.slotLed p (s.attnInd p))
    | none => (s.setDnPort p { d with button := some (s.now + 5000000000) }).emit (.slotLed p 2)

/-- The button's window expires without a second press (R330). -/
def buttonWindow (p : Nat) (s : State) : State :=
  let d := s.dnPort p
  if d.button.isNone then s
  else
    let s := (s.setDnPort p { d with button := none }).emit (.slotLed p (s.attnInd p))
    match d.st with
    | .up => (s.dnEvacuate p).updDnPort p fun d => { d with offAfter := decide (d.st = .evacuating) }
    | .off => s.dnPowerOn p
    | _ => s

/-! ### Accesses to the expander (R327, R328) -/

/-- The registers that an access of one double word through DN_XACC_CMD must not write (R328): Command and the BARs of the header, and the MSI,
MSI-X and HDM decoder registers wherever the expander has them. -/
def dwGuarded (p : Nat) (cfg : Bool) (addr : Nat) : Bool :=
  (cfg && (decide (4 ≤ addr ∧ addr < 8) || decide (0x10 ≤ addr ∧ addr < 0x28))) || Config.expanderGuard p cfg addr

/-- An access of 4 or 8 bytes touches one of them (R328). -/
def xaccGuarded (p : Nat) (cfg size8 : Bool) (addr : Nat) : Bool := dwGuarded p cfg addr || (size8 && dwGuarded p cfg (addr + 4))

/-- A write of DN_XACC_CMD (Table 8, R328). -/
def xaccStart (h : Half) (v : Word) (s : State) : State :=
  if s.dn.xaccBusy then s
  else
    let s := s.storeReg Reg.DN_XACC_CMD h v
    let w := s.reg Reg.DN_XACC_CMD
    let p := bits w 61 59
    let write := bit w 57
    let cfg := bit w 58
    if write && xaccGuarded p cfg (bit w 56) (bits w 47 0) || !(s.dnPort p).linkUp then s.modDn fun d => { d with xaccErr := true }
    else (s.modDn fun d => { d with xaccBusy := true, xaccErr := false }).emit (.xacc p write cfg (bit w 56) (bits w 47 0) (s.reg Reg.DN_XACC_DATA))

/-- The access ends: with data, or with UR or a timeout. What the upper half of DN_XACC_DATA holds after a read of 4 bytes is a free value (log
entry 111). -/
def xaccDone (data : Word) (ok : Bool) (s : State) : State :=
  if !s.dn.xaccBusy then s
  else
    let s := s.modDn fun d => { d with xaccBusy := false, xaccErr := !ok }
    if !ok || s.regBit Reg.DN_XACC_CMD 57 then s
    else if s.regBit Reg.DN_XACC_CMD 56 then s.setReg Reg.DN_XACC_DATA data
    else let r := s.fresh; r.2.setReg Reg.DN_XACC_DATA (setBits r.1 31 0 (bits data 31 0))

/-- A write of IB_T2_POOLp or CH_T2_POOLp (R327): an ENABLE of a pool that reaches past the port's capacity has no effect. An enabled pool
starts with every slot and frame free, its frames to be zeroed (R185). -/
def poolEnable (p : Nat) (chamois : Bool) (h : Half) (v : Word) (s : State) : State :=
  let off := (if chamois then Reg.CH_T2_POOL else Reg.IB_T2_POOL) + 8 * p
  let new := s.merged off h v
  let s' := s.setReg off new
  let top := if chamois then s'.frameAddr (p + 1) (bits new 63 32) else s'.ibAddr (p + 1) (bits new 63 32)
  if bit new 31 && (decide ((s.dnPort p).capacity < top - tier2Base p) || !s.portUp p) then s.dnRaise Err.DN_POOL_RANGE p 0
  else if bit new 31 && !bit (s.reg off) 31 then
    if chamois then
      s'.modCh fun c => { c with used := Map.erase (p + 1) c.used, dirty := Map.put [] (p + 1) (List.range (bits new 63 32)) c.dirty }
    else s'.writeBytes (s'.bitmapAddr (p + 1)) (List.replicate (ceilDiv (bits new 63 32) 8) 0)
  else s'

/-! ### In-service equalisation (R336 to R338) -/

def eqPeriodMs (s : State) : Nat := max 1 (s.regBits Reg.DN_EQ_CTRL 63 48)

/-- A redo may begin: at most one in 10 periods (R337). -/
def eqMayRedo (s : State) (i : Nat) : Bool :=
  match (s.eqLink i).lastRedo with | some t => decide (t + 10 * s.eqPeriodMs * 1000000 ≤ s.now) | none => true

/-- The candidate pairs that the image gives a port at its rate (R346). -/
def eqCands (s : State) (p : Nat) : List (Nat × Nat) :=
  match s.boot.eq.find? fun r => decide (r.port = p ∧ r.rate + 3 = (s.dnPort p).speed) with | some r => r.cands | none => []

/-- The port's requests have drained: its link enters Recovery for the redo (R337 step 2). -/
def eqEnter (p : Nat) (s : State) : State :=
  let d := s.dnPort p
  if !d.eqRedo || d.eqIn || s.dn.reqs.any (fun r => decide (r.port = p) && !r.held) then s
  else (s.setDnPort p { d with eqIn := true }).emit (.dnRecovery p d.speed ((s.eqCands p).take 4))

/-- A redo begins (R337): requests that arrive wait at the port. -/
def eqStart (p : Nat) (s : State) : State :=
  let e := s.eqLink p
  ((s.setEqLink p { e with redos := min 0xFFFFFFFF (e.redos + 1), lastRedo := some s.now }).updDnPort p fun d =>
    { d with eqRedo := true, eqIn := false, eqPending := false }).eqEnter p

/-- A period's measurements (R336 to R338). -/
def eqPeriod (i margin lane corrected : Nat) (s : State) : State :=
  let up := decide (i = 8)
  let d := s.dnPort i
  let inL0 := if up then s.up.linkUp && decide (s.up.lpm = 0) && decide (5 ≤ s.up.speed) else d.linkUp && decide (5 ≤ d.speed) && !d.eqRedo
  if !s.regBit Reg.DN_EQ_CTRL i || !inL0 then s
  else
    let s := s.setEqLink i { s.eqLink i with margin := margin, lane := lane, corrected := corrected }
    let hard := decide (margin ≤ s.regBits Reg.DN_EQ_CTRL 27 24) || decide (2 ^ s.regBits Reg.DN_EQ_CTRL 39 32 < corrected)
    let soft := !hard && decide (margin ≤ s.regBits Reg.DN_EQ_CTRL 31 28)
    if up then
      if hard || (soft && !s.servingHold) then
        let e := s.eqLink 8
        (s.setEqLink 8 { e with redos := min 0xFFFFFFFF (e.redos + 1) }).setCfgDw 0 0x80 (s.cfgDw 0 0x80 ||| 0x00200000)
      else s
    else if hard && s.eqMayRedo i then s.eqStart i
    else if soft then s.updDnPort i fun d => { d with eqPending := true }
    else s

/-- The port has been quiet for QUIET_US: a soft redo begins (R337). -/
def eqQuiet (p : Nat) (s : State) : State :=
  if (s.dnPort p).eqPending && !(s.dn.reqs.any fun r => decide (r.port = p)) && s.eqMayRedo p then s.eqStart p else s

/-- A redo ends (R337): the best pair is kept, or the previous presets. A link that does not return to L0 is down. -/
def eqEnd (p : Nat) (best : Option Nat) (inL0 : Bool) (s : State) : State :=
  if !(s.dnPort p).eqIn then s
  else
    let s := s.updDnPort p fun d => { d with eqRedo := false, eqIn := false }
    let e := s.eqLink p
    let pick := best.bind fun i => (s.eqCands p)[i]?
    let s := s.setEqLink p (match pick with
      | some x => { e with presets := Map.insert (s.dnPort p).speed (16 * x.1 + x.2) e.presets, failedLast := false }
      | none => { e with failedLast := true })
    if inL0 then s.dnRelease p else s.dnDlDown p

end State

end Sys2Proof.Machine
end

