-- ==== Sys2Proof/Machine/Doorbells.lean ====
section
/-! DEFINITION. Doorbells on their way to a bank: the crossing (R62, R455), the CORE_DONE report (R56), and the doorbell aperture (R57). -/

namespace Sys2Proof.Machine

namespace State

/-- A CORE_DONE report (R56): it ends the oldest dispatch of the queue that a group has taken with that CMD_ID. A 32-bit write acts with
its other half 0 (log entry 24). -/
def coreDoneBell (d : Doorbell) (s : State) : State :=
  match d.half with
  | none => s.dbBadSize d.origin
  | some h =>
    match s.dbPageOf d.origin with
    | none => s.raise Reg.QE Err.QE_DB_RANGE { Capture.none with cls := 8, access := 1 }
    | some page =>
      let q := 64 * page + d.index.toNat
      let v := halfValue h d.value
      match s.dbCheck d.origin .coreDone page q with
      | some i => s.dbError i q
      | none =>
        match (s.dispatches q).find? fun w => decide (w.phase = .taken) && decide (dCmdId w.desc = bits v 15 0) with
        | none => s.dbError Err.QE_DB_RANGE q
        | some w => (s.dbRecord 3 d.origin q (bits v 15 0) v).endWork w.id (bits v 23 16) (w64 (bits v 63 32))

/-- The command that carries a doorbell. -/
def doorbellInstr : DbKind → Doorbell → Instr
  | .sqTail, d => .sqTail d
  | .cqHead, d => .cqHead d
  | .batch, d => .batchSq d
  | .coreDone, d => .coreDone d

/-- What a doorbell does once it has reached its bank. -/
def takeDoorbell (k : DbKind) (d : Doorbell) (s : State) : State :=
  match k with
  | .batch => s.batchRing d
  | .coreDone => s.coreDoneBell d
  | k => s.doorbell k d

/-- A doorbell bound for its bank (R62): it waits in the crossing of a bank that sleeps. One for a fenced bank is answered at once
(R455). -/
def ringDoorbell (k : DbKind) (d : Doorbell) (s : State) : State :=
  match s.dbPageOf d.origin with
  | none => s.takeDoorbell k d
  | some page =>
    let dom := Dom.bank (page / 256)
    if s.isFenced dom then s.takeDoorbell k d else s.cross dom (doorbellInstr k d) (takeDoorbell k d)

/-- The doorbell at an offset of a page (R57 Table 7): its kind and entry. -/
def doorbellAt (off : Nat) : Option (DbKind × Nat) :=
  if off < 0x200 then some (.sqTail, off / 8)
  else if off < 0x400 then some (.cqHead, (off - 0x200) / 8)
  else if off < 0x408 then some (.batch, 0)
  else if 0x600 ≤ off ∧ off < 0x800 then some (.coreDone, (off - 0x600) / 8)
  else none

/-- A host read of BAR4 or of a VF's doorbell pages returns 0 (R57); no row of the table reads them (log entry 7). -/
def bar4Read (_s : State) (_off : Nat) : Word := 0

/-- A write of one qword of the aperture or of BAR4, under a byte mask: what part of it is written (R58). -/
def maskHalf (m : Nat) : Option Half :=
  if m = 0xFF then some .full else if m = 0x0F then some .low else if m = 0xF0 then some .high else none

/-- Bytes written at offset `off` of the doorbell aperture, under a mask over one line (R57, R281): each qword written is a doorbell. -/
def apertureWrite (mk : BitVec 10 → DbOrigin) (off : Nat) (mask : BitVec 64) (data : Line) (s : State) : State :=
  (List.range 8).foldl (fun s i =>
    let m := (mask.toNat >>> (8 * i)) % 256
    let o := off / 64 * 64 + 8 * i
    if m = 0 then s
    else match doorbellAt (o % 4096) with
      | none => s
      | some (k, e) =>
        let h := maskHalf m
        let w := w64 (data.toNat >>> (64 * i))
        s.ringDoorbell k { origin := mk (BitVec.ofNat 10 (o / 4096)), index := BitVec.ofNat 6 e, half := h,
                           value := if h = some .high then w64 (bits w 63 32) else w }) s

end State

end Sys2Proof.Machine
end

