-- ==== Sys2Proof/Machine/Ipl.lean ====
section
/-! DEFINITION. The receiving side of Ilura Peer Link (spec/10): packets and their checks (R277, R279), windows (R281, R282), receiver
states (R286, R287, R291), answers at the sender (R280, R287 to R290, R294), credits (R284) and links (R270, R271, R273, R435). -/

namespace Sys2Proof.Machine

/-! Response status codes (R280 Table 4). -/

namespace Ipl
def OK : Nat := 0
def DENIED : Nat := 1
def HOLE : Nat := 2
def POISON : Nat := 3
def FULL : Nat := 4
def REDO : Nat := 5
def DATA_ERR : Nat := 6
def MALFORMED : Nat := 7
def SYNC_NEEDED : Nat := 8

/-- The marks with which a Gazelle ends a reduce-write that it fails back, or that fails after its first destination write (R97,
R100). -/
def failedBack : Nat := 0x100 + REDO
def brokenOff : Nat := 0x100 + DATA_ERR

/-- The response status of an access that ended with a descriptor status (R280). -/
def ofStatus (st : Nat) : Nat :=
  if 0x100 ≤ st then st - 0x100
  else if st = 0 then OK
  else if st = St.DATA_ERROR then POISON
  else if st = St.PLACE_FULL then FULL
  else HOLE

/-- What a descriptor completes with (R280). -/
def toStatus (c : Nat) : Nat :=
  match c with
  | 1 | 2 => St.TRANSLATION_FAULT
  | 3 | 6 => St.DATA_ERROR
  | 4 => St.PLACE_FULL
  | _ => St.DEVICE_ERROR
end Ipl

namespace State

def plRx (s : State) (node flow : Nat) : PlRx := Map.getD PlRx.reset (node * 128 + flow) s.pl.rx
def setPlRx (node flow : Nat) (v : PlRx) (s : State) : State :=
  s.modPl fun q => { q with rx := Map.put PlRx.reset (node * 128 + flow) v q.rx }
def updPlRx (node flow : Nat) (f : PlRx → PlRx) (s : State) : State := s.setPlRx node flow (f (s.plRx node flow))

/-! ### Packets -/

/-- Payload units that an opcode's fields give (R277). -/
def plUnitCount (op : IplOp) (addr len : Nat) : Nat :=
  match op with
  | .write | .reduceWrite | .rdata => (linesOf addr len).length
  | .atomic | .atomicData => 1
  | _ => 0

/-- A packet is discarded (R279): another node's, of the wrong length, or with a reserved field that is not 0. -/
def plBad (s : State) (op : IplOp) (m : IplPkt) : Bool :=
  decide (m.dst.toNat ≠ s.plNode) || m.rsvd || decide (m.payload.length ≠ plUnitCount op m.addr.toNat m.len.toNat)

/-- A request breaks a field range of Tables 2 or 3, or crosses a 1 KiB boundary (R277, R279). -/
def plMalformed (op : IplOp) (m : IplPkt) : Bool :=
  let a := m.addr.toNat
  let n := m.len.toNat
  let sub := m.subop.toNat
  let range := decide (n = 0 ∨ 1024 < n ∨ a / 1024 ≠ (a + n - 1) / 1024)
  m.cum || decide (m.status.toNat ≠ 0) ||
    (match op with
     | .write | .read => range || decide (sub ≠ 0)
     | .atomic => decide (n ≠ 4 ∧ n ≠ 8) || decide (a % max 1 n ≠ 0) || decide (10 ≤ sub)
     | .reduceWrite => range || decide (2 < sub) || decide (a % (elemBits sub / 8) ≠ 0 ∨ n % (elemBits sub / 8) ≠ 0)
     | _ => decide (sub ≠ 0))

/-- The bytes of a range from its payload units (R277). -/
def plBytes (addr len : Nat) (payload : List Line) : List Byte := ((payload.flatMap lineBytes).drop (addr % 64)).take len

/-- Sends a response to a node on a port of its route (R275); with no usable port there, the response is lost. -/
def plRespond (node : Nat) (op : IplOp) (flow seq : Nat) (cum : Bool) (status : Nat) (addr len : Nat) (payload : List Line) (s : State) : State :=
  match s.plRoute node with
  | p :: _ => s.plPut p (plClass op) (1 + payload.length) (.ipl p op node s.plNode flow seq cum status 0 len addr payload false)
  | [] => s

/-- A cumulative CMP for what has been performed (R287). A duplicate that waits for it goes on waiting while a request before EXPECTED is still to be
performed (R286). -/
def plAck (node flow : Nat) (s : State) : State :=
  let r := s.plRx node flow
  match r.expected with
  | none => s
  | some e =>
    let next := match r.acc.filter (!·.old) with | a :: _ => a.seq | [] => e
    (s.setPlRx node flow { r with owed := 0, dup := r.dup && r.acc.any (!·.old) }).plRespond node .cmp flow ((next + 65535) % 65536) true 0 0 0 []

/-- A NAK (R286): with SYNC_NEEDED, or with EXPECTED at most once per ACK_NS. -/
def plNak (node flow : Nat) (s : State) : State :=
  let r := s.plRx node flow
  match r.expected with
  | none => s.plRespond node .nak flow 0 false Ipl.SYNC_NEEDED 0 0 []
  | some e =>
    let gap := max 1 (s.regBits Reg.PL_TIMEOUT 31 16)
    if (match r.lastNak with | some t => decide (s.now < t + gap) | none => false) then s
    else (s.setPlRx node flow { r with lastNak := some s.now }).plRespond node .nak flow e false 0 0 0 []

/-! ### Windows (R281, R282) -/

def plWin (s : State) (i : Nat) : PlWin := Map.getD { q0 := 0, q1 := 0 } i s.pl.windows

/-- The right that an opcode needs, as a bit of PL_WINQ1 (Table 10 of spec/10). -/
def winRight : IplOp → Nat
  | .read => 62
  | .write => 61
  | .atomic => 60
  | _ => 59

/-- The first window that lets a request in: its DB_FUNCTION (R281). -/
def plWindow (s : State) (op : IplOp) (src addr len : Nat) : Option Nat :=
  (List.range 64).findSome? fun i =>
    let w := s.plWin i
    let base := bits w.q0 63 12 * 4096
    let mask := bits w.q1 50 43
    if bit w.q1 63 && decide (src &&& mask = bits w.q1 42 35 &&& mask) && decide (base ≤ addr) &&
        decide (addr + len ≤ base + bits w.q1 31 0 * 4096) && bit w.q1 (winRight op) then some (bits w.q1 58 51)
    else none

/-- A window lies within one region that a window may cover (R282). -/
def winFits (q0 q1 : Word) : Bool :=
  let base := bits q0 63 12 * 4096
  let n := bits q1 31 0 * 4096
  let last := base + n - 1
  decide (0 < n) && (match regionOf base, regionOf last with
    | .tier1, .tier1 => true
    | .tier2 p, .tier2 p' => decide (p = p')
    | .doorbell, .doorbell => true
    | .placed, .placed => true
    | _, _ => false)

/-- A write to PL_WINQ1 commits the window that PL_SEL.WIN names (R282). -/
def winCommit (s : State) : State :=
  let q0 := s.reg Reg.PL_WINQ0
  let q1 := s.reg Reg.PL_WINQ1
  if bit q1 63 && !winFits q0 q1 then s.modPl fun q => { q with winRefused := true }
  else
    let i := s.regBits Reg.PL_SEL 37 32
    let passed := s.pl.rx.flatMap fun e => (e.2.acc.filter fun a => !a.issued && a.done.isNone).map fun a => (e.1 / 128, e.1 % 128, a.seq)
    s.modPl fun q => { q with windows := Map.put { q0 := 0, q1 := 0 } i { q0 := q0, q1 := q1 } q.windows, winRefused := false, winBusy := true,
                              winDrain := passed, winBy := s.now + 10000 }

/-- No request that passed before the commit is still on its way to its home or Gazelle, or 10 us have gone by (R282). -/
def winDrained (s : State) : Bool :=
  decide (s.pl.winBy ≤ s.now) ||
    !(s.pl.winDrain.any fun x => (s.plRx x.1 x.2.1).acc.any fun a => decide (a.seq = x.2.2) && !a.issued && a.done.isNone)

/-! ### Performing accepted requests (R287, R291) -/

/-- A posted write of a request, or a read, on device memory: what it has come to. -/
def plWho (node flow seq : Nat) : Who := { w := .peer node flow seq, ctx := 0, fn := 0, q := 0, flow := flow }

/-- Answers a READ or an ATOMIC (R287). -/
def plAnswer (node flow : Nat) (a : PlAcc) (status : Nat) (payload : List Line) (s : State) : State :=
  let op := if a.op = .read then IplOp.rdata else .atomicData
  let n := plUnitCount op a.addr a.len
  s.plRespond node op flow a.seq false status a.addr a.len (if payload = [] then List.replicate n 0 else payload)

/-- Goes on with one accepted request: the request after, and the state. -/
def plStep (node flow : Nat) (a : PlAcc) (s : State) : PlAcc × State :=
  let w : Waiter := .peer node flow a.seq
  let ended (st : Nat) (s : State) : PlAcc × State := ({ a with done := some st }, s.forget w)
  let answered (st : Nat) (payload : List Line) (s : State) : PlAcc × State := ended st (s.plAnswer node flow a st payload)
  let bell := decide (regionOf a.addr = .doorbell)
  let mk (page : BitVec 10) : DbOrigin := .peer (BitVec.ofNat 8 node) (BitVec.ofNat 8 a.fn) page
  if a.fault ≠ 0 then
    (match a.op with
     | .read | .atomic => answered a.fault [] s
     | _ => ended a.fault s)
  else match a.op with
  | .write =>
    if bell then
      ended 0 ((linesOf a.addr a.len).foldl (fun s l =>
        let p := linePart a.addr (plBytes a.addr a.len a.payload) l
        s.apertureWrite mk (64 * l - 0xF000000000) p.1 p.2) s)
    else if a.issued then
      let p := s.postedOf w
      if p.1 = 0 then ended ((p.2.map Ipl.ofStatus).getD 0) s else (a, s)
    else match (deviceWrite w a.addr (plBytes a.addr a.len a.payload) a.poison 0).exec s with
      | (.error .wait, s) => (a, s)
      | (.error (.fail st), s) => ended (Ipl.ofStatus st) s
      | (.ok (), s) => if (s.postedOf w).1 = 0 then ended 0 s else ({ a with issued := true }, s)
  | .read =>
    if bell then answered 0 [] s
    else match (deviceRead w a.addr a.len).exec s with
      | (.error .wait, s) => ({ a with issued := true }, s)
      | (.error (.fail st), s) => answered (Ipl.ofStatus st) [] s
      | (.ok r, s) => if r.2 then answered Ipl.POISON [] s else answered 0 (plUnits a.addr r.1) s
  | .atomic =>
    let size := if a.len = 8 then 3 else 2
    let off := a.addr % 64
    let opnd := a.payload.headD 0
    if bell then
      let r := atomicLine a.subop size off 0 opnd
      answered 0 [BitVec.ofNat 512 r.1] (s.apertureWrite mk (a.addr - 0xF000000000) (byteMask off a.len) r.2)
    else if !a.issued then
      (match s.placeOf a.addr with
       | .hole => answered Ipl.HOLE [] s
       | .lost => answered Ipl.POISON [] s
       | _ => ({ a with issued := true }, s.addHomeTxn (a.addr / 64) (.atomic true a.subop size off opnd a.poison) (.nc w)))
    else match s.sf.got.find? fun g => decide (g.who = w) with
      | some g => (match g.data with
        | some d => if g.poison then answered Ipl.POISON [] s else answered 0 [d] s
        | none => answered (Ipl.ofStatus g.status) [] s)
      | none => (a, s)
  | .reduceWrite =>
    (match s.gz.rws.find? fun r => decide (r.node = node ∧ r.flow = flow ∧ r.seq = a.seq) with
     | some r =>
       (match r.done with
        | some st => ended (Ipl.ofStatus st) (s.modGz fun g => { g with rws := g.rws.filter fun x => !decide (x.id = r.id) })
        | none => (a, s))
     | none =>
       match s.rwUnit a.addr with
       | none => (a, s)
       | some u =>
         let r : RedWrite := { id := s.gz.nextRw, unit := u, node := node, flow := flow, seq := a.seq, addr := a.addr, fmt := a.subop,
                               data := plBytes a.addr a.len a.payload, poison := a.poison, runs := 0, begun := false, out := none, issued := false, done := none }
         ({ a with issued := true }, s.modGz fun g => { g with rws := g.rws ++ [r], nextRw := g.nextRw + 1 }))
  | _ => ended 0 s

/-- Goes on with the accepted requests of a flow in their order (R291): one is issued when every earlier one is performed; a reduce-write
follows earlier reduce-writes at once. -/
def plFlow (node flow : Nat) : List PlAcc → Bool → Bool → State → List PlAcc × State
  | [], _, _, s => ([], s)
  | a :: rest, clear, reducing, s =>
    let may := a.issued || clear || (reducing && decide (a.op = .reduceWrite))
    let r := if a.done.isNone && may then s.plStep node flow a else (a, s)
    let fin := r.1.done.isSome
    let t := plFlow node flow rest (clear && fin) (reducing && (fin || decide (a.op = .reduceWrite))) r.2
    (r.1 :: t.1, t.2)

/-- Answers for requests that have ended leave in order (R287): a failed one has its own CMP, the others are owed; one from before the pair's numbers
were replaced is acknowledged at once. -/
def plRetire (node flow : Nat) : List PlAcc → State → List PlAcc × State
  | [], s => ([], s)
  | a :: rest, s =>
    match a.done with
    | none => (a :: rest, s)
    | some st =>
      let s : State := match a.op with
        | .read | .atomic => s
        | _ =>
          if st ≠ 0 then s.plRespond node .cmp flow a.seq false st 0 0 []
          else if a.old then s.plRespond node .cmp flow a.seq true 0 0 0 []
          else s.updPlRx node flow fun r => { r with owed := r.owed + 1, oldest := if r.owed = 0 then s.now else r.oldest }
      plRetire node flow rest s

/-- The credits of a class return on a port (R284). -/
def plGive (port cls n : Nat) (s : State) : State :=
  let p := s.plPort port
  if !p.linkUp then s
  else (s.setPlPort port { p with grant := p.grant.set cls (p.grant.getD cls 0 + n) }).emit (.plCredit port cls n)

/-- An accepted request has left its receive buffer: it has gone to its home, or a Gazelle has taken it (R285). -/
def plLeft (s : State) (node flow : Nat) (a : PlAcc) : Bool :=
  a.done.isSome || (a.issued && (decide (a.op ≠ .reduceWrite) ||
    !(s.gz.rws.any fun r => decide (r.node = node ∧ r.flow = flow ∧ r.seq = a.seq) && !r.begun && r.done.isNone)))

/-- The credits of accepted requests that have left their buffer return. -/
def plFree (node flow : Nat) : List PlAcc → State → List PlAcc × State
  | [], s => ([], s)
  | a :: rest, s =>
    let go := !a.freed && s.plLeft node flow a
    let s := if go then s.plGive a.port (plClass a.op) (1 + a.payload.length) else s
    let r := plFree node flow rest s
    ({ a with freed := a.freed || go } :: r.1, r.2)

/-- Goes on with a flow: what can be performed is performed, what has ended is answered. -/
def pumpFlow (node flow : Nat) (s : State) : State :=
  let r := s.plRx node flow
  if r.acc = [] then s
  else
    let x := plFlow node flow r.acc true true s
    let z := plFree node flow x.1 x.2
    let y := plRetire node flow z.1 z.2
    let s := y.2.updPlRx node flow fun r => { r with acc := y.1 }
    let r := s.plRx node flow
    if 64 ≤ r.owed ∨ (r.dup && r.acc.all (·.old)) then s.plAck node flow else s

/-- A pair's numbers are lost or replaced (R286): what it has accepted is performed and answered still (R287). -/
def renumbered (expected : Option Nat) (r : PlRx) : PlRx :=
  { PlRx.reset with expected := expected, acc := r.acc.map fun a => { a with old := true } }

/-- Goes on with every flow. -/
def pumpIplRx (s : State) : State := s.pl.rx.foldl (fun s e => s.pumpFlow (e.1 / 128) (e.1 % 128)) s

/-! ### Arriving requests (R286) -/

/-- A packet takes the credits of its class on the port on which it arrives (R284); it cannot arrive without (log entry 113). -/
def plArrive (op : IplOp) (m : IplPkt) (f : State → State) (s : State) : State :=
  let p := s.plPort m.port.val
  let cls := plClass op
  let cost := 1 + m.payload.length
  if !s.plUp m.port.val || decide (p.grant.getD cls 0 < cost) then s
  else f (s.setPlPort m.port.val { p with fails := 0, grant := p.grant.set cls (p.grant.getD cls 0 - cost) })

/-- A packet leaves the receive buffer as it is taken or discarded. -/
def plTaken (op : IplOp) (m : IplPkt) (s : State) : State := s.plGive m.port.val (plClass op) (1 + m.payload.length)

/-- The packet is discarded, and BAD_PACKET is set (R279). -/
def plDiscard (op : IplOp) (m : IplPkt) (s : State) : State :=
  (s.plTaken op m).raise Reg.PL Err.PL_BAD_PACKET { Capture.none with cls := 9, index := m.src.toNat }

/-- A request in sequence is accepted, with the status of a check that it fails (R279, R281). -/
def plAccept (op : IplOp) (m : IplPkt) (e : Nat) (s : State) : State :=
  let node := m.src.toNat
  let flow := m.flow.toNat
  let bad := plMalformed op m
  let win := s.plWindow op node m.addr.toNat m.len.toNat
  let fault := if bad then Ipl.MALFORMED else if win.isNone then Ipl.DENIED else 0
  let s := s.bump Reg.PL_STAT_RX
  let s : State := if fault = Ipl.DENIED then
      (s.raise Reg.PL Err.PL_WIN_DENIED { Capture.none with addr := w64 m.addr.toNat, space := 7, cls := 9, index := node }).bump Reg.PL_STAT_DENIED
    else s
  let a : PlAcc := { seq := m.seq.toNat, op := op, subop := m.subop.toNat, addr := m.addr.toNat, len := m.len.toNat, payload := m.payload,
                     fn := win.getD 0, poison := m.poison, fault := fault, issued := false, done := none, old := false, port := m.port.val,
                     freed := false }
  (s.updPlRx node flow fun r => { r with expected := some ((e + 1) % 65536), acc := r.acc ++ [a] }).pumpFlow node flow

/-- A request packet arrives (R279, R286). -/
def plRequestIn (op : IplOp) (m : IplPkt) : State → State := plArrive op m fun s =>
  if s.plBad op m then s.plDiscard op m
  else
    let node := m.src.toNat
    let flow := m.flow.toNat
    let seq := m.seq.toNat
    let r := s.plRx node flow
    if op = .sync then
      -- what is owed under the old numbers is acknowledged first (R287)
      let s := if 0 < r.owed then s.plAck node flow else s
      ((s.setPlRx node flow (renumbered (some seq) r)).plTaken op m).plRespond node .cmp flow seq false 0 0 0 []
    else match r.expected with
      | none => (s.plTaken op m).plNak node flow
      | some e =>
        if seq = e then s.plAccept op m e
        else if (e + 65536 - 1 - seq) % 65536 < 32768 then
          -- a duplicate is answered once everything up to EXPECTED - 1 has been performed
          let s := ((s.plTaken op m).bump Reg.PL_STAT_DUP).updPlRx node flow fun r => { r with dup := true }
          if (s.plRx node flow).acc.all (·.old) then s.plAck node flow else s
        else (s.plTaken op m).plNak node flow

/-- ACK_NS has passed since the oldest owed answer (R287). -/
def ackTimer (node flow : Nat) (s : State) : State := if 0 < (s.plRx node flow).owed then s.plAck node flow else s

/-! ### Answers at the sender (R280, R287 to R290) -/

/-- Room in the retransmit buffers has come free: every pair that waits for it goes on (R288). -/
def plPumpAll (s : State) : State :=
  (s.pl.tx.filter fun e => !e.2.wait.isEmpty).foldl (fun s e => plPump 2048 (e.1 / 128) (e.1 % 128) s) s

/-- The pair has made progress (R289): its timer restarts, and what waits may go. -/
def plProgress (node flow : Nat) (s : State) : State :=
  let tx := s.plTx node flow
  (plPump 2048 node flow (s.setPlTx node flow { tx with since := s.now, expiries := 0 })).plPumpAll

/-- Takes an answered request off its pair. -/
def plTakeSent (node flow : Nat) (x : PlSent) (s : State) : State :=
  let tx := s.plTx node flow
  s.setPlTx node flow { tx with unacked := tx.unacked.erase x }

/-- A request ends without success for its waiter. -/
def plFailSent (x : PlSent) (st : Nat) (s : State) : State :=
  match x.op with
  | .read | .atomic => (s.modPl fun q => { q with failures := q.failures ++ [(x.who, st)] }).wakeUp x.who
  | .write | .reduceWrite => s.postedDone x.who (some st)
  | _ => s

/-- RDATA or ATOMIC_DATA (R287): the data, or its failure, reaches its waiter. -/
def plDataIn (m : IplPkt) (atomic : Bool) (s : State) : State :=
  let node := m.src.toNat
  let flow := m.flow.toNat
  let want := if atomic then IplOp.atomic else .read
  match (s.plTx node flow).unacked.find? fun x => decide (x.seq = m.seq.toNat) && decide (x.op = want) with
  | none => s
  | some x =>
    let s := s.plTakeSent node flow x
    let st := m.status.toNat
    let ls := if atomic then [x.addr / 64] else linesOf x.addr x.len
    let s : State :=
      if st = Ipl.OK ∨ st = Ipl.POISON then
        ((List.range ls.length).foldl (fun s i => s.modSf fun f =>
          { f with got := f.got ++ [{ who := x.who, line := peerLine node (ls.getD i 0), data := some (m.payload.getD i 0),
                                      poison := decide (st = Ipl.POISON) }] }) s).wakeUp x.who
      else s.plFailSent x (Ipl.toStatus st)
    s.plProgress node flow

/-- CMP (R287, R294): its own request's status, or an acknowledgement of every write up to its number. -/
def plCmpIn (m : IplPkt) (s : State) : State :=
  let node := m.src.toNat
  let flow := m.flow.toNat
  let seq := m.seq.toNat
  let tx := s.plTx node flow
  let posted (x : PlSent) : Bool := decide (x.op = .write ∨ x.op = .reduceWrite ∨ x.op = .sync)
  if m.cum then
    let done := tx.unacked.filter fun x => posted x && decide ((seq + 65536 - x.seq) % 65536 < 32768)
    if done = [] then s
    else (done.foldl (fun s x => let s := s.plTakeSent node flow x; if x.op = .sync then s else s.postedDone x.who none) s).plProgress node flow
  else match tx.unacked.find? fun x => decide (x.seq = seq) && posted x with
    | none => s
    | some x =>
      let s := s.plTakeSent node flow x
      let st := m.status.toNat
      let s : State :=
        if x.op = .sync then s
        else if st = Ipl.OK then s.postedDone x.who none
        else if st = Ipl.REDO ∧ x.op = .reduceWrite then
          -- reissued as a new request with the next SEQ (R294)
          let tx := s.plTx node flow
          (s.setPlTx node flow { tx with wait := x :: tx.wait }).bump Reg.PL_STAT_REDO
        else s.postedDone x.who (some (Ipl.toStatus st))
      s.plProgress node flow

/-- Sends unanswered requests again from a number on, in SEQ order (R289), where a port reaches the node. -/
def plResend (node flow : Nat) (sel : PlSent → Bool) (s : State) : State :=
  let tx := s.plTx node flow
  (if (s.plPortFor node flow).isNone then [] else tx.unacked.filter sel).foldl (fun s x => (s.plTransmit node flow x).bump Reg.PL_STAT_RETX)
    (s.setPlTx node flow { tx with since := s.now })

/-- A pair has lost its numbers (R290): every unanswered request of it ends, and it goes on behind a SYNC. -/
def plRestart (node flow : Nat) (s : State) : State :=
  let tx := s.plTx node flow
  let s := s.setPlTx node flow { tx with unacked := [], synced := false, expiries := 0 }
  let s := tx.unacked.foldl (fun s x => s.plFailSent x St.DEVICE_ERROR) s
  (plPump 2048 node flow (match s.plPortFor node flow with | some p => s.plSync node flow p | none => s)).plPumpAll

/-- NAK (R289, R290). -/
def plNakIn (m : IplPkt) (s : State) : State :=
  let node := m.src.toNat
  let flow := m.flow.toNat
  if m.status.toNat = Ipl.SYNC_NEEDED then s.plRestart node flow
  else s.plResend node flow fun x => decide ((x.seq + 65536 - m.seq.toNat) % 65536 < 32768)

/-- A response arrives, and is consumed without condition (R279, R285). -/
def plResponseIn (op : IplOp) (m : IplPkt) : State → State := plArrive op m fun s =>
  if s.plBad op m then s.plDiscard op m
  else
    let s := s.plTaken op m
    match op with
    | .rdata => s.plDataIn m false
    | .atomicData => s.plDataIn m true
    | .cmp => s.plCmpIn m
    | .nak => s.plNakIn m
    | _ => s

/-- Every request to a node ends with DEVICE_ERROR, on any flow (R289). -/
def plDropNode (node : Nat) (s : State) : State :=
  let mine := s.pl.tx.filter fun e => decide (e.1 / 128 = node)
  (mine.foldl (fun s e =>
    let s := s.setPlTx node (e.1 % 128) { e.2 with unacked := [], wait := [], expiries := 0 }
    (e.2.unacked ++ e.2.wait).foldl (fun s x => s.plFailSent x St.DEVICE_ERROR) s) s).plPumpAll

/-- The retransmit timer of a pair expires (R289). -/
def plExpiry (node flow : Nat) (s : State) : State :=
  let tx := s.plTx node flow
  if tx.unacked = [] then s
  else if max 1 (s.regBits Reg.PL_TIMEOUT 47 40) ≤ tx.expiries + 1 then
    ((s.modPl fun q => { q with unreach := addNew node q.unreach }).raise Reg.PL Err.PL_NODE_UNREACH
      { Capture.none with cls := 9, index := node }).plDropNode node
  else (s.setPlTx node flow { tx with expiries := tx.expiries + 1 }).plResend node flow fun _ => true

/-- PL_ROUTE.RESYNC for the node that PL_SEL names (R289). -/
def plResync (s : State) : State :=
  let node := s.regBits Reg.PL_SEL 7 0
  s.modPl fun q =>
    { q with unreach := q.unreach.filter (· ≠ node),
             tx := Map.mapVals (fun k (t : PlTx) => if k / 128 = node then { t with synced := false } else t) q.tx }

/-! ### Credits and links -/

/-- Sends what a port holds for credits, in order within each class (R284). -/
def plDrain (port : Nat) : Nat → State → State
  | 0, s => s
  | n + 1, s =>
    let p := s.plPort port
    match p.held.find? fun h => decide (h.2.1 ≤ p.credits.getD h.1 0) && decide ((p.held.find? fun x => decide (x.1 = h.1)) = some h) with
    | none => s
    | some h =>
      plDrain port n ((s.setPlPort port { p with held := p.held.erase h, credits := p.credits.set h.1 (p.credits.getD h.1 0 - h.2.1) }).emit h.2.2)

/-- The switch returns credits of a class (R284). -/
def plCredit (port cls n : Nat) (s : State) : State :=
  let p := s.plPort port
  if !p.linkUp then s
  else
    let s := s.setPlPort port { p with credits := p.credits.set cls (p.credits.getD cls 0 + n) }
    plDrain port (p.held.length) s

/-- The usable ports have changed (R275): what waits goes out on another port, and every request to a node that no port reaches any more ends. -/
def plReroute (s : State) : State :=
  s.pl.tx.foldl (fun s e =>
    let node := e.1 / 128
    let flow := e.1 % 128
    let tx := s.plTx node flow
    if s.plRoute node = [] then
      (tx.unacked ++ tx.wait).foldl (fun s x => s.plFailSent x St.DEVICE_ERROR) (s.setPlTx node flow { tx with unacked := [], wait := [], expiries := 0 })
    else plPump 2048 node flow s) s

/-- ol_laser_en of a port (R435). -/
def laserOn (s : State) (p : Nat) : Bool :=
  s.regBit Reg.PL_CTRL 0 && s.regBit Reg.PL_CTRL (4 + p) && !s.isFenced (Dom.plIf p) && !s.isFenced (Dom.plLogic p) && !(s.plPort p).fault

/-- A port's link is no longer up: what it held for credits is gone, and the sender's timers find it (R271). The credits of both sides begin anew. -/
def plLinkLost (p : Nat) (s : State) : State :=
  let kept (a : PlAcc) : PlAcc := if a.port = p then { a with freed := true } else a
  (s.setPlPort p { s.plPort p with linkUp := false, x8 := false, high := false, credits := PlPort.reset.credits, held := [], grant := PlPort.reset.grant }).modPl
    fun q => { q with rx := Map.mapVals (fun _ (r : PlRx) => { r with acc := r.acc.map kept }) q.rx }

/-- The port's link goes down under R271. -/
def plLinkDown (p : Nat) (s : State) : State :=
  let x := s.plPort p
  if !x.linkUp ∧ !x.training then s
  else
    let s := s.plLinkLost p
    (((s.setPlPort p { s.plPort p with training := false, retrain := false }).emit (.plDown p)).raise Reg.PL Err.PL_LINK_DOWN Capture.none).plReroute

/-- A link starts training, or trains again, what it held then waiting for it (R270, R271, R435). -/
def plStartTrain (p : Nat) (s : State) : State :=
  let again := (s.plPort p).linkUp || (s.plPort p).retrain
  let s := if again then s else s.plLinkLost p
  (s.setPlPort p { s.plPort p with linkUp := false, training := true, retrain := again, fails := 0 }).emit (.plTrain p)

/-- One link block has failed and is replayed (R271); at the eighth failure in a row the link retrains, and goes down if that fails. -/
def plBlockFail (p : Nat) (retrained : Bool) (s : State) : State :=
  let x := s.plPort p
  if !x.linkUp then s
  else
    let x := { x with replays := min 0xFFFFFFFF (x.replays + 1), fails := x.fails + 1 }
    let s := s.setPlPort p x
    if x.fails < 8 then s
    else if retrained then s.plStartTrain p
    else s.plLinkDown p

/-- A link has trained (R270): x8, or x4 on one half of its lanes where X4_ALLOW lets it. -/
def plTrained (p : Nat) (x8 high : Bool) (s : State) : State :=
  let x := s.plPort p
  if !s.laserOn p ∨ x.ready.isNone ∨ !x.training ∨ (!x8 ∧ !s.regBit Reg.PL_CTRL (8 + p)) then s
  else
    let s := s.setPlPort p { x with linkUp := true, x8 := x8, high := high && !x8, training := false, retrain := false, fails := 0 }
    (plDrain p x.held.length s).plReroute

/-- ol_ready rises while the lasers are on (R435): the link trains, from step 7 of power-up on (R341). -/
def plReady (p : Nat) (s : State) : State :=
  if s.laserOn p then
    let s := s.setPlPort p { s.plPort p with ready := some s.now }
    if s.boot.loaded then s.plStartTrain p else s
  else s

/-- A lane loses its light (R435): the link retrains if the lane is in use. -/
def plLos (p lane : Nat) (s : State) : State :=
  let x := s.plPort p
  if x.linkUp && (x.x8 || decide (lane / 4 = b2n x.high)) then s.plStartTrain p else s

/-- ol_fault (R435): the lasers go off, and the link down. -/
def plFault (p : Nat) (s : State) : State :=
  let on := s.laserOn p
  let s := s.setPlPort p { s.plPort p with fault := true, ready := none }
  (if on then s.emit (.laser p false) else s).plLinkDown p

/-- A write of PL_CTRL has taken effect (R270, R273, R288, R435); `old` is its value before. -/
def plCtrlChanged (old : Word) (s : State) : State :=
  let s : State := if s.regBit Reg.PL_CTRL 0 ∧ !bit old 0 then
      s.modPl fun q => { q with tx := Map.mapVals (fun _ (t : PlTx) => { t with synced := false }) q.tx } else s
  plReroute <| (List.range 4).foldl (fun s p =>
    let was := bit old 0 && bit old (4 + p) && !s.isFenced (Dom.plIf p) && !s.isFenced (Dom.plLogic p) && !(s.plPort p).fault
    let is := s.laserOn p
    if was = is then s
    else if is then s.emit (.laser p true)
    else
      let up := (s.plPort p).linkUp || (s.plPort p).training
      let s := (s.plLinkLost p).setPlPort p { (s.plLinkLost p).plPort p with training := false, retrain := false, ready := none }
      let s := s.emit (.laser p false)
      if up then s.emit (.plDown p) else s) s

end State

end Sys2Proof.Machine
end

