-- ==== Sys2Proof/Machine/Power.lean ====
section
/-! DEFINITION. Clocks, rails and power domains (spec/14): the PLL (R363), performance levels and the regulators' handshake (R365 to R367,
R436), adaptive voltage (R369, R370), and the domains' entries, refusals and wakes (R371 to R378). -/

namespace Sys2Proof.Machine

namespace State

/-! ### Levels and rails -/

/-- The rail of a domain (R371 Table 4): 0 X, 1 M, 2 P, 3 AON. -/
def railOf (d : Nat) : Nat :=
  if d < 48 then 1 else if d < 60 then 0 else if d < 78 then 2 else if d < 82 then 1 else if d < 90 then 2 else if d = 90 then 0
  else if d < 95 then 1 else 3

/-- Nominal voltages in mV (R364, R365 Table 2). -/
def nominal (rail level : Nat) : Nat :=
  match rail with
  | 0 => match level with | 0 => 780 | 1 => 700 | 2 => 640 | _ => 580
  | 1 => match level with | 0 => 800 | 1 => 720 | _ => 660
  | 2 => 720
  | _ => 750

/-- The level in force on a rail. -/
def levelOf (s : State) (rail : Nat) : Nat := match rail with | 0 => s.ck.xLevel | 1 => s.ck.mLevel | _ => 0

/-- The change of a rail's group in progress (R366). -/
def moveOf (s : State) (rail : Nat) : Option LevelMove := match rail with | 0 => s.ck.xMove | 1 => s.ck.mMove | _ => none

def setLevelMove (rail : Nat) (m : Option LevelMove) (s : State) : State :=
  s.modCk fun c => if rail = 0 then { c with xMove := m } else if rail = 1 then { c with mMove := m } else c

/-- The assist codes of a level (R365 Table 2): read, write and retention assist. -/
def assistCodes (rail level : Nat) : Nat × Nat × Nat :=
  match rail with
  | 0 => match level with | 0 => (0, 0, 1) | 1 => (1, 0, 1) | 2 => (1, 1, 2) | _ => (2, 2, 2)
  | 1 => match level with | 0 => (0, 0, 1) | 1 => (1, 0, 1) | _ => (1, 1, 2)
  | _ => (1, 0, 1)

/-- The arrays of a rail, or of one domain of it, are driven with the assist codes of a level. -/
def driveAssist (rail : Nat) (d : Option Nat) (level : Nat) (s : State) : State :=
  let c := assistCodes rail level
  s.emit (.assist rail d c.1 c.2.1 c.2.2)

/-- The arrays of a domain take the codes of the level in force: as it enters NAP, and when its wake ends (R365, R367). -/
def domainAssist (d : Nat) (s : State) : State := s.driveAssist (railOf d) (some d) (s.levelOf (railOf d))

/-- The level takes effect (R366 Table 3): raising the frequency the codes come before the group's divisor switches, lowering it behind. -/
def setLevel (rail level : Nat) (s : State) : State :=
  let divisor (s : State) : State :=
    (s.modCk fun c => if rail = 0 then { c with xLevel := level } else { c with mLevel := level }).emit (.level rail level)
  if level < s.levelOf rail then divisor (s.driveAssist rail none level) else (divisor s).driveAssist rail none level

/-- The trim of a rail at a level, in steps of 5 mV: the least that a domain of it holds, 0 for one that has never reported (R369). -/
def railTrim (s : State) (rail level : Nat) : Nat :=
  if rail = 3 then 0
  else (((List.range 95).filter fun d => decide (railOf d = rail)).map fun d => Map.getD 0 (96 * level + d) s.ck.trims).foldl min 255

/-- The voltage a rail is to have (R365): the nominal of its level, or of the level it is changing to, less the trim. -/
def railWant (s : State) (rail : Nat) : Nat :=
  let l := match s.moveOf rail with | some m => m.target | none => s.levelOf rail
  nominal rail l - 5 * s.railTrim rail l

def vregOf (s : State) (rail : Nat) : Vreg := Map.getD Vreg.reset rail s.ck.vregs
def setVreg (rail : Nat) (v : Vreg) (s : State) : State := s.modCk fun c => { c with vregs := Map.put Vreg.reset rail v c.vregs }

/-- A request to the regulator goes out once the channel is free and the voltage is to change (R436). -/
def vregPump (rail : Nat) (s : State) : State :=
  let v := s.vregOf rail
  let due := match s.moveOf rail with | some m => !m.asked | none => false
  if v.req || v.ack || !(due || decide (v.mv ≠ s.railWant rail)) then s
  else
    let mv := s.railWant rail
    let s := match s.moveOf rail with | some m => s.setLevelMove rail (some { m with asked := true }) | none => s
    (s.setVreg rail { mv := mv, req := true, ack := false }).emit (.vreg rail mv true)

/-- The target that CK_LEVEL holds for a group (Table 15): M_TARGET 3 acts as 2. -/
def targetOf (s : State) (rail : Nat) : Nat :=
  if rail = 0 then s.regBits Reg.CK_LEVEL 1 0 else min 2 (s.regBits Reg.CK_LEVEL 5 4)

/-- CK_ or PM_ is in its safe state: domains stay ACTIVE, levels and trims are held (R398). -/
def powerHeld (s : State) : Bool := s.regBit Reg.PM_SAFE_STATE 13 || s.regBit Reg.PM_SAFE_STATE 14

/-- A change begins when the target differs from the level in force (R366): lowering the frequency switches the divisor first. -/
def levelStart (rail : Nat) (s : State) : State :=
  let t := s.targetOf rail
  let l := s.levelOf rail
  if (s.moveOf rail).isSome ∨ t = l ∨ s.powerHeld then s
  else
    let s := if l < t then s.setLevel rail t else s
    (s.setLevelMove rail (some { source := l, target := t, asked := false })).vregPump rail

/-- A write of CK_LEVEL (R366). -/
def levelWrite (h : Half) (v : Word) (s : State) : State := ((s.storeReg Reg.CK_LEVEL h v).levelStart 0).levelStart 1

/-- A change ends; a target written meanwhile is taken up. -/
def levelEnd (rail : Nat) (s : State) : State := (s.setLevelMove rail none).levelStart rail

/-- The regulator acknowledges (R366, R436): the block lowers its request. -/
def vregAcked (rail : Nat) (s : State) : State :=
  let v := s.vregOf rail
  if !v.req then s
  else
    let s := (s.setVreg rail { v with req := false, ack := true }).emit (.vreg rail v.mv false)
    match s.moveOf rail with
    | some m =>
      if !m.asked then s
      else
        let s := if m.target < m.source then s.setLevel rail m.target else s
        (s.bump Reg.CK_STAT_LEVEL_CHANGE).levelEnd rail
    | none => s

/-- vreg_ack falls: the channel is free for the next request (R436). -/
def vregAckFell (rail : Nat) (s : State) : State :=
  let v := s.vregOf rail
  if v.ack then (s.setVreg rail { v with ack := false }).vregPump rail else s

/-- The regulator has not acknowledged in time (R367). -/
def vregTimeoutOp (rail : Nat) (s : State) : State :=
  let v := s.vregOf rail
  if !v.req then s
  else
    let s := (s.setVreg rail { v with req := false }).emit (.vreg rail v.mv false)
    let s := s.raise Reg.CK Err.CK_VREG_TIMEOUT { Capture.none with index := rail }
    let s : State := match s.moveOf rail with
      | some m =>
        if !m.asked then s
        else
          let s := if m.target < m.source then
              (if rail = 0 then s.setRegBits Reg.CK_LEVEL 1 0 m.source else s.setRegBits Reg.CK_LEVEL 5 4 m.source) else s
          s.levelEnd rail
      | none => s
    s.vregPump rail

/-! ### Adaptive voltage (R369, R370) -/

/-- The trim a domain holds at a level. -/
def trimOf (s : State) (d level : Nat) : Nat := Map.getD 0 (96 * level + d) s.ck.trims

/-- A domain's trim; it has now reported at the level. -/
def setTrim (d level t : Nat) (s : State) : State := s.modCk fun c => { c with trims := Map.insert (96 * level + d) t c.trims }

def rails (s : State) : State := (((s.vregPump 0).vregPump 1).vregPump 2).vregPump 3

/-- A period of the AVFS loop (R369): each awake domain on a rail that keeps its level. -/
def avfs (samples : List Slack) (s : State) : State :=
  if !s.regBit Reg.CK_CTRL 0 || s.powerHeld then s
  else
    let top := min 20 (s.regBits Reg.CK_AVFS_CFG 55 48)
    let one (s : State) (d : Nat) : State :=
      let mine := (samples.filter fun x => decide (x.domain.val = d)).map (·.slack.toNat)
      let rail := railOf d
      if mine = [] ∨ rail = 3 ∨ (s.dom d).st ≠ .active ∨ (s.moveOf rail).isSome then s
      else
        let low := mine.foldl min 255
        let l := s.levelOf rail
        let t := s.trimOf d l
        s.setTrim d l (if low < s.regBits Reg.CK_AVFS_CFG 39 32 then t - 1
          else if s.regBits Reg.CK_AVFS_CFG 47 40 < low then max t (min top (t + 1)) else t)
    ((List.range 95).foldl one s).rails

/-- A monitor reports slack below DROOP_TH (R370): the group's clock is stretched and the domain's trim falls at once. -/
def droopOp (d slack : Nat) (s : State) : State :=
  let rail := railOf d
  if s.regBits Reg.CK_AVFS_CFG 31 24 ≤ slack ∨ rail = 3 then s
  else
    let l := s.levelOf rail
    let again := decide (d ∈ s.ck.stretched) && decide (s.railTrim rail l = 0)
    let s := s.bump Reg.CK_STAT_STRETCH
    let s := if s.regBit Reg.CK_CTRL 0 && !s.powerHeld then s.setTrim d l (s.trimOf d l - 1) else s
    let s := s.modCk fun c => { c with stretched := addNew d c.stretched }
    let s := if again then s.raise Reg.CK Err.CK_AVFS_LIMIT { Capture.none with index := d } else s
    s.rails

/-! ### The PLL (R363) -/

def pllUnlockOp (s : State) : State :=
  if s.ck.pll ≠ .locked then s
  else
    let s := s.modCk fun c => { c with pll := .relocking, relocks := c.relocks + 1 }
    (s.bump Reg.CK_STAT_RELOCK).raise Reg.CK Err.CK_PLL_UNLOCK Capture.none

def pllFailOp (s : State) : State :=
  if s.ck.pll ≠ .relocking then s
  else (s.modCk fun c => { c with pll := .failed }).raise Reg.CK Err.CK_PLL_FAIL Capture.none

/-! ### Domains (R371 to R378) -/

/-- States by depth. -/
def depth : PmSt → Nat
  | .active => 0
  | .idle => 1
  | .nap => 2
  | .off => 3

/-- A device-cache slice's lines that keep it from OFF (R21, R247): dirty, locked, or held by a chip agent. -/
def sliceLines (s : State) (n : Nat) : List DcLine := (s.dc.lines.filter fun e => decide (e.1 / 16 / 4096 = n)).map (·.2)

/-- The deepest state that a domain's floors allow (R374 Table 6, R21). -/
def floorOf (s : State) (d : Nat) : Nat :=
  let cfg := Reg.PM_DOM_CFG + 8 * d
  let serving := s.servingHold
  if d = 95 ∨ s.regBit cfg 63 ∨ !s.regBit Reg.PM_CTRL 0 then 0
  else
    let f :=
      if d < 32 then
        (if (s.sliceLines (d % 16)).any fun l => l.lock || decide (l.hstate = 3) || decide (l.cstate ≠ 3) then 2 else 3)
      else if d < 48 then (if s.sf.entries.any fun e => decide (e.1 / 16 / 32768 = d - 32) then 2 else 3)
      else if 56 ≤ d ∧ d < 60 then (if serving then 1 else 3)
      else if 60 ≤ d ∧ d < 76 then
        (match (s.dnPort ((d - 60) % 8)).st with | .starting | .up | .evacuating => 1 | _ => 3)
      else if d = 76 ∨ d = 77 then (if !s.up.linkUp then 3 else if s.up.lpm < 2 then 1 else 2)
      else if 78 ≤ d ∧ d < 82 then
        (if serving && s.qe.queues.any (fun e => decide (e.1 / 16384 = d - 78) && e.2.serve) then 1
         else if s.qe.queues.any fun e => decide (e.1 / 16384 = d - 78) && decide (e.2.st ≠ .disabled) then 2 else 3)
      else if 86 ≤ d ∧ d < 90 then (if (s.plPort (d - 86)).linkUp then 1 else 3)
      else if d = 90 then
        (if serving then 1 else if !s.bt.reqs.isEmpty || (s.ib.active && !(s.livePages).isEmpty) then 2 else 3)
      else if d = 91 then (if serving then 1 else 3)
      else if d = 94 then (if s.rp.recording then 1 else 3)
      else 3
    min f (s.regBits cfg 49 48)

/-- The unit holds work (R372): a crossing transaction of it is open. -/
def unitBusy (s : State) (d : Nat) : Bool :=
  (if 48 ≤ d ∧ d < 56 then s.gzBusy (d - 48) || (s.gz.rws.any fun r => decide (r.unit = d - 48))
   else if 56 ≤ d ∧ d < 60 then decide (s.sbUnit (d - 56) ≠ SbUnit.reset)
   else if 60 ≤ d ∧ d < 76 then s.dn.reqs.any fun r => decide (r.port = (d - 60) % 8)
   else if d = 76 ∨ d = 77 then !s.upQuiet
   else if 78 ≤ d ∧ d < 82 then (s.qe.works.any fun w => decide (w.q / 16384 = d - 78)) || (s.qe.queues.any fun e => decide (e.1 / 16384 = d - 78) && e.2.reading)
   else if 82 ≤ d ∧ d < 86 then s.pl.tx.any fun e => e.2.unacked.any fun x => decide (x.port = d - 82)
   else if d = 90 then s.bt.step.isSome || s.ch.moves.any isIbexMove
   else if d = 91 then s.ch.cmdBusy || s.ch.moves.any (·.running) || !s.ch.reqs.isEmpty
   else if d = 92 ∨ d = 93 then s.ch.moves.any (·.running) || s.qe.works.any fun w => decide (w.phase = .running ∧ dOpcode w.desc < 4)
   else if d = 94 then !s.rp.fifo.isEmpty
   else false)

/-- The unit holds work, or something is queued to it (R372). -/
def domBusy (s : State) (d : Nat) : Bool := s.crossingHeld d || s.unitBusy d

/-- The refuser of an entry (R377 Table 9), 0 if there is none. -/
def refuser (s : State) (d : Nat) : Nat :=
  if (s.dom d).dbgHold then 4
  else if 32 ≤ d ∧ d < 48 then
    (if s.fp.nt.any fun e => decide (e.port = d - 32) then 1 else if s.sf.txns.any fun t => decide (t.slice = d - 32) && !isHostLine t.line then 5 else 0)
  else if d < 32 then (if s.dc.cmd = 1 then 3 else if s.sf.txns.any fun t => decide (t.slice = d % 16) && isHostLine t.line then 2 else 0)
  else 0

/-- The refuser that holds at the end of the quiesce cycles (R377): a crossing transaction that is still open too. -/
def quiesceRefuser (s : State) (d : Nat) : Nat := if s.refuser d ≠ 0 then s.refuser d else if s.unitBusy d then 2 else 0

/-- An entry is refused. -/
def refuseEntry (d code : Nat) (s : State) : State :=
  s.updDom d fun x => { x with entering := none, refused := min 0xFFFF (x.refused + 1), last := code }

/-- A level that is asserted for a domain (R374 Table 7): a timer's request that the always-on domain holds for it, an event of its port, a wake
input. -/
def levelSource (s : State) (d : Nat) : Bool :=
  (s.dom d).timer ||
  (decide (60 ≤ d ∧ d < 68) && decide (s.reg (Reg.DN_PORT_EVENT + 8 * (d - 60)) ≠ 0)) ||
  (s.pm.inputs.any fun i => s.regBit (Reg.PM_WAKE_IN + 8 * i) 8 && !s.regBit (Reg.PM_WAKE_IN + 8 * i) 7 && decide (s.regBits (Reg.PM_WAKE_IN + 8 * i) 6 0 = d))

/-- An entry is aborted by a wake source (R372). -/
def abortEntry (d : Nat) (s : State) : State :=
  (s.updDom d fun x => { x with entering := none, aborted := min 0xFFFF (x.aborted + 1) }).modPm fun p =>
    { p with saved := p.saved.filter fun b => !decide (Dom.bank b = d) }

/-- A timer expires and an entry begins, unless a refuser holds (R372, R377). A level that is asserted aborts it. The idle timers start at step 7
of power-up (R340). -/
def tryEntry (d : Nat) (source target : PmSt) (timer : Nat) (s : State) : State :=
  let x := s.dom d
  if x.st ≠ source ∨ x.entering.isSome ∨ x.waking ∨ s.isFenced d ∨ timer = 0 ∨
      !s.boot.loaded ∨ s.clocksStopped ∨ s.powerHeld ∨ s.floorOf d < depth target ∨ s.domBusy d then s
  else if s.refuser d ≠ 0 then s.refuseEntry d (s.refuser d)
  else if s.levelSource d then s.abortEntry d
  else s.setDom d { x with entering := some target }

def idleTimer (d : Nat) (s : State) : State := s.tryEntry d .active .idle (s.regBits (Reg.PM_DOM_CFG + 8 * d) 7 0)
def napTimer (d : Nat) (s : State) : State := s.tryEntry d .idle .nap (s.regBits (Reg.PM_DOM_CFG + 8 * d) 31 16)
def offTimer (d : Nat) (s : State) : State := s.tryEntry d .nap .off (s.regBits (Reg.PM_DOM_CFG + 8 * d) 47 32)

/-- What a domain does as it enters a state (R247, R365, R373): a NAP is entered with the retention assist of the level in force and without the
side buffer, OFF without the lines of a slice. -/
def entered (d : Nat) (x : PmSt) (s : State) : State :=
  let s := if x = .nap then s.domainAssist d else s
  if d < 32 then
    (match x with
     | .nap => s.prefDrop (d % 16)
     | .off => s.modDc fun c => { c with lines := c.lines.filter fun e => !decide (e.1 / 16 / 4096 = d % 16) }
     | _ => s)
  else if 32 ≤ d ∧ d < 48 ∧ (x = .nap ∨ x = .off) then
    -- the port's reservations are broken (R262)
    s.modFp fun f => { f with rsv := f.rsv.filter fun r => !decide (r.port = d - 32) }
  else s

/-- A level asserted for a domain (R374 Table 7): a pending access, a floor above its state, or one that the chip or a slot asserts. -/
def levelWake (s : State) (d : Nat) : Bool := s.crossingHeld d || decide (s.floorOf d < depth (s.dom d).st) || s.levelSource d

/-- A wake begins. -/
def startWake (d : Nat) (s : State) : State := s.updDom d fun x => { x with waking := true, retried := false }

/-- An entry that has ended: a level that is asserted for a sleeping domain wakes it (R374, R376). -/
def seeLevels (d : Nat) (s : State) : State :=
  if (s.dom d).st = .active then s.updDom d fun x => { x with timer := false } else if s.levelWake d then s.startWake d else s

/-- The final window of an entry ends (R376): the domain is in its new state, and a level seen there wakes it. A bank enters OFF only once its
save area has been written (R373). -/
def entryCommitOp (d : Nat) (s : State) : State :=
  let x := s.dom d
  match x.entering with
  | none => s
  | some t =>
    if s.quiesceRefuser d ≠ 0 then (s.refuseEntry d (s.quiesceRefuser d)).seeLevels d
    else if t = .off ∧ 78 ≤ d ∧ d < 82 ∧ !decide (d - 78 ∈ s.pm.saved) then s
    else ((s.setDom d { x with st := t, entering := none }).entered d t).seeLevels d

/-- The save of a bank's records on its way to OFF (R373): its area holds them, in a layout that the spec does not give (log entry 69). The holders
of its lines are invalidated, as for every write of the block's own (log entry 87). -/
def saveDone (bank : Nat) (ok : Bool) (s : State) : State :=
  let d := Dom.bank bank
  let x := s.dom d
  if x.entering ≠ some .off then s
  else if ok then
    let area := (s.reg Reg.PM_SAVE_BASE).toNat / 2 ^ 21 * 2 ^ 21 + bank * 2 ^ 21
    let draw := s.freeCtr
    let held := s.heldLines [(area, 2 ^ 21)]
    let clean := s.poison.filter fun l => !decide (area / 64 ≤ l ∧ l < area / 64 + 2 ^ 15)
    let s := { s with mem := Mem.fill (Config.saveByte draw) area (2 ^ 21) s.mem, poison := clean, freeCtr := draw + 1 }
    (s.modSf fun f => { f with tables := held.foldl (fun l x => addNew x l) f.tables }).modPm fun p => { p with saved := addNew bank p.saved }
  else (s.setDom d { x with entering := none }).raise Reg.PM Err.PM_SAVE_FAIL { Capture.none with index := d }

/-- A wake source of a domain is seen (R372, R375): an entry before its final window is aborted, a sleeping domain starts to wake. -/
def wakeDom (d : Nat) (s : State) : State :=
  let x := s.dom d
  if s.isFenced d ∨ d = 95 then s
  else if x.entering.isSome then
    let s := s.abortEntry d
    if x.st = .active ∨ x.waking then s else s.startWake d
  else if x.st = .active ∨ x.waking then s
  else s.startWake d

/-- DOMAIN_WAKE (R374 Table 7). In the final window of an entry nothing can be aborted (R376): a level is seen at its end, a timer's request being
held for the domain by the always-on domain. -/
def domainWakeOp (d : Nat) (source : WakeSource) (final : Bool) (s : State) : State :=
  let holds := match source with
    | .crossing => s.crossingHeld d
    | .floor => decide (s.floorOf d < depth (s.dom d).st) || (match (s.dom d).entering with | some t => decide (s.floorOf d < depth t) | none => false)
    | .portEvent => decide (60 ≤ d ∧ d < 68) && decide (s.reg (Reg.DN_PORT_EVENT + 8 * (d - 60)) ≠ 0)
    | .timer => true
  if !holds then s
  else if final && (s.dom d).entering.isSome then (if source = .timer then s.updDom d fun x => { x with timer := true } else s)
  else s.wakeDom d

/-- The accesses that waited for a domain, oldest first, and the state without them. -/
def takeWaits (d : Nat) (s : State) : List Parked × State :=
  (s.pm.waits.filter fun w => decide (w.dom = d), s.modPm fun p => { p with waits := p.waits.filter fun w => !decide (w.dom = d) })

/-- A Fabric Port leaves reset (R382, R426): the block's first credit word carries INIT, and the allowances of Table 9 follow. -/
def portInit (port : Nat) (s : State) : State :=
  let words := [(0, 0, 0, true), (15, 15, 15, false), (15, 1, 15, false), (15, 0, 15, false), (3, 0, 15, false), (0, 0, 4, false)]
  words.foldl (fun s w => s.sendCrd port (.crd port w.1 w.2.1 w.2.2.1 w.2.2.2)) ((s.dropCrd port).modFp fun f =>
    { f with reqCrd := Map.erase port f.reqCrd, evCrd := Map.erase port f.evCrd, datCrd := Map.erase port f.datCrd })

/-- A domain has reached ACTIVE (R372), with the assist codes of the level in force (R367). -/
def wakeDone (d : Nat) (s : State) : State :=
  let s := if (s.dom d).st = .off ∧ 32 ≤ d ∧ d < 48 then s.portInit (d - 32) else s
  let s := (s.updDom d fun x => { x with st := .active, waking := false, retried := false, timer := false }).domainAssist d
  s.modPm fun p => { p with saved := p.saved.filter fun b => !decide (Dom.bank b = d) }

/-- A wake has not reached ACTIVE within 40 µs (R378). The second time the domain is fenced, whatever the severity. -/
def wakeTimeoutOp (d : Nat) (s : State) : State :=
  let x := s.dom d
  if !x.waking then s
  else if !x.retried then (s.setDom d { x with retried := true }).raise Reg.PM Err.PM_WAKE_RETRY { Capture.none with index := d }
  else (s.raise Reg.PM Err.PM_WAKE_FAIL { Capture.none with index := d }).askFence d

/-- A chip wake input changes (R374, R375). In the final window of its domain's entry an edge is lost, and a level is seen at the end (R376). -/
def wakeInput (i : Nat) (level final : Bool) (s : State) : State :=
  let was := decide (i ∈ s.pm.inputs)
  let s := s.modPm fun p => { p with inputs := if level then addNew i p.inputs else p.inputs.filter (· ≠ i) }
  let cfg := Reg.PM_WAKE_IN + 8 * i
  let d := s.regBits cfg 6 0
  let acts := if s.regBit cfg 7 then level && !was else level
  if s.regBit cfg 8 && acts && decide (d < 96) && !(final && (s.dom d).entering.isSome) then s.wakeDom d else s

/-- A write of PM_WAKE_INi (Table 24): a level that its input already has is a wake source from then on (R374). -/
def wakeInWrite (off : Nat) (h : Half) (v : Word) (s : State) : State :=
  let s := s.storeReg off h v
  let i := (off - Reg.PM_WAKE_IN) / 8
  let d := s.regBits off 6 0
  if s.regBit off 8 && !s.regBit off 7 && decide (i ∈ s.pm.inputs) && decide (d < 96) then s.wakeDom d else s

/-- The chip's debug hold input (R377): an entry in progress is refused. -/
def dbgHoldOp (d : Nat) (level : Bool) (s : State) : State :=
  let s := s.updDom d fun x => { x with dbgHold := level }
  if level && (s.dom d).entering.isSome then s.refuseEntry d 4 else s

/-- PM_DOM_STATd as it reads (Table 23). -/
def domStat (s : State) (d : Nat) : Word :=
  let x := s.dom d
  fld x.refused 48 ||| fld x.aborted 32 ||| fld x.last 8 ||| fld (b2n (s.isFenced d)) 3 ||| fld (b2n x.entering.isSome) 2 ||| w64 (depth x.st)

end State

end Sys2Proof.Machine
end

