-- ==== Sys2Proof/Machine/Faults.lean ====
section
/-! DEFINITION. Faults (spec/15): an error occurrence with its redo, strike and fence (R388 to R393), what fencing each unit does
(R393 to R396), the self-disabling ways (R245, R246), the release of a crossing (R397), the safe states (R398, R399) and
injection (R400). -/

namespace Sys2Proof.Machine

namespace State

/-- err_fatal rises, and stays until a fundamental reset (R394, R399). -/
def raiseFatal (s : State) : State := if s.fatal then s else { s with fatal := true }.emit .errFatal

/-- The window that reports a domain, and the bit of its fence status, if it has one (R393). -/
def fenceWindow (d : Nat) : Nat × Option Nat :=
  if d < 32 then (Reg.DC, none)
  else if d < 48 then (Reg.SF, none)
  else if d < 56 then (Reg.GZ, some Err.GZ_UNIT_FENCED)
  else if d < 60 then (Reg.SB, some Err.SB_UNIT_FENCED)
  else if d < 76 then (Reg.DN, none)
  else if d < 78 then (Reg.UP, none)
  else if d < 82 then (Reg.QE, none)
  else if d < 90 then (Reg.PL, none)
  else if d = 90 then (Reg.IB, none)
  else if d < 94 then (Reg.CH, none)
  else (Reg.RP, some Err.RP_RECORDER_FENCED)

/-- The fence status of the owning block, or its capture set with LASTING: a capture that is there already stays (R393). -/
def fenceStatus (d : Nat) (s : State) : State :=
  match fenceWindow d with
  | (b, some i) => s.raise b i { Capture.none with index := d }
  | (b, none) =>
    if bit (s.reg (Reg.errType b)) 63 then s
    else
      let s := s.capture b 0 0 { Capture.none with index := d }
      s.setReg (Reg.errType b) (setBit (s.reg (Reg.errType b)) 60 true)

/-! ### What each fence does (R393 Table 4) -/

/-- A Gazelle fails the use that it holds (R97): it goes to another, but a second failure ends a descriptor with DATA_ERROR and fails the
job of a page move (R128). -/
def useFault (u : Nat) (s : State) : State :=
  match s.gz.holds.find? fun x => decide (x.unit = u) with
  | none => s
  | some x =>
    let s := s.modGz fun g => { g with holds := g.holds.erase x }
    match x.who with
    | .move id => (s.jobFailed id).wakeUp x.who
    | w =>
      if x.runs < 2 then s.modGz fun g => { g with unitWait := g.unitWait ++ [x] }
      else
        let id := w.workOf.getD 0
        (s.forgetReads w).endWork id St.DATA_ERROR (w64 (((s.work? id).map (·.acc)).getD 0)) |>.wakeUp (.done id)

/-- A Gazelle fails what it has in hand (R97): a piece, a use or a reduce-write. -/
def gzFault (u : Nat) (s : State) : State := ((s.pieceFault u).useFault u).rwFault u Ipl.brokenOff

/-- A Gazelle is fenced: what it has in hand is redone elsewhere (R97), and the reduce-writes it has not applied are failed back (R100). One
that has begun its destination write ends with DATA_ERROR (R97). -/
def fenceGazelle (u : Nat) (s : State) : State :=
  let s := (s.pieceFault u).useFault u
  let mine := s.gz.rws.filter fun r => decide (r.unit = u ∧ r.done = none) && !r.issued && (r.begun || decide (r.runs = 0))
  let endRw (s : State) (r : RedWrite) : State :=
    let mark := if Waiter.reduceWrite r.id ∈ s.gz.wrote then Ipl.brokenOff else Ipl.failedBack
    let s := s.modGz fun g => { g with rws := updateWhere (fun x => decide (x.id = r.id)) (fun x => { x with done := some mark }) g.rws }
    (s.forget (.reduceWrite r.id)).wakeUp (.peer r.node r.flow r.seq)
  let s := mine.foldl endRw s
  if mine = [] then s else s.raise Reg.GZ Err.GZ_REDUCE_WRITE { Capture.none with cls := 3, index := u }

/-- A device-cache slice is fenced: its lines go to the host, and their chip holders are invalidated (R393). -/
def fenceDcSlice (n : Nat) (s : State) : State :=
  (s.prefDrop n).evictLines fun k => decide (k / 65536 = n)

/-- The filter of a slice loses its lines to new homes (R395): each entry is back-invalidated as a victim. The ports in `ports` are
still to answer SNP_FLUSH_SLICE. -/
def moveHome (n : Nat) (ports : List Nat) (s : State) : State :=
  let old := ((s.sf.flushing.find? fun f => decide (f.1 = n)).map (·.2)).getD []
  let s := s.modSf fun f => { f with flushing := f.flushing.filter (fun x => !decide (x.1 = n)) ++ [(n, old ++ ports.filter (· ∉ old))] }
  let mine := s.sf.entries.filter fun e => decide (e.1 / 16 / 32768 = n)
  if s.isFenced (Dom.sf n) then
    mine.foldl (fun s e => s.addHomeTxn (sfLine (e.1 / 16 % 32768) e.2.tag) (.backInv false) .home) s
  else s

/-- The move of a home has ended once every port has answered and a fenced slice holds no entry (R395). -/
def homesMoved (s : State) : State :=
  let isOver (f : Nat × List Nat) : Bool :=
    f.2.isEmpty && (!s.isFenced (Dom.sf f.1) || !(s.sf.entries.any fun e => decide (e.1 / 16 / 32768 = f.1)))
  s.modSf fun f => { f with flushing := f.flushing.filter fun x => !isOver x }

/-- An unreadable snoop-filter entry: SNP_FLUSH_SLICE goes to every port (R395). -/
def flushPorts (n : Nat) (s : State) : State :=
  let ports := (List.range 16).filter s.portOn
  let s := ports.foldl (fun s p => s.sendSnp (.snpFlush p p n) p) s
  s.moveHome n ports

/-- A bank is fenced: its started descriptors end with DEVICE_ERROR, its queues are gone, and the waits on its counters end with
DEPENDENCY_ERROR (R393, R455). A DISABLE in progress of one of its queues ends with BUSY cleared and REFUSED set, the model's choice (log entry 115). -/
def fenceBank (b : Nat) (s : State) : State :=
  let inBank (q : Nat) : Bool := decide (q / 16384 = b)
  let s := (s.qe.works.filter fun w => inBank w.q).foldl (fun s w =>
    let s := s.dropPieces w.id
    if w.phase = .open then
      (match s.openReqs.find? fun r => match s.bReq? r with | some x => decide (x.work = some w.id) | none => false with
       | some r => s.endRequest r St.DEVICE_ERROR
       | none => s.endWork w.id St.DEVICE_ERROR 0)
    else (s.endWork w.id St.DEVICE_ERROR 0).wakeUp (.done w.id)) s
  let gone (q : Nat) (v : Queue) : Queue :=
    if inBank q then { v.noWait with st := .error, head := none, reading := false, staleDue := none, partialTail := none, dbPending := false,
                                     deferred := [], coalCount := 0, coalDue := none } else v
  let s := s.modQe fun e => { e with queues := Map.mapVals gone e.queues, shadows := e.shadows.filter fun q => !inBank q }
  let s := match s.qe.qcmdBusy with
    | some q => if inBank q then s.qcmdDone true else s
    | none => s
  let waits := s.qe.queues.filter fun e => decide (e.2.st = .waiting) && decide (e.2.waitKind = .fence ∨ e.2.waitKind = .event) && s.ctrFenced e.2.waitIndex
  waits.foldl (fun s e => s.endWait e.1 (some St.DEPENDENCY_ERROR) false) s

/-- Chamois is fenced: block-engine accesses end with DEVICE_ERROR and placed memory stops (R393). -/
def fenceChamois (s : State) : State :=
  let who := (s.ch.reqs.flatMap (·.who) ++ s.ch.pri.flatMap (·.who) ++ s.ch.priWait.map (·.who)).map (·.who) ++ s.ch.frameWait ++ s.ch.pageWait.map (·.2)
  let s := (s.ch.moves.filter fun m => !isIbexMove m).foldl (fun s m => s.cancelMove m) s
  let s := s.modCh fun c => { c with reqs := [], pri := [], priWait := [], groups := [], frameWait := [], pageWait := [] }
  let s := (who ++ s.qe.works.map (fun w => Waiter.work w.id)).foldl (fun s w => s.wakeUp w) s
  (s.sf.txns.filter fun t => decide (t.phase = .place)).foldl (fun s t => s.failTxn t St.DEVICE_ERROR) s

/-- The REASON of a bring-up that ends at a step (R326 Table 3): steps 1 and 2 hold the slot's power and reset, step 6 the rest. -/
def reasonAt (step : Nat) : Nat := if step ≤ 2 then 1 else min 5 (step - 1)

/-- A downstream port is fenced: a port in use is lost (R331), a bring-up fails at the step that it has reached (R325, R326), and any other port
stays as it is (log entry 111). -/
def fenceDn (p : Nat) (s : State) : State :=
  let d := s.dnPort p
  if d.st = .up ∨ d.st = .evacuating then s.dnLose p false
  else if d.st = .starting then s.dnFail p (reasonAt d.step)
  else s

/-- The upstream port is fenced: as hot reset, ATTACHED becomes PARKED, and the link stays down (R393). -/
def fenceUp (s : State) : State :=
  s.hostReset.parkAttach.modUp fun u => { u with linkUp := false, speed := 0, width := 0, flit := false, cxl := false, lpm := 0 }

/-- Each agent that leaves through another port than before sets REDIRECT (R430). -/
def redirectErrs (old s : State) : State :=
  ((List.range 16).filter fun a => decide (agentPort old a ≠ agentPort s a)).foldl (fun s a =>
    s.raise Reg.FP Err.FP_REDIRECT { Capture.none with cls := 1, index := a }) s

/-- Fences a unit (R392, R393). The always-on domain cannot be fenced (R394). -/
def fenceDomain (d : Nat) (s : State) : State :=
  if 95 ≤ d ∨ s.isFenced d then s
  else
    let old := s
    let s := { s with fenced := insertBy id d s.fenced, strikes := Map.erase d s.strikes }
    let s := s.updDom d fun x => { x with entering := none, waking := false, retried := false, timer := false }
    let s := s.modPm fun p => { p with saved := p.saved.filter fun b => !decide (Dom.bank b = d) }
    let s : State :=
      if d < 16 then s.fenceDcSlice d
      else if d < 32 then s.fenceDcSlice (d - 16)
      else if d < 48 then (redirectErrs old (s.emit (.fpFenced (d - 32)))).moveHome (d - 32) []
      else if d < 56 then s.fenceGazelle (d - 48)
      else if d < 60 then (s.rowsBack (d - 56)).checkSampler
      else if d < 76 then s.fenceDn ((d - 60) % 8)
      else if d < 78 then s.fenceUp
      else if d < 82 then s.fenceBank (d - 78)
      else if d < 90 then s.plLinkDown ((d - 82) % 4)
      else if d = 90 then s.ibexFenced
      else if d = 91 then s.fenceChamois
      else if d < 94 then s.qe.works.foldl (fun s w => s.wakeUp (.work w.id)) s
      else s.modRp fun r => { r with recording := false, replaying := false, ending := if r.replaying then 4 else r.ending, since := none, forced := [] }
    s.fenceStatus d

/-- Fences the units that have asked for it. -/
def fenceAll (s : State) : State := s.fenceReq.foldl (fun s d => s.fenceDomain d) { s with fenceReq := [] }

/-! ### Unit faults (R391) -/

/-- A unit fault of domain `d` at source `i` of window `b`: a strike, or, when the unit has one already, a lasting fault. -/
def unitFault (b i d : Nat) (s : State) : State :=
  match Map.find? d s.strikes with
  | some _ => ({ s with strikes := Map.erase d s.strikes }.markCapture b i s.now 60).askFence d
  | none => { s with strikes := Map.insert d (b, i, s.now) s.strikes }

/-- A unit fault whose redo runs at once on the same unit: transient if the redo succeeds, lasting if it fails (R391). -/
def redoFault (b i d : Nat) (failed : Bool) (s : State) : State :=
  if failed then (s.markCapture b i s.now 60).askFence d else s.markCapture b i s.now 61

/-! ### Self-disabling ways (R245, R246) -/

/-- The last two times of a way with one more, and whether this error disables it (R245). -/
def wayError (s : State) (times : List Nat) : List Nat × Bool :=
  let w := s.regBits Reg.DC_CTRL 63 48 * 1000000
  let hit := match times with | [a, _] => decide (w ≠ 0 ∧ s.now ≤ a + w) | _ => false
  ((times ++ [s.now]).drop (times.length - 1), hit)

/-- The key lies in a way of a slice's filter. -/
def inWay (w : Nat × Nat) (k : Nat) : Bool := decide (k / 16 / 32768 = w.1 ∧ k % 16 = w.2)

/-- The entries of a way leave as victims, each once nothing pins it (R214, R245). -/
def flushWay (w : Nat × Nat) (s : State) : State :=
  (s.sf.entries.filter fun e => inWay w e.1).foldl (fun s e =>
    let line := sfLine (e.1 / 16 % 32768) e.2.tag
    if s.pinned line then s else s.addHomeTxn line (.backInv false) .home) s

/-- An error in a way of a snoop-filter slice (R245, R246): the way takes no new entry, and its entries leave as victims. A request that had
the way kept for its entry has another kept, where its set has one free. -/
def sfWayError (n way : Nat) (s : State) : State :=
  let r := s.wayError (Map.getD [] (n * 16 + way) s.sf.wayTimes)
  let s := s.modSf fun f => { f with wayTimes := Map.put [] (n * 16 + way) r.1 f.wayTimes }
  let off := s.sfWaysOff n
  if !r.2 ∨ way ∈ off ∨ 8 ≤ off.length then s
  else
    let s := s.modSf fun f => { f with waysOff := Map.put [] n (off ++ [way]) f.waysOff, wayFlush := f.wayFlush ++ [(n, way)] }
    let other (s : State) (t : Txn) : State := match s.sfWay t.line with | .free k => s.setTxn { t with way := some k } | _ => s
    let kept := s.sf.txns.filter fun t => !isHostLine t.line && (match t.way with | some k => inWay (n, way) k | none => false)
    (kept.foldl other s).flushWay (n, way)

/-- A way that disables itself is off once it holds no entry any more (R245). -/
def waysGone (s : State) : State :=
  let s := s.sf.wayFlush.foldl (fun s w => s.flushWay w) s
  let ended (w : Nat × Nat) : Bool := !(s.sf.entries.any fun e => inWay w e.1) &&
    !(s.sf.txns.any fun t => !isHostLine t.line && (match t.way with | some k => inWay w k | none => false))
  (s.sf.wayFlush.filter ended).foldl (fun s w => s.raiseUnit Reg.SF Err.SF_WAY_OFF (Dom.sf w.1) { Capture.none with space := 6, index := w.1 })
    (s.modSf fun f => { f with wayFlush := f.wayFlush.filter fun w => !ended w })

/-- An error in a way of Ibex's table cache. -/
def tcWayError (way : Nat) (s : State) : State :=
  let r := s.wayError (Map.getD [] way s.dc.tcTimes)
  let s := s.modDc fun d => { d with tcTimes := Map.put [] way r.1 d.tcTimes }
  if !r.2 ∨ way ∈ s.dc.tcOff ∨ 8 ≤ s.dc.tcOff.length then s
  else (s.modDc fun d => { d with tcOff := insertBy id way d.tcOff }).raiseUnit Reg.IB Err.IB_TCACHE_WAY_OFF Dom.ibex
    { Capture.none with space := 6, index := way }

/-! ### Error occurrences -/

/-- What is captured of an occurrence (R390). -/
def captureOf (e : ErrEvent) : Capture :=
  { addr := e.address, space := e.space.toNat, access := e.access.toNat, cls := e.cls.toNat, index := e.index.toNat,
    ctx := e.context.map (·.toNat), symbol := e.symbol.toNat }

/-- The domain of the unit a source lies in (R388); none for the always-on domain. -/
def errDomain (b unit bit_ : Nat) : Option Nat :=
  if b = Reg.QE then some (Dom.bank (unit % 4))
  else match b with
    | 1 => some (Dom.gazelle (unit % 8))
    | 2 | 4 => some Dom.ibex
    | 3 => some (Dom.springbok (unit % 4))
    | 5 => some Dom.chamois
    | 6 | 17 => some (Dom.sf (unit % 16))
    | 7 => some (if bit_ ≤ 1 then Dom.dcData (unit % 16) else Dom.dcTag (unit % 16))
    | 8 => some (Dom.plLogic (unit % 4))
    | 9 => some Dom.upCtl
    | 10 => some (Dom.dnCtl (unit % 8))
    | 16 => some Dom.recorder
    | _ => none

/-- Errors of the queue engine's arrays (R391): the second read failed, so the queue or the counter is in error. -/
def qeLost (bit_ index : Nat) (s : State) : State :=
  if bit_ = Err.QE_QSTATE_DATA then s.updQueue index fun v => { v with st := if v.st = .disabled then .disabled else .error }
  else
    let event := decide (16384 ≤ index)
    let i := index % 16384
    (s.setCtr event i { s.ctr event i with error := true }).releaseWaiters event i

/-- A parity error in a device-cache tag (R243 Table 4). `la` is the line where the tag is good, `key` the entry where it is not. -/
def dcParity (bit_ la key : Nat) (tagGood : Bool) (s : State) : State :=
  let evict (s : State) : State := s.addHomeTxn (hostLineOf la) (.backInv false) .home
  let dirty (every : Bool) (s : State) : State :=
    (s.dcUpdate la fun e => { e with hstate := 3, poison := true, cstate := if every then 2 else e.cstate,
                                     multi := every || e.multi, fwd := if every then 31 else e.fwd }) |> evict
  -- without its tag a unit's other entries name no line either
  let gone (s : State) : State := let h := dcHeadKey s key
    s.modDc fun d => { d with lines := Map.keep (fun k _ => !decide (k = key ∨ dcHeadKey s k = h ∧ h = key)) d.lines }
  if bit_ = Err.DC_STATE_PARITY then (if (s.dcFind la).isSome then dirty true s else s)
  else if bit_ = Err.DC_TAG_PARITY then
    if tagGood then
      match s.dcFind la with
      | some (_, e) => if e.hstate = 0 then s else if e.hstate = 3 ∨ e.cstate = 0 then dirty false s else evict s
      | none => s
    else match Map.find? key s.dc.lines with
      | some e => if e.cstate = 3 ∧ (e.hstate = 1 ∨ e.hstate = 2) then gone s else s
      | none => s
  else gone s

/-- What an occurrence does beyond its status bit, its capture and its interrupt. In a capture of SPACE 6 the address names
the place in the array: a key of the snoop filter or the tag array, a tracker tag, a request's number at a downstream port, node × 128
+ flow of a sequence state with the SEQ above it in bits [31:16], a page of Chamois. For IB TABLE_UNCORR the address holds the way in bits
[3:0] and, above it, the block or the page; UNIT is 0 for a request record, 1 for a block-table entry, whose page keeps its reference and
is counted (R132), and 2 for a page record or an index entry. -/
def errEffect (e : ErrEvent) (s : State) : State :=
  let b := e.blk.val
  let i := e.bit.toNat
  let u := e.unit.toNat
  let a := e.address.toNat
  let x := e.index.toNat
  let sev := s.severity b i
  let fault := decide (sev = 1 ∨ sev = 2)
  let strike (d : Nat) (s : State) : State := if fault then s.unitFault b i d else s
  let redo (d : Nat) (s : State) : State := if fault then s.redoFault b i d e.redo else s
  match b with
  | 0 => if i = Err.QE_QSTATE_DATA ∨ i = Err.QE_CTR_DATA then
      redo (Dom.bank (u % 4)) (if e.redo then s.qeLost i x else s) else s
  | 1 => if i = Err.GZ_BUF_UNCORR then strike (Dom.gazelle (u % 8)) (s.gzFault (u % 8)) else s
  | 2 => if i = Err.IB_TCACHE_CORR then s.tcWayError (a % 16)
      else if i = Err.IB_TABLE_UNCORR then
        (let cached := decide (e.space.toNat = 6)
         let s := if cached then s.tcWayError (a % 16) else s
         let s := if cached ∧ !e.redo then s
           else if u = 0 then s.requestUncorr x
           else if u = 1 then ((s.addRef (s.btab x (a / 16)).1).bump Reg.IB_STAT_LEAKED).requestUncorr x
           else s.pageUncorr (a / 16)
         if cached then redo Dom.ibex s else s)
      else s
  | 3 => if i = Err.SB_BUF_UNCORR then strike (Dom.springbok (u % 4)) (s.rowsBack (u % 4)) else s
  | 4 => if i = Err.BT_STATE_UNCORR then redo Dom.ibex (if e.redo then s.requestUncorr x else s) else s
  | 5 => if i = Err.CH_MAP_UNCORR ∧ a < s.placePages then s.mapLost a else s
  | 6 =>
    let n := u % 16
    if i = Err.SF_ENTRY_CORR then s.sfWayError n (a % 16)
    else if i = Err.SF_ENTRY_UNCORR then
      (let s := s.modSf fun f => { f with entries := Map.erase (n * 32768 * 16 + a % (32768 * 16)) f.entries }
       let s := (s.sfWayError n (a % 16)).flushPorts n
       if sev = 3 then s else s.aer 0 .uncorrInternal)
    else if i = Err.SF_TRACKER_UNCORR then
      strike (Dom.sf n) (match s.txn? n (a % 256) with | some t => s.failTxn t St.DATA_ERROR | none => s)
    else s
  | 7 =>
    let n := u % 16
    let key := n * 65536 + a % 65536
    if i = Err.DC_DATA_UNCORR then s.dcUpdate (a / 64) fun l => { l with poison := true }
    else if i = Err.DC_STATE_PARITY ∨ i = Err.DC_TAG_PARITY then s.dcParity i (a / 64) key (decide (e.space.toNat ≠ 6))
    else if i = Err.DC_TAG_LOST then (let s := s.dcParity i (a / 64) key false; if sev = 3 then s else s.aer 0 .uncorrInternal)
    else s
  | 8 =>
    let node := a / 128 % 256
    let flow := a % 128
    let seq := a / 65536 % 65536
    -- a receive buffer, or the state of a receiver
    let receiver := decide (x % 2 = 1)
    if i = Err.PL_BUF_UNCORR ∧ receiver then
      strike (Dom.plLogic (u % 4)) ((s.updPlRx node flow fun r =>
        { r with acc := updateWhere (fun y => decide (y.seq = seq) && !y.issued && y.done.isNone) (fun y => { y with fault := Ipl.POISON }) r.acc }).pumpFlow node flow)
    else if i = Err.PL_BUF_UNCORR then
      strike (Dom.plLogic (u % 4)) (match (s.plTx node flow).unacked.find? fun y => decide (y.seq = seq) with
        | some y => (s.plTakeSent node flow y).plFailSent y St.DATA_ERROR
        | none => s)
    else if i = Err.PL_SEQ_UNCORR then strike (Dom.plLogic (u % 4)) (if receiver then s.updPlRx node flow (renumbered none) else s.plRestart node flow)
    else s
  | 9 =>
    -- the function, and which of the events that share a source (R311 Table 6)
    let which (l : List Aer) : Aer := l.getD (x / 256) .receiver
    if i = Err.UP_LINK_CORR then s.aer (x % 256) (which [.receiver, .badTlp, .badDllp, .replayRollover, .replayTimeout])
      else if i = Err.UP_UNEXPECTED_CPL then s.aer (x % 256) .unexpected
      else if i = Err.UP_MALFORMED then s.aer (x % 256) (which [.malformed, .flowControl, .dlProtocol])
      else if i = Err.UP_IDE_CHECK then s.aer (x % 256) (which [.ide, .ideMisrouted])
      -- requests that no other command carries: an AtomicOp to BAR0 or BAR4, an I/O request, a vendor-defined Type 0 message (R310 Table 5)
      else if i = Err.UP_UR_RECEIVED then (s.emit (.ur (decide (x / 256 = 1)))).aer (x % 256) .unsupported
      else if i = Err.UP_BUF_UNCORR then redo Dom.upCtl s
      else s
  | 10 => if i = Err.DN_BUF_UNCORR then
      redo (Dom.dnCtl (u % 8)) (match (if e.redo then s.dnReq? (u % 8) a else none) with | some r => s.dnEndReq r | none => s) else s
  -- an event FIFO of the class that UNIT gives has dropped an event (R381)
  | 13 => if i = Err.CK_XING_OVERRUN then s.setReg Reg.CK_XING_OVERRUN (setBit (s.reg Reg.CK_XING_OVERRUN) (u % 3) true) else s
  | 15 => if i = Err.RB_CTX_UNCORR then
      s.modQe fun q => { q with queues := Map.mapVals (fun _ v => if v.ctx = x % 4096 ∧ v.st ≠ .disabled then { v with st := .error } else v) q.queues } else s
  | _ => s

/-- The source's checker is a parity checker (R243, R400). -/
def parityChecker (b i : Nat) : Bool := decide (b = 7 ∧ (i = Err.DC_STATE_PARITY ∨ i = Err.DC_TAG_PARITY))

/-- Injection into a source that is armed has taken place (R400): FIRED sets, and ARM clears in MODE 0. For a parity checker EN1 counts for
nothing. -/
def injected (b i : Nat) (s : State) : State :=
  let v := s.reg (Reg.errInject b)
  if bit v 63 && decide (bits v 53 48 = i) && (bit v 12 || (bit v 13 && !parityChecker b i)) then
    s.setReg (Reg.errInject b) (setBit (if bit v 61 then v else setBit v 63 false) 62 true)
  else s

/-- An error occurrence (R388 to R391). -/
def errorOp (e : ErrEvent) (s : State) : State :=
  let b := e.blk.val
  let i := e.bit.toNat
  if !bit (errMask e.blk.val) i then s
  else
    let sev := s.severity b i
    let s := ((s.injected b i).raise b i (captureOf e)).errEffect e
    if sev ≠ 3 then s
    else match errDomain e.blk.val e.unit.toNat i with
      | some d => (s.markCapture b i s.now 60).askFence d
      | none => s.raiseFatal

/-! ### PM_FENCE_CMD (R392, R397) -/

/-- Releases a fenced domain's crossing: what waits there completes with error, and so does every later access (R397). -/
def releaseDomain (d : Nat) (s : State) : State := { s with released := addNew d s.released }

/-- PM_FENCE_CMD (R397 Table 12). -/
def fenceCmd (h : Half) (v : Word) (s : State) : State :=
  let s := s.storeReg Reg.PM_FENCE_CMD h v
  let cmd := bits (halfValue h v) 1 0
  let d := s.regBits Reg.PM_FENCE_CMD 14 8
  let answer (refused : Bool) (s : State) : State := s.setRegBits Reg.PM_FENCE_CMD 62 62 (b2n refused)
  match cmd with
  | 1 => if 95 ≤ d then answer true s else answer false (s.askFence d)
  | 2 => if 95 ≤ d ∨ !s.isFenced d then answer true s else answer false (s.releaseDomain d)
  | _ => s

/-! ### Safe states (R398, R399) -/

/-- The units of a block's safe state (R398 Table 5). -/
def safeUnits (b : Nat) : List Nat :=
  match b with
  | 1 => (List.range 8).map Dom.gazelle
  | 3 => (List.range 4).map Dom.springbok
  | 10 => (List.range 8).flatMap fun p => [Dom.dnCtl p, Dom.dnPhy p]
  | 8 => (List.range 4).flatMap fun p => [Dom.plLogic p, Dom.plIf p]
  | 7 => List.range 32
  | 16 => [Dom.recorder]
  | 2 | 4 => [Dom.ibex]
  | _ => []

/-- Fences domains whose crossings are released with error at once (R398). -/
def safeFence (ds : List Nat) (s : State) : State := ds.foldl (fun s d => (s.askFence d).releaseDomain d) s

/-- The identity key and the IDE keys are erased (R398): KEY_STATE is NONE then, and no response is held for ENROL (log entry 119). -/
def eraseKeys (s : State) : State :=
  s.modIdent fun i => { i with d := 0, pub := [], puf := none, keyState := 0, keys := [], safe := true }

/-- A parity error in the error registers of window `b` (R398, R399). -/
def safeState (b : Nat) (s : State) : State :=
  let s := s.setReg Reg.PM_SAFE_STATE (setBit (s.reg Reg.PM_SAFE_STATE) b true)
  match b with
  | 15 => s.modRb fun r => { r with safe := true }
  | 11 | 12 => s.eraseKeys
  | 13 | 14 => ((List.range 95).foldl (fun s d => s.wakeDom d) s).raiseFatal
  | 1 | 2 | 3 | 4 | 7 | 8 | 10 | 16 => s.safeFence (safeUnits b)
  | _ =>
    let s := (s.setReg Reg.PM_SAFE_STATE (setBit (s.reg Reg.PM_SAFE_STATE) 63 true)).raiseFatal
    let keep (d : Nat) : Bool := decide (b ≠ 9) && decide (d = Dom.upCtl ∨ d = Dom.upPhy)
    let s := s.safeFence ((List.range 95).filter fun d => !keep d)
    if b = 9 then s else s.aer 0 .uncorrInternal

/-- ERR_INJECT of a window (R400): setting ARM clears FIRED. -/
def injectWrite (b : Nat) (h : Half) (v : Word) (s : State) : State :=
  let off := Reg.errInject b
  let s := s.storeReg off h v
  if bit (halfValue h v) 63 then s.setRegBits off 62 62 0 else s

end State

end Sys2Proof.Machine
end

