-- ==== Sys2Proof/Machine/Crypto.lean ====
section
/-! DEFINITION. The cryptographic functions that identity names (R354, R357): SHA-384, HMAC and HKDF over it, and point multiplication on
P-384. Their constants are those of the standards that the spec names (FIPS 180-4, RFC 5869, SP 800-186). -/

namespace Sys2Proof.Machine

/-! ### SHA-384 -/

/-- The first 80 primes: FIPS 180-4 names its constants by them. -/
def shaPrimes : List Nat :=
  (List.range 410).filter fun n => decide (1 < n) && (List.range n).all fun d => decide (d < 2) || decide (n % d ≠ 0)

/-- The first 64 bits of the fractional part of the `k`-th root of `n`: the root of n·2^(64k) is found bit by bit from bit 71 down. -/
def rootFraction (k n : Nat) : Word :=
  w64 ((List.range 72).reverse.foldl (fun r i => if (r + 2 ^ i) ^ k ≤ n * 2 ^ (64 * k) then r + 2 ^ i else r) 0)

/-- The 80 constants of the rounds: from the cube roots of the first 80 primes. -/
def shaRounds : List Word := shaPrimes.map (rootFraction 3)

/-- SHA-384's first hash value: from the square roots of the ninth to the sixteenth prime. -/
def shaInit : List Word := ((shaPrimes.drop 8).take 8).map (rootFraction 2)

/-- A big-endian number from bytes, and its bytes. -/
def beNat (bs : List Byte) : Nat := bs.foldl (fun n b => 256 * n + b.toNat) 0
def beBytes (n v : Nat) : List Byte := (leBytes n v).reverse

/-- The padded message, as 64-bit words. -/
def shaPad (bs : List Byte) : List Word :=
  let z := (239 - bs.length % 128) % 128
  let m := bs ++ [0x80] ++ List.replicate z 0 ++ beBytes 16 (8 * bs.length)
  (List.range (m.length / 8)).map fun i => w64 (beNat ((m.drop (8 * i)).take 8))

/-- FIPS 180-4's two kinds of mixing word: three rotations, or two and a shift. -/
def shaTurn (x : Word) (i j k : Nat) : Word := x.rotateRight i ^^^ x.rotateRight j ^^^ x.rotateRight k
def shaShift (x : Word) (i j k : Nat) : Word := x.rotateRight i ^^^ x.rotateRight j ^^^ (x >>> k)

/-- The working variables of a block, by the standard's letters, and the window of its 16 newest schedule words, oldest first. -/
structure Sha where
  a : Word
  b : Word
  c : Word
  d : Word
  e : Word
  f : Word
  g : Word
  h : Word
  window : List Word

/-- One round with the constant `k`: it takes the oldest word of the window and puts the word 16 later behind the newest. -/
def Sha.round (v : Sha) (k : Word) : Sha :=
  let w := fun i => v.window.getD i 0
  let next := shaShift (w 14) 19 61 6 + w 9 + shaShift (w 1) 1 8 7 + w 0
  let choice := (v.e &&& v.f) ||| (~~~ v.e &&& v.g)
  let majority := (v.a &&& (v.b ||| v.c)) ||| (v.b &&& v.c)
  let sum := v.h + shaTurn v.e 14 18 41 + choice + k + w 0
  { a := sum + shaTurn v.a 28 34 39 + majority, b := v.a, c := v.b, d := v.c, e := v.d + sum, f := v.e, g := v.f, h := v.g
    window := v.window.drop 1 ++ [next] }

/-- One block of 16 words over the hash value `h`. -/
def shaBlock (h ws : List Word) : List Word :=
  let x := fun i => h.getD i 0
  let v := shaRounds.foldl Sha.round { a := x 0, b := x 1, c := x 2, d := x 3, e := x 4, f := x 5, g := x 6, h := x 7, window := ws }
  [x 0 + v.a, x 1 + v.b, x 2 + v.c, x 3 + v.d, x 4 + v.e, x 5 + v.f, x 6 + v.g, x 7 + v.h]

/-- The blocks of a message, in order. -/
def shaBlocks (ws : List Word) : List Word :=
  (List.range (ws.length / 16)).foldl (fun h i => shaBlock h ((ws.drop (16 * i)).take 16)) shaInit

/-- SHA-384: 48 bytes. -/
def sha384 (bs : List Byte) : List Byte := ((shaBlocks (shaPad bs)).take 6).flatMap fun w => beBytes 8 w.toNat

/-- HMAC-SHA-384 with a key of at most 128 bytes. -/
def hmac384 (key msg : List Byte) : List Byte :=
  let k := key ++ List.replicate (128 - key.length) 0
  sha384 (k.map (· ^^^ 0x5C) ++ sha384 (k.map (· ^^^ 0x36) ++ msg))

/-- HKDF-SHA-384 with an empty salt, to 56 bytes. -/
def hkdf56 (ikm info : List Byte) : List Byte :=
  let prk := hmac384 (List.replicate 48 0) ikm
  let t1 := hmac384 prk (info ++ [1])
  let t2 := hmac384 prk (t1 ++ info ++ [2])
  (t1 ++ t2).take 56

/-! ### P-384 -/

namespace P384
def p : Nat := 2 ^ 384 - 2 ^ 128 - 2 ^ 96 + 2 ^ 32 - 1
def b : Nat := 0xb3312fa7e23ee7e4988e056be3f82d19181d9c6efe8141120314088f5013875ac656398d8a2ed19d2a85c8edd3ec2aef
def gx : Nat := 0xaa87ca22be8b05378eb1c71ef320ad746e1d3b628ba79b9859f741e082542a385502f25dbf55296c3a545e3872760ab7
def gy : Nat := 0x3617de4a96262c6f5d9e98bf9292dc29f8f41dbd289a147ce9da3113b5f0b8c00a60b1ce1d7e819d7a431d7c90ea0e5f
/-- The order of the group. -/
def order : Nat := 0xffffffffffffffffffffffffffffffffffffffffffffffffc7634d81f4372ddf581a0db248b0a77aecec196accc52973

/-- x^e mod p, over `n` bits of the exponent. -/
def power (x e : Nat) : Nat → Nat
  | 0 => 1
  | n + 1 => let r := power (x * x % p) (e / 2) n; if e % 2 = 1 then r * x % p else r

def inverse (x : Nat) : Nat := power (x % p) (p - 2) 384

/-- Differences modulo p. -/
def minus (x y : Nat) : Nat := (x + p - y % p) % p

/-- Addition of points; none is the point at infinity. -/
def add (u v : Option (Nat × Nat)) : Option (Nat × Nat) :=
  match u, v with
  | none, v => v
  | u, none => u
  | some (x, y), some (x', y') =>
    if x = x' ∧ (y + y') % p = 0 then none
    else
      let m := if x = x' then minus (3 * x * x) 3 * inverse (2 * y) % p else minus y' y * inverse (minus x' x) % p
      let z := minus (minus (m * m) x) x'
      some (z, minus (m * minus x z) y)

/-- k times a point, over `n` bits of k. -/
def mul (k : Nat) (u : Option (Nat × Nat)) : Nat → Option (Nat × Nat)
  | 0 => none
  | n + 1 => let r := mul (k / 2) (add u u) n; if k % 2 = 1 then add r u else r

/-- The 96 bytes X‖Y of k·G (R354). -/
def publicKey (k : Nat) : List Byte :=
  match mul k (some (gx, gy)) 384 with
  | some (x, y) => beBytes 48 x ++ beBytes 48 y
  | none => []

/-- 96 bytes X‖Y name a point of the curve. -/
def onCurve (bs : List Byte) : Bool :=
  let x := beNat (bs.take 48)
  let y := beNat (bs.drop 48)
  decide (bs.length = 96) && decide (x < p) && decide (y < p) && decide (y * y % p = minus (x * x % p * x + b) (3 * x))
end P384

end Sys2Proof.Machine
end

