-- ==== Sys2Proof/Machine/Crc.lean ====
section
/-! DEFINITION. CRC-32C (R345), which guards the configuration image and the context image (R412). -/

namespace Sys2Proof.Machine

/-- One bit of the reflected polynomial 0x1EDC_6F41 (R345). -/
def crcBit (c : BitVec 32) : BitVec 32 := if c.getLsbD 0 then (c >>> 1) ^^^ 0x82F63B78 else c >>> 1

/-- One byte. -/
def crcByte (c : BitVec 32) (b : Byte) : BitVec 32 :=
  crcBit (crcBit (crcBit (crcBit (crcBit (crcBit (crcBit (crcBit (c ^^^ b.setWidth 32))))))))

/-- CRC-32C of a byte string: initial value and final XOR 0xFFFF_FFFF (R345). -/
def crc32c (bs : List Byte) : BitVec 32 := bs.foldl crcByte 0xFFFFFFFF ^^^ 0xFFFFFFFF

/-- The CRC of a byte string whose bytes 16 to 19 count as 0 (R345, R412). -/
def crcImage (bs : List Byte) : Nat := (crc32c (bs.take 16 ++ List.replicate 4 0 ++ bs.drop 20)).toNat

end Sys2Proof.Machine
end

