-- ==== Sys2Proof/Machine/Image.lean ====
section
/-! DEFINITION. The configuration image (R343 to R348): the flash, the checks of a copy, and its records; and the flash commands (R352,
R353). -/

namespace Sys2Proof.Machine

/-- A record of an image (R346): its type and body. -/
structure ImgRec where
  type : Nat
  body : List Byte
deriving DecidableEq, Repr

namespace Img

/-- The little-endian number of `n` bytes at `off`. -/
def num (bs : List Byte) (off n : Nat) : Nat := leNat ((bs.drop off).take n)

/-- The entries of 16 bytes of a body. -/
def entries (bs : List Byte) : List (List Byte) := (List.range (bs.length / 16)).map fun i => (bs.drop (16 * i)).take 16

/-- The records back to back, at most `n` of them (R346): none where one breaks the layout of a record. -/
def records : Nat → List Byte → Option (List ImgRec)
  | 0, bs => if bs.isEmpty then some [] else none
  | n + 1, bs =>
    if bs.isEmpty then some []
    else
      let body := num bs 4 4
      let padded := (body + 7) / 8 * 8
      if bs.length < 8 + padded ∨ num bs 2 2 ≠ 0 ∨ num bs (8 + body) (padded - body) ≠ 0 then none
      else (records n (bs.drop (8 + padded))).map fun l => { type := num bs 0 2, body := (bs.drop 8).take body } :: l

/-- A BAR0 offset that REGS may write (R347). -/
def offsetAllowed (off : Nat) : Bool :=
  let w := off / 0x100000
  let o := off % 0x100000
  decide (w < 18) && !decide (w = 11 ∨ w = 12) && !(decide (w = 9) && decide ((0x40000 ≤ o ∧ o < 0x48000) ∨ (0x60000 ≤ o ∧ o < 0x60100)))

/-- The layout of a record's body (Table 3, R347). -/
def bodyOk (r : ImgRec) : Bool :=
  match r.type with
  | 0x0001 => decide (r.body.length = 16)
  | 0x0002 => decide (r.body.length % 16 = 0) && (entries r.body).all fun e =>
      let q := num e 0 8
      decide (q % 8 = 0) && decide (q < 2 ^ 26) && offsetAllowed q
  | 0x0003 => decide (r.body.length % 16 = 0) && (entries r.body).all fun e =>
      decide (num e 0 1 ≤ 8) && decide (num e 1 1 ≤ 3) && decide (num e 2 1 ≤ 10) && decide (num e 3 1 ≤ 10) && decide (num e 4 1 ≤ 4) &&
      decide (num e 5 3 = 0) && (List.range (2 * num e 4 1)).all fun i => decide (num e (8 + i) 1 ≤ 10)
  | 0x0004 => decide (r.body.length % 16 = 0) && (entries r.body).all fun e =>
      decide (num e 0 1 ≤ 1) && decide (num e 1 1 = 0) && decide (num e 6 2 = 0)
  | 0x0005 => decide (r.body.length ≤ 16384)
  | 0x0006 => decide (r.body.length = 1584)
  | t => decide (0x8000 ≤ t)

/-- Check 8 of Table 4 on a copy's records. -/
def recordsOk (rs : List ImgRec) : Bool :=
  rs.all bodyOk && [0x0001, 0x0005, 0x0006].all fun t => decide (countOf (fun r : ImgRec => decide (r.type = t)) rs ≤ 1)

end Img

namespace State

/-! ### The flash -/

/-- A byte of the flash: what nothing has programmed is erased (log entry 16). -/
def flashByte (s : State) (a : Nat) : Byte := Map.getD 0xFF a s.boot.flash

def flashBytes (s : State) (a n : Nat) : List Byte := (List.range n).map fun i => s.flashByte (a + i)

/-- The start of copy 1 (A) or 2 (B) (R344). -/
def copyBase (c : Nat) : Nat := if c = 2 then 0x200000 else 0

/-- The LENGTH in a copy's header. -/
def copyLength (s : State) (c : Nat) : Nat := Img.num (s.flashBytes (copyBase c) 64) 12 4

/-- The bytes of a copy whose LENGTH is in range. -/
def copyBytes (s : State) (c : Nat) : List Byte := s.flashBytes (copyBase c) (s.copyLength c)

/-- The records of a copy. -/
def copyRecords (s : State) (c : Nat) : Option (List ImgRec) :=
  let bs := (s.copyBytes c).drop 64
  Img.records (bs.length / 8) bs

/-- The STATUS of a copy that the flash has answered for (R348 Table 4). -/
def copyStatus (s : State) (c : Nat) : Nat :=
  let h := s.flashBytes (copyBase c) 64
  let len := Img.num h 12 4
  if Img.num h 0 4 ≠ 0x31585258 then 2
  else if Img.num h 4 2 ≠ 1 ∨ 4 ≤ Img.num h 6 2 ∨ Img.num h 24 40 ≠ 0 then 3
  else if len % 8 ≠ 0 ∨ len < 64 ∨ 2 ^ 21 < len then 4
  else if Img.num h 20 4 ≠ Config.buildParams then 5
  else if crcImage (s.copyBytes c) ≠ Img.num h 16 4 then 6
  else if Img.num h 8 4 = 0 ∨ Img.num h 8 4 = 0xFFFFFFFF then 7
  else match s.copyRecords c with
    | some rs => if Img.recordsOk rs then 1 else 8
    | none => 8

/-- CFG_COPY_A or CFG_COPY_B (Table 9). -/
def copyReg (c : Nat) : Nat := if c = 2 then Reg.CFG_COPY_B else Reg.CFG_COPY_A

/-- A copy has been read, unless a read of it failed, and checked (R343, R348). -/
def readCopy (completes : Bool) (c : Nat) (s : State) : State :=
  let h := s.flashBytes (copyBase c) 64
  let st := if completes then s.copyStatus c else 9
  let v : Word := if completes then fld (Img.num h 8 4) 32 ||| fld (Img.num h 12 4 % 2 ^ 22) 8 ||| w64 st else w64 st
  let s := s.setReg (copyReg c) v
  if st = 1 then s else s.raise Reg.CFG Err.CFG_COPY_INVALID { Capture.none with access := 0 }

/-- Step 4 of power-up (R340, R343): SFDP, then copy A, then copy B. It follows step 2. Without a response or an SFDP neither copy is read. -/
def flashLoadRead (responds octal : Bool) (reads : FlashReads) (s : State) : State :=
  if s.boot.por || s.boot.readDone || decide (s.ck.pll ≠ .locked) then s
  else
    let s := s.modBoot fun b => { b with readDone := true, mode := if responds then (if octal then 2 else 1) else 0, erase64 := responds && reads.erase64 }
    let s := s.setRegBits Reg.CFG_STATUS 3 2 (if responds then (if octal then 2 else 1) else 0)
    let s := if responds && reads.readA && reads.readB then s else s.raise Reg.CFG Err.CFG_FLASH_READ { Capture.none with access := 0 }
    (s.readCopy (responds && reads.readA) 1).readCopy (responds && reads.readB) 2

/-- The copy that R348 selects: 0 where neither is VALID. -/
def selectCopy (s : State) : Nat :=
  let a := s.reg Reg.CFG_COPY_A
  let b := s.reg Reg.CFG_COPY_B
  let va := decide (bits a 3 0 = 1)
  let vb := decide (bits b 3 0 = 1)
  if va && vb then (if bits a 63 32 < bits b 63 32 then 2 else 1) else if va then 1 else if vb then 2 else 0

/-! ### Flash commands (R352, R353) -/

/-- The address lies in a copy that may be written (R353). -/
def flashWritable (s : State) (a : Nat) : Bool :=
  match s.boot.copy with
  | 1 => decide (0x200000 ≤ a)
  | 2 => decide (a < 0x200000)
  | _ => true

/-- A flash command is refused (R353, R398). A misaligned address, and an ERASE that the SFDP does not list, are refused too (log
entry 26). -/
def flashRefused (s : State) (cmd a : Nat) : Bool :=
  s.boot.cmd.isSome || s.ident.safe || decide (a % 64 ≠ 0) ||
    (decide (cmd ≠ 1) && (!s.flashWritable a || s.regBit Reg.CFG_STATUS 9)) ||
    (decide (cmd = 3) && (decide (a % 65536 ≠ 0) || !s.boot.erase64))

/-- A write of CFG_FLASH_CMD (Table 11): with a valid CMD it starts the command at ADDR. -/
def flashCmdWrite (h : Half) (v : Word) (s : State) : State :=
  let s := s.storeReg Reg.CFG_FLASH_CMD h v
  let cmd := bits (halfValue h v) 34 32
  let a := s.regBits Reg.CFG_FLASH_CMD 21 0
  if cmd = 0 ∨ 3 < cmd then s
  else if s.flashRefused cmd a then s.modBoot fun b => { b with refused := true }
  else
    let data := if cmd = 2 then (List.range 8).flatMap fun k => leBytes 8 (s.reg (Reg.CFG_FLASH_DATA + 8 * k)).toNat else []
    (s.modBoot fun b => { b with refused := false, failed := false, cmd := some { cmd := cmd, addr := a, data := data } }).emit (.flash cmd a data)

/-- The flash's bytes from `a` become `bs`. -/
def flashPut (a : Nat) (bs : List Byte) (s : State) : State :=
  s.modBoot fun b => { b with flash := (List.range bs.length).foldl (fun f i => Map.put 0xFF (a + i) (bs.getD i 0xFF) f) b.flash }

/-- Nothing is promised of the lines that a failed PROGRAM or ERASE covered: each receives a free value (log entry 6). -/
def flashScramble (a : Nat) : Nat → State → State
  | 0, s => s
  | n + 1, s =>
    let r := s.freshLine
    flashScramble (a + 64) n (r.2.flashPut a (lineBytes r.1))

/-- A flash command ends, or fails (R352). -/
def flashDone (ok : Bool) (s : State) : State :=
  match s.boot.cmd with
  | none => s
  | some c =>
    let s := s.modBoot fun b => { b with cmd := none, failed := !ok }
    if ok then
      match c.cmd with
      | 1 => (List.range 8).foldl (fun s k => s.setReg (Reg.CFG_FLASH_DATA + 8 * k) (w64 (leNat (s.flashBytes (c.addr + 8 * k) 8)))) s
      | 2 => s.flashPut c.addr c.data
      | _ => s.modBoot fun b => { b with flash := Mem.clear c.addr 65536 b.flash }
    else
      let s := if c.cmd = 1 then s else s.flashScramble c.addr (if c.cmd = 2 then 1 else 1024)
      s.raise Reg.CFG Err.CFG_FLASH_CMD { Capture.none with access := if c.cmd = 1 then 0 else 1 }

end State

end Sys2Proof.Machine
end

