-- ==== Sys2Proof/Machine/Identity.lean ====
section
/-! DEFINITION. The identity key, its enrolment and its certificate chain (R354 to R356), the SPDM responder (R357), IDE keys (R358) and the
entropy source (R359). -/

namespace Sys2Proof.Machine

/-! ### DER -/

namespace Der

/-- The element at the front: its tag, its contents and what follows (X.690). -/
def next (bs : List Byte) : Option (Nat × List Byte × List Byte) :=
  match bs with
  | t :: l :: rest =>
    let n := l.toNat % 128
    let long := decide (128 ≤ l.toNat)
    let len := if long then beNat (rest.take n) else l.toNat
    let body := if long then rest.drop n else rest
    if (long ∧ (n = 0 ∨ 4 < n ∨ rest.length < n)) ∨ body.length < len then none
    else some (t.toNat, body.take len, body.drop len)
  | _ => none

/-- The certificates of a chain, root first (R346): none where one is no element. -/
def certs : Nat → List Byte → Option (List (List Byte))
  | 0, _ => none
  | n + 1, bs =>
    if bs.isEmpty then some []
    else match next bs with
      | some (_, _, rest) => (certs n rest).map fun l => bs.take (bs.length - rest.length) :: l
      | none => none

/-- What follows `n` elements. -/
def skip : Nat → List Byte → Option (List Byte)
  | 0, bs => some bs
  | n + 1, bs => (next bs).bind fun e => skip n e.2.2

/-- The public key of a certificate, as the contents of its BIT STRING (RFC 5280): the version is optional, and serial number, signature,
issuer, validity and subject stand before the key. -/
def publicKey (cert : List Byte) : Option (List Byte) := do
  let c ← next cert
  let tbs ← next c.2.1
  let first ← next tbs.2.1
  let rest ← skip (if first.1 = 0xA0 then 6 else 5) tbs.2.1
  let spki ← next rest
  let alg ← next spki.2.1
  let key ← next alg.2.2
  if key.1 = 3 then some key.2.1 else none

/-- The public key of the leaf, the last certificate of a chain. -/
def leafKey (chain : List Byte) : Option (List Byte) := do
  let l ← certs (chain.length + 1) chain
  let leaf ← l.getLast?
  publicKey leaf

end Der

/-- The info string "Ilura identity" (R354). -/
def identityInfo : List Byte := [0x49, 0x6C, 0x75, 0x72, 0x61, 0x20, 0x69, 0x64, 0x65, 0x6E, 0x74, 0x69, 0x74, 0x79]

/-- The private key that a seed gives (R354 steps 2 and 3). -/
def identityScalar (seed : BitVec 256) : Nat := beNat (hkdf56 (beBytes 32 seed.toNat) identityInfo) % (P384.order - 1) + 1

namespace State

/-- Bytes from the DRBG, 48 a draw (R359). -/
def draw (n : Nat) (s : State) : List Byte × State :=
  ((List.range n).flatMap fun i => beBytes 48 (Config.entropy (s.ident.draws + i)).toNat,
   s.modIdent fun i => { i with draws := i.draws + n })

/-! ### The identity key (R354, R355) -/

/-- The extractor finds no seed in the response (R354). -/
def pufFails (s : State) : State :=
  (s.modIdent fun i => { i with keyState := 4, d := 0, pub := [] }).raise Reg.ID Err.ID_PUF_FAIL Capture.none

/-- Step 6 of power-up (R340, R354): with no helper record nothing is derived, and the response is held for ENROL. -/
def keyDerive (s : State) : State :=
  if s.boot.por || !s.boot.applied || !s.boot.pufDone || s.boot.keyDone then s
  else
    let s := s.modBoot fun b => { b with keyDone := true }
    if s.boot.helper.isEmpty then s
    else
      let t := s.modIdent fun i => { i with puf := none }
      match Config.fuzzySeed (s.ident.puf.getD []) (s.boot.helper.drop 48) with
      | none => t.pufFails
      | some seed =>
        let d := identityScalar seed
        let q := P384.publicKey d
        if sha384 q = s.boot.helper.take 48 then t.modIdent fun i => { i with keyState := 1, d := d, pub := q }
        else (t.modIdent fun i => { i with keyState := 3, d := 0, pub := [] }).raise Reg.ID Err.ID_KEY_MISMATCH Capture.none

/-- ENROL (R355): fresh helper data, and the key that the held response gives with it. -/
def enrolOp (s : State) : State :=
  match s.ident.puf with
  | none => s.modIdent fun i => { i with refused := true }
  | some resp =>
    if s.ident.keyState ≠ 0 ∨ s.locked ∨ s.ident.entropyBad ∨ s.ident.safe then s.modIdent fun i => { i with refused := true }
    else
      let r := s.draw 32
      let t := r.2.modIdent fun i => { i with refused := false, puf := none }
      match Config.fuzzySeed resp r.1 with
      | none => t.pufFails
      | some seed =>
        let d := identityScalar seed
        t.modIdent fun i => { i with keyState := 2, d := d, pub := P384.publicKey d, helper := r.1 }

/-- A write of ID_CMD (Table 15): other values than ENROL are ignored. -/
def idCmdWrite (h : Half) (v : Word) (s : State) : State := if bits (halfValue h v) 1 0 = 1 then s.enrolOp else s

/-- The chain is offered only if its leaf's public key equals Q (R356). Without a chain there is nothing to offer (log entry 27). -/
def checkChain (s : State) : State :=
  if s.boot.chain.isEmpty then s
  else if s.ident.keyState = 1 ∧ Der.leafKey s.boot.chain = some ([0, 4] ++ s.ident.pub) then s.modIdent fun i => { i with chainOk := true }
  else s.raise Reg.ID Err.ID_CHAIN_MISMATCH Capture.none

/-- A health test of the noise source fails (R359). -/
def entropyFails (s : State) : State :=
  (s.modIdent fun i => { i with entropyBad := true, entropyOk := false }).raise Reg.ID Err.ID_ENTROPY Capture.none

/-- Configuration locks (R11, R354): a response held for ENROL is zeroed. -/
def lockConfig (s : State) : State := (s.setReg Reg.CFG_LOCK 1).modIdent fun i => { i with puf := none }

/-! ### The SPDM responder (R357) -/

/-- Requests that need the private key can be answered (R357). -/
def keyUsable (s : State) : Bool := decide (s.ident.keyState = 1 ∨ s.ident.keyState = 2) && !s.ident.safe

/-- A DOE request reaches the responder once the PF answers configuration requests (R341). -/
def spdm (f : State → State) (s : State) : State := if s.boot.loaded then f s else s

/-- An SPDM response (codes and layouts PRESUMED SPDM 1.3, log entry 28). -/
def respond (code : Nat) (data : List Byte) (s : State) : State := s.emit (.spdm code data)

/-- An SPDM error: 1 InvalidRequest, 2 InvalidSession, 4 UnexpectedRequest, 5 Unspecified, 10 SessionLimitExceeded. -/
def spdmError (code : Nat) (s : State) : State := s.respond 0x7F [BitVec.ofNat 8 code]

/-- A request that follows the negotiation (log entry 28). -/
def negotiated (f : State → State) (s : State) : State := s.spdm fun s => if s.ident.stage < 3 then s.spdmError 4 else f s

def getVersionOp (s : State) : State := s.spdm fun s => (s.modIdent fun i => { i with stage := 1 }).respond 0x04 [0, 1, 0, 0x13]

def getCapabilitiesOp (s : State) : State :=
  s.spdm fun s => if s.ident.stage = 0 then s.spdmError 4 else (s.modIdent fun i => { i with stage := max i.stage 2 }).respond 0x61 (leBytes 4 0x62D6)

/-- ECDSA P-384, SHA-384, secp384r1, AES-256-GCM and the SPDM key schedule (Table 6). -/
def negotiateOp (s : State) : State :=
  s.spdm fun s => if s.ident.stage < 2 then s.spdmError 4
    else (s.modIdent fun i => { i with stage := 3 }).respond 0x63 (leBytes 4 0x80 ++ leBytes 4 2 ++ leBytes 2 0x10 ++ leBytes 2 2 ++ leBytes 2 1)

/-- The chain as SPDM carries it: length, hash of the root certificate, certificates. -/
def spdmChain (s : State) : List Byte :=
  let c := s.boot.chain
  let root := match Der.next c with | some (_, _, rest) => c.take (c.length - rest.length) | none => []
  leBytes 2 (52 + c.length) ++ [0, 0] ++ sha384 root ++ c

/-- GET_DIGESTS (R351, R356): slot 0 where the chain is offered. -/
def getDigestsOp (s : State) : State :=
  s.negotiated fun s => if s.ident.chainOk then s.respond 0x01 (1 :: sha384 s.spdmChain) else s.respond 0x01 [0]

def getCertificateOp (slot off len : Nat) (s : State) : State :=
  s.negotiated fun s =>
    let c := s.spdmChain
    if slot ≠ 0 ∨ !s.ident.chainOk ∨ c.length ≤ off then s.spdmError 1
    else
      let part := (c.drop off).take len
      s.respond 0x02 (leBytes 2 part.length ++ leBytes 2 (c.length - off - part.length) ++ part)

/-- A signature by d: what it signs is a transcript that the model does not hold, and its value is free (log entry 6). -/
def sign (s : State) : List Byte × State :=
  (beBytes 96 (Config.signature s.ident.d s.ident.draws).toNat, s.modIdent fun i => { i with draws := i.draws + 1 })

def challengeOp (slot : Nat) (_nonce : List Byte) (s : State) : State :=
  s.negotiated fun s =>
    if slot ≠ 0 ∨ !s.ident.chainOk then s.spdmError 1
    else if !s.keyUsable then s.spdmError 5
    else
      let n := s.draw 1
      let g := n.2.sign
      g.2.respond 0x03 (1 :: (sha384 s.spdmChain ++ n.1.take 32 ++ g.1))

/-- CFG_STATUS with LOCKED as it stands (Table 8). -/
def cfgStatus (s : State) : Word := setBit (s.reg Reg.CFG_STATUS) 7 s.locked

/-- ID_BUILD_PARAMS (Table 13). -/
def buildWord : Word := fld Config.vendorId.toNat 48 ||| fld Config.stepping.toNat 40 ||| w64 Config.buildParams

/-- The measurements (Table 6): the selected copy's hash, the build, and the configuration as it stands. -/
def measurement (s : State) (i : Nat) : List Byte :=
  match i with
  | 1 => sha384 (if s.boot.copy = 0 then [] else s.copyBytes s.boot.copy)
  | 2 => leBytes 8 buildWord.toNat
  | _ => leBytes 8 (s.cfgStatus &&& (fieldMask 63 32 ||| fieldMask 7 4)).toNat

def getMeasurementsOp (index : Nat) (signed : Bool) (_nonce : List Byte) (s : State) : State :=
  s.negotiated fun s =>
    let block (i : Nat) : List Byte := BitVec.ofNat 8 i :: (leBytes 2 (s.measurement i).length ++ s.measurement i)
    if 3 < index ∧ index ≠ 0xFF then s.spdmError 1
    else if signed ∧ !s.keyUsable then s.spdmError 5
    else
      let body := if index = 0 then [3] else if index = 0xFF then block 1 ++ block 2 ++ block 3 else block index
      if signed then
        let n := s.draw 1
        let g := n.2.sign
        g.2.respond 0x60 (body ++ n.1.take 32 ++ g.1)
      else s.respond 0x60 body

/-- KEY_EXCHANGE (R357, R359): a session opens, with an ephemeral key from the DRBG; 4 at once. -/
def keyExchangeOp (slot : Nat) (_random exchange : List Byte) (s : State) : State :=
  s.negotiated fun s =>
    if slot ≠ 0 ∨ !s.ident.chainOk ∨ !P384.onCurve exchange then s.spdmError 1
    else if !s.keyUsable ∨ s.ident.entropyBad then s.spdmError 5
    else if 4 ≤ s.ident.sessions.length then s.spdmError 10
    else
      let r := s.draw 2
      let q := P384.publicKey (beNat (r.1.drop 48) % (P384.order - 1) + 1)
      let g := r.2.sign
      let id := s.ident.nextSession
      (g.2.modIdent fun i => { i with sessions := i.sessions ++ [{ id := id, open_ := false }], nextSession := id + 1 }).respond 0x64
        (leBytes 4 id ++ r.1.take 32 ++ q ++ g.1 ++ beBytes 48 (Config.verifyData id).toNat)

/-- FINISH (R357): the session is open once the host's verify data holds. -/
def finishOp (session : Nat) (verify : List Byte) (s : State) : State :=
  s.negotiated fun s =>
    match s.ident.sessions.find? fun x => decide (x.id = session) with
    | none => s.spdmError 2
    | some x =>
      if x.open_ then s.spdmError 4
      else if !Config.finishVerifies session verify then
        (s.modIdent fun i => { i with sessions := i.sessions.filter fun x => !decide (x.id = session) }).spdmError 6
      else (s.modIdent fun i => { i with sessions := updateWhere (fun x => decide (x.id = session)) (fun x => { x with open_ := true }) i.sessions }).respond 0x65 []

/-- A request inside a session that FINISH has opened. -/
def inSession (session : Nat) (f : State → State) (s : State) : State :=
  s.negotiated fun s => if s.ident.sessions.any fun x => decide (x.id = session) && x.open_ then f s else s.spdmError 2

def heartbeatOp (session : Nat) (s : State) : State := s.inSession session (respond 0x68 [])

/-- KEY_UPDATE (R357). The session's record keys are not held: nothing that the block does depends on their values (log entry 28). -/
def keyUpdateOp (session : Nat) (both : Bool) (s : State) : State := s.inSession session (respond 0x69 [if both then 2 else 1])

def endSessionOp (session : Nat) (s : State) : State :=
  s.inSession session fun s => (s.modIdent fun i => { i with sessions := i.sessions.filter fun x => !decide (x.id = session) }).respond 0x6C []

/-! ### IDE_KM (R358): responses carry their object number with 0x100 added -/

/-- The key that a message names. -/
def IdeKey.named (k : IdeKey) (stream : Nat) (keySet tx : Bool) (sub : Nat) : Bool :=
  decide (k.stream = stream) && (k.keySet == keySet) && (k.tx == tx) && decide (k.sub = sub)

/-- KEY_PROG: keys are accepted for link stream 0 and selective streams 1 and 2. The status is 0, or 3 for a stream that is not there. -/
def keyProgOp (session stream : Nat) (keySet tx : Bool) (sub : Nat) (key : BitVec 256) (s : State) : State :=
  s.inSession session fun s =>
    let head : List Byte := [BitVec.ofNat 8 stream, BitVec.ofNat 8 (b2n keySet + 2 * b2n tx + 16 * sub)]
    if 2 < stream then s.respond 0x103 (3 :: head)
    else
      (s.modIdent fun i => { i with keys := (i.keys.filter fun k => !IdeKey.named k stream keySet tx sub) ++
        [{ stream := stream, keySet := keySet, tx := tx, sub := sub, key := key, going := false }] }).respond 0x103 (0 :: head)

/-- K_SET_GO and K_SET_STOP. -/
def keySetOp (session stream : Nat) (keySet tx : Bool) (sub : Nat) (go : Bool) (s : State) : State :=
  s.inSession session fun s =>
    (s.modIdent fun i => { i with keys := updateWhere (fun k => IdeKey.named k stream keySet tx sub) (fun k => { k with going := go }) i.keys }).respond 0x106
      [BitVec.ofNat 8 stream, BitVec.ofNat 8 (b2n keySet + 2 * b2n tx + 16 * sub)]

/-- QUERY: the stream's number, and whether it is secure in each direction. -/
def queryOp (session stream : Nat) (s : State) : State :=
  s.inSession session fun s =>
    let on (tx : Bool) : Bool := s.ident.keys.any fun k => decide (k.stream = stream) && (k.tx == tx) && k.going
    s.respond 0x101 [BitVec.ofNat 8 stream, BitVec.ofNat 8 (b2n (on false) + 2 * b2n (on true))]

end State

end Sys2Proof.Machine
end

