-- ==== Sys2Proof/Machine/Rebind.lean ====
section
/-! DEFINITION. Rebinding contexts (R404 to R414): what a context holds, the commands of RB_CMD, the context image. -/

namespace Sys2Proof.Machine

/-- Counter registers of R70 (Tables 13 and 14 of spec/02): QE_CTR_CFG with its WAITERS, and QE_CTR_VALUE. -/
def Ctr.cfgWord (c : Ctr) (waiters : Nat) : Word :=
  fld (waiters % 65536) 36 ||| fld (b2n c.error) 35 ||| fld (b2n c.regress) 34 ||| fld (b2n c.overflow) 33 ||| fld (b2n c.prodValid) 32 |||
  fld (c.producer % 65536) 16 ||| fld (c.mode % 4) 13 ||| fld (b2n c.valid) 12 ||| w64 (c.owner % 4096)

namespace State

/-- The queues of a context (R404). -/
def ctxQueues (s : State) (c : Nat) : List (Nat × Queue) := s.qe.queues.filter fun e => decide (e.2.ctx = c) && !decide (e.2.st = .disabled)

/-- The counters of a context as (event, index, counter) (R404). -/
def ctxCtrs (s : State) (c : Nat) : List (Bool × Nat × Ctr) :=
  let mine (event : Bool) (m : NMap Ctr) := (m.filter fun e => e.2.valid && decide (e.2.owner = c)).map fun e => (event, e.1, e.2)
  mine false s.qe.fences ++ mine true s.qe.events

/-- Queues that wait on a counter (Table 13 of spec/02). -/
def waiterCount (s : State) (event : Bool) (i : Nat) : Nat :=
  countOf (fun e => decide (e.2.st = .waiting) && decide (e.2.waitKind = if event then WaitKind.event else WaitKind.fence) &&
    decide (e.2.waitIndex = i)) s.qe.queues

/-- RB_CTX (Table 1 of spec/16). -/
def ctxWord (s : State) (c : Nat) : Word :=
  let x := s.ctxOf c
  let st := match x.st with | .free => 0 | .bound => 1 | .quiescing => 2 | .quiesced => 3
  fld st 62 ||| fld ((s.ctxQueues c).length % 2 ^ 17) 45 ||| fld ((s.ctxCtrs c).length % 2 ^ 16) 29 ||| fld (x.fn % 256) 8 |||
    fld (b2n x.obsSet) 5 ||| w64 (x.rsvSet % 16)

/-- A request opened from the context's queues is not FREE (R406 Table 3). -/
def ctxRequests (s : State) (c : Nat) : List Nat := (s.bt.reqs.filter fun e => decide (e.2.ctx = c)).map (·.1)

/-- The context is the serving context while serving (R406 Table 3). -/
def ctxServing (s : State) (c : Nat) : Bool := s.bt.serving && decide (s.bt.ctx = c)

/-- A page of the context's queues also holds a queue of another context (R406 Table 3). -/
def pageShared (s : State) (c : Nat) : Bool :=
  (s.ctxQueues c).any fun e => s.qe.queues.any fun x => decide (x.1 / 64 = e.1 / 64) && !decide (x.2.ctx = c) && !decide (x.2.st = .disabled)

/-- A queue that interrupts has a vector beyond the function's count (R406 Table 3). -/
def vectorBad (s : State) (fn : Nat) (qs : List Queue) : Bool := qs.any fun v => v.irqEn && decide (s.vectorCount fn ≤ v.vector)

/-- A function's field of a queue's record (R36 Table 1). -/
def setFn (fn : Nat) (v : Queue) : Queue := { v with cfg := setBits v.cfg 27 20 fn }

/-! ### Commands -/

/-- The hold is lifted (R409): waits start afresh and are tried in their old order, and fetchable work is fetched. -/
def ctxResume (c : Nat) (s : State) : State :=
  let x := s.ctxOf c
  let s := s.setCtx c { x with st := .bound, obs := x.obsSet, rsv := x.rsvSet }
  let qs := sortBy (fun e => e.2.waitSeq) (s.ctxQueues c)
  qs.foldl (fun s e =>
    let q := e.1
    let v := s.queue q
    match v.st with
    | .waiting =>
      let s := s.setQueue q { v with waitStart := s.now }
      match v.waitKind with
      | .fence | .event =>
        let event := decide (v.waitKind = .event)
        if s.ctrFenced v.waitIndex then s.endWait q (some St.DEPENDENCY_ERROR) false
        else if s.rp.replaying then s
        else match tryWait event v.waitValue.toNat (s.ctr event v.waitIndex) with
          | some k => (s.setCtr event v.waitIndex k).meetWait event v.waitIndex q
          | none => s
      | _ => s.setQueue q { v.noWait with st := .fetching }
    | .idle => if v.sqTail ≠ v.sqHead then s.setQueue q { v with st := .fetching } else s
    | .fetching => if v.head.isSome then s.beginWait q else s
    | _ => s) s

/-- ATS copies of a function that a context's HOST segments may have used (R410 step 3). -/
def dropCtxCopies (c fn : Nat) (s : State) : State :=
  let pasids := (List.range 16).filterMap fun i => let g := s.segOf c i
    if segValid g && decide (segTarget g = 4) && bit g.q1 54 then some (bits g.q2 19 0) else none
  s.modCh fun h => { h with copies := h.copies.filter fun x => !(decide (x.fn = fn) && (match x.pasid with | some p => decide (p ∈ pasids) | none => false)) }

/-- Chip reservations that carry the context are broken (R262). -/
def dropCtxRsv (c : Nat) (s : State) : State := s.modFp fun f => { f with rsv := f.rsv.filter fun r => !decide (r.ctx = c) }

/-- REBIND (R410). -/
def ctxRebind (c fn : Nat) (s : State) : State :=
  let qs := (s.ctxQueues c).map (·.1)
  let s := qs.foldl (fun s q => s.updQueue q (setFn fn)) s
  let s := qs.foldl (fun s q => s.modQe fun e => { e with dbPages := Map.put 0 (q / 64) (setBits (s.dbPage (q / 64)) 7 0 fn) e.dbPages }) s
  let s := (s.dropCtxCopies c (s.ctxOf c).fn).dropCtxRsv c
  let s := s.modBt fun t => { t with reqs := Map.mapVals (fun _ b => if b.ctx = c then { b with fn := fn } else b) t.reqs }
  (s.setCtx c { s.ctxOf c with fn := fn }).bump Reg.RB_STAT_REBIND

/-- The bytes of the context image (R412 Table 4), with its CRC. -/
def ctxImage (s : State) (c : Nat) : List Byte :=
  let qs := s.ctxQueues c
  let ks := s.ctxCtrs c
  let len := (512 + 72 * qs.length + 24 * ks.length + 63) / 64 * 64
  let q8 (w : Word) : List Byte := leBytes 8 w.toNat
  -- of a fenced bank, the image holds what its registers read (R455)
  let qword (e : Nat × Queue) (k : Nat) : Word := if s.queueFenced e.1 then 0 else e.2.qword k
  let cfg (k : Bool × Nat × Ctr) : Word := if s.ctrFenced k.2.1 then fld 1 35 else k.2.2.cfgWord (s.waiterCount k.1 k.2.1)
  let value (k : Bool × Nat × Ctr) : Word := if s.ctrFenced k.2.1 then 0 else w64 k.2.2.value
  let head (crc : Nat) : List Byte :=
    leBytes 4 0x31585443 ++ leBytes 2 1 ++ leBytes 2 c ++ leBytes 4 qs.length ++ leBytes 4 ks.length ++ leBytes 4 crc ++
    leBytes 4 Config.buildParams ++ leBytes 8 len ++ leBytes 8 s.now ++ List.replicate 24 0
  let body : List Byte :=
    q8 (s.ctxWord c) ++ q8 (Map.getD 0 c s.qe.htab) ++ List.replicate 48 0 ++
    ((List.range 16).flatMap fun i => let g := s.segOf c i; q8 g.q0 ++ q8 g.q1 ++ q8 g.q2) ++
    (qs.flatMap fun e => q8 (w64 e.1) ++ (List.range 8).flatMap fun k => q8 (qword e k)) ++
    (ks.flatMap fun k => q8 (w64 k.2.1 ||| fld (b2n k.1) 14) ++ q8 (cfg k) ++ q8 (value k))
  let pad := List.replicate (len - 64 - body.length) (0 : Byte)
  head (crcImage (head 0 ++ body ++ pad)) ++ body ++ pad

/-- Writes the image, or what of it still waits for its lines (R412). -/
def ckptStep (s : State) : State :=
  if !s.rb.busy || decide (s.rb.cmd ≠ 4) || s.rb.issued then s
  else
    match (deviceWrite .ckpt s.rb.addr s.rb.image false 0).exec s with
    | (.error .wait, s) => s
    | (.error (.fail st), s) => (s.postedDone .ckpt (some st)).modRb fun r => { r with issued := true }
    | (.ok (), s) => s.modRb fun r => { r with issued := true }

/-- A command is refused (R406): REASON holds the first condition that fails. -/
def rbRefuse (reason : Nat) (s : State) : State := s.modRb fun r => { r with refused := true, reason := reason, busy := false }

/-- A command has ended. -/
def rbDone (s : State) : State := s.modRb fun r => { r with busy := false, image := [], issued := false, drain := none }

/-- The image's bytes as qwords. -/
def imgQ (bs : List Byte) (off : Nat) : Word := w64 (leNat ((bs.drop off).take 8))

/-- A queue from the qwords of its record (R36 Table 1), in the state in which RESTORE leaves it (R413). -/
def imgQueue (bs : List Byte) (off c fn seq : Nat) : Nat × Queue :=
  let q (k : Nat) : Word := imgQ bs (off + 8 * k)
  let st : QState := match bits (q 6) 11 9 with
    | 1 | 2 | 3 => .idle
    | 4 => .waiting
    | 5 => .parked
    | 6 => .error
    | _ => .disabled
  let moved := decide (bits (q 6) 11 9 = 2 ∨ bits (q 6) 11 9 = 3 ∨ bits (q 6) 11 9 = 7)
  let kind : WaitKind := match bits (q 8) 15 14 with | 1 => .fence | 2 => .event | 3 => .resource | _ => .none
  (bits (q 0) 15 0,
   { Queue.reset with
     sqBase := q 1, cqBase := q 2, tailShadow := q 3, cfg := setBits (setBits (q 4) 19 8 c) 27 20 fn,
     cqHead := bits (q 5) 63 48, cqTail := bits (q 5) 47 32, sqHead := bits (q 5) 31 16, sqTail := bits (q 5) 15 0,
     staleRetries := bits (q 6) 47 40, lastStatus := bits (q 6) 39 32, dbPending := bit (q 6) 12 && !moved, st := st,
     cqPhase := bit (q 6) 8, sqGen := bits (q 6) 7 0, waitValue := q 7, waitKind := kind, waitIndex := bits (q 8) 13 0,
     waitStart := bits (q 8) 63 32 * 2 ^ 20, waitSeq := seq })

/-- The checks of R413 on the image's header. -/
def imgOk (bs : List Byte) : Bool :=
  let len := leNat ((bs.drop 24).take 8)
  let nq := leNat ((bs.drop 8).take 4)
  let nk := leNat ((bs.drop 12).take 4)
  decide (leNat (bs.take 4) = 0x31585443) && decide (leNat ((bs.drop 4).take 2) = 1) && decide (leNat ((bs.drop 20).take 4) = Config.buildParams) &&
    decide (len = (512 + 72 * nq + 24 * nk + 63) / 64 * 64) && decide (bs.length = len) && decide (leNat ((bs.drop 16).take 4) = crcImage bs)

/-- RESTORE once the image has been read (R413). A queue or counter of a fenced bank cannot be read and takes no write: it reads as free and stays
as it is (R455). -/
def ctxRestore (c fn : Nat) (bs : List Byte) (s : State) : State :=
  let nq := min (leNat ((bs.drop 8).take 4)) (bs.length / 72)
  let nk := min (leNat ((bs.drop 12).take 4)) (bs.length / 24)
  let recs := (List.range nq).map fun i => imgQueue bs (512 + 72 * i) c fn 0
  -- the waits keep their order by WAIT_START, equal ones by queue number (R68, R413)
  let before (a b : Nat × Queue) : Bool := decide (a.2.waitStart < b.2.waitStart ∨ a.2.waitStart = b.2.waitStart ∧ a.1 < b.1)
  let qs := recs.map fun e => (e.1, { e.2 with waitSeq := s.qe.waitSeq + countOf (fun x => before x e) recs })
  let base := 512 + 72 * nq
  let ks := (List.range nk).map fun i => (imgQ bs (base + 24 * i), imgQ bs (base + 24 * i + 8), imgQ bs (base + 24 * i + 16))
  let qs := qs.filter fun e => !s.queueFenced e.1
  let ks := ks.filter fun k => !s.ctrFenced (bits k.1 13 0)
  let taken := qs.any fun e => let v := s.queue e.1; !decide (v.st = .disabled) || (decide (v ≠ Queue.reset) && !decide ((s.ctxOf v.ctx).st = .free))
  let ctrTaken := ks.any fun k => (s.ctr (bit k.1 14) (bits k.1 13 0)).valid
  if s.vectorBad fn (qs.map (·.2)) then s.rbRefuse 5
  else if !imgOk bs then s.rbRefuse 6
  else if taken then s.rbRefuse 7
  else if ctrTaken then s.rbRefuse 8
  else
    let s := qs.foldl (fun s e => s.setQueue e.1 e.2) s
    let s := s.modQe fun e => { e with waitSeq := e.waitSeq + nq, htab := Map.put 0 c (imgQ bs 72) e.htab,
                                       handles := Map.keep (fun k _ => !decide (k / 4096 = c)) e.handles }
    let s := ks.foldl (fun s k => s.setCtr (bit k.1 14) (bits k.1 13 0)
      { value := k.2.2.toNat, error := bit k.2.1 35, regress := bit k.2.1 34, overflow := bit k.2.1 33, prodValid := bit k.2.1 32,
        producer := bits k.2.1 31 16, mode := bits k.2.1 14 13, valid := bit k.2.1 12, owner := c, lastSig := none }) s
    let s := s.modCh fun h => { h with segs := (List.range 16).foldl (fun m i =>
      Map.put { q0 := 0, q1 := 0, q2 := 0 } (c * 16 + i) { q0 := imgQ bs (128 + 24 * i), q1 := imgQ bs (136 + 24 * i), q2 := imgQ bs (144 + 24 * i) } m) h.segs }
    let obs := bit (imgQ bs 64) 5
    let rsv := bits (imgQ bs 64) 3 0
    (s.setCtx c { st := .quiesced, fn := fn, obs := obs, rsv := rsv, obsSet := obs, rsvSet := rsv }).rbDone.bump Reg.RB_STAT_RESTORE

/-- RESTORE reads the image: its header, then its LENGTH (R413). -/
def restoreStep (s : State) : State :=
  if !s.rb.busy || decide (s.rb.cmd ≠ 5) then s
  else
    let a := s.rb.addr
    let c := s.rb.cmdCtx
    let read : M Bytes := do
      let h ← deviceRead .ckpt a 64
      let len := leNat ((h.1.drop 24).take 8)
      if len < 512 ∨ 512 + 72 * 65536 + 24 * 32768 + 64 < len then pure (h.1, h.2)
      else deviceRead .ckpt a len
    match read.exec s with
    | (.error .wait, s) => s
    | (.error (.fail _), s) => (s.forget .ckpt).rbRefuse 6
    | (.ok (bs, poison), s) =>
      let s := s.forget .ckpt
      if poison then s.rbRefuse 6 else s.ctxRestore c (s.regBits Reg.RB_CMD 15 8) bs

/-- RELEASE begins with the flush of the context's lines (R411 step 1). -/
def releaseStart (c : Nat) (s : State) : State := s.evictLines fun k => decide (s.dcCtx k = c)

/-- The context's regions are withdrawn (R411 step 2): the requests that passed them are to reach their homes, within 10 µs (R198). -/
def releaseRegions (c : Nat) (s : State) : State :=
  let old := s.ch.ios.map fun r => Waiter.io r.id
  let by_ := s.now + 10000
  (s.modCh fun h => { h with regions := Map.mapVals (fun _ g => if bits g.q2 43 32 = c then { g with q1 := setBit g.q1 63 false } else g) h.regions }).modRb
    fun r => { r with drain := some (old, by_) }

/-- The rest of RELEASE (R411 steps 3 to 7). -/
def releaseEnd (c : Nat) (s : State) : State :=
  let s := (s.ctxQueues c).foldl (fun s e => (s.forget (.slot e.1)).setQueue e.1 Queue.reset) s
  let s := (s.ctxCtrs c).foldl (fun s k => s.setCtr k.1 k.2.1 Ctr.reset) s
  let s := s.dropCtxCopies c (s.ctxOf c).fn
  let s := s.modCh fun h => { h with segs := Map.keep (fun k _ => !decide (k / 16 = c)) h.segs }
  let s := s.modQe fun e => { e with htab := Map.erase c e.htab, handles := Map.keep (fun k _ => !decide (k / 4096 = c)) e.handles }
  (s.setCtx c { Ctx.reset c with st := .free, fn := 0 }).rbDone

/-- A write of RB_CMD (R406 Tables 2, 3 and 9). -/
def rbCommand (h : Half) (v : Word) (s : State) : State :=
  let cmd := bits (halfValue h v) 2 0
  if s.rb.busy then (if cmd = 0 then s else s.modRb fun r => { r with refused := true })
  else
    let s := s.storeReg Reg.RB_CMD h v
    if cmd = 0 then s
    else
      let c := s.regBits Reg.RB_SEL 11 0
      let fn := s.regBits Reg.RB_CMD 15 8
      let x := s.ctxOf c
      let addr := (s.reg Reg.RB_CKPT_ADDR).toNat
      let s := s.modRb fun r => { r with refused := false, reason := 0, cmd := cmd, cmdCtx := c, addr := addr }
      if s.rb.safe then s.rbRefuse 0
      else match cmd with
        | 1 => if x.st ≠ .free then s.rbRefuse 1 else s.setCtx c { x with st := .bound, fn := fn }
        | 2 => if x.st ≠ .bound then s.rbRefuse 1 else s.setCtx c { x with st := .quiescing }
        | 3 => if x.st ≠ .quiescing ∧ x.st ≠ .quiesced then s.rbRefuse 1 else s.ctxResume c
        | 4 => if x.st ≠ .quiesced then s.rbRefuse 1
            else if s.ctxRequests c ≠ [] then s.rbRefuse 3
            else (s.modRb fun r => { r with busy := true, image := s.ctxImage c, issued := false }).ckptStep
        | 5 => if x.st ≠ .free then s.rbRefuse 1
            else (s.modRb fun r => { r with busy := true }).restoreStep
        | 6 => if x.st ≠ .quiesced then s.rbRefuse 1
            else if s.ctxServing c then s.rbRefuse 2
            else if s.pageShared c then s.rbRefuse 4
            else if s.vectorBad fn ((s.ctxQueues c).map (·.2)) then s.rbRefuse 5
            else s.ctxRebind c fn
        | _ => if x.st ≠ .quiesced then s.rbRefuse 1
            else if s.ctxServing c then s.rbRefuse 2
            else if s.ctxRequests c ≠ [] then s.rbRefuse 3
            else (s.modRb fun r => { r with busy := true }).releaseStart c

/-- R408: no started descriptor, no request in a step, no token-record write or head read is left. An accepted OPEN_REQUEST runs as long
as its request does, and does not count (log entry 25). -/
def ctxQuiet (s : State) (c : Nat) : Bool :=
  !(s.qe.works.any fun w => decide (w.ctx = c) && !decide (w.phase = .open)) &&
  (s.ctxRequests c).all fun r => !s.inStep r && (match s.bReq? r with | some b => b.parked || (!b.reading && decide (b.stage = 0)) | none => true)

/-- QUIESCING becomes QUIESCED (R408). -/
def quiescedOp (s : State) : State :=
  (s.rb.ctxs.filter fun e => decide (e.2.st = .quiescing)).foldl (fun s e => if s.ctxQuiet e.1 then s.setCtx e.1 { e.2 with st := .quiesced } else s) s

/-- RB_CMD_END: the image of a CHECKPOINT has been written, or its write failed; the flush of a RELEASE has ended (R406, R411). -/
def rbCmdEndOp (ok : Bool) (s : State) : State :=
  if !s.rb.busy then s
  else match s.rb.cmd with
    | 4 =>
      let p := s.postedOf .ckpt
      if !s.rb.issued ∨ p.1 ≠ 0 then s
      else
        let s := s.forget .ckpt
        if ok ∧ p.2.isNone then s.rbDone.bump Reg.RB_STAT_CHECKPOINT
        else (s.rbDone.rbRefuse 9).raise Reg.RB Err.RB_CKPT_WRITE { Capture.none with addr := w64 s.rb.addr, space := 1, access := 1 }
    | 7 =>
      if s.dc.lines.any fun e => decide (s.dcCtx e.1 = s.rb.cmdCtx ∧ e.2.hstate ≠ 0) then s
      else
        let s := if s.rb.drain.isNone then s.releaseRegions s.rb.cmdCtx else s
        (match s.rb.drain with
         | some x => if x.1.all (fun w => !s.underWay w) ∨ x.2 ≤ s.now then s.releaseEnd s.rb.cmdCtx else s
         | none => s)
    | _ => s

/-- A write of RB_CTX (Table 1 of spec/16): taken in FREE and QUIESCED only. -/
def ctxWrite (h : Half) (v : Word) (s : State) : State :=
  let c := s.regBits Reg.RB_SEL 11 0
  let x := s.ctxOf c
  let w := mergeHalf h (s.ctxWord c) v
  let obs := bit w 5
  let rsv := bits w 3 0
  match x.st with
  | .free => s.setCtx c { x with obs := obs, rsv := rsv, obsSet := obs, rsvSet := rsv }
  | .quiesced => s.setCtx c { x with obsSet := obs, rsvSet := rsv }
  | _ => s.modRb fun r => { r with refused := true }

end State

end Sys2Proof.Machine
end

