-- ==== Sys2Proof/Machine/QueueCmds.lean ====
section
/-! DEFINITION. The registers through which software runs the queue engine: the queue records and QE_QCMD (R36, R38, R75), the counters
(R65, R69, R70), the handle tables (R51), the doorbell pages (R60), and the engine's own timers (R47, R73). -/

namespace Sys2Proof.Machine

/-- A queue that stops fetching: nothing of its fetch in progress is kept. -/
def Queue.noFetch (v : Queue) : Queue := { v.noWait with reading := false, staleDue := none, partialTail := none }

namespace State

/-! ### Queue records -/

/-- A write of record qword `k` of the selected queue (R36): accepted only while the queue is DISABLED and its bank is not fenced
(R455); SERVE is RWL. Qwords 4 to 7 are the block's. -/
def recordWrite (k : Nat) (h : Half) (v : Word) (s : State) : State :=
  let q := s.selQueue
  let x := s.queue q
  let refuse (b : Bool) (s : State) : State := s.modQe fun e => { e with qcmdRefused := b }
  if s.queueFenced q then refuse true s
  else if 4 ≤ k then s
  else if x.st ≠ .disabled then refuse true s
  else
    let put (old : Word) : Word := mergeHalf h old v
    let x := match k with
      | 0 => { x with sqBase := put x.sqBase }
      | 1 => { x with cqBase := put x.cqBase }
      | 2 => { x with tailShadow := put x.tailShadow }
      | _ => { x with cfg := if s.locked then setBit (put x.cfg) 54 (bit x.cfg 54) else put x.cfg }
    refuse false (s.setQueue q x)

/-! ### QE_QCMD -/

/-- A command of QE_QCMD on the queue that QE_SEL names (R38, R448): `ok` says whether it is valid there. -/
def queueCmd (ok : Queue → Bool) (f : Nat → State → State) (s : State) : State :=
  let q := s.selQueue
  if s.queueFenced q || !ok (s.queue q) then s.qcmdDone true else f q (s.qcmdDone false)

/-- ENABLE (R38): the queue fetches at once the slots rung while it was disabled. -/
def queueEnable (s : State) : State :=
  s.queueCmd (fun v => decide (v.st = .disabled) && decide (bits v.cfg 3 0 ≤ 12) && decide (bits v.cfg 7 4 ≤ 12))
    fun q s => s.updQueue q fun v => { v.noFetch with st := (if v.sqTail = v.sqHead then .idle else .fetching), staleRetries := 0 }

/-- DISABLE (R75, R454): the queue drains; a head that has not started ends with ABORTED, and a detached completion still waiting is
discarded. -/
def queueDisable (s : State) : State :=
  s.queueCmd (fun v => !decide (v.st = .disabled ∨ v.st = .draining)) fun q s =>
    let s := s.updQueue q fun v => { v.noFetch with st := .draining, deferred := v.deferred.filter fun e => !e.detached }
    ((s.endHead q St.ABORTED).forget (.slot q)).modQe fun e => { e with qcmdBusy := some q }

/-- RESUME (R38, R71): a PARKED queue goes on at the next slot, one in ERROR reads its head slot again. The count of stale retries
starts afresh (R73, log entry 37). -/
def queueResumeCmd (s : State) : State :=
  s.queueCmd (fun v => decide (v.st = .parked ∨ v.st = .error)) fun q s =>
    s.updQueue q fun v => { v.noFetch with st := .fetching, staleRetries := 0 }

/-- RESET_POINTERS (R38). -/
def resetPointersCmd (s : State) : State :=
  s.queueCmd (fun v => decide (v.st = .disabled)) fun q s =>
    s.updQueue q fun v => { v with sqHead := 0, sqTail := 0, cqHead := 0, cqTail := 0, sqGen := 1, cqPhase := true, staleRetries := 0 }

/-- SKIP_HEAD (R38): the slot in ERROR is abandoned. -/
def skipHeadCmd (s : State) : State :=
  s.queueCmd (fun v => decide (v.st = .error)) fun q s =>
    s.updQueue q fun v => { (v.noFetch.advance 1) with st := .fetching, staleRetries := 0 }

/-- A write of QE_QCMD (Table 12): values that name no command are ignored. -/
def queueCmdWrite (h : Half) (v : Word) (s : State) : State :=
  match bits (halfValue h v) 2 0 with
  | 1 => s.queueEnable
  | 2 => s.queueDisable
  | 3 => s.queueResumeCmd
  | 4 => s.resetPointersCmd
  | 5 => s.skipHeadCmd
  | _ => s

/-- The end of DRAINING (R38, R75): no started descriptor is left, and the ABORTED entry is written. A detached completion that came
meanwhile is discarded (R454). -/
def queueDrained (q : Nat) (s : State) : State :=
  let v := s.queue q
  if v.st = .draining ∧ (s.worksOf q).isEmpty ∧ (v.deferred.all fun e => e.detached) then
    let s := s.setQueue q { v with st := .disabled, deferred := [] }
    if s.qe.qcmdBusy = some q then s.modQe fun e => { e with qcmdBusy := none } else s
  else s

/-! ### Counters -/

/-- The counter that QE_SEL names (Table 11): whether an event counter, and its index. -/
def selCtr (s : State) : Bool × Nat := (s.regBit Reg.QE_SEL 30, s.regBits Reg.QE_SEL 29 16)

/-- Waits whose counter has stopped being usable end with COUNTER_ACCESS (R65). -/
def endLostWaits (event : Bool) (i : Nat) (s : State) : State :=
  let k := if event then WaitKind.event else WaitKind.fence
  s.qe.queues.foldl (fun s e =>
    if e.2.st = .waiting ∧ e.2.waitKind = k ∧ e.2.waitIndex = i ∧ !s.ctrUsable event i e.2.ctx then s.endWait e.1 (some St.COUNTER_ACCESS) true
    else s) s

/-- A write of QE_CTR_CFG (Table 13): configuration, and the W1C flags. A counter of a fenced bank ignores it (R455). -/
def ctrCfgOp (h : Half) (v : Word) (s : State) : State :=
  let (event, i) := s.selCtr
  if s.ctrFenced i then s
  else
    let c := s.ctr event i
    let w := mergeHalf h (c.cfgWord 0) v
    let one := halfValue h v
    (s.setCtr event i
      { c with error := c.error && !bit one 35, regress := c.regress && !bit one 34, overflow := c.overflow && !bit one 33,
               prodValid := bit w 32, producer := bits w 31 16, mode := bits w 14 13, valid := bit w 12, owner := bits w 11 0 }).endLostWaits event i

/-- A write of QE_CTR_VALUE (R70): on a fence counter a SET signal; on an event counter the clamped value, whose waiters are then
released. -/
def ctrValueOp (h : Half) (v : Word) (s : State) : State :=
  let (event, i) := s.selCtr
  if s.ctrFenced i then s
  else
    let c := s.ctr event i
    let n := (mergeHalf h (w64 c.value) v).toNat
    if !event then s.applySignal false i 0 n false none
    else
      let n := min n (if c.mode = 1 ∨ c.mode = 2 then 1 else 0xFFFF)
      (s.setCtr true i { c with value := n }).releaseWaiters true i

/-! ### Handle tables and doorbell pages -/

/-- The context that QE_SEL names (Table 11). -/
def selHtab (s : State) : Nat := s.regBits Reg.QE_SEL 43 32

/-- The engine's cached entries of a context are dropped for the descriptors that start from now on (R51). -/
def dropHandles (c : Nat) (s : State) : State :=
  (s.keepHandles c).modQe fun e => { e with handles := Map.keep (fun k _ => !decide (k / 4096 = c)) e.handles }

/-- A write of QE_CTX_HTAB (R51, Table 15): a change of BASE, or INVAL, drops the context's cached entries. -/
def htabOp (h : Half) (v : Word) (s : State) : State :=
  let c := s.selHtab
  let old := Map.getD 0 c s.qe.htab
  let new := mergeHalf h old v &&& fieldMask 63 16
  let s := s.modQe fun e => { e with htab := Map.put 0 c new e.htab }
  if new ≠ old ∨ bit (halfValue h v) 0 then s.dropHandles c else s

/-- A write of QE_DBPAGE_OWNER for the page that QE_SEL names (R60, Table 16). -/
def dbPageOp (h : Half) (v : Word) (s : State) : State :=
  let p := s.regBits Reg.QE_SEL 53 44
  let new := mergeHalf h (s.dbPage p) v &&& fieldMask 8 0
  s.modQe fun e => { e with dbPages := Map.put 0 p new e.dbPages }

/-! ### Timers -/

/-- INT_TIME has passed since the first entry not signalled (R47). -/
def intTimeOp (q : Nat) (s : State) : State :=
  let v := s.queue q
  if v.coalDue.isNone ∨ s.queueFenced q then s
  else if v.irqEn then s.queueInterrupt q
  else s.setQueue q { v with coalDue := none }

/-- A stale slot is fetched again (R73). -/
def staleRetryOp (q : Nat) (s : State) : State :=
  let v := s.queue q
  if v.staleDue.isSome ∧ v.st = .fetching ∧ !s.ctxHeld v.ctx then s.setQueue q { v with staleDue := none, reading := true } else s

end State

end Sys2Proof.Machine
end

