-- ==== Sys2Proof/Machine/Replay.lean ====
section
/-! DEFINITION. The replay recorder (R415 to R420): the ring and its records, and the forcing of recorded decisions. -/

namespace Sys2Proof.Machine

namespace State

/-- The ring's base and its length in bytes (R416). -/
def ringBase (s : State) : Nat := (s.reg Reg.RP_RING_BASE).toNat / 2 ^ 21 * 2 ^ 21
def ringBytes (s : State) : Nat := s.regBits Reg.RP_RING_SIZE 15 0 * 2 ^ 21

/-- The ring lies in the range of one usable port (R416). -/
def ringUp (s : State) : Bool :=
  let a := s.ringBase
  let n := s.ringBytes
  decide (0 < n ∧ n ≤ 2 ^ 36) &&
  (match regionOf a, regionOf (a + n - 1) with
   | .tier2 p, .tier2 p' => decide (p = p') && s.portUp p && !s.tier2Hole a && !s.tier2Hole (a + n - 1)
   | _, _ => false)

/-- The same, outside that port's pools (R416). -/
def ringUsable (s : State) : Bool :=
  let a := s.ringBase
  let n := s.ringBytes
  s.ringUp &&
  (match regionOf a with
   | .tier2 p =>
     let apart (r size : Nat) : Bool :=
       let v := s.reg r
       !bit v 31 || (let b := tier2Base p + bits v 30 0 * 65536; decide (a + n ≤ b) || decide (b + size ≤ a))
     apart (Reg.CH_T2_POOL + 8 * p) (s.regBits (Reg.CH_T2_POOL + 8 * p) 63 32 * 2129920) &&
       apart (Reg.IB_T2_POOL + 8 * p) (s.regBits (Reg.IB_T2_POOL + 8 * p) 63 32 * s.slotSize)
   | _ => false)

/-! ### Recording -/

/-- How many units of 32 B an event's record takes (R417 Table 6). -/
def recUnits (e : RpEvent) : Nat := match e.desc with | none => 1 | some (_, ext) => if ext then 9 else 3

/-- A record's bytes (R417). -/
def recordImage (e : RpEvent) (len seq : Nat) : List Byte :=
  leBytes 8 e.time ++ leBytes 8 (e.type % 256 + len % 16 * 256 + e.flags % 16 * 4096 + e.source % 65536 * 65536 + seq % 2 ^ 32 * 2 ^ 32) ++
  leBytes 8 e.q2.toNat ++ leBytes 8 e.q3.toNat ++
  (match e.desc with | none => List.replicate (32 * (len - 1)) 0 | some (d, _) => leBytes (32 * (len - 1)) d.toNat)

/-- An event of the recorder's own: GAP, PAD and START_REC. -/
def ownEvent (s : State) (type : Nat) (q2 q3 : Word) : RpEvent :=
  { time := s.now, type := type, flags := 0, source := 0, q2 := q2, q3 := q3, desc := none }

/-- Puts a record at the ring's head. -/
def putRecord (e : RpEvent) (len : Nat) (s : State) : State :=
  let s := s.touch Dom.recorder
  let bs := recordImage e len s.rp.seq
  (s.modRp fun r => { r with writes := r.writes ++ [(s.ringBase + r.head, bs)], head := r.head + 32 * len, seq := (r.seq + 1) % 2 ^ 32 }).bump
    Reg.RP_STAT_RECORDS

/-- The end of the ring: WRAP goes on at 4 KiB, STOP stops (R416). -/
def ringEnd (s : State) : State :=
  if s.regBit Reg.RP_CTRL 2 then s.modRp fun r => { r with head := 4096, wraps := (r.wraps + 1) % 2 ^ 32 }
  else s.modRp fun r => { r with recording := false, full := true, fifo := [] }

/-- Appends a record: where it would cross the ring's end a PAD fills the space before it (R416). -/
def addRecord (e : RpEvent) (s : State) : State :=
  let len := recUnits e
  let left := (s.ringBytes - s.rp.head) / 32
  let s := if len ≤ left then s else (s.putRecord (s.ownEvent 0x10 0 0) left).ringEnd
  let s := if s.rp.recording then s.putRecord e len else s
  if s.rp.recording && decide (s.ringBytes ≤ s.rp.head) then s.ringEnd else s

/-- RECORD_EVENT: the next event of the REC FIFO becomes a record, behind a GAP that counts the events dropped (R415, R418). -/
def recordEventOp (s : State) : State :=
  match s.rp.fifo with
  | [] => s
  | e :: rest =>
    if !s.rp.recording then s.modRp fun r => { r with fifo := [] }
    else
      let lost := s.rp.lost
      let s := if lost = 0 then s else (s.modRp fun r => { r with lost := 0 }).addRecord (s.ownEvent 0x0F (w64 lost) 0)
      let s := s.modRp fun r => { r with fifo := rest }
      if s.rp.recording then s.addRecord e else s

/-- Recording stops with an error (R418, Table 17 of spec/16). -/
def recordStop (i : Nat) (s : State) : State :=
  (s.modRp fun r => { r with recording := false, fifo := [], writes := [] }).raise Reg.RP i { Capture.none with cls := 11 }

/-- The ring's port is lost while recording (R418). -/
def ringLost (s : State) : Bool := s.rp.recording && !s.ringUp

/-- Sends what of the ring is not yet at its homes; a failed write stops recording (Table 17 of spec/16), and so does the loss of the
ring's port (R418). -/
def recorderPump : Nat → State → State
  | 0, s => s
  | n + 1, s =>
    let p := s.postedOf .recorder
    if s.ringLost then (s.forget .recorder).recordStop Err.RP_RING_LOST
    else if p.2.isSome then
      (let s := s.forget .recorder
       if s.rp.recording then s.recordStop Err.RP_RING_WRITE else s.modRp fun r => { r with writes := [] })
    else match s.rp.writes with
      | [] => s
      | (a, bs) :: rest =>
        match (deviceWrite .recorder a bs false 0).exec s with
        | (.error .wait, s) => s
        | (.error (.fail st), s) => recorderPump n (s.postedDone .recorder (some st))
        | (.ok (), s) => recorderPump n (s.modRp fun r => { r with writes := rest })

/-- Recording starts: the header, then START_REC (R416). -/
def recordStart (s : State) : State :=
  if !s.ringUsable ∨ s.isFenced Dom.recorder then s
  else
    let header := leBytes 4 0x31505852 ++ leBytes 8 (s.regBits Reg.RP_RING_SIZE 15 0) ++ leBytes 4 Config.buildParams ++ List.replicate 4080 0
    let s := s.modRp fun r => { r with recording := true, replaying := false, full := false, wraps := 0, head := 4096, seq := 0, fifo := [], lost := 0,
                                       writes := [(s.ringBase, header)], since := none, forced := [], seen := [], expect := [] }
    recorderPump 4 (s.addRecord (s.ownEvent 0x11 (s.reg Reg.RP_CTRL) (w64 s.now)))

/-! ### Replay -/

/-- A difference that does not stop the replay; the first is held in RP_DIVERGE (R420). -/
def mismatch (type seq : Nat) (s : State) : State :=
  let s := if s.rp.differed then s else (s.setReg Reg.RP_DIVERGE (fld seq 32 ||| w64 type)).modRp fun r => { r with differed := true }
  s.bump Reg.RP_STAT_MISMATCH

/-- The event that a record of a COMPLETE, SEED or FAULT is compared with. -/
def sameEvent (a b : RpEvent) : Bool :=
  decide (a.type = b.type ∧ a.source = b.source) &&
    (match a.type with
     | 0x04 => decide (bits a.q2 15 0 = bits b.q2 15 0)
     | 0x0B => decide (a.flags = b.flags) && decide (bits a.q3 63 32 = bits b.q3 63 32)
     | _ => decide (bits a.q2 5 0 = bits b.q2 5 0))

/-- They differ in what R420 compares: STATUS or RESULT, or TOKEN. -/
def differs (a b : RpEvent) : Bool :=
  match a.type with
  | 0x04 => !decide (bits a.q2 23 16 = bits b.q2 23 16 ∧ a.q3 = b.q3)
  | 0x0B => !decide (bits a.q3 31 0 = bits b.q3 31 0)
  | _ => false

/-- Compares the records read with what has happened (R420). -/
def compareSeen : List (RpEvent × Nat) → State → State
  | [], s => s
  | x :: xs, s =>
    match s.rp.seen.find? (sameEvent x.1) with
    | some y =>
      let s := s.modRp fun r => { r with seen := r.seen.erase y, expect := r.expect.erase x }
      compareSeen xs (if differs x.1 y then s.mismatch x.1.type x.2 else s)
    | none => compareSeen xs s

/-- Replay stops, with END and, for a record that stopped it, RP_DIVERGE (R420). What never happened counts as a mismatch. -/
def replayStop (ending : Nat) (record : Option (Nat × Nat)) (s : State) : State :=
  let s := (compareSeen s.rp.expect s)
  let s := s.rp.expect.foldl (fun s x => s.mismatch x.1.type x.2) s
  let s := match record with
    | some (seq, type) => s.setReg Reg.RP_DIVERGE (fld seq 32 ||| fld 1 8 ||| w64 type)
    | none => s
  (s.forget .recorder).modRp fun r => { r with replaying := false, ending := ending, since := none, forced := [], seen := [], expect := [] }

/-- A record read from the ring: the event, its LEN and its SEQ. Poisoned bytes are no value (R387). -/
def recordAt (s : State) (off : Nat) : M (RpEvent × Nat × Nat) := do
  let h ← deviceRead .recorder (s.ringBase + off) 32
  let q1 := leNat ((h.1.drop 8).take 8)
  let len := max 1 (q1 / 256 % 16)
  let all ← if len = 1 then pure h else deviceRead .recorder (s.ringBase + off) (32 * len)
  if h.2 || all.2 then failM St.DATA_ERROR
  let d : Desc := BitVec.ofNat _ (leNat (all.1.drop 32))
  pure ({ time := leNat (h.1.take 8), type := q1 % 256, flags := q1 / 4096 % 16, source := q1 / 65536 % 65536,
          q2 := w64 (leNat ((h.1.drop 16).take 8)), q3 := w64 (leNat ((h.1.drop 24).take 8)), desc := if len = 1 then none else some (d, decide (3 < len)) },
        len, q1 / 2 ^ 32)

/-- A wait is met at its record if its value test also holds (R419). -/
def forceWait (q i : Nat) (event : Bool) (s : State) : Option State :=
  let v := s.queue q
  if v.st ≠ .waiting ∨ v.waitIndex ≠ i ∨ v.waitKind ≠ (if event then .event else .fence) then none
  else (tryWait event v.waitValue.toNat (s.ctr event i)).map fun c => (s.setCtr event i c).meetWait event i q

/-- The kind of a recorded Chamois move. -/
def moveKindOf (old new : Nat) : MoveKind :=
  match old, new with
  | 1, 2 => .plainDemote
  | 1, _ => .pack
  | 2, 1 => .promote
  | 3, _ => .unpack
  | _, _ => .relocate

/-- Forces the decision of a record (R419 Table 7); nothing where it cannot be taken yet. -/
def forceRecord (e : RpEvent) (s : State) : Option State :=
  let q := e.source
  let add (f : Forced) : Option State := some (s.modRp fun r => { r with forced := r.forced ++ [f] })
  match e.type with
  | 0x01 =>
    let kind := bits e.q2 17 16
    if (kind = 0 ∨ kind = 2) ∧ bits e.q2 19 18 ≠ 3 then some (s.ringTail q (bits e.q2 15 0)) else some s
  | 0x02 =>
    match e.desc with
    | none => some s
    | some (d, ext) =>
      let v := s.queue q
      let k : Who := { w := .recorder, ctx := v.ctx, fn := v.fn, q := q, flow := q % 64 }
      let slot := bits e.q2 15 0
      let put : M Unit := (List.range (if ext then 4 else 1)).forM fun i =>
        engWrite k (v.sqBase + w64 (64 * ((slot + i) % v.slots))) (descBytes d (64 * i) 64)
      match put.exec s with
      | (.ok (), s) => some s
      | (_, _) => none
  | 0x03 => add (.start q)
  | 0x06 => s.forceWait q (bits e.q2 13 0) (bit e.q2 14)
  | 0x07 => if (s.queue q).st = .waiting then some (s.parkQueue (bits e.q2 7 0) q) else none
  | 0x08 => add (.entered q (bits e.q3 31 0) (bits e.q3 63 32))
  | 0x09 => add (.step q (bits e.q3 31 0))
  | 0x0A =>
    let st := bits e.q2 7 0
    if st ≠ St.DEADLINE_EXCEEDED ∧ st ≠ St.CANCELLED then some s
    else if (s.bReq? q).isSome then some (s.endRequest q st) else none
  | 0x0B => add (.seed q (decide (e.flags % 2 = 1)) e.q2 (bits e.q3 31 0) (bits e.q3 63 32))
  | 0x0C =>
    let page := bits e.q2 20 0
    let old := bits e.q2 22 21
    let new := bits e.q2 24 23
    let pool := if new = 1 then 0 else 1 + bits e.q2 27 25
    -- a page that does not stand where it stood cannot be moved so
    if (s.pageMove? page).isNone ∧ pLoc (s.mapEntry page) ≠ old then none
    else
      let s := s.modRp fun r => { r with forced := r.forced ++ [.move page pool (bits e.q3 23 0)] }
      some (if (s.pageMove? page).isSome then s else s.queueMove 3 (moveKindOf old new) page none)
  | 0x0D =>
    let p := bits e.q2 31 0
    match bits e.q2 34 32 with
    | 0 => some (if s.indexOnly p then s.unindex p else s)
    | 2 => s.forceDemote p (bits e.q3 31 0)
    | 4 => some (s.fetchPage p)
    | _ => some s
  | _ => some s

/-- A forced start, or a forced step, has not been taken yet: the records behind it wait. -/
def forcedOut (s : State) : Bool := s.rp.forced.any fun f => match f with | .start _ | .step _ _ => true | _ => false

/-- REPLAY_RECORD: the next record of the ring is read and its decision forced (R419, R420). -/
def replayRecordOp (s : State) : State :=
  let stuck (s : State) : State := s.modRp fun r => { r with since := some (r.since.getD s.now) }
  if !s.rp.replaying then s
  else if s.forcedOut then stuck s
  else match (s.recordAt s.rp.cursor).exec s with
    | (.error .wait, s) => s
    | (.error (.fail _), s) => s.replayStop 3 none
    | (.ok (e, len, seq), s) =>
      let s := s.forget .recorder
      let off := s.rp.cursor
      let next := if s.ringBytes ≤ off + 32 * len then 4096 else off + 32 * len
      if e.type = 0x0F then s.replayStop 2 (some (seq, 0x0F))
      else match s.forceRecord e with
        | none => stuck s
        | some s =>
          let s := s.modRp fun r => { r with cursor := next, since := none, last := (seq, e.type),
                                             expect := if e.type = 0x04 ∨ e.type = 0x0B ∨ e.type = 0x0E then r.expect ++ [(e, seq)] else r.expect }
          let s := compareSeen s.rp.expect s
          if off = (s.reg Reg.RP_REPLAY_END).toNat then s.replayStop 1 none else s

/-- DIVERGE_TIMEOUT (R420). -/
def divergeOp (s : State) : State :=
  if !s.rp.replaying ∨ s.rp.since.isNone then s
  else if s.forcedOut then s.replayStop 3 (some s.rp.last)
  else match (s.recordAt s.rp.cursor).exec s with
    | (.ok (e, _, seq), s) => s.replayStop 3 (some (seq, e.type))
    | (_, s) => s.replayStop 3 none

/-- A write of RP_CTRL (R415, R419, R420 Table 12 of spec/16). -/
def rpCtrl (h : Half) (v : Word) (s : State) : State :=
  let mode (s : State) : Nat := s.regBits Reg.RP_CTRL 1 0 % 3
  let old := mode s
  let s := s.storeReg Reg.RP_CTRL h v
  let new := mode s
  if old = new then s
  else
    let s := if s.rp.replaying then s.replayStop 4 none else s.modRp fun r => { r with recording := false, fifo := [] }
    match new with
    | 1 => s.recordStart
    | 2 => if s.isFenced Dom.recorder then s else
        s.modRp fun r =>
          { r with replaying := true, ending := 0, differed := false, cursor := (s.reg Reg.RP_REPLAY_START).toNat,
                   since := none, forced := [], seen := [], expect := [] }
    | _ => s

end State

end Sys2Proof.Machine
end

