-- ==== Sys2Proof/Machine/RegView.lean ====
section
/-! DEFINITION. What a read of a register returns (R10, R444): the stored value, or the view of the block's state that a status field gives.
The RC fields of PM_DOM_STATd clear only in the DOM_STAT_READ command. -/

namespace Sys2Proof.Machine

/-- A mask of the indexes below `n` that satisfy `p`, placed at bit `lo`. -/
def maskOf (n lo : Nat) (p : Nat → Bool) : Word := fld (sumOf (fun i => if p i then 2 ^ i else 0) (List.range n)) lo

def DnSt.code : DnSt → Nat
  | .empty => 0
  | .off => 1
  | .starting => 2
  | .up => 3
  | .evacuating => 4
  | .failed => 5
  | .lost => 6

def AttachSt.code : AttachSt → Nat
  | .fresh => 0
  | .attached => 1
  | .parked => 2

namespace State

/-- The domain is below ACTIVE. -/
def asleep (s : State) (d : Nat) : Bool := decide ((s.dom d).st ≠ .active)

/-- Requests in a state (R116). -/
def requestsIn (s : State) (st : Nat) : Nat := countOf (fun r => decide (s.rState r = st)) s.openReqs

/-- Registers of window QE_ (Tables 10 to 16 of spec/02, R455). -/
def viewQe (s : State) (o : Nat) : Option Word :=
  let (event, i) := s.selCtr
  match o with
  | 0x110 => some (fld (b2n s.qe.qcmdBusy.isSome) 63 ||| fld (b2n s.qe.qcmdRefused) 62)
  | 0x118 => some (if s.ctrFenced i then fld 1 35 else (s.ctr event i).cfgWord (s.waiterCount event i))
  | 0x120 => some (if s.ctrFenced i then 0 else w64 (s.ctr event i).value)
  | 0x128 => some (Map.getD 0 s.selHtab s.qe.htab)
  | 0x130 => some (s.dbPage (s.regBits Reg.QE_SEL 53 44))
  | _ => if 0x140 ≤ o ∧ o < 0x180 then some (if s.queueFenced s.selQueue then 0 else (s.queue s.selQueue).qword ((o - 0x140) / 8)) else none

/-- Registers of windows GZ_, IB_, SB_ and BT_. -/
def viewEngines (s : State) (b o : Nat) : Option Word :=
  match b, o with
  | 1, 0x108 => some (maskOf 8 16 (fun u => s.isFenced (Dom.gazelle u)) ||| maskOf 8 8 (fun u => s.asleep (Dom.gazelle u)) |||
      maskOf 8 0 s.gzBusy)
  | 2, 0x110 => some (fld (countOf (fun r => decide (s.rState r ≠ FREE)) s.openReqs) 32 ||| fld (s.requestsIn RUNNING) 16 |||
      maskOf 8 2 s.ibPortUp ||| fld (b2n s.ib.cfgError) 1 ||| w64 (b2n s.ib.active))
  | 2, 0x118 => some (if s.ib.active then fld s.available 32 ||| w64 s.freeT1 else 0)
  | 3, 0x108 => some (maskOf 4 8 (fun u => s.isFenced (Dom.springbok u)) ||| maskOf 4 4 (fun u => s.asleep (Dom.springbok u)) |||
      maskOf 4 0 (fun u => (s.sbUnit u).first.isSome || (s.sbUnit u).second.isSome))
  | 4, 0x108 => some (fld (s.requestsIn WAITING) 47 ||| fld (s.requestsIn HELD) 30 |||
      fld ((s.bt.step.map fun t => t.ents.length).getD 0) 17 ||| fld (b2n s.bt.step.isSome) 1 ||| w64 (b2n s.bt.serving))
  | _, _ => none

/-- Registers of windows CH_, SF_ and DC_. -/
def viewMemory (s : State) (b o : Nat) : Option Word :=
  match b, o with
  | 5, 0x128 => some (setBit (s.reg Reg.CH_PRI_CTRL) 1 s.ch.stopped)
  | 5, 0x130 => some (fld (s.freeFrames 0) 32 ||| fld s.ch.pri.length 16 ||| maskOf 8 8 (fun p => s.poolUsable (p + 1)) |||
      fld (b2n s.ch.quiet) 2 ||| w64 (b2n s.ch.active))
  | 5, 0x140 => some (fld (b2n s.ch.cmdBusy) 63 ||| fld (b2n s.ch.cmdRefused) 62)
  | 6, 0x108 =>
    let v := s.reg Reg.SF_PRED
    some (setBits v 1 0 (Map.getD 1 (bits v 19 16 * 4096 + bits v 15 4) s.sf.pred))
  | 7, 0x108 => some ((s.reg Reg.DC_CMD) ||| fld (b2n (decide (s.dc.cmd ≠ 0))) 63 ||| fld (b2n s.dc.refused) 62)
  | 7, 0x120 => some (fld s.dc.denied 32 ||| w64 s.dc.done)
  | 7, 0x128 => some (maskOf 16 0 (fun w => decide (w ∈ s.dc.tcOff)))
  | 5, _ =>
    let seg := s.segOf (s.regBits Reg.CH_SEL 27 16) (s.regBits Reg.CH_SEL 3 0)
    let reg := Map.getD { q0 := 0, q1 := 0, q2 := 0 } (s.regBits Reg.CH_SEL 41 32) s.ch.regions
    (match o with
     | 0x148 => some seg.q0
     | 0x150 => some seg.q1
     | 0x158 => some seg.q2
     | 0x160 => some reg.q0
     | 0x168 => some reg.q1
     | 0x170 => some reg.q2
     | _ => none)
  | 6, _ =>
    if 0x180 ≤ o ∧ o < 0x200 then
      let n := (o - 0x180) / 8
      some (fld (countOf (fun e => decide (e.1 / 16 / 32768 = n)) s.sf.entries) 44 |||
        fld (countOf (fun t : Txn => decide (t.slice = n ∧ t.tag < 256)) s.sf.txns) 27 ||| fld (countOf (fun c : Credit => decide (c.slice = n)) s.sf.credits) 21 |||
        fld ((s.sfWaysOff n).length - countOf (fun w : Nat × Nat => decide (w.1 = n)) s.sf.wayFlush) 16 |||
        fld (b2n (s.isFenced (Dom.sf n))) 1 ||| w64 (b2n (s.asleep (Dom.sf n))))
    else none
  | 7, _ =>
    if 0x180 ≤ o ∧ o < 0x200 then some (setBit (s.reg (Reg.win Reg.DC + o)) 2 (decide (s.dcMode ((o - 0x180) / 8) = 1)))
    else if 0x200 ≤ o ∧ o < 0x280 then
      let n := (o - 0x200) / 8
      let locked := countOf (fun e => decide (e.1 / 65536 = n) && e.2.lock) s.dc.lines
      some (fld locked 44 ||| fld (s.pref n).thresh 8 ||| fld (s.pref n).st 6 ||| fld (b2n (Sys2Proof.Machine.dcFenced s n)) 1 |||
        w64 (b2n (s.asleep (Dom.dcData n) || s.asleep (Dom.dcTag n))))
    else none
  | _, _ => none

/-- Registers of windows PL_, UP_ and DN_. -/
def viewLinks (s : State) (b o : Nat) : Option Word :=
  match b, o with
  | 8, 0x110 => some ((s.reg Reg.PL_SEL) ||| fld (b2n s.pl.winBusy) 63 ||| fld (b2n s.pl.winRefused) 62)
  | 8, 0x118 =>
    let node := s.regBits Reg.PL_SEL 7 0
    some (fld (b2n (decide (node ∈ s.pl.unreach))) 63 ||| w64 (Map.getD 0 node s.pl.routes % 16))
  | 9, 0x110 => some (fld (min 0xFFFF s.up.slotPower) 48 ||| fld s.up.speed 12 ||| fld s.up.width 7 ||| fld (b2n s.up.flit) 6 |||
      fld (b2n s.up.cxl) 5 ||| fld (b2n s.up.linkUp) 4)
  | 9, 0x118 => some ((s.reg Reg.UP_BAR2_MAP) ||| fld (b2n s.up.bar2Busy) 63 ||| fld (b2n s.up.bar2Refused) 62)
  | 9, 0x148 => some (fld (b2n s.up.attRefused) 62 ||| fld s.up.attach.code 8)
  | 9, 0x150 => some (if s.up.attach = .attached then s.up.token else 0)
  | 9, 0x158 => some ((s.reg Reg.UP_FN_CMD) ||| fld (b2n s.up.fnRefused) 62)
  | 10, 0x110 => some ((s.reg Reg.DN_XACC_CMD) ||| fld (b2n s.dn.xaccBusy) 63 ||| fld (b2n s.dn.xaccErr) 62)
  | 8, _ =>
    if 0x180 ≤ o ∧ o < 0x1A0 then
      let p := (o - 0x180) / 8
      let x := s.plPort p
      some (fld (min 0xFFFFFFFF x.replays) 32 ||| fld (if !x.linkUp then 0 else if x.x8 then 2 else 1) 6 ||| fld (b2n x.training) 5 |||
        fld (b2n (s.isFenced (Dom.plLogic p) || s.isFenced (Dom.plIf p))) 4 ||| fld (b2n (s.asleep (Dom.plLogic p) || s.asleep (Dom.plIf p))) 3)
    else none
  | 9, _ =>
    if 0x180 ≤ o ∧ o < 0x1A0 then
      let k := (o - 0x180) / 8
      some (maskOf 64 0 fun i => s.bt.reqs.any fun r => r.2.parked && decide (r.2.fn = 64 * k + i))
    else none
  | 10, _ =>
    if 0x180 ≤ o ∧ o < 0x1C0 then
      let d := s.dnPort ((o - 0x180) / 8)
      some ((s.reg (Reg.win Reg.DN + o)) ||| fld (b2n d.busy) 63 ||| fld (b2n d.refused) 62)
    else if 0x1C0 ≤ o ∧ o < 0x200 then
      let p := (o - 0x1C0) / 8
      let d := s.dnPort p
      some (fld (d.capacity / 2 ^ 28) 44 ||| fld d.reason 40 ||| fld d.speed 20 ||| fld d.width 16 ||| fld (b2n d.powerGood) 8 |||
        fld (b2n d.powered) 7 ||| fld (b2n d.present) 6 ||| fld (b2n (s.isFenced (Dom.dnCtl p) || s.isFenced (Dom.dnPhy p))) 5 |||
        fld (b2n (s.asleep (Dom.dnCtl p) || s.asleep (Dom.dnPhy p))) 4 ||| w64 d.st.code)
    else if 0x280 ≤ o ∧ o < 0x2C8 then
      let i := (o - 0x280) / 8
      let e := s.eqLink i
      some (fld (min 0xFFFFFFFF e.redos) 32 ||| fld e.margin 16 ||| fld e.lane 12 |||
        fld (b2n (decide (i < 8) && (s.dnPort i).eqPending)) 1 ||| w64 (b2n e.failedLast))
    else none
  | _, _ => none

/-- Registers of the remaining windows. -/
def viewChip (s : State) (b o : Nat) : Option Word :=
  match b, o with
  | 11, 0x100 => some s.cfgStatus
  | 11, 0x128 => some ((s.reg Reg.CFG_FLASH_CMD) ||| fld (b2n s.boot.cmd.isSome) 63 ||| fld (b2n s.boot.refused) 62 ||| fld (b2n s.boot.failed) 61)
  | 12, 0x100 => some buildWord
  | 12, 0x108 => some (fld (b2n s.ident.chainOk) 7 ||| fld (b2n s.ident.entropyOk) 6 ||| w64 s.ident.keyState)
  | 12, 0x110 => some (fld (b2n s.ident.refused) 62)
  | 12, 0x120 => some (if s.ident.keyState = 2 then w64 (leNat ((s.ident.helper.drop (8 * s.regBits Reg.ID_HELPER_SEL 7 0)).take 8)) else 0)
  | 13, 0x108 => some (setBits (setBits (setBit (s.reg Reg.CK_LEVEL) 63 (s.ck.xMove.isSome || s.ck.mMove.isSome)) 13 12 s.ck.mLevel) 11 10 s.ck.xLevel)
  | 13, 0x118 => some ((List.range 4).foldl (fun w l => w ||| fld (s.railTrim 0 l) (8 * l)) 0)
  | 13, 0x120 => some ((List.range 3).foldl (fun w l => w ||| fld (s.railTrim 1 l) (8 * l)) 0)
  | 13, 0x128 => some (w64 (s.railTrim 2 0))
  | 14, 0x110 => some (setBit (s.reg Reg.PM_FENCE_CMD) 63 (!s.sf.flushing.isEmpty ||
      s.dc.lines.any fun e => s.isFenced (Dom.dcData (e.1 / 65536)) || s.isFenced (Dom.dcTag (e.1 / 65536))))
  | 14, _ => if 0x2000 ≤ o ∧ o < 0x2300 then some (s.domStat ((o - 0x2000) / 8)) else none
  | 15, 0x110 => some (s.ctxWord (s.regBits Reg.RB_SEL 11 0))
  | 15, 0x118 => some ((s.reg Reg.RB_CMD) ||| fld (b2n s.rb.busy) 63 ||| fld (b2n s.rb.refused) 62 ||| fld s.rb.reason 56)
  | 16, 0x118 => some (w64 s.rp.head)
  | 16, 0x130 => some (fld s.rp.wraps 32 ||| fld s.rp.ending 3 ||| fld (b2n s.rp.full) 2 ||| fld (b2n s.rp.replaying) 1 ||| w64 (b2n s.rp.recording))
  | 12, _ =>
    if 0x140 ≤ o ∧ o < 0x1A0 then
      some (if s.ident.keyState = 1 ∨ s.ident.keyState = 2 then w64 (leNat ((s.ident.pub.drop (o - 0x140)).take 8)) else 0)
    else none
  | 17, _ =>
    if 0x180 ≤ o ∧ o < 0x200 then
      let n := (o - 0x180) / 8
      let f := s.isFenced (Dom.sf n)
      some (fld (countOf (fun e : NtEntry => decide (e.port = n)) s.fp.nt) 58 ||| fld (countOf (fun r : Rsv => decide (r.port = n)) s.fp.rsv) 51 |||
        fld (Map.getD 0 n s.fp.snpCrd) 45 ||| fld (b2n f) 9 ||| fld (if f then Sys2Proof.Machine.agentPort s n else 0) 5 ||| fld (b2n f) 1 |||
        w64 (b2n (s.asleep (Dom.sf n))))
    else none
  | _, _ => none

/-- A function's MSI-X table, from its start (R308, R445). -/
def viewMsix (s : State) (fn o : Nat) : Word :=
  let x := Map.getD MsixVec.reset (2048 * fn + o / 16) s.up.msix
  if o % 16 < 8 then x.addr else fld (b2n x.masked) 32 ||| x.data.setWidth 64

/-- A function's PBA, from its start. -/
def viewPba (s : State) (fn o : Nat) : Word := maskOf 64 0 fun i => (Map.getD MsixVec.reset (2048 * fn + o * 8 + i) s.up.msix).pending

/-- The UP_ window above its registers: the PF's MSI-X table and PBA, the CXL component and device registers (R299, R302). -/
def viewUpper (s : State) (o : Nat) : Option Word :=
  if o < 0x48000 then some (s.viewMsix 0 (o - 0x40000))
  else if 0x60000 ≤ o ∧ o < 0x60100 then some (s.viewPba 0 (o - 0x60000))
  else if 0x80000 ≤ o then some (s.compView o)
  else none

/-- A VF's BAR0: its MSI-X table and PBA only (R301, R302). -/
def vfBar0 (s : State) (fn o : Nat) : Word :=
  if o < 0x400 then s.viewMsix fn o else if 0x2000 ≤ o ∧ o < 0x2008 then s.viewPba fn (o - 0x2000) else 0

/-- A read of the register at BAR0 offset `off`; an offset that names no register reads 0. -/
def readReg (s : State) (off : Nat) : Word :=
  let b := off / 0x100000
  let o := off % 0x100000
  let v :=
    if b = 0 then s.viewQe o
    else if b < 5 then s.viewEngines b o
    else if b < 8 then s.viewMemory b o
    else if b = 9 ∧ 0x40000 ≤ o then s.viewUpper o
    else if b < 11 then s.viewLinks b o
    else s.viewChip b o
  v.getD (if (regInfo? off).isSome then s.reg off else 0)

/-- The power domain of the unit that holds a register (R25, R383, log entry 29): none for a register of the always-on domain, or of several
units together. The one counter that SF_PRED selects lies in its slice. -/
def unitDomain (s : State) (off : Nat) : Option Nat :=
  let b := off / 0x100000
  let o := off % 0x100000
  let bankOf (q : Nat) : Option Nat := if s.isFenced (Dom.bank q) then none else some (Dom.bank q)
  match b with
  | 0 => if o = 0x110 ∨ (0x140 ≤ o ∧ o < 0x180) then bankOf (s.selQueue / 16384)
      else if o = 0x118 ∨ o = 0x120 then bankOf (s.selCtr.2 / 4096) else none
  | 2 | 4 => some Dom.ibex
  | 5 => some Dom.chamois
  | 7 => if 0x180 ≤ o ∧ o < 0x200 then some (Dom.dcTag ((o - 0x180) / 8)) else none
  | 10 => if 0x180 ≤ o ∧ o < 0x1C0 then some (Dom.dnCtl ((o - 0x180) / 8))
      else if 0x200 ≤ o ∧ o < 0x240 then some (Dom.dnCtl ((o - 0x200) / 8)) else none
  | 16 => some Dom.recorder
  | _ => none

/-- The domains whose crossings a register access of the host passes (R25): BAR0 is decoded in the upstream controller's, and the access goes
on to the register's unit. -/
def regDomain (s : State) (off : Nat) : List Nat := Dom.upCtl :: (s.unitDomain off).toList

/-- What a read of a register answers: a value, an unsupported request, or that it waits in a crossing. -/
inductive RegAnswer where
  | value (w : Word)
  | unsupported
  | waits
deriving DecidableEq, Repr

/-- The RC bits of a register that a read has returned clear (R10). -/
def readClears (off : Nat) (h : Half) (s : State) : State :=
  match regInfo? off with
  | none => s
  | some r =>
    let m := r.rc &&& halfMask h
    if m = 0 then s
    else
      let d := (off - Reg.PM_DOM_STAT) / 8
      s.updDom d fun x => { x with refused := if bits m 63 48 = 0 then x.refused else 0, aborted := if bits m 47 32 = 0 then x.aborted else 0 }

/-- A BAR0 read of the PF (R10, R13, R25, R259, R302, R310): behind the host's earlier writes and once the register's domains are awake, the
64-bit register or the half that it names, whose RC bits then clear; or an unsupported request. While it waits it stands in the crossing as
the command `c`. No row of the table carries such a read but that of PM_DOM_STATd (log entry 84). -/
def registerRead (c : Instr) (off size : Nat) (s : State) : RegAnswer × State :=
  match s.bar0Target off size with
  | none => (.unsupported, s.unsupported false)
  | some (a, h) =>
    if s.hostAhead then (.waits, s.park ioWait c)
    else if s.clocksStopped then (.waits, s.park relockWait c)
    else
      match (s.regDomain a).find? fun d => !s.domReady d with
      | some d => if s.isFenced d && decide (d ∈ s.released) then (.unsupported, s.unsupported false) else (.waits, s.park d c)
      | none =>
        let v := s.readReg a
        (.value (match h with | .full => v | .low => w64 (bits v 31 0) | .high => w64 (bits v 63 32)), s.readClears a h)

end State

end Sys2Proof.Machine
end

