-- ==== Sys2Proof/Machine/RegWrite.lean ====
section
/-! DEFINITION. What a write of a register does (R10 to R13, R444): each register's stored fields and its action. -/

namespace Sys2Proof.Machine

namespace State

/-- A write of IB_CTRL (R134): ENABLE with a configuration out of range has no effect and sets CFG_ERROR. -/
def ibCtrl (h : Half) (v : Word) (s : State) : State :=
  let old := s.regBit Reg.IB_CTRL 0
  let s := s.storeReg Reg.IB_CTRL h v
  let new := s.regBit Reg.IB_CTRL 0
  if old = new then s
  else if !new then s.modIb fun i => { i with active := false, starting := false }
  else if s.ibConfigOk then ((s.recallLines s.ibTables).modIb fun i => { i with starting := true, cfgError := false }).ibStart
  else (s.setRegBits Reg.IB_CTRL 0 0 0).modIb fun i => { i with cfgError := true }

/-- A write of CH_CTRL: ENABLE puts placed memory in service (R184) with every tier-1 frame to be zeroed before it is allocated (R185). -/
def chCtrl (h : Half) (v : Word) (s : State) : State :=
  let old := s.regBit Reg.CH_CTRL 0
  let s := s.storeReg Reg.CH_CTRL h v
  let new := s.regBit Reg.CH_CTRL 0
  if old = new then s
  else if !new then s.modCh fun c => { c with active := false, starting := false }
  else ((s.recallLines [s.mapRange]).modCh fun c => { c with starting := true, used := Map.erase 0 c.used, dirty := Map.put [] 0 (List.range (s.framesOf 0)) c.dirty }).chStart

/-- A write of CH_CMD (Table 16 of spec/06). -/
def chCmd (h : Half) (v : Word) (s : State) : State :=
  match bits (halfValue h v) 1 0 with
  | 1 => s.segCommit
  | 2 => s.regionCommit
  | _ => s

/-- PRED_RESET (R226, Table 8 of spec/07): every counter of every slice becomes 1. -/
def predResetOp (s : State) : State := s.modSf fun f => { f with pred := [] }

def sfCtrl (h : Half) (v : Word) (s : State) : State :=
  let s := s.storeReg Reg.SF_CTRL h v
  if bit (halfValue h v) 2 then s.predResetOp else s

/-- A write of SF_PRED (Table 10 of spec/07): the selectors, and the counter they select. -/
def sfPredOp (h : Half) (v : Word) (s : State) : State :=
  let s := s.storeReg Reg.SF_PRED h v
  let w := s.reg Reg.SF_PRED
  match h with
  | .high => s
  | _ => s.setPred (bits w 19 16) (bits w 15 4) (bits w 1 0)

/-- A write of DC_CMD (R236). -/
def dcCmdWrite (h : Half) (v : Word) (s : State) : State :=
  let s := s.storeReg Reg.DC_CMD h v
  s.dcCommand (bits (halfValue h v) 3 0) (s.reg Reg.DC_CMD)

def plCtrl (h : Half) (v : Word) (s : State) : State :=
  let old := s.reg Reg.PL_CTRL
  (s.storeReg Reg.PL_CTRL h v).plCtrlChanged old

/-- A write of PL_ROUTE for the node that PL_SEL names (R275, R289). -/
def plRouteWrite (h : Half) (v : Word) (s : State) : State :=
  let node := s.regBits Reg.PL_SEL 7 0
  let ports := bits (mergeHalf h (w64 (Map.getD 0 node s.pl.routes)) v) 3 0
  let s := (s.modPl fun p => { p with routes := Map.put 0 node ports p.routes }).plReroute
  if bit (halfValue h v) 62 then s.plResync else s

/-- A write of PL_WINQ1 stages it and commits the window (R282). -/
def plWinWrite (h : Half) (v : Word) (s : State) : State := (s.storeReg Reg.PL_WINQ1 h v).winCommit

/-- A write of UP_ATTACH (R319): other values name no command. -/
def attachWrite (h : Half) (v : Word) (s : State) : State :=
  match bits (halfValue h v) 1 0 with
  | 1 => s.attachOp
  | 2 => s.attachResumeOp
  | 3 => s.parkOp
  | _ => s

/-- A write of UP_ATTACH_TOKEN stages the token for RESUME (R319). -/
def tokenStage (h : Half) (v : Word) (s : State) : State := s.modUp fun u => { u with staged := mergeHalf h u.staged v }

/-- A write of UP_FN_CMD (R317). -/
def fnCmdWrite (h : Half) (v : Word) (s : State) : State :=
  let s := s.storeReg Reg.UP_FN_CMD h v
  let fn := s.regBits Reg.UP_FN_CMD 15 8
  match bits (halfValue h v) 1 0 with
  | 1 => s.fnCmd (resumeRequests fn) fn
  | 2 => s.fnCmd (discardRequests fn) fn
  | _ => s

/-- A write of a function's MSI-X table, from its start (R308). -/
def msixWrite (fn o : Nat) (h : Half) (v : Word) (s : State) : State :=
  let i := o / 16
  let x := Map.getD MsixVec.reset (2048 * fn + i) s.up.msix
  let put (x : MsixVec) (s : State) : State := s.modUp fun u => { u with msix := Map.put MsixVec.reset (2048 * fn + i) x u.msix }
  if o % 16 < 8 then put { x with addr := mergeHalf h x.addr v &&& fieldMask 63 2 } s
  else
    let w := mergeHalf h (fld (b2n x.masked) 32 ||| x.data.setWidth 64) v
    (put { x with data := w.setWidth 32 } s).msixMask fn i (bit w 32)

/-- A write of the UP_ window above its registers: the PF's MSI-X table, the CXL component registers (R299, R302). -/
def upperWrite (o : Nat) (h : Half) (v : Word) (s : State) : State :=
  if o < 0x48000 then s.msixWrite 0 (o - 0x40000) h v else if 0x80000 ≤ o then s.compWrite o h v else s

/-- A write of UP_HDM_DEVBASEn, only while decoder n is not committed (R305). -/
def devBaseWrite (n : Bool) (h : Half) (v : Word) (s : State) : State :=
  if (s.hdm n).committed then s else s.storeReg (Reg.UP_HDM_DEVBASE0 + 8 * b2n n) h v

/-- A write of CFG_LOCK (R11). -/
def cfgLockWrite (h : Half) (v : Word) (s : State) : State := if bit (halfValue h v) 0 then s.lockConfig else s

/-- RP_RING_BASE and RP_RING_SIZE are written only while MODE is 0 (Table 13 of spec/16). -/
def ringWrite (off : Nat) (h : Half) (v : Word) (s : State) : State :=
  if s.regBits Reg.RP_CTRL 1 0 % 3 = 0 then s.storeReg off h v else s

/-- The writes of windows 0 to 7 that do more than store. -/
def writeLow (b o : Nat) (h : Half) (v : Word) (s : State) : State :=
  let off := b * 0x100000 + o
  match b, o with
  | 0, 0x110 => s.queueCmdWrite h v
  | 0, 0x118 => s.ctrCfgOp h v
  | 0, 0x120 => s.ctrValueOp h v
  | 0, 0x128 => s.htabOp h v
  | 0, 0x130 => s.dbPageOp h v
  | 2, 0x100 => s.ibCtrl h v
  | 5, 0x100 => s.chCtrl h v
  | 5, 0x128 => s.priCtrl h v
  | 5, 0x140 => s.chCmd h v
  | 6, 0x100 => s.sfCtrl h v
  | 6, 0x108 => s.sfPredOp h v
  | 7, 0x108 => s.dcCmdWrite h v
  | 0, _ => if 0x140 ≤ o ∧ o < 0x180 then s.recordWrite ((o - 0x140) / 8) h v else s.storeReg off h v
  | 2, _ => if 0x180 ≤ o ∧ o < 0x1C0 then s.poolEnable ((o - 0x180) / 8) false h v else s.storeReg off h v
  | 5, _ => if 0x180 ≤ o ∧ o < 0x1C0 then s.poolEnable ((o - 0x180) / 8) true h v else s.storeReg off h v
  | _, _ => s.storeReg off h v

/-- The same for windows 8 to 17. -/
def writeHigh (b o : Nat) (h : Half) (v : Word) (s : State) : State :=
  let off := b * 0x100000 + o
  match b, o with
  | 8, 0x100 => s.plCtrl h v
  | 8, 0x118 => s.plRouteWrite h v
  | 8, 0x128 => s.plWinWrite h v
  | 9, 0x118 => s.bar2MapOp h v
  | 9, 0x120 => s.devBaseWrite false h v
  | 9, 0x128 => s.devBaseWrite true h v
  | 9, 0x148 => s.attachWrite h v
  | 9, 0x150 => s.tokenStage h v
  | 9, 0x158 => s.fnCmdWrite h v
  | 10, 0x110 => s.xaccStart h v
  | 11, 0x118 => s.cfgLockWrite h v
  | 11, 0x128 => s.flashCmdWrite h v
  | 12, 0x110 => s.idCmdWrite h v
  | 13, 0x108 => s.levelWrite h v
  | 14, 0x110 => s.fenceCmd h v
  | 15, 0x110 => s.ctxWrite h v
  | 15, 0x118 => s.rbCommand h v
  | 16, 0x100 => s.rpCtrl h v
  | 17, 0x100 => (s.storeReg off h v).payCredits
  | 16, 0x108 | 16, 0x110 => s.ringWrite off h v
  | 9, _ =>
    if 0x40000 ≤ o then s.upperWrite o h v
    else if 0x200 ≤ o ∧ o < 0x300 then (s.storeReg off h v).updateInta
    else s.storeReg off h v
  | 14, _ => if 0x180 ≤ o ∧ o < 0x1C0 then s.wakeInWrite off h v else s.storeReg off h v
  | 10, _ => if 0x180 ≤ o ∧ o < 0x1C0 then s.dnPortCtrl ((o - 0x180) / 8) h v else s.storeReg off h v
  | _, _ => s.storeReg off h v

/-- A write of the register at BAR0 offset `off`, by the PF or the image. -/
def writeReg (off : Nat) (h : Half) (v : Word) (s : State) : State :=
  let b := off / 0x100000
  let o := off % 0x100000
  if o < 0x38 then (if o = 0x30 then s.injectWrite b h v else s.storeReg off h v)
  else if b < 8 then s.writeLow b o h v
  else s.writeHigh b o h v

/-- A register access bound for its domains (R25, R383): a BAR0 write that a released crossing turns away is discarded and logged as UR
(R397). -/
def crossReg (off : Nat) (c : Instr) (f : State → State) (s : State) : State := crossAll (s.regDomain off) c (unsupported true) f s

/-- A posted write of the host to BAR0 or BAR4 of function `fn`, as the command `c` (R259, R302, R399): it needs memory space, and waits for
the host's writes before it (log entry 30). -/
def hostPosted (fn : Nat) (c : Instr) (f : State → State) (s : State) : State :=
  if !s.mse fn || s.wholeSafe then s.unsupported true
  else if s.hostAhead then s.park ioWait c
  else f s

/-- A write of the register at BAR0 offset `off`, as the command `c` (R25, R259). -/
def barWrite (off : Nat) (c : Instr) (f : State → State) (s : State) : State := s.hostPosted 0 c (crossReg off c f)

/-- A write of SF_PRED goes on to the slice whose counter it names (R25, Table 10 of spec/07). -/
def predDomain (off : Nat) (h : Half) (v : Word) : List Nat :=
  if off = Reg.SF_PRED ∧ h ≠ .high then [Dom.sf (bits (halfValue h v) 19 16)] else []

/-- A write of a VF's BAR0 (R301, R302): of its MSI-X table, aligned as R13 says. -/
def vfBarWrite (c : Instr) (fn off size : Nat) (v : Word) (s : State) : State :=
  if !s.fnPresent fn || decide (s.vfBarSize 16384 ≤ off) || !(decide (size = 8 ∧ off % 8 = 0) || decide (size = 4 ∧ off % 4 = 0)) then s.unsupported true
  else
    let h : Half := if size = 8 then .full else if off % 8 = 0 then .low else .high
    s.hostPosted fn c (crossAll [Dom.upCtl] c (unsupported true) fun s => if off < 0x400 then s.msixWrite fn (off / 8 * 8) h v else s)

/-- REGISTER_WRITE (R10, R259, R302): a write of BAR0 of the PF, or of a VF. BAR0 writes keep their order behind the CXL.io writes before them (log
entry 30). -/
def registerWriteOp (c : Instr) (fn off size : Nat) (v : Word) (s : State) : State :=
  if fn ≠ 0 then s.vfBarWrite c fn off size v
  else match s.bar0Target off size with
  | none => s.unsupported true
  | some (a, h) =>
    s.barWrite a c (crossAll (predDomain a h v) c (unsupported true) (writeReg a h v))

end State

end Sys2Proof.Machine
end

