-- ==== Sys2Proof/Machine/Boot.lean ====
section
/-! DEFINITION. Power-up (R340, R341): the steps of Table 1, the application of the image or of the fallback (R349, R351), and the fundamental
reset. -/

namespace Sys2Proof.Machine

namespace State

/-! ### Applying the image (R349) -/

/-- The register reports that it refused the last write (R349): a REFUSED, CFG_ERROR or ERROR field. -/
def writeRefused (s : State) (off : Nat) : Bool :=
  let o := off % 0x100000
  match off / 0x100000 with
  | 0 => s.qe.qcmdRefused && decide (o = 0x110 ∨ (0x140 ≤ o ∧ o < 0x180))
  | 2 => s.ib.cfgError && decide (o = 0x100)
  | 5 => s.ch.cmdRefused && decide (o = 0x140)
  | 7 => s.dc.refused && decide (o = 0x108)
  | 8 => s.pl.winRefused && decide (o = 0x128)
  | 9 => (s.up.bar2Refused && decide (o = 0x118)) || (s.up.attRefused && decide (o = 0x148)) || (s.up.fnRefused && decide (o = 0x158))
  | 10 => (s.dn.xaccErr && decide (o = 0x110)) || (decide (0x180 ≤ o ∧ o < 0x1C0) && (s.dnPort ((o - 0x180) / 8)).refused)
  | 14 => s.regBit Reg.PM_FENCE_CMD 62 && decide (o = 0x110)
  | 15 => s.rb.refused && decide (o = 0x110 ∨ o = 0x118)
  | _ => false

/-- A write of the offset can have no effect (R349): it names no register, or one without a writable field or a command; or it is an
ENABLE of a tier-2 pool that had none (R327). The CXL component registers take theirs as R305 says. -/
def writeVoid (s : State) (off : Nat) (v : Word) : Bool :=
  let o := off % 0x100000
  let b := off / 0x100000
  let command := decide (b = 0 ∧ (o = 0x110 ∨ (0x140 ≤ o ∧ o < 0x160))) || decide (b = 5 ∧ o = 0x140) || decide (b = 9 ∧ o = 0x148)
  let pool := decide ((b = 2 ∨ b = 5) ∧ 0x180 ≤ o ∧ o < 0x1C0)
  match regInfo? off with
  | none => !(decide (b = 9) && ((hdmReg o).isSome || compDws.any fun r => decide (r.off / 8 = o / 8 ∧ r.rw ||| r.w1c ≠ 0)))
  | some r => (decide (r.rw ||| r.rwl ||| r.w1c ||| r.w1s = 0) && !command) || (pool && bit v 31 && !bit (s.reg off) 31)

/-- What a command that no traffic delays leaves in progress is over before the next entry (R349). -/
def settleEntry (s : State) : State :=
  ((((s.modCh fun c => { c with cmdBusy := false }).modPl fun p => { p with winBusy := false }).modUp fun u => { u with bar2Busy := false }).dcEnd)

/-- One REGS entry (R349): the first that is refused or has no effect is kept in CFG_APPLY_FAIL. -/
def applyEntry (off : Nat) (v : Word) (s : State) : State :=
  let s := (s.writeReg off .full v).settleEntry
  if s.writeRefused off || s.writeVoid off v then
    let s := if s.regBit Reg.CFG_STATUS 8 then s else s.setReg Reg.CFG_APPLY_FAIL (w64 off)
    (s.setRegBits Reg.CFG_STATUS 8 8 1).raise Reg.CFG Err.CFG_APPLY_WARN { Capture.none with addr := w64 off, space := 5, access := 7 }
  else s

/-- One record of the selected copy, in image order (R349 step 2). -/
def applyRecord (r : ImgRec) (s : State) : State :=
  (Img.entries r.body).foldl (fun s e =>
    match r.type with
    | 0x0002 => s.applyEntry (Img.num e 0 8) (w64 (Img.num e 8 8))
    | 0x0003 =>
      let x : EqRec := { port := Img.num e 0 1, rate := Img.num e 1 1, own := Img.num e 2 1, far := Img.num e 3 1,
                         cands := (List.range (Img.num e 4 1)).map fun i => (Img.num e (8 + 2 * i) 1, Img.num e (9 + 2 * i) 1) }
      s.modBoot fun b => { b with eq := x :: b.eq }
    | 0x0004 => s.modBoot fun b => { b with cdat := b.cdat ++ [e] }
    | _ => s) s

/-- The body of the one record of a type, empty where there is none. -/
def bodyOf (rs : List ImgRec) (t : Nat) : List Byte := ((rs.find? fun r => decide (r.type = t)).map (·.body)).getD []

/-- The identity of the fallback (R351). An image without PCI_IDS leaves it in force (log entry 31). -/
def fallbackIds : PciIds :=
  { vendor := Config.vendorId.toNat, device := 0xF1A0, subVendor := 0, subsystem := 0, revision := Config.stepping.toNat, cls := 0x120000,
    vfDevice := 0, vfCount := 0 }

/-- PCI_IDS (R346 Table 3). -/
def imageIds (bs : List Byte) : PciIds :=
  { vendor := Img.num bs 0 2, device := Img.num bs 2 2, subVendor := Img.num bs 4 2, subsystem := Img.num bs 6 2, revision := Img.num bs 8 1,
    cls := Img.num bs 9 3, vfDevice := Img.num bs 12 2, vfCount := Img.num bs 14 2 }

/-- The fallback defaults (R351). -/
def applyFallback (s : State) : State :=
  let s := (s.setRegBits Reg.CFG_STATUS 6 6 1).raise Reg.CFG Err.CFG_FALLBACK { Capture.none with access := 0 }
  let s := (List.range Config.downPorts).foldl (fun s p => s.setRegBits (Reg.DN_PORT_CTRL + 8 * p) 4 4 0) s
  s.modBoot fun b => { b with ids := fallbackIds, lock := false }

/-- The selected copy (R349). -/
def applyCopy (c : Nat) (s : State) : State :=
  let h := s.flashBytes (copyBase c) 64
  let rs := (s.copyRecords c).getD []
  let flags := Img.num h 6 2
  let s := ((s.setRegBits Reg.CFG_STATUS 5 4 c).setRegBits Reg.CFG_STATUS 63 32 (Img.num h 8 4)).setRegBits Reg.CFG_STATUS 9 9 (flags / 2)
  let ids := bodyOf rs 0x0001
  let s := s.modBoot fun b => { b with lock := decide (flags % 2 = 1), ids := if ids.isEmpty then fallbackIds else imageIds ids }
  let s := rs.foldl (fun s r => s.applyRecord r) s
  s.modBoot fun b => { b with chain := bodyOf rs 0x0005, helper := bodyOf rs 0x0006 }

/-- Step 5 of power-up (R340, R348): after steps 3 and 4. -/
def imageApplyOp (s : State) : State :=
  if s.boot.por || !s.boot.arrays || !s.boot.readDone || s.boot.applied then s
  else
    let c := s.selectCopy
    let s := s.modBoot fun b => { b with applied := true, copy := c }
    if c = 0 then s.applyFallback else s.applyCopy c

/-! ### The other steps -/

/-- Step 1 (R340): the PUF array is read once into the key buffer. -/
def pufReadOp (resp : List Byte) (s : State) : State :=
  if s.boot.por || s.boot.pufDone then s else (s.modBoot fun b => { b with pufDone := true }).modIdent fun i => { i with puf := some resp }

/-- Step 2 (R340): the root PLL locks, the divided clocks start, and the rails are asked for the full guard band. -/
def pllLockOp (s : State) : State :=
  if s.boot.por || decide (s.ck.pll ≠ .off) then s else (s.modCk fun c => { c with pll := .locked }).rails

/-- Step 3 (R340): every domain is ACTIVE and every array empty. Each Fabric Port's first credit word carries INIT (R426). -/
def arrayInitOp (s : State) : State :=
  if s.boot.por || s.boot.arrays then s else (List.range 16).foldl (fun s n => s.portInit n) (s.modBoot fun b => { b with arrays := true })

/-- The upstream port starts training (R341). -/
def startUpTrain (s : State) : State :=
  if s.boot.loaded && s.up.perst && !s.up.linkUp && !s.isFenced Dom.upCtl && !s.isFenced Dom.upPhy then s.trainUp else s

/-- Step 7 (R340, R341, R350, R356, R359). -/
def configCompleteOp (s : State) : State :=
  let b := s.boot
  if b.por || b.loaded || !b.pufDone || !b.arrays || !b.applied || !b.keyDone || decide (s.ck.pll ≠ .locked) then s
  else
    let s := s.checkChain
    let s := if b.lock then s.lockConfig else s
    let s := ((s.setRegBits Reg.CFG_STATUS 0 0 1).modBoot fun b => { b with loaded := true }).emit .cfgDone
    let s := s.modIdent fun i => { i with entropyOk := !i.entropyBad }
    let s := (List.range Config.downPorts).foldl (fun s p => s.autoPower p) s
    let s := (List.range 4).foldl (fun s p => if s.laserOn p && (s.plPort p).ready.isSome then s.plStartTrain p else s) s
    s.startUpTrain

/-- perst_n is released (R341). -/
def perstReleaseOp (s : State) : State := if s.boot.por then s else (s.modUp fun u => { u with perst := true }).startUpTrain

/-! ### The fundamental reset (R340, R449) -/

/-- A PROGRAM or ERASE that a fundamental reset breaks off (R353): nothing is promised of the bytes that it covered (log entry 6). -/
def flashBroken (s : State) : State :=
  match s.boot.cmd with
  | some c => if c.cmd = 1 then s else s.flashScramble c.addr (if c.cmd = 2 then 1 else 1024)
  | none => s

/-- Everything returns to its reset value. What lies outside the block stays: the flash, host memory, the chip's and the slots' pins.
What was written in tier 1 and in the expanders is unpredictable (R267; log entry 32). -/
def resetAll (por perst : Bool) (s : State) : State :=
  let s := s.flashBroken
  let off := ((List.range Config.downPorts).filter fun p => (s.dnPort p).powered).map fun p => Msg.slotPower p false
  let lasers := ((List.range 4).filter s.laserOn).map fun p => Msg.laser p false
  let inta := if s.up.intaLevel then [Msg.inta false] else []
  let b := { Boot.reset with por := por, flash := s.boot.flash }
  let u := { Up.reset with perst := perst }
  let pl := Map.mapVals (fun _ (x : PlPort) => { PlPort.reset with fault := x.fault }) s.pl.ports
  let doms := Map.mapVals (fun _ (x : PmDom) => { PmDom.reset with dbgHold := x.dbgHold }) s.pm.doms
  { State.reset with
    pending := s.pending, freeCtr := s.freeCtr + 1, mem := Mem.scramble (Config.resetByte s.freeCtr) s.mem,
    poison := s.poison.filter (Config.resetPoison s.freeCtr), hostMem := s.hostMem, hostPoison := s.hostPoison,
    hostRefused := s.hostRefused, hostDead := s.hostDead, out := inta ++ lasers ++ off ++ s.out, boot := b, up := u,
    pl := { Pl.reset with ports := pl }, pm := { Pm.reset with doms := doms, inputs := s.pm.inputs },
    ident := { Ident.reset with draws := s.ident.draws } }

/-- FUNDAMENTAL_RESET (R340): por_n is released, or perst_n is asserted while power is held. -/
def fundamentalResetOp (por : Bool) (s : State) : State :=
  if por then (if s.boot.por then s.resetAll false s.up.perst else s)
  else if s.boot.por then s.modUp fun u => { u with perst := false }
  else s.resetAll false false

/-- por_n is asserted (R438): the block is held in reset until it is released. -/
def porAssertOp (s : State) : State := s.resetAll true s.up.perst

end State

end Sys2Proof.Machine
end

