-- ==== Sys2Proof/Machine/FabricPort.lean ====
section
/-! DEFINITION. The Fabric Ports (spec/17, spec/09): admission of messages (R424, R425, R430), the combining buffers (R254), the order of
writes (R258, R428), fences (R252), reservation checks (R263), the core peer window (R171), and the error response (R429). -/

namespace Sys2Proof.Machine

/-! The REQ opcodes (Table 4 of spec/17). -/

namespace Op
def RD_SHARED : Nat := 0
def RD_OWN : Nat := 1
def RD_CUR : Nat := 2
def RD_OWN_NODATA : Nat := 3
def EVICT_CLEAN : Nat := 4
def EVICT_DIRTY : Nat := 5
def ATOMIC : Nat := 6
def WR_UC : Nat := 7
def WR_NT : Nat := 8
def FENCE : Nat := 9
def RSV_CHECK : Nat := 10
end Op

/-- The opcodes whose data the agent sends on DAT. -/
def opSends (op : Nat) : Bool := decide (op = 5 ∨ op = 6 ∨ op = 7 ∨ op = 8)

namespace State

/-! ### Admission -/

/-- A port takes a message of agent `a` (R430, R442): it is enabled, and the agent is its own or one redirected to it. -/
def portTakes (s : State) (port a : Nat) : Bool :=
  s.portOn port && (decide (a = port) || (s.isFenced (Dom.sf a) && decide (agentPort s a = port)))

/-- A message that a port refuses is discarded and sets BAD_MSG (R424, R430). -/
def badMsg (a : Nat) (s : State) : State :=
  s.raise Reg.FP Err.FP_BAD_MSG { Capture.none with cls := 1, index := a, access := 1 }

/-- A message beyond the credits held is discarded and sets CREDIT (R427). -/
def creditErr (a : Nat) (s : State) : State :=
  s.raise Reg.FP Err.FP_CREDIT { Capture.none with cls := 1, index := a, access := 1 }

def reqCredits (s : State) (port : Nat) : Nat := Map.getD 48 port s.fp.reqCrd
def evCredits (s : State) (port : Nat) : Nat := Map.getD 16 port s.fp.evCrd
def datCredits (s : State) (port : Nat) : Nat := Map.getD 64 port s.fp.datCrd

/-- Takes or returns credits of a class; a return is sent in a CRD word (R425). -/
def takeCredit (ev : Bool) (port : Nat) (s : State) : State :=
  s.modFp fun f => if ev then { f with evCrd := Map.put 16 port (s.evCredits port - 1) f.evCrd }
    else { f with reqCrd := Map.put 48 port (s.reqCredits port - 1) f.reqCrd }

def giveCredit (ev : Bool) (port : Nat) (s : State) : State :=
  if ev then (s.modFp fun f => { f with evCrd := Map.put 16 port (s.evCredits port + 1) f.evCrd }).sendCrd port (.crd port 0 1 0 false)
  else (s.modFp fun f => { f with reqCrd := Map.put 48 port (s.reqCredits port + 1) f.reqCrd }).sendCrd port (.crd port 1 0 0 false)

def takeDat (port : Nat) (s : State) : State := s.modFp fun f => { f with datCrd := Map.put 64 port (s.datCredits port - 1) f.datCrd }
def giveDat (port : Nat) (s : State) : State :=
  (s.modFp fun f => { f with datCrd := Map.put 64 port (s.datCredits port + 1) f.datCrd }).sendCrd port (.crd port 0 0 1 false)

/-- A REQ arrives at its port (R424, R425, R430): it enters the ingress, or is discarded. -/
def arriveReq (op : Nat) (m : Req) (s : State) : State :=
  let port := m.port.val
  let a := m.agent.toNat
  let ev := decide (op = Op.EVICT_CLEAN ∨ op = Op.EVICT_DIRTY)
  if !s.portTakes port a then (if s.portOn port then s.badMsg a else s)
  else if (if ev then s.evCredits port else s.reqCredits port) = 0 then s.creditErr a
  else ((s.takeCredit ev port).bump Reg.FP_STAT_REQ).modFp fun f => { f with reqs := f.reqs ++ [{ op := op, m := m }] }

/-- A WRITE slot arrives at its port (R424, R425, R430). -/
def arriveDat (d : Dat) (s : State) : State :=
  let port := d.port.val
  let a := d.agent.toNat
  if !s.portTakes port a then (if s.portOn port then s.badMsg a else s)
  else if s.datCredits port = 0 then s.creditErr a
  else (s.takeDat port).modFp fun f => { f with dats := f.dats ++ [d] }

/-! ### The error response (R429) -/

/-- Answers an agent's request with the error response. -/
def errResponse (op port a txn : Nat) (s : State) : State :=
  if op = Op.RD_OWN_NODATA then s.emit (.rsp port a txn .goI true false 0)
  else if op = Op.RD_SHARED ∨ op = Op.RD_OWN ∨ op = Op.RD_CUR ∨ op = Op.ATOMIC then
    (s.emit (.dat port a txn 0 0 true false)).emit (.rsp port a txn .goI true false 0)
  else s.emit (.rsp port a txn .cmp true false 0)

/-- A core access to a reserved address or a hole (R168): MAP_HOLE, and the error response. -/
def holeResponse (op : Nat) (m : Req) (s : State) : State :=
  (s.raise Reg.CH Err.CH_MAP_HOLE (Capture.agent (64 * m.addr.toNat) (if op = Op.ATOMIC then 2 else if op ≤ 3 then 0 else 1) m.agent.toNat)).errResponse op
    m.port.val m.agent.toNat m.txn.toNat

/-! ### Ordering identifiers (R250, R258) -/

/-- The identifier of a request: agent, core, and the engine in Krytdun mode; in native mode 4 + the engine, which is not told
apart. -/
def reqId (s : State) (m : Req) : Nat × Nat × Nat :=
  (m.agent.toNat, m.core.toNat, m.engine.toNat + (if (s.ctxOf m.context.toNat).obs then 0 else 4))

/-- A FENCE covers a request (R252, R428): the whole core with SCOPE 1 or in native mode, else one engine. -/
def fenceCovers (s : State) (m : Req) (x : Nat × Nat × Nat) : Bool :=
  decide (x.1 = m.agent.toNat ∧ x.2.1 = m.core.toNat) &&
    (m.scope || !(s.ctxOf m.context.toNat).obs || decide (x.2.2 % 4 = m.engine.toNat))

/-! ### Combining buffers (R254) -/

/-- An entry leaves its buffer for its home. -/
def flushNt (e : NtEntry) (s : State) : State :=
  let u : UcWrite := { who := .nt e.port e.line, port := e.port, ids := e.ids, line := e.line, mask := e.mask, data := e.data, poison := e.poison,
                       aop := none, ctx := 0, credit := none, issued := false }
  (s.modFp fun f => { f with nt := f.nt.filter (fun x => !decide (x.port = e.port ∧ x.line = e.line)), ucs := f.ucs ++ [u] }).bump
    Reg.FP_STAT_NT_FLUSH

/-- The entry of a line in a port's buffer leaves, if there is one. -/
def flushNtLine (port line : Nat) (s : State) : State :=
  match s.fp.nt.find? fun e => decide (e.port = port ∧ e.line = line) with
  | some e => s.flushNt e
  | none => s

/-- A non-temporal store merges into the entry of its line, or opens one; a 33rd line displaces the oldest. A full entry leaves. -/
def mergeNt (port line : Nat) (id : Nat × Nat × Nat) (d : Dat) (s : State) : State :=
  let mine := s.fp.nt.filter fun e => decide (e.port = port)
  match mine.find? fun e => decide (e.line = line) with
  | some e =>
    let e := { e with ids := addNew id e.ids, mask := e.mask ||| d.mask, data := mergeLine d.mask d.data e.data, poison := e.poison || d.poison }
    let s := s.modFp fun f => { f with nt := updateWhere (fun x => decide (x.port = port ∧ x.line = line)) (fun _ => e) f.nt }
    if e.mask = BitVec.allOnes 64 then s.flushNt e else s
  | none =>
    let s : State := if 32 ≤ mine.length then (match mine with | o :: _ => s.flushNt o | [] => s) else s
    let e : NtEntry := { port := port, line := line, ids := [id], mask := d.mask, data := d.data, poison := d.poison, opened := s.now }
    let s := s.modFp fun f => { f with nt := f.nt ++ [e] }
    if d.mask = BitVec.allOnes 64 then s.flushNt e else s

/-! ### Regions (Table 4 of spec/17) -/

/-- Where a request's line leads: 0 device memory, 1 host window, 2 doorbell aperture, 3 core peer window, 4 reserved or a hole. -/
def lineKind (s : State) (line : Nat) : Nat :=
  match regionOf (64 * line) with
  | .host => 1
  | .doorbell => 2
  | .corePeer => 3
  | .reserved => 4
  | .placed => if s.isFenced Dom.chamois then 5 else (match s.placeOf (64 * line) with | .hole => 4 | _ => 0)
  | _ => (match s.placeOf (64 * line) with | .hole => 4 | _ => 0)

/-- The core peer window (R171): the node and device address that an access of `len` bytes at `da` reaches, and that the line is readable or
writable. -/
def corePeer (s : State) (da len : Nat) (write : Bool) : Except Bool (Nat × Nat) :=
  let ctx := s.regBits Reg.CH_CTRL 63 52
  match s.segCheck ctx (w64 (da - 0x400000000000)) len (some write) with
  | none => .error true
  | some (.peer node a) => .ok (node, a)
  | some _ => .error false

/-- A core access in the core peer window fails: a translation fault is captured as R174 says; a target other than PEER sets no flag (R171). -/
def corePeerFail (fault : Bool) (da access agent : Nat) (s : State) : State :=
  if fault then s.raise Reg.CH Err.CH_TRANSLATION { Capture.agent (da - 0x400000000000) access agent with ctx := some (s.regBits Reg.CH_CTRL 63 52) } else s

/-- The error response of an access in the core peer window (R171). -/
def corePeerErr (fault : Bool) (op : Nat) (m : Req) (s : State) : State :=
  (s.corePeerFail fault (64 * m.addr.toNat) (if op = Op.ATOMIC then 2 else if op ≤ 3 then 0 else 1) m.agent.toNat).errResponse op m.port.val m.agent.toNat m.txn.toNat

/-! ### Writes in order (R428) -/

/-- A write may go to its home (R258): each earlier one of its identifiers has been performed. -/
def ucReady : List UcWrite → UcWrite → Bool
  | [], _ => true
  | e :: rest, u => if e = u then true else !(e.ids.any fun x => u.ids.any fun y => sameId x y) && ucReady rest u

/-- The agent and TXN of a write that an agent waits for. -/
def ucAgent (u : UcWrite) : Option (Nat × Nat) := match u.who with | .uc _ a x => some (a, x) | _ => none

/-- A write ends: its agent's answer, and the error flag of the FENCEs that cover it, those to come where none waits (R401). -/
def ucDone (u : UcWrite) (failed : Bool) (s : State) : State :=
  let s := s.forget u.who
  let hit (f : FenceWait) : FenceWait := if failed && u.ids.any (s.fenceCovers f.m) then { f with failed := true } else f
  let later (x : Nat × Nat × Nat) : Bool := failed && (ucAgent u).isNone && !s.fp.fences.any fun f => s.fenceCovers f.m x
  let s := s.modFp fun f => { f with ucs := f.ucs.filter (· ≠ u), fences := f.fences.map hit,
                                     ntLost := (u.ids.filter later).foldl (fun l x => addNew x l) f.ntLost }
  match ucAgent u with
  | some (a, x) => if u.aop.isSome then s else s.emit (.rsp (agentPort s a) a x .cmp failed false 0)
  | none => s

/-- Marks a write as issued. -/
def ucIssued (u : UcWrite) (s : State) : State :=
  s.modFp fun f => { f with ucs := updateWhere (fun x => decide (x = u)) (fun x => { x with issued := true }) f.ucs }

/-- The maximal runs of a byte mask: offset and length. -/
def maskRuns (mask : BitVec 64) : List (Nat × Nat) :=
  ((List.range 64).foldl (fun (r : List (Nat × Nat)) i =>
    if !mask.toNat.testBit i then r
    else match r with
      | (o, n) :: rest => if o + n = i then (o, n + 1) :: rest else (i, 1) :: r
      | [] => [(i, 1)]) []).reverse

/-- Answers a far atomic of an agent with the old value (R224). -/
def atomicAnswer (u : UcWrite) (old : Nat) (poison err : Bool) (s : State) : State :=
  match ucAgent u with
  | some (a, x) =>
    if err then s.errResponse Op.ATOMIC (agentPort s a) a x
    else (s.emit (.dat (agentPort s a) a x 0 (BitVec.ofNat 512 old) poison false)).emit (.rsp (agentPort s a) a x .goI false false 0)
  | none => s

/-- Offers an agent's request to its home: its REQ credit returns, unless the home keeps the request in the ingress (R215, R425). -/
def offerHome (port line : Nat) (k : TxnKind) (a : Asker) (credit : Option Nat) (ctx off : Nat) (s : State) : State :=
  let n := s.sf.held.length
  let s := s.accept line k a credit ctx off
  if n < s.sf.held.length then s else s.giveCredit false port

/-- Sends a write, or a far atomic, to its home (R224, R428). -/
def issueUcNow (u : UcWrite) (s : State) : State :=
  let a := (ucAgent u).getD (31, 0)
  let flow := 64 + u.port
  match regionOf (64 * u.line) with
  | .doorbell =>
    let off := 64 * u.line - 0xF000000000
    let mk (page : BitVec 10) : DbOrigin := .port (Fin.ofNat 16 u.port) page
    (match u.aop with
     | none => ((s.apertureWrite mk off u.mask u.data).ucDone u false)
     | some (aop, size, o) =>
       -- reads of the aperture return 0 (R57)
       let r := atomicLine aop size o 0 u.data
       (((s.apertureWrite mk off (byteMask o (2 ^ size)) r.2).atomicAnswer u r.1 false false).ucDone u false))
  | .corePeer =>
    (match u.aop with
     | none =>
       let runs := maskRuns u.mask
       let r := runs.foldl (fun (r : Bool × State) x =>
         if r.1 then r else
         match r.2.corePeer (64 * u.line + x.1) x.2 true with
         | .error f => (true, r.2.corePeerFail f (64 * u.line + x.1) 1 a.1)
         | .ok (node, da) =>
           match r.2.peerWrite u.who node flow da (((lineBytes u.data).drop x.1).take x.2) u.poison with
           | (none, s) => (false, s)
           | (some _, s) => (true, s)) (false, s)
       if r.1 then (r.2.ucIssued u).postedDone u.who (some St.DEVICE_ERROR) else r.2.ucIssued u
     | some (aop, size, o) =>
       match s.corePeer (64 * u.line + o) (2 ^ size) true with
       | .error f => ((s.corePeerFail f (64 * u.line + o) 2 a.1).atomicAnswer u 0 false true).ucDone u true
       | .ok (node, da) =>
         match s.plRequest node flow { seq := 0, op := .atomic, subop := aop, addr := da, len := 2 ^ size,
                                       payload := [u.data], poison := u.poison, who := u.who, port := 0 } with
         | (true, s) => s.ucIssued u
         | (false, s) => (s.atomicAnswer u 0 false true).ucDone u true)
  | r =>
    (match u.aop with
     | some (aop, size, o) => (s.offerHome u.port u.line (.atomic false aop size o u.data u.poison) (.agent u.port a.1 a.2) u.credit u.ctx o).ucIssued u
     | none =>
       if r = .host then ((s.postWrite u.who).addHomeTxn u.line (.ncWrite u.mask u.data u.poison) (.nc u.who)).ucIssued u
       else if r = .placed ∧ s.isFenced Dom.chamois then s.ucDone u true
       else match s.ncWrite u.who u.line u.mask u.data u.poison s.defaultTier with
         | (some st, _, s) =>
           let s : State := if st = St.TRANSLATION_FAULT then s.raise Reg.CH Err.CH_MAP_HOLE (Capture.agent (64 * u.line) 1 a.1) else s
           s.ucDone u true
         | (none, true, s) => s
         | (none, false, s) => s.ucIssued u)

/-- The same, once the core peer window's segment can be looked up (R24, R171, R383). -/
def issueUc (u : UcWrite) (s : State) : State :=
  if regionOf (64 * u.line) = .corePeer then s.atChamois u.who (issueUcNow u) else s.issueUcNow u

/-- What a far atomic sent to a peer has come to. -/
def peerAtomicBack (s : State) (u : UcWrite) : Option (Except Unit (Line × Bool)) :=
  if s.pl.failures.any fun f => decide (f.1 = u.who) then some (.error ())
  else (s.sf.got.find? fun g => decide (g.who = u.who)).map fun g => .ok (g.data.getD 0, g.poison)

/-- Ends an issued write that has been performed (R428). -/
def settleUc (u : UcWrite) (s : State) : State :=
  match u.aop with
  | none =>
    let p := s.postedOf u.who
    if p.1 = 0 then s.ucDone u p.2.isSome else s
  | some _ =>
    if regionOf (64 * u.line) = .corePeer then
      match s.peerAtomicBack u with
      | none => s
      | some (.error _) => ((s.modPl fun q => { q with failures := q.failures.filter (·.1 ≠ u.who) }).atomicAnswer u 0 false true).ucDone u true
      | some (.ok (d, p)) => (s.atomicAnswer u (d.toNat % 2 ^ 64) p false).ucDone u false
    else match ucAgent u with
      | some (a, x) =>
        let mine (k : Asker) : Bool := match k with | .agent _ b y => decide (a = b ∧ x = y) | _ => false
        if (s.sf.txns.any fun t => mine t.asker) || s.sf.held.any fun h => mine h.asker then s else s.ucDone u false
      | none => s.ucDone u false

/-- One pass over the ordered writes: what has been performed ends, what may go is issued. -/
def pumpUc (s : State) : State :=
  s.fp.ucs.foldl (fun s u =>
    match s.fp.ucs.find? fun x => decide (x.who = u.who ∧ x.line = u.line ∧ x.mask = u.mask ∧ x.aop = u.aop) with
    | none => s
    | some u =>
      if u.issued then s.settleUc u
      else if !ucReady s.fp.ucs u || s.moving u.line then s
      else
        let s := s.issueUc u
        match s.fp.ucs.find? fun x => decide (x = { u with issued := true }) with
        | some u => s.settleUc u
        | none => s) s

/-! ### Requests from the ingress -/

/-- The WRITE slot of a request. -/
def datOf (s : State) (m : Req) : Option Dat := s.fp.dats.find? fun d => decide (d.agent = m.agent ∧ d.txn = m.txn)

/-- A request may leave the ingress: its data is there, its line's home stands still (R395), no write to its line waits in the port (R254,
R428). -/
def reqReady (s : State) (earlier : List PendReq) (p : PendReq) : Bool :=
  let line := p.m.addr.toNat
  !(earlier.any fun e => decide (e.m.agent = p.m.agent) && (decide (e.m.addr = p.m.addr) && decide (e.op ≠ Op.FENCE) && decide (p.op ≠ Op.FENCE))) &&
    (!opSends p.op || (s.datOf p.m).isSome) && (!s.moving line || decide (p.op = Op.FENCE ∨ p.op = Op.EVICT_CLEAN ∨ p.op = Op.EVICT_DIRTY)) &&
    (decide (p.op = Op.FENCE ∨ p.op = Op.WR_UC ∨ p.op = Op.WR_NT ∨ p.op = Op.ATOMIC) ||
      !(s.fp.ucs.any fun u => !u.issued && decide (u.port = p.m.port.val ∧ u.line = line)))

/-- Takes a request out of the ingress: the credit of its data returns (R425). -/
def takeOut (p : PendReq) (s : State) : State :=
  let s := s.modFp fun f => { f with reqs := f.reqs.erase p }
  if opSends p.op then
    match s.datOf p.m with
    | some d => (s.modFp fun f => { f with dats := f.dats.erase d }).giveDat d.port.val
    | none => s
  else s

/-- Takes a request out of the ingress, its credits returning (R425). -/
def leaveIngress (p : PendReq) (s : State) : State :=
  (s.takeOut p).giveCredit (decide (p.op = Op.EVICT_CLEAN ∨ p.op = Op.EVICT_DIRTY)) p.m.port.val

/-- Takes a read request to its home. -/
def toHome (p : PendReq) (k : TxnKind) (s : State) : State :=
  let m := p.m
  (s.takeOut p).offerHome m.port.val m.addr.toNat k (.agent m.port.val m.agent.toNat m.txn.toNat)
    (if m.crdValid then some m.bullpen.toNat else none) m.context.toNat m.offset.toNat

/-- A RD_CUR in the core peer window (R171): it stays in the ingress until the peer has answered. -/
def peerReadReq (p : PendReq) (s : State) : State :=
  let m := p.m
  let a := m.agent.toNat
  let x := m.txn.toNat
  match s.corePeer (64 * m.addr.toNat) 64 false with
  | .error f => (s.leaveIngress p).corePeerErr f p.op m
  | .ok (node, da) =>
    match s.peerRead (.uc m.port.val a x) node (64 + m.port.val) da 64 with
    | (.waits, s) => s
    | (.data bs poison, s) =>
      (((s.forget (.uc m.port.val a x)).leaveIngress p).emit (.dat (agentPort s a) a x 0 (lineOf bs) poison false)).emit (.rsp (agentPort s a) a x .goI false false 0)
    | (.fails _, s) => ((s.forget (.uc m.port.val a x)).leaveIngress p).errResponse p.op m.port.val a x

/-- Serves a request that is ready. -/
def serveReqNow (p : PendReq) (s : State) : State :=
  let m := p.m
  let port := m.port.val
  let a := m.agent.toNat
  let x := m.txn.toNat
  let line := m.addr.toNat
  let id := s.reqId m
  let kind := s.lineKind line
  let mem := decide (kind ≤ 1)
  let reject (s : State) : State :=
    if kind = 5 then (s.leaveIngress p).errResponse p.op port a x
    else if kind = 4 then (s.leaveIngress p).holeResponse p.op m
    else (s.leaveIngress p).errResponse p.op port a x
  if p.op = Op.FENCE then
    let s := s.leaveIngress p
    let s := (s.fp.nt.filter fun e => decide (e.port = port) && e.ids.any (s.fenceCovers m)).foldl (fun s e => s.flushNt e) s
    s.modFp fun f => { f with fences := f.fences ++ [{ m := m, failed := f.ntLost.any (s.fenceCovers m) }],
                              ntLost := f.ntLost.filter fun x => !s.fenceCovers m x }
  else if p.op = Op.RD_CUR ∧ kind = 2 then
    ((s.leaveIngress p).emit (.dat port a x 0 0 false false)).emit (.rsp port a x .goI false false 0)
  else if p.op = Op.RD_CUR ∧ kind = 3 then s.peerReadReq p
  else if 4 ≤ kind ∨ (!mem && p.op ≠ Op.ATOMIC && p.op ≠ Op.WR_UC) then reject s
  else if p.op = Op.WR_NT then
    match s.datOf m with
    | none => s
    | some d => ((s.leaveIngress p).mergeNt port line id d).emit (.rsp port a x .cmp false false 0)
  else
    let s := s.flushNtLine port line
    if s.fp.ucs.any fun u => !u.issued && decide (u.who = .nt port line) then s
    else if p.op = Op.RD_SHARED then s.toHome p .rdShared
    else if p.op = Op.RD_OWN then
      s.toHome p (.rdOwn (if m.rsv then some (m.core.toNat, m.thread.toNat, (s.ctxOf m.context.toNat).rsv, id.2.2) else none))
    else if p.op = Op.RD_CUR then s.toHome p .rdCur
    else if p.op = Op.RD_OWN_NODATA then s.toHome p (.rdOwnNodata m.zero)
    else if p.op = Op.EVICT_CLEAN then (s.leaveIngress p).evictNotice a x line none
    else if p.op = Op.EVICT_DIRTY then
      match s.datOf m with
      | none => s
      | some d => (s.leaveIngress p).evictNotice a x line (some (d.data, d.poison))
    else if p.op = Op.RSV_CHECK then
      let ok := s.fp.rsv.any fun r => decide (r.agent = a ∧ r.thread = m.thread.toNat ∧ r.line = line)
      let s := (s.leaveIngress p).modFp fun f => { f with rsv := f.rsv.filter fun r => !decide (r.agent = a ∧ r.thread = m.thread.toNat) }
      -- a conditional store that passes takes its place in memory order here, as a write of its observer's
      (if ok then s.breakRsv line (some id) else s.bump Reg.FP_STAT_RSV_FAIL).emit (.rsp port a x .cmp false ok 0)
    else
      match s.datOf m with
      | none => s
      | some d =>
        let size := m.size.toNat
        let off := m.offset.toNat
        let isAtomic := decide (p.op = Op.ATOMIC)
        -- SIZE, AOP and the alignment of OFFSET of an atomic (Tables 3 and 5 of spec/17)
        if isAtomic && !(decide (size = 2 ∨ size = 3) && decide (m.aop.toNat < 10) && decide (off % 2 ^ size = 0)) then
          (s.leaveIngress p).errResponse p.op port a x
        else
          let span := if isAtomic then (off, 2 ^ size) else
            match maskRuns d.mask with
            | [] => (0, 1)
            | r :: rs => (r.1, ((r :: rs).getLast (by simp)).1 + ((r :: rs).getLast (by simp)).2 - r.1)
          match (if kind = 3 then (s.corePeer (64 * line + span.1) span.2 true).map fun _ => () else .ok ()) with
          | .error f => (s.leaveIngress p).corePeerErr f p.op m
          | .ok _ =>
            let u : UcWrite := { who := .uc port a x, port := port, ids := [id], line := line, mask := d.mask, data := d.data, poison := d.poison,
                                 aop := if isAtomic then some (m.aop.toNat, size, off) else none, ctx := m.context.toNat,
                                 credit := if m.crdValid then some m.bullpen.toNat else none, issued := false }
            -- the REQ credit of an atomic for a home returns when the home has taken it
            (if isAtomic && mem then s.takeOut p else s.leaveIngress p).modFp fun f => { f with ucs := f.ucs ++ [u] }

/-- The same, once the core peer window's segment can be looked up (R24, R171, R383). -/
def serveReq (p : PendReq) (s : State) : State :=
  if p.op ≠ Op.FENCE ∧ regionOf (64 * p.m.addr.toNat) = .corePeer then
    s.atChamois (.uc p.m.port.val p.m.agent.toNat p.m.txn.toNat) (serveReqNow p)
  else s.serveReqNow p

/-- One pass over the ingress of the ports, in order of arrival. -/
def pumpReqs : List PendReq → List PendReq → State → State
  | [], _, s => s
  | p :: rest, earlier, s =>
    if s.reqReady earlier p then
      let t := s.serveReq p
      pumpReqs rest (if decide (p ∈ t.fp.reqs) then earlier ++ [p] else earlier) t
    else pumpReqs rest (earlier ++ [p]) s

/-- Ends each FENCE whose scope holds no write any more (R252). -/
def pumpFences (s : State) : State :=
  s.fp.fences.foldl (fun s f =>
    match s.fp.fences.find? fun x => decide (x.m = f.m) with
    | none => s
    | some f =>
      let busy := (s.fp.ucs.any fun u => u.ids.any (s.fenceCovers f.m)) ||
        (s.fp.nt.any fun e => decide (e.port = f.m.port.val) && e.ids.any (s.fenceCovers f.m)) ||
        (s.fp.reqs.any fun p => decide (p.op = Op.WR_UC ∨ p.op = Op.WR_NT ∨ p.op = Op.ATOMIC) && s.fenceCovers f.m (s.reqId p.m))
      if busy then s
      else
        let s := (s.modFp fun q => { q with fences := q.fences.erase f }).bump Reg.FP_STAT_FENCE
        s.emit (.rsp (agentPort s f.m.agent.toNat) f.m.agent.toNat f.m.txn.toNat .cmp f.failed false 0)) s

/-- 1 µs has passed since a combining entry was opened (R254). -/
def ntTimeout (port line : Nat) (s : State) : State := s.flushNtLine port line

/-- The agent's INIT (R426): the SNP credits of the port are discarded. -/
def crdInit (port : Nat) (s : State) : State :=
  s.modFp fun f => { f with snpCrd := Map.put 0 port 0 f.snpCrd }

/-- SNP credits return (R425), and the snoops that waited for them leave. At most 63 are held. -/
def crdReturn (port n : Nat) (s : State) : State :=
  let s := s.modFp fun f => { f with snpCrd := Map.put 0 port (min 63 (Map.getD 0 port f.snpCrd + n)) f.snpCrd }
  let isMine (m : Msg) : Bool := match m with | .snp p _ _ _ _ _ _ => decide (p = port) | .snpFlush p _ _ => decide (p = port) | _ => false
  (s.fp.snpWait.filter isMine).foldl (fun s m =>
    if 0 < Map.getD 0 port s.fp.snpCrd then
      (s.modFp fun f => { f with snpCrd := Map.put 0 port (Map.getD 0 port f.snpCrd - 1) f.snpCrd, snpWait := f.snpWait.erase m }).emit m
    else s) s

end State

end Sys2Proof.Machine
end

