-- ==== Sys2Proof/Machine/Messages.lean ====
section
/-! DEFINITION. The messages of the links and of the agents that wait while the divided clocks stand (R363): each as what it does when it
comes, and when it is taken again once the clocks run. -/

namespace Sys2Proof.Machine

namespace State

/-! ### What they share -/

/-- A message of the host wakes the upstream port (R383). -/
def fromHost (f : State → State) (s : State) : State := f ((s.touch Dom.upCtl).touch Dom.upPhy)

/-- The answer of a port to SNP_FLUSH_SLICE (R395, R431). -/
def flushAnswer (port slice : Nat) (s : State) : State :=
  s.modSf fun f => { f with flushing := f.flushing.map fun x => if x.1 = slice then (x.1, x.2.filter (· ≠ port)) else x }

/-- A memory request of the host (R302, R399): an unsupported request in the whole-block safe state. -/
def memoryRequest (posted : Bool) (f : State → State) (s : State) : State :=
  if s.wholeSafe then s.unsupported posted else f ((s.touch Dom.upCtl).touch Dom.upPhy)

/-- A packet arrives on a port, whose units are awake for it (R383); a port that takes one without a fault of its own has completed an
operation (R391). -/
def packet (m : IplPkt) (f : State → State) (s : State) : State :=
  let s := (s.touch (Dom.plLogic m.port.val)).touch (Dom.plIf m.port.val)
  (f s).opClean (Dom.plLogic m.port.val)

/-! ### The messages -/

/-- MEMRD (R210). -/
def memRdMsg (m : MemReq) (s : State) : State := s.clocked (.memRd m) (fromHost (memRdOp m))

/-- MEMINV (R210). -/
def memInvMsg (m : MemReq) (s : State) : State := s.clocked (.memInv m) (fromHost (memInvOp m))

/-- MEMWR (R210). -/
def memWrMsg (m : MemReq) (s : State) : State := s.clocked (.memWr m) (fromHost (memWrOp m))

/-- MEMCLNEVCT (R210). -/
def memClnEvctMsg (m : MemReq) (s : State) : State := s.clocked (.memClnEvct m) (fromHost (memClnEvctOp m))

/-- MEM_UNSUPPORTED (R306). -/
def memUnsupportedMsg (k : MemOther) (s : State) : State := s.clocked (.memUnsupported k) (fromHost (memUnsupportedOp k))

/-- BIRSP (R209). -/
def biRspMsg (line : BitVec 42) (s : State) : State := s.clocked (.biRsp line) (fromHost (biAnswer line.toNat))

/-- BICONFLICT (R219). -/
def biConflictMsg (line : BitVec 42) (s : State) : State := s.clocked (.biConflict line) (fromHost (biConflict line.toNat))

/-- SNPDATA (R223). -/
def snpDataMsg (line : BitVec 42) (s : State) : State := s.clocked (.snpData line) (fromHost (hostSnoop (hostLa line.toNat) .rdShared))

/-- SNPINV (R223). -/
def snpInvMsg (line : BitVec 42) (s : State) : State := s.clocked (.snpInv line) (fromHost (hostSnoop (hostLa line.toNat) (.backInv false)))

/-- SNPCUR (R223). -/
def snpCurMsg (line : BitVec 42) (s : State) : State := s.clocked (.snpCur line) (fromHost (hostSnoop (hostLa line.toNat) .rdCur))

/-- HOST_FILL_DATA (R241). -/
def hostFillDataMsg (line : BitVec 42) (grant : Grant) (data : Line) (poison : Bool) (s : State) : State :=
  s.clocked (.hostFillData line grant data poison) (fromHost (hostFill (hostLa line.toNat) grant data poison))

/-- RDOWNNODATA_GO (R222). -/
def rdOwnNoDataGoMsg (line : BitVec 42) (grant : Grant) (s : State) : State :=
  s.clocked (.rdOwnNoDataGo line grant) (fromHost (hostGo (hostLa line.toNat) grant))

/-- GO_WRITEPULL (R242). -/
def goWritePullMsg (line : BitVec 42) (s : State) : State := s.clocked (.goWritePull line) (fromHost (writePull (hostLa line.toNat)))

/-- CONFIG_REQUEST (R300). -/
def configRequestMsg (fn : BitVec 8) (reg : BitVec 10) (access : CfgAccess) (s : State) : State :=
  s.clocked (.configRequest fn reg access) (configRequestOp fn.toNat reg.toNat access)

/-- BAR2_ACCESS (R303). -/
def bar2AccessMsg (offset : BitVec 32) (len : BitVec 13) (access : HdmAccess) (s : State) : State :=
  s.clocked (.bar2Access offset len access) (memoryRequest (ioPosted access) (bar2Op offset.toNat len.toNat access))

/-- HDM_IO_REQUEST (R197). -/
def hdmIoRequestMsg (requester : BitVec 16) (pasid : Option (BitVec 20)) (hpa : BitVec 52) (len : BitVec 13) (access : HdmAccess) (s : State) : State :=
  s.clocked (.hdmIoRequest requester pasid hpa len access) (memoryRequest (ioPosted access) (hdmIoOp requester.toNat (pasid.map (·.toNat)) hpa.toNat len.toNat access))

/-- VF_ENABLE_SET (R307). -/
def vfEnableSetMsg (s : State) : State := s.clocked .vfEnableSet vfEnableOp

/-- VF_ENABLE_CLEAR (R315). -/
def vfEnableClearMsg (s : State) : State := s.clocked .vfEnableClear vfClearOp

/-- FLR (R315). -/
def flrMsg (fn : BitVec 8) (s : State) : State := s.clocked (.flr fn) (flrOp fn.toNat)

/-- BME_CLEAR (R315). -/
def bmeClearMsg (fn : BitVec 8) (s : State) : State := s.clocked (.bmeClear fn) (bmeClearOp fn.toNat)

/-- D3HOT (R315). -/
def d3hotMsg (fn : BitVec 8) (s : State) : State := s.clocked (.d3hot fn) (d3hotOp fn.toNat)

/-- ATS_TRANSLATION_COMPLETION (R176, R179). -/
def atsTranslationCompletionMsg (key : AtsKey) (answer : Option AtsAnswer) (s : State) : State :=
  s.clocked (.atsTranslationCompletion key answer) (atsAnswer key answer)

/-- PRG_RESPONSE (R181). -/
def prgResponseMsg (group : Nat) (code : PrgCode) (s : State) : State := s.clocked (.prgResponse group code) (prgAnswer group code)

/-- ATS_INVALIDATE (R178). -/
def atsInvalidateMsg (fn : BitVec 8) (pasid : Option (BitVec 20)) (base : Word) (log2 : BitVec 7) (s : State) : State :=
  s.clocked (.atsInvalidate fn pasid base log2) (invalidate fn.toNat (pasid.map (·.toNat)) base.toNat log2.toNat)

/-- PTM_DIALOGUE (R314). -/
def ptmDialogueMsg (offset : Word) (s : State) : State := s.clocked (.ptmDialogue offset) (ptmOp offset)

/-- GET_VERSION (R357). -/
def getVersionMsg (s : State) : State := s.clocked .getVersion getVersionOp

/-- GET_CAPABILITIES (R357). -/
def getCapabilitiesMsg (s : State) : State := s.clocked .getCapabilities getCapabilitiesOp

/-- NEGOTIATE_ALGORITHMS (R357). -/
def negotiateAlgorithmsMsg (s : State) : State := s.clocked .negotiateAlgorithms negotiateOp

/-- GET_DIGESTS (R357). -/
def getDigestsMsg (s : State) : State := s.clocked .getDigests getDigestsOp

/-- GET_CERTIFICATE (R357). -/
def getCertificateMsg (slot : BitVec 4) (offset length : BitVec 16) (s : State) : State :=
  s.clocked (.getCertificate slot offset length) (getCertificateOp slot.toNat offset.toNat length.toNat)

/-- CHALLENGE (R357). -/
def challengeMsg (slot : BitVec 4) (nonce : List Byte) (s : State) : State := s.clocked (.challenge slot nonce) (challengeOp slot.toNat nonce)

/-- GET_MEASUREMENTS (R357). -/
def getMeasurementsMsg (index : BitVec 8) (signed : Bool) (nonce : List Byte) (s : State) : State :=
  s.clocked (.getMeasurements index signed nonce) (getMeasurementsOp index.toNat signed nonce)

/-- KEY_EXCHANGE (R357). -/
def keyExchangeMsg (slot : BitVec 4) (random exchange : List Byte) (s : State) : State :=
  s.clocked (.keyExchange slot random exchange) (keyExchangeOp slot.toNat random exchange)

/-- FINISH (R357). -/
def spdmFinishMsg (session : BitVec 32) (verify : List Byte) (s : State) : State :=
  s.clocked (.spdmFinish session verify) (finishOp session.toNat verify)

/-- HEARTBEAT (R357). -/
def heartbeatMsg (session : BitVec 32) (s : State) : State := s.clocked (.heartbeat session) (heartbeatOp session.toNat)

/-- KEY_UPDATE (R357). -/
def keyUpdateMsg (session : BitVec 32) (both : Bool) (s : State) : State := s.clocked (.keyUpdate session both) (keyUpdateOp session.toNat both)

/-- END_SESSION (R357). -/
def endSessionMsg (session : BitVec 32) (s : State) : State := s.clocked (.endSession session) (endSessionOp session.toNat)

/-- KEY_PROG (R358). -/
def keyProgMsg (session : BitVec 32) (stream : BitVec 8) (keySet : Bool) (tx : Bool) (sub : BitVec 4) (key : BitVec 256) (s : State) : State :=
  s.clocked (.keyProg session stream keySet tx sub key) (keyProgOp session.toNat stream.toNat keySet tx sub.toNat key)

/-- K_SET_GO (R358). -/
def kSetGoMsg (session : BitVec 32) (stream : BitVec 8) (keySet : Bool) (tx : Bool) (sub : BitVec 4) (s : State) : State :=
  s.clocked (.kSetGo session stream keySet tx sub) (keySetOp session.toNat stream.toNat keySet tx sub.toNat true)

/-- K_SET_STOP (R358). -/
def kSetStopMsg (session : BitVec 32) (stream : BitVec 8) (keySet : Bool) (tx : Bool) (sub : BitVec 4) (s : State) : State :=
  s.clocked (.kSetStop session stream keySet tx sub) (keySetOp session.toNat stream.toNat keySet tx sub.toNat false)

/-- QUERY (R358). -/
def queryMsg (session : BitVec 32) (stream : BitVec 8) (s : State) : State := s.clocked (.query session stream) (queryOp session.toNat stream.toNat)

/-- IPL_WRITE (R286). -/
def iplWriteMsg (m : IplPkt) (s : State) : State := s.clocked (.iplWrite m) (packet m (plRequestIn .write m))

/-- IPL_READ (R286). -/
def iplReadMsg (m : IplPkt) (s : State) : State := s.clocked (.iplRead m) (packet m (plRequestIn .read m))

/-- IPL_ATOMIC (R286). -/
def iplAtomicMsg (m : IplPkt) (s : State) : State := s.clocked (.iplAtomic m) (packet m (plRequestIn .atomic m))

/-- IPL_REDUCE_WRITE (R294). -/
def iplReduceWriteMsg (m : IplPkt) (s : State) : State := s.clocked (.iplReduceWrite m) (packet m (plRequestIn .reduceWrite m))

/-- IPL_SYNC (R286). -/
def iplSyncMsg (m : IplPkt) (s : State) : State := s.clocked (.iplSync m) (packet m (plRequestIn .sync m))

/-- IPL_RDATA (R287). -/
def iplRdataMsg (m : IplPkt) (s : State) : State := s.clocked (.iplRdata m) (packet m (plResponseIn .rdata m))

/-- IPL_ATOMIC_DATA (R287). -/
def iplAtomicDataMsg (m : IplPkt) (s : State) : State := s.clocked (.iplAtomicData m) (packet m (plResponseIn .atomicData m))

/-- IPL_CMP (R287). -/
def iplCmpMsg (m : IplPkt) (s : State) : State := s.clocked (.iplCmp m) (packet m (plResponseIn .cmp m))

/-- IPL_NAK (R289). -/
def iplNakMsg (m : IplPkt) (s : State) : State := s.clocked (.iplNak m) (packet m (plResponseIn .nak m))

/-- IPL_CREDIT_RETURN (R284). -/
def iplCreditReturnMsg (port : Fin 4) (cls : BitVec 2) (credits : BitVec 12) (s : State) : State :=
  s.clocked (.iplCreditReturn port cls credits) (plCredit port.val cls.toNat credits.toNat)

/-- EXPANDER_COMPLETION (R323). -/
def expanderCompletionMsg (p : Fin 8) (id : Nat) (poison : Bool) (s : State) : State :=
  s.clocked (.expanderCompletion p id poison) (dnComplete p.val id poison)

/-- UNEXPECTED_S2M (R324). The message is discarded. -/
def unexpectedS2mMsg (p : Fin 8) (s : State) : State := s.clocked (.unexpectedS2m p) (dnRaise Err.DN_UNEXPECTED p.val 0)

/-- EXPANDER_MESSAGE (R328). -/
def expanderMessageMsg (p : Fin 8) (s : State) : State := s.clocked (.expanderMessage p) (dnEvent p.val 7)

/-- XACC_DONE (R328). -/
def xaccDoneMsg (data : Word) (ok : Bool) (s : State) : State := s.clocked (.xaccDone data ok) (xaccDone data ok)

/-- FLUSH_DONE (R431): the agent has flushed a slice, on its port. -/
def flushDoneMsg (port : Fin 16) (agent : BitVec 4) (slice : Fin 16) (s : State) : State :=
  s.clocked (.flushDone port agent slice) fun s =>
    if s.portTakes port.val agent.toNat then s.flushAnswer port.val slice.val
    else if s.portOn port.val then s.badMsg agent.toNat else s

end State

end Sys2Proof.Machine
end

