-- ==== Sys2Proof/Machine/Commands.lean ====
section
/-! DEFINITION. The commands whose access can wait in a crossing (R25, R62, R259, R383): each as what it does when it comes, and when it is
taken from the crossing again. -/

namespace Sys2Proof.Machine

namespace State

/-! ### Registers -/

def qcfgOp (k : BitVec 2) (h : Half) (v : Word) (s : State) : State :=
  s.barWrite (Reg.QE_QCFG + 8 * k.toNat) (.qcfgWrite k h v) (recordWrite k.toNat h v)
def enableOp (s : State) : State := s.barWrite Reg.QE_QCMD .enable queueEnable
def disableOp (s : State) : State := s.barWrite Reg.QE_QCMD .disable queueDisable
def queueResumeOp (s : State) : State := s.barWrite Reg.QE_QCMD .queueResume queueResumeCmd
def resetPointersOp (s : State) : State := s.barWrite Reg.QE_QCMD .resetPointers resetPointersCmd
def skipHeadOp (s : State) : State := s.barWrite Reg.QE_QCMD .skipHead skipHeadCmd
def ctrValueCmd (h : Half) (v : Word) (s : State) : State := s.barWrite Reg.QE_CTR_VALUE (.ctrValueWrite h v) (ctrValueOp h v)
def ctrCfgCmd (h : Half) (v : Word) (s : State) : State := s.barWrite Reg.QE_CTR_CFG (.ctrCfgWrite h v) (ctrCfgOp h v)
def ibEnableOp (h : Half) (v : Word) (s : State) : State := s.barWrite Reg.IB_CTRL (.ibEnable h v) (ibCtrl h v)
def segCommitOp (s : State) : State := s.barWrite Reg.CH_CMD .segCommit segCommit
def regionCommitOp (s : State) : State := s.barWrite Reg.CH_CMD .regionCommit regionCommit
def priCtrlOp (h : Half) (v : Word) (s : State) : State := s.barWrite Reg.CH_PRI_CTRL (.priCtrlWrite h v) (priCtrl h v)
def poolEnableOp (p : Fin 8) (chamois : Bool) (h : Half) (v : Word) (s : State) : State :=
  s.barWrite ((if chamois then Reg.CH_T2_POOL else Reg.IB_T2_POOL) + 8 * p.val) (.poolEnable p chamois h v) (poolEnable p.val chamois h v)
def powerOnOp (p : Fin 8) (v : Word) (s : State) : State :=
  s.barWrite (Reg.DN_PORT_CTRL + 8 * p.val) (.powerOn p v) (dnPortCtrl p.val .full v)
def evacuateOp (p : Fin 8) (v : Word) (s : State) : State :=
  s.barWrite (Reg.DN_PORT_CTRL + 8 * p.val) (.evacuate p v) (dnPortCtrl p.val .full v)
def powerOffOp (p : Fin 8) (v : Word) (s : State) : State :=
  s.barWrite (Reg.DN_PORT_CTRL + 8 * p.val) (.powerOff p v) (dnPortCtrl p.val .full v)
def recordOp (h : Half) (v : Word) (s : State) : State := s.barWrite Reg.RP_CTRL (.record h v) (rpCtrl h v)
def replayOp (h : Half) (v : Word) (s : State) : State := s.barWrite Reg.RP_CTRL (.replay h v) (rpCtrl h v)
def modeOffOp (h : Half) (v : Word) (s : State) : State := s.barWrite Reg.RP_CTRL (.modeOff h v) (rpCtrl h v)

/-- The registers that the other commands of this kind write. -/
def htabBaseCmd (h : Half) (v : Word) (s : State) : State := s.barWrite Reg.QE_CTX_HTAB (.htabBaseWrite h v) (htabOp h v)
def invalCmd (s : State) : State := s.barWrite Reg.QE_CTX_HTAB .inval fun s => s.dropHandles s.selHtab
def predResetCmd (s : State) : State := s.barWrite Reg.SF_CTRL .predReset predResetOp
def dcCmd (c : Instr) (h : Half) (v : Word) (s : State) : State := s.barWrite Reg.DC_CMD c (dcCmdWrite h v)
def plCtrlCmd (h : Half) (v : Word) (s : State) : State := s.barWrite Reg.PL_CTRL (.plCtrlWrite h v) (plCtrl h v)
def resyncCmd (s : State) : State := s.barWrite Reg.PL_ROUTE .resync plResync
def windowCmd (h : Half) (v : Word) (s : State) : State := s.barWrite Reg.PL_WINQ1 (.windowCommit h v) (plWinWrite h v)
def bar2MapCmd (h : Half) (v : Word) (s : State) : State := s.barWrite Reg.UP_BAR2_MAP (.bar2MapWrite h v) (bar2MapOp h v)
def resumeFnCmd (fn : BitVec 8) (s : State) : State :=
  s.barWrite Reg.UP_FN_CMD (.resumeFn fn) (fnCmd (resumeRequests fn.toNat) fn.toNat)
def discardFnCmd (fn : BitVec 8) (s : State) : State :=
  s.barWrite Reg.UP_FN_CMD (.discardFn fn) (fnCmd (discardRequests fn.toNat) fn.toNat)
def attachCmd (s : State) : State := s.barWrite Reg.UP_ATTACH .attach attachOp
def attachResumeCmd (s : State) : State := s.barWrite Reg.UP_ATTACH .attachResume attachResumeOp
def parkCmd (s : State) : State := s.barWrite Reg.UP_ATTACH .park parkOp
def xaccCmd (h : Half) (v : Word) (s : State) : State := s.barWrite Reg.DN_XACC_CMD (.xaccAccess h v) (xaccStart h v)
def lockCmd (s : State) : State := s.barWrite Reg.CFG_LOCK .configLock lockConfig
def flashCmd (c : Instr) (h : Half) (v : Word) (s : State) : State := s.barWrite Reg.CFG_FLASH_CMD c (flashCmdWrite h v)
def enrolCmd (s : State) : State := s.barWrite Reg.ID_CMD .enrol enrolOp
def levelCmd (h : Half) (v : Word) (s : State) : State := s.barWrite Reg.CK_LEVEL (.levelChange h v) (levelWrite h v)
def injectCmd (b : Fin 18) (h : Half) (v : Word) (s : State) : State :=
  s.barWrite (Reg.win b.val + 0x30) (.errInjectArm b h v) (injectWrite b.val h v)
def fenceCmdOp (c : Instr) (h : Half) (v : Word) (s : State) : State := s.barWrite Reg.PM_FENCE_CMD c (fenceCmd h v)
def ctxWriteCmd (h : Half) (v : Word) (s : State) : State := s.barWrite Reg.RB_CTX (.rbCtxWrite h v) (ctxWrite h v)
def rbCmdOp (c : Instr) (h : Half) (v : Word) (s : State) : State := s.barWrite Reg.RB_CMD c (rbCommand h v)

/-- HDM_COMMIT writes the component registers in BAR0 (R299, R305). -/
def hdmCommitCmd (n : Bool) (base size skip : Word) (ways : BitVec 4) (lock : Bool) (s : State) : State :=
  s.hostPosted 0 (.hdmCommit n base size skip ways lock)
    (cross Dom.upCtl (.hdmCommit n base size skip ways lock) (hdmCommitOp n base.toNat size.toNat skip.toNat ways.toNat lock))

/-- MSIX_UNMASK writes the vector table in its function's BAR0 (R308). -/
def msixUnmaskCmd (fn : BitVec 8) (vector : BitVec 11) (s : State) : State :=
  s.hostPosted fn.toNat (.msixUnmask fn vector) (cross Dom.upCtl (.msixUnmask fn vector) (msixUnmaskOp fn.toNat vector.toNat))

/-- A read of PM_DOM_STATd (R10): its completion goes to the host once it has been made. -/
def domStatRead (d : Fin 96) (s : State) : State :=
  match registerRead (.domStatRead d) (Reg.PM_DOM_STAT + 8 * d.val) 8 s with
  | (.value w, s) => s.emit (.cpl (leBytes 8 w.toNat) false)
  | (_, s) => s

/-! ### Doorbells -/

/-- A doorbell as it comes. One of the host needs memory space (R302), and keeps its order behind the CXL.io writes before it (R259, log
entry 30). -/
def bellOp (k : DbKind) (d : Doorbell) (s : State) : State :=
  let fromHost := match d.origin with | .pf _ => some 0 | .vf fn _ => some fn.toNat | _ => none
  match fromHost with
  | none => s.ringDoorbell k d
  | some fn =>
    s.hostPosted fn (doorbellInstr k d) (ringDoorbell k d)

/-! ### Fabric Ports -/

/-- A request of an agent, bound for its port's slice (R383): a released crossing answers with the error response (R397). -/
def reqOp (op : Nat) (c : Instr) (m : Req) (s : State) : State :=
  s.crossE (Dom.sf m.port.val) c (errResponse op m.port.val m.agent.toNat m.txn.toNat) (arriveReq op m)

/-- An agent's answer to a snoop (R207, R424): none is discarded at a crossing. -/
def rspOp (x : Answer) (c : Instr) (m : Rsp) (s : State) : State :=
  s.cross (Dom.sf m.port.val) c fun s =>
    if !s.portTakes m.port.val m.agent.toNat then (if s.portOn m.port.val then s.badMsg m.agent.toNat else s)
    else s.snoopAnswer (m.homeTag.toNat / 256) (m.homeTag.toNat % 256) m.agent.toNat x

/-- SF_PRED_WRITE goes on to the slice whose counter it names (R25, Table 10 of spec/07). -/
def sfPredCmd (h : Half) (v : Word) (s : State) : State :=
  s.barWrite Reg.SF_PRED (.sfPredWrite h v) (crossAll (predDomain Reg.SF_PRED h v) (.sfPredWrite h v) (unsupported true) (sfPredOp h v))

def datWriteOp (d : Dat) (s : State) : State := s.cross (Dom.sf d.port.val) (.datWrite d) (arriveDat d)

def datSnoopOp (d : Dat) (s : State) : State :=
  s.cross (Dom.sf d.port.val) (.datSnoop d) fun s =>
    if !s.portTakes d.port.val d.agent.toNat then (if s.portOn d.port.val then s.badMsg d.agent.toNat else s) else s.snoopData d

/-! ### Gazelles and Springboks -/

/-- A dispatcher's own access to a unit (R95, R161): nothing goes to a fenced unit, and one access waits for a sleeping one. -/
def crossOnce (d : Nat) (c : Instr) (f : State → State) (s : State) : State :=
  if s.isFenced d || s.pm.waits.any (fun w => decide (w.cmd = c)) then s else s.cross d c f

/-- A piece is what Gazelle `u` begins next (R32, R95). -/
def pieceFor (s : State) (u : Nat) : Bool := match s.gzNext u with | some (_, .piece _) => true | _ => false

/-- Gazelle `u` holds a reduce-write that it has begun, or begins one next (R32, R99). -/
def rwFor (s : State) (u : Nat) : Bool :=
  (s.gz.rws.any fun r => decide (r.unit = u ∧ r.done = none) && r.begun) || (match s.gzNext u with | some (_, .reduceWrite) => true | _ => false)

/-- Springbok `u` is free and a row or a SAMPLE waits (R157, R161). -/
def rowFor (s : State) (u : Nat) : Bool :=
  (s.sbUnit u).first.isNone && s.regBit Reg.SB_CTRL u &&
    (!s.bt.samples.isEmpty || (match s.bt.step with | some t => t.done && !t.rows.isEmpty | none => false))

def pieceDispatchOp (u : Fin 8) (s : State) : State :=
  if s.pieceFor u.val then s.crossOnce (Dom.gazelle u.val) (.pieceDispatch u) (dispatchPiece u.val) else s

def reduceWriteApplyOp (u : Fin 8) (s : State) : State :=
  if s.rwFor u.val then s.crossOnce (Dom.gazelle u.val) (.reduceWriteApply u) (applyRw u.val) else s

def rowHandoutOp (u : Fin 4) (s : State) : State :=
  if s.rowFor u.val then s.crossOnce (Dom.springbok u.val) (.rowHandout u) (rowHandout u.val) else s

/-! ### What waited is tried again -/

/-- A command taken from a crossing again. Only the commands above and the messages of Messages wait. -/
def redo (c : Instr) (s : State) : State :=
  match c with
  | .registerWrite at_ size v => s.registerWriteOp c at_.fn.toNat at_.offset.toNat size.toNat v
  | .qcfgWrite k h v => s.qcfgOp k h v
  | .enable => s.enableOp
  | .disable => s.disableOp
  | .queueResume => s.queueResumeOp
  | .resetPointers => s.resetPointersOp
  | .skipHead => s.skipHeadOp
  | .ctrValueWrite h v => s.ctrValueCmd h v
  | .ctrCfgWrite h v => s.ctrCfgCmd h v
  | .ibEnable h v => s.ibEnableOp h v
  | .segCommit => s.segCommitOp
  | .regionCommit => s.regionCommitOp
  | .priCtrlWrite h v => s.priCtrlOp h v
  | .poolEnable p ch h v => s.poolEnableOp p ch h v
  | .powerOn p v => s.powerOnOp p v
  | .evacuate p v => s.evacuateOp p v
  | .powerOff p v => s.powerOffOp p v
  | .record h v => s.recordOp h v
  | .replay h v => s.replayOp h v
  | .modeOff h v => s.modeOffOp h v
  | .htabBaseWrite h v => s.htabBaseCmd h v
  | .inval => s.invalCmd
  | .predReset => s.predResetCmd
  | .preloadLock h v | .unlock h v | .flush h v | .flushContext h v => s.dcCmd c h v
  | .plCtrlWrite h v => s.plCtrlCmd h v
  | .resync => s.resyncCmd
  | .windowCommit h v => s.windowCmd h v
  | .bar2MapWrite h v => s.bar2MapCmd h v
  | .resumeFn fn => s.resumeFnCmd fn
  | .discardFn fn => s.discardFnCmd fn
  | .attach => s.attachCmd
  | .attachResume => s.attachResumeCmd
  | .park => s.parkCmd
  | .xaccAccess h v => s.xaccCmd h v
  | .configLock => s.lockCmd
  | .flashRead h v | .flashProgram h v | .flashErase h v => s.flashCmd c h v
  | .enrol => s.enrolCmd
  | .levelChange h v => s.levelCmd h v
  | .errInjectArm b h v => s.injectCmd b h v
  | .pmFence h v | .crossingRelease h v => s.fenceCmdOp c h v
  | .rbCtxWrite h v => s.ctxWriteCmd h v
  | .bind h v | .quiesce h v | .contextResume h v | .checkpoint h v | .rebind h v | .restore h v | .contextRelease h v => s.rbCmdOp c h v
  | .hdmCommit n base size skip ways lock => s.hdmCommitCmd n base size skip ways lock
  | .msixUnmask fn vector => s.msixUnmaskCmd fn vector
  | .domStatRead d => s.domStatRead d
  | .sqTail d => s.bellOp .sqTail d
  | .cqHead d => s.bellOp .cqHead d
  | .batchSq d => s.bellOp .batch d
  | .coreDone d => s.bellOp .coreDone d
  | .rdShared m => s.reqOp Op.RD_SHARED c m
  | .rdOwn m => s.reqOp Op.RD_OWN c m
  | .rdCur m => s.reqOp Op.RD_CUR c m
  | .rdOwnNodata m => s.reqOp Op.RD_OWN_NODATA c m
  | .evictClean m => s.reqOp Op.EVICT_CLEAN c m
  | .evictDirty m => s.reqOp Op.EVICT_DIRTY c m
  | .atomic m => s.reqOp Op.ATOMIC c m
  | .wrUc m => s.reqOp Op.WR_UC c m
  | .wrNt m => s.reqOp Op.WR_NT c m
  | .fence m => s.reqOp Op.FENCE c m
  | .rsvCheck m => s.reqOp Op.RSV_CHECK c m
  | .rspI m => s.rspOp .i c m
  | .rspS m => s.rspOp .s c m
  | .rspFwdS m => s.rspOp .fwdS c m
  | .rspFwdF m => s.rspOp .fwdF c m
  | .rspFwdI m => s.rspOp .fwdI c m
  | .rspIWb m => s.rspOp .iWb c m
  | .rspFwdV m => s.rspOp .fwdV c m
  | .datWrite d => s.datWriteOp d
  | .datSnoop d => s.datSnoopOp d
  | .sfPredWrite h v => s.sfPredCmd h v
  | .pieceDispatch u => s.pieceDispatchOp u
  | .reduceWriteApply u => s.reduceWriteApplyOp u
  | .rowHandout u => s.rowHandoutOp u
  | .memRd m => s.memRdMsg m
  | .memInv m => s.memInvMsg m
  | .memWr m => s.memWrMsg m
  | .memClnEvct m => s.memClnEvctMsg m
  | .memUnsupported k => s.memUnsupportedMsg k
  | .biRsp line => s.biRspMsg line
  | .biConflict line => s.biConflictMsg line
  | .snpData line => s.snpDataMsg line
  | .snpInv line => s.snpInvMsg line
  | .snpCur line => s.snpCurMsg line
  | .hostFillData line grant data poison => s.hostFillDataMsg line grant data poison
  | .rdOwnNoDataGo line grant => s.rdOwnNoDataGoMsg line grant
  | .goWritePull line => s.goWritePullMsg line
  | .configRequest fn reg access => s.configRequestMsg fn reg access
  | .bar2Access offset len access => s.bar2AccessMsg offset len access
  | .hdmIoRequest requester pasid hpa len access => s.hdmIoRequestMsg requester pasid hpa len access
  | .vfEnableSet => s.vfEnableSetMsg
  | .vfEnableClear => s.vfEnableClearMsg
  | .flr fn => s.flrMsg fn
  | .bmeClear fn => s.bmeClearMsg fn
  | .d3hot fn => s.d3hotMsg fn
  | .atsTranslationCompletion key answer => s.atsTranslationCompletionMsg key answer
  | .prgResponse group code => s.prgResponseMsg group code
  | .atsInvalidate fn pasid base log2 => s.atsInvalidateMsg fn pasid base log2
  | .ptmDialogue offset => s.ptmDialogueMsg offset
  | .getVersion => s.getVersionMsg
  | .getCapabilities => s.getCapabilitiesMsg
  | .negotiateAlgorithms => s.negotiateAlgorithmsMsg
  | .getDigests => s.getDigestsMsg
  | .getCertificate slot offset length => s.getCertificateMsg slot offset length
  | .challenge slot nonce => s.challengeMsg slot nonce
  | .getMeasurements index signed nonce => s.getMeasurementsMsg index signed nonce
  | .keyExchange slot random exchange => s.keyExchangeMsg slot random exchange
  | .spdmFinish session verify => s.spdmFinishMsg session verify
  | .heartbeat session => s.heartbeatMsg session
  | .keyUpdate session both => s.keyUpdateMsg session both
  | .endSession session => s.endSessionMsg session
  | .keyProg session stream keySet tx sub key => s.keyProgMsg session stream keySet tx sub key
  | .kSetGo session stream keySet tx sub => s.kSetGoMsg session stream keySet tx sub
  | .kSetStop session stream keySet tx sub => s.kSetStopMsg session stream keySet tx sub
  | .query session stream => s.queryMsg session stream
  | .iplWrite m => s.iplWriteMsg m
  | .iplRead m => s.iplReadMsg m
  | .iplAtomic m => s.iplAtomicMsg m
  | .iplReduceWrite m => s.iplReduceWriteMsg m
  | .iplSync m => s.iplSyncMsg m
  | .iplRdata m => s.iplRdataMsg m
  | .iplAtomicData m => s.iplAtomicDataMsg m
  | .iplCmp m => s.iplCmpMsg m
  | .iplNak m => s.iplNakMsg m
  | .iplCreditReturn port cls credits => s.iplCreditReturnMsg port cls credits
  | .expanderCompletion p id poison => s.expanderCompletionMsg p id poison
  | .unexpectedS2m p => s.unexpectedS2mMsg p
  | .expanderMessage p => s.expanderMessageMsg p
  | .xaccDone data ok => s.xaccDoneMsg data ok
  | .flushDone port agent slice => s.flushDoneMsg port agent slice
  | _ => s

/-- An access writes QE_SEL. -/
def selects : Instr → Bool
  | .registerWrite at_ _ _ => decide (at_.fn = 0 ∧ at_.offset.toNat / 8 * 8 = Reg.QE_SEL)
  | _ => false

/-- An access taken again with the QE_SEL of the moment at which it was made: what it selected then is what it acts on (R36, R38, R70). A write of
QE_SEL itself selects for what comes after it. What waits for earlier writes of the host has not been made yet, and finds QE_SEL as those writes
leave it. -/
def redoParked (w : Parked) (s : State) : State :=
  if w.dom = ioWait ∨ selects w.cmd then s.redo w.cmd
  else
    let now := s.reg Reg.QE_SEL
    ((s.setReg Reg.QE_SEL w.sel).redo w.cmd).setReg Reg.QE_SEL now

/-- Takes every access that waits under number `d`, oldest first. -/
def redoWaits (d : Nat) (s : State) : State :=
  let r := s.takeWaits d
  r.1.foldl (fun s w => s.redoParked w) r.2

end State

end Sys2Proof.Machine
end

