-- ==== Sys2Proof/Machine/Settle.lean ====
section
/-! DEFINITION. The end of every command (R62, R209, R255, R383): what the command has set free goes on, as far as it can, before the next
command is taken. -/

namespace Sys2Proof.Machine

namespace State

/-! ### Waiters -/

/-- A started descriptor goes on with what it was waiting for. -/
def resumeWork (w : Work) (s : State) : State :=
  if w.phase ≠ .running then s
  else match dOpcode w.desc with
    | 0x01 => s.runWith runCopy w
    | 0x02 => s.runWith runFill w
    | 0x03 => s.runWith runWriteInline w
    | 0x04 => s.runWith runHandleUpdate w
    | 0x05 => s.runLaunch w
    | 0x10 | 0x11 =>
      if w.count = 0 then s.runGz w
      else
        let ends := s.gz.running.filter fun p => p.ending && decide (p.work = w.id)
        let s := ends.foldl (fun s p => s.completePiece p.unit) s
        (match s.work? w.id with | some w => s.finishGz w | none => s)
    | 0x12 | 0x13 => s.runYxp w
    | 0x20 => s.runConv w
    | 0x21 => s.runAdvise w
    | 0x30 => s.runServeConfig w
    | 0x31 => s.runOpen w
    | 0x33 =>
      match (if w.count = 0 then (List.range Config.springboks).find? fun u => decide ((s.sbUnit u).second = some (.sample w.id)) else none) with
      | some u => s.rowSampled u
      | none => s.sampleOut w
    | _ => s

/-- A page move goes on, and ends once it is over and no access of it is under way (R118, R120, R189, R333); what waited for a frame or a slot
goes on then. -/
def moveOn (id : Nat) (s : State) : State :=
  let s := s.carryOn id
  match s.move? id with
  | none => s
  | some m =>
    if !m.running || !moveOver m || !s.moveIdle id then s
    else match m.kind with
      | .demote => (((s.demoteDone m).reclaim).fetchAhead).evacSteps
      | .fetch => (((s.fetchDone m).reclaim).fetchAhead).evacSteps
      | .evac => (s.evacMoved m).evacSteps
      | .cow => s.cowDone m
      | _ => (s.finishMove m).evacSteps

/-- A waiter goes on. -/
def resume (w : Waiter) (s : State) : State :=
  match w with
  | .work id => (match s.work? id with | some x => s.resumeWork x | none => s)
  | .piece id i =>
    (match s.gz.running.find? fun p => decide (p.work = id ∧ p.idx = i) && p.ending with
     | some p => s.completePiece p.unit
     | none => s)
  | .done id => s.completeWork id
  | .entry q place =>
    let s := (s.entryPerformed q place).writeDeferred q
    (s.worksOf q).foldl (fun s w => s.completeWork w.id) s
  | .slot q => (match (s.queue q).head with | none => s.slotRead gzHeadCheck q | some _ => s.tryLaunch q)
  | .shadow q => s.shadowRead q
  | .deferred q => s.writeDeferred q
  | .head r => s.headRead r
  | .token r => s.tokenWrite r
  | .step => s.ringStep
  | .row u => s.rowSampled u
  | .move id => s.moveOn id
  | .io _ => pumpIos s.ch.ios s
  | .peer node flow _ => s.pumpFlow node flow
  | .reduceWrite id => (match s.gz.rws.find? fun r => decide (r.id = id) with | some r => s.applyRw r.unit | none => s)
  | .nt _ _ | .uc _ _ _ => s.pumpUc
  | .recorder => recorderPump 64 s
  | .ckpt => if s.rb.cmd = 5 then s.restoreStep else s.ckptStep

/-- The waiters that the command has woken, in the order in which they were. -/
def resumeAll (s : State) : State := s.wake.foldl (fun s w => s.resume w) { s with wake := [] }

/-! ### One round -/

/-- The class of a mover's user (R32 Table 5): fetch-ahead, descriptors, the pager's other moves, Chamois's migration (log entry 95). -/
def moverClass (s : State) : Waiter → Nat
  | .move id => match s.move? id with
    | some m => if m.kind = .fetch then 0 else if isIbexMove m then 2 else 3
    | none => 3
  | _ => 1

/-- Those that wait for a mover go on, in the turns of R32. -/
def grantMovers : Nat → List Waiter → State → State
  | 0, _, s => s
  | n + 1, l, s =>
    match nextGrant s.moverClass s.pm.turns l with
    | none => s
    | some w =>
      let low := l.all fun x => decide (s.moverClass x ≤ s.moverClass w)
      grantMovers n (l.erase w) ((s.modPm fun p => { p with turns := if low then 0 else s.pm.turns + 1 }).wakeUp w)

/-- Accesses that wait behind CXL.io writes go on once those are performed (R259); those of a released crossing end (R397), and those of a
domain that takes accesses again are taken (R383), and those of a fenced bank are answered without it (R455). An engine's access goes on too
where its domain has been fenced: what follows then is its unit's rule (R393). -/
def redoFree (s : State) : State :=
  let s := if s.ioWrites then s else s.redoWaits ioWait
  let bankGone (d : Nat) : Bool := decide (78 ≤ d ∧ d < 82) && s.isFenced d
  let open_ (d : Nat) : Bool := decide (d < 96) && (s.domReady d || decide (d ∈ s.released) || bankGone d)
  let ds := (s.pm.waits.filter fun w => open_ w.dom).foldl (fun l w => addNew w.dom l) []
  let free (w : Nat × Waiter) : Bool := s.domReady w.1 || s.isFenced w.1
  let forMover (w : Nat × Waiter) : Bool := decide (w.1 = Dom.mover 0 ∨ w.1 = Dom.mover 1)
  let ready := (s.pm.engines.filter fun w => free w && !forMover w).map (·.2)
  let movers := (s.pm.engines.filter fun w => free w && forMover w).map (·.2)
  let s := if s.clocksStopped then s else ds.foldl (fun s d => s.redoWaits d) s
  grantMovers movers.length movers
    (ready.foldl (fun s w => s.wakeUp w) (s.modPm fun p => { p with engines := p.engines.filter fun w => !decide (w.2 ∈ ready ++ movers) }))

/-- The lines of the running DC_CMD, one after the other (R235, R236). -/
def dcWalk : Nat → State → State
  | 0, s => s
  | n + 1, s => if s.dc.cmd = 0 || s.dcWaiting || !s.dcMore then s else dcWalk n s.dcNext

/-- The downstream ports go on: requests that were held, a POWER_OFF that waited, the evacuations (R323, R333, R334). -/
def portsOn (s : State) : State :=
  let s := (List.range Config.downPorts).foldl (fun s p => ((s.dnRelease p).dnDrain p).eqEnter p) s
  if (List.range Config.downPorts).any fun p => decide ((s.dnPort p).st = .evacuating) then s.evacSteps else s

/-- What has come for a descriptor that is no more is forgotten. -/
def dropStale (s : State) : State :=
  s.modSf fun f => { f with got := f.got.filter fun g => match g.who.workOf with | some id => (s.work? id).isSome | none => true }

/-- Everything that can go on does so once. -/
def round (s : State) : State :=
  let s := s.resumeAll
  let s := s.pumpBacks.flushTables.pumpTxns.ackConflicts.pumpHeld.ibStart.chStart.mapPoison
  let s := s.gzServe
  let s := s.pumpUc
  let s := pumpReqs s.fp.reqs [] s
  let s := s.pumpFences.pumpIplRx
  let s := pumpIos s.ch.ios s
  let s := s.homesMoved.waysGone
  let s := if s.rp.writes.isEmpty && !s.ringLost then s else recorderPump 64 s
  let s := dcWalk 65536 s
  let s := s.queueUnpacks.fenceAll
  let s := s.readStepQueue.finishCancels
  s.portsOn.retryPages.redoFree.ltrReport.dropStale

/-- Nothing waits for anything, so that a round changes nothing. -/
def calm (s : State) : Bool :=
  s.wake.isEmpty && s.fenceReq.isEmpty && s.sf.txns.isEmpty && s.sf.held.isEmpty && s.sf.flushing.isEmpty && s.sf.backs.isEmpty &&
  s.sf.wayFlush.isEmpty && s.sf.conflicts.isEmpty && s.sf.tables.isEmpty && s.sf.got.isEmpty && s.gz.unitWait.isEmpty && s.fp.ucs.isEmpty &&
  s.fp.reqs.isEmpty && s.fp.fences.isEmpty && (s.pl.rx.all fun e => e.2.acc.isEmpty) && s.ch.ios.isEmpty && s.ch.pageWait.isEmpty &&
  s.rp.writes.isEmpty && !s.ringLost && decide (s.dc.cmd = 0) &&
  (!s.bt.serving || decide ((s.queue s.srvQueue).cqHead = (s.queue s.srvQueue).cqTail)) && s.bt.cancels.isEmpty && s.dn.reqs.isEmpty &&
  (s.dn.ports.all fun e => decide (e.2.st ≠ .evacuating) && (!e.2.eqRedo || e.2.eqIn)) && s.pm.waits.isEmpty && s.pm.engines.isEmpty && s.ch.priWait.isEmpty &&
  decide (s.ltrNow = s.up.ltr ∨ !s.up.linkUp)

/-- While the divided clocks stand, what they drive stands too (R363, log entry 114): a step of it has not come yet. -/
def whenClocked (s t : State) : State := if s.clocksStopped then s else t

/-- Rounds until nothing changes any more, at most `n` (log entry 34). -/
def settle : Nat → State → State
  | 0, s => s
  | n + 1, s =>
    if s.calm || s.clocksStopped then s
    else
      let t := s.round
      if t = s then s else settle n t

/-- The state after a command that set the block to `t` from `s`: nothing but the block itself takes commands off its queue. -/
def keep (s t : State) : State := { t with pending := s.pending }

/-- The same, once everything that the command has set free has gone on. -/
def done (s t : State) : State := s.keep (settle 64 t)

end State

/-- What a command answers. -/
abbrev Result := Host.Outcome State Fault Refusal

end Sys2Proof.Machine
end

