-- ==== Sys2Proof/Machine/BootRows.lean ====
section
/-! DEFINITION. The commands of power-up, the image and identity (spec/13). -/

namespace Sys2Proof.Machine

open State

/-! ### Power-up (R340, R341, R438) -/

/-- FUNDAMENTAL_RESET (R340). -/
def execFundamentalReset (por : Bool) (s : State) : Result := .next (s.keep (s.fundamentalResetOp por))

/-- POR_N_ASSERT (R438). -/
def execPorNAssert (s : State) : Result := .next (s.keep (s.porAssertOp))

/-- PUF_READ (R340). -/
def execPufRead (response : List Byte) (s : State) : Result := .next (s.keep (s.pufReadOp response))

/-- PLL_LOCK (R340). -/
def execPllLock (s : State) : Result := .next (s.keep (s.pllLockOp))

/-- ARRAY_INIT_DONE (R340). -/
def execArrayInitDone (s : State) : Result := .next (s.keep (s.arrayInitOp))

/-- FLASH_LOAD_READ (R343). -/
def execFlashLoadRead (responds octal : Bool) (reads : FlashReads) (s : State) : Result := .next (s.keep (s.flashLoadRead responds octal reads))

/-- IMAGE_APPLY (R349). -/
def execImageApply (s : State) : Result := .next (s.keep (s.imageApplyOp))

/-- KEY_DERIVE (R354). -/
def execKeyDerive (s : State) : Result := .next (s.keep (s.keyDerive))

/-- CONFIG_COMPLETE (R340). -/
def execConfigComplete (s : State) : Result := .next (s.keep (s.configCompleteOp))

/-- PERST_RELEASE (R341). -/
def execPerstRelease (s : State) : Result := .next (s.keep (s.perstReleaseOp))

/-- CONFIG_LOCK (R11). -/
def execConfigLock (s : State) : Result := .next (s.keep s.lockCmd)

/-! ### Flash and the key (R352, R355, R359) -/

/-- FLASH_READ (R352). -/
def execFlashRead (half : Half) (value : Word) (s : State) : Result := .next (s.keep (s.flashCmd (.flashRead half value) half value))

/-- FLASH_PROGRAM (R352). -/
def execFlashProgram (half : Half) (value : Word) (s : State) : Result := .next (s.keep (s.flashCmd (.flashProgram half value) half value))

/-- FLASH_ERASE (R352). -/
def execFlashErase (half : Half) (value : Word) (s : State) : Result := .next (s.keep (s.flashCmd (.flashErase half value) half value))

/-- FLASH_CMD_DONE (R352). -/
def execFlashCmdDone (ok : Bool) (s : State) : Result := .next (s.keep (s.flashDone ok))

/-- ENROL (R355). -/
def execEnrol (s : State) : Result := .next (s.keep s.enrolCmd)

/-- ENTROPY_FAIL (R359). -/
def execEntropyFail (s : State) : Result := .next (s.keep (s.entropyFails))

/-! ### SPDM (R357) -/

/-- GET_VERSION (R357). -/
def execGetVersion (s : State) : Result := .next (s.keep s.getVersionMsg)

/-- GET_CAPABILITIES (R357). -/
def execGetCapabilities (s : State) : Result := .next (s.keep s.getCapabilitiesMsg)

/-- NEGOTIATE_ALGORITHMS (R357). -/
def execNegotiateAlgorithms (s : State) : Result := .next (s.keep s.negotiateAlgorithmsMsg)

/-- GET_DIGESTS (R357). -/
def execGetDigests (s : State) : Result := .next (s.keep s.getDigestsMsg)

/-- GET_CERTIFICATE (R357). -/
def execGetCertificate (slot : BitVec 4) (offset length : BitVec 16) (s : State) : Result := .next (s.keep (s.getCertificateMsg slot offset length))

/-- CHALLENGE (R357). -/
def execChallenge (slot : BitVec 4) (nonce : List Byte) (s : State) : Result := .next (s.keep (s.challengeMsg slot nonce))

/-- GET_MEASUREMENTS (R357). -/
def execGetMeasurements (index : BitVec 8) (signed : Bool) (nonce : List Byte) (s : State) : Result := .next (s.keep (s.getMeasurementsMsg index signed nonce))

/-- KEY_EXCHANGE (R357). -/
def execKeyExchange (slot : BitVec 4) (random exchange : List Byte) (s : State) : Result := .next (s.keep (s.keyExchangeMsg slot random exchange))

/-- FINISH (R357). -/
def execSpdmFinish (session : BitVec 32) (verify : List Byte) (s : State) : Result := .next (s.keep (s.spdmFinishMsg session verify))

/-- HEARTBEAT (R357). -/
def execHeartbeat (session : BitVec 32) (s : State) : Result := .next (s.keep (s.heartbeatMsg session))

/-- KEY_UPDATE (R357). -/
def execKeyUpdate (session : BitVec 32) (both : Bool) (s : State) : Result := .next (s.keep (s.keyUpdateMsg session both))

/-- END_SESSION (R357). -/
def execEndSession (session : BitVec 32) (s : State) : Result := .next (s.keep (s.endSessionMsg session))

/-! ### Link keys (R358) -/

/-- KEY_PROG (R358). -/
def execKeyProg (session : BitVec 32) (stream : BitVec 8) (keySet : Bool) (tx : Bool) (sub : BitVec 4) (key : BitVec 256) (s : State) : Result :=
  .next (s.keep (s.keyProgMsg session stream keySet tx sub key))

/-- K_SET_GO (R358). -/
def execKSetGo (session : BitVec 32) (stream : BitVec 8) (keySet : Bool) (tx : Bool) (sub : BitVec 4) (s : State) : Result :=
  .next (s.keep (s.kSetGoMsg session stream keySet tx sub))

/-- K_SET_STOP (R358). -/
def execKSetStop (session : BitVec 32) (stream : BitVec 8) (keySet : Bool) (tx : Bool) (sub : BitVec 4) (s : State) : Result :=
  .next (s.keep (s.kSetStopMsg session stream keySet tx sub))

/-- QUERY (R358). -/
def execQuery (session : BitVec 32) (stream : BitVec 8) (s : State) : Result := .next (s.keep (s.queryMsg session stream))

end Sys2Proof.Machine
end

