-- ==== Sys2Proof/Machine/EngineRows.lean ====
section
/-! DEFINITION. The commands of the Gazelles (spec/03), of Ibex (spec/04), of the batcher and the Springboks (spec/05). -/

namespace Sys2Proof.Machine

open State

namespace State

/-- The block as a command of the batcher or of Ibex finds it: its domain awake (R383), and the poisoned lines of its structures found (R132). -/
def atIbex (s : State) : State := if s.bt.serving || s.ib.active then (s.touch Dom.ibex).findTableErrors else s

/-- A command of the batcher or of Ibex. -/
def inIbex (f : State → State) (s : State) : State := f s.atIbex

/-- The piece in a Gazelle ends: a unit that completes one without a unit fault clears its strike (R391). -/
def pieceEnd (u : Nat) (s : State) : State :=
  let busy (s : State) : Bool := s.gz.running.any fun p => decide (p.unit = u)
  let t := s.completePiece u
  if busy s && !busy t then t.opClean (Dom.gazelle u) else t

/-- The second pass of a Springbok ends, likewise. -/
def rowEnd (u : Nat) (s : State) : State :=
  let t := s.rowSampled u
  if (s.sbUnit u).second.isSome && (t.sbUnit u).second.isNone then t.opClean (Dom.springbok u) else t

/-- The end of a running move of an Ibex page, of a kind, is called for (R118). -/
def ibMoveEnd (kind : MoveKind) (page : Nat) (s : State) : State :=
  match s.ibMove? page with
  | some m => if m.kind = kind then s.callFor true m.id else s
  | none => s

end State

/-! ### Gazelles -/

/-- CONVERT (R92). -/
def execConvert (q : BitVec 16) (s : State) : Result := .next (s.whenClocked (s.done (s.startWork 0x10 runGz q.toNat)))

/-- REDUCE (R98). -/
def execReduce (q : BitVec 16) (s : State) : Result := .next (s.whenClocked (s.done (s.startWork 0x11 runGz q.toNat)))

/-- YXP_COMPRESS (R104). -/
def execYxpCompress (q : BitVec 16) (s : State) : Result := .next (s.whenClocked (s.done (s.startWork 0x12 runYxp q.toNat)))

/-- YXP_DECOMPRESS (R105). -/
def execYxpDecompress (q : BitVec 16) (s : State) : Result := .next (s.whenClocked (s.done (s.startWork 0x13 runYxp q.toNat)))

/-- PIECE_DISPATCH (R95). -/
def execPieceDispatch (u : Fin 8) (s : State) : Result := .next (s.keep (s.pieceDispatchOp u))

/-- PIECE_COMPLETE (R96). -/
def execPieceComplete (u : Fin 8) (s : State) : Result := .next (s.whenClocked (s.done (s.pieceEnd u.val)))

/-- REDUCE_WRITE_APPLY (R99). -/
def execReduceWriteApply (u : Fin 8) (s : State) : Result := .next (s.done (s.reduceWriteApplyOp u))

/-! ### Ibex -/

/-- MOVE_JOB (R128). -/
def execMoveJob (move : Nat) (s : State) : Result := .next (s.whenClocked (s.done (s.callFor false move)))

/-- IB_ENABLE (R134). -/
def execIbEnable (half : Half) (value : Word) (s : State) : Result := .next (s.done (s.ibEnableOp half value))

/-- PAGE_DEMOTE_DONE (R118). -/
def execPageDemoteDone (page : Nat) (s : State) : Result := .next (s.whenClocked (s.done (s.inIbex (ibMoveEnd .demote page))))

/-- PAGE_FETCH_DONE (R118). -/
def execPageFetchDone (page : Nat) (s : State) : Result := .next (s.whenClocked (s.done (s.inIbex (ibMoveEnd .fetch page))))

/-! ### Serving -/

/-- REQUEST_CLOSE (R133). -/
def execRequestClose (r : BitVec 16) (s : State) : Result := .next (s.whenClocked (s.done (s.inIbex (requestClose r.toNat))))

/-- SERVE_CONFIG (R136). -/
def execServeConfig (q : BitVec 16) (s : State) : Result := .next (s.whenClocked (s.done (s.inIbex (startWork 0x30 runServeConfig q.toNat))))

/-- OPEN_REQUEST (R74, R140). -/
def execOpenRequest (q : BitVec 16) (s : State) : Result := .next (s.whenClocked (s.done (s.inIbex (tryOpen q.toNat))))

/-- CANCEL_REQUEST (R143). -/
def execCancelRequest (q : BitVec 16) (s : State) : Result := .next (s.whenClocked (s.done (s.inIbex (startWork 0x32 runCancel q.toNat))))

/-- SAMPLE (R156). -/
def execSample (q : BitVec 16) (s : State) : Result := .next (s.whenClocked (s.keep (s.startWork 0x33 runSample q.toNat)))

/-- STEP_BUILD (R159). -/
def execStepBuild (s : State) : Result := .next (s.whenClocked (s.done (s.inIbex stepBuild)))

/-- STEP (R160). -/
def execStep (q : BitVec 16) (s : State) : Result := .next (s.whenClocked (s.keep (s.startWork 0x34 runStep q.toNat)))

/-- ROW_HANDOUT (R161). -/
def execRowHandout (u : Fin 4) (s : State) : Result := .next (s.keep (s.rowHandoutOp u))

/-- FIRST_PASS_END (R158). -/
def execFirstPassEnd (u : Fin 4) (s : State) : Result := .next (s.whenClocked (s.keep (s.firstPassEnd u.val)))

/-- ROW_SAMPLED (R146). -/
def execRowSampled (u : Fin 4) (s : State) : Result := .next (s.whenClocked (s.done (s.inIbex (rowEnd u.val))))

/-- TOKEN_RECORD_WRITE (R155). -/
def execTokenRecordWrite (r : BitVec 16) (s : State) : Result := .next (s.whenClocked (s.done (s.inIbex (tokenWrite r.toNat))))

/-- HEAD_READ (R154). -/
def execHeadRead (r : BitVec 16) (s : State) : Result := .next (s.whenClocked (s.done (s.inIbex (headRead r.toNat))))

/-- RING_POLL_EXPIRY (R154). -/
def execRingPollExpiry (r : BitVec 16) (s : State) : Result := .next (s.whenClocked (s.keep (s.inIbex (pollExpiry r.toNat))))

/-- DEADLINE_EXPIRY (R164). -/
def execDeadlineExpiry (r : BitVec 16) (s : State) : Result := .next (s.whenClocked (s.done (s.inIbex (deadline r.toNat))))

end Sys2Proof.Machine
end

