-- ==== Sys2Proof/Machine/FabricRows.lean ====
section
/-! DEFINITION. The commands of the Fabric Ports, of the coherence home and of the device cache (spec/07, spec/08, spec/09, spec/17). -/

namespace Sys2Proof.Machine

open State

/-! ### Requests (R209, R424) -/

/-- RD_SHARED (R209). -/
def execRdShared (m : Req) (s : State) : Result := .next (s.done (s.reqOp Op.RD_SHARED (.rdShared m) m))

/-- RD_OWN (R209). -/
def execRdOwn (m : Req) (s : State) : Result := .next (s.done (s.reqOp Op.RD_OWN (.rdOwn m) m))

/-- RD_CUR (R209). -/
def execRdCur (m : Req) (s : State) : Result := .next (s.done (s.reqOp Op.RD_CUR (.rdCur m) m))

/-- RD_OWN_NODATA (R209). -/
def execRdOwnNodata (m : Req) (s : State) : Result := .next (s.done (s.reqOp Op.RD_OWN_NODATA (.rdOwnNodata m) m))

/-- EVICT_CLEAN (R209). -/
def execEvictClean (m : Req) (s : State) : Result := .next (s.done (s.reqOp Op.EVICT_CLEAN (.evictClean m) m))

/-- EVICT_DIRTY (R218). -/
def execEvictDirty (m : Req) (s : State) : Result := .next (s.done (s.reqOp Op.EVICT_DIRTY (.evictDirty m) m))

/-- ATOMIC (R224). -/
def execAtomic (m : Req) (s : State) : Result := .next (s.done (s.reqOp Op.ATOMIC (.atomic m) m))

/-- WR_UC (R424). -/
def execWrUc (m : Req) (s : State) : Result := .next (s.done (s.reqOp Op.WR_UC (.wrUc m) m))

/-- WR_NT (R254). -/
def execWrNt (m : Req) (s : State) : Result := .next (s.done (s.reqOp Op.WR_NT (.wrNt m) m))

/-- FENCE (R252). -/
def execFence (m : Req) (s : State) : Result := .next (s.done (s.reqOp Op.FENCE (.fence m) m))

/-- RSV_CHECK (R263). -/
def execRsvCheck (m : Req) (s : State) : Result := .next (s.done (s.reqOp Op.RSV_CHECK (.rsvCheck m) m))

/-- NT_ENTRY_TIMEOUT (R254). -/
def execNtEntryTimeout (port : Fin 16) (line : BitVec 42) (s : State) : Result := .next (s.whenClocked (s.done (s.ntTimeout port.val line.toNat)))

/-! ### Answers to snoops (R207) -/

/-- RSP_I (R207). -/
def execRspI (m : Rsp) (s : State) : Result := .next (s.done (s.rspOp .i (.rspI m) m))

/-- RSP_S (R207). -/
def execRspS (m : Rsp) (s : State) : Result := .next (s.done (s.rspOp .s (.rspS m) m))

/-- RSP_FWD_S (R207). -/
def execRspFwdS (m : Rsp) (s : State) : Result := .next (s.done (s.rspOp .fwdS (.rspFwdS m) m))

/-- RSP_FWD_F (R207). -/
def execRspFwdF (m : Rsp) (s : State) : Result := .next (s.done (s.rspOp .fwdF (.rspFwdF m) m))

/-- RSP_FWD_I (R207). -/
def execRspFwdI (m : Rsp) (s : State) : Result := .next (s.done (s.rspOp .fwdI (.rspFwdI m) m))

/-- RSP_I_WB (R207). -/
def execRspIWb (m : Rsp) (s : State) : Result := .next (s.done (s.rspOp .iWb (.rspIWb m) m))

/-- RSP_FWD_V (R207). -/
def execRspFwdV (m : Rsp) (s : State) : Result := .next (s.done (s.rspOp .fwdV (.rspFwdV m) m))

/-- FLUSH_DONE (R431): the agent has flushed a slice, on its port. -/
def execFlushDone (port : Fin 16) (agent : BitVec 4) (slice : Fin 16) (s : State) : Result := .next (s.done (s.flushDoneMsg port agent slice))

/-- DAT_WRITE (R424). -/
def execDatWrite (d : Dat) (s : State) : Result := .next (s.done (s.datWriteOp d))

/-- DAT_SNOOP (R424). -/
def execDatSnoop (d : Dat) (s : State) : Result := .next (s.done (s.datSnoopOp d))

/-- SNOOP_TIMEOUT (R220). -/
def execSnoopTimeout (slice : Fin 16) (tag : BitVec 8) (agent : BitVec 5) (s : State) : Result :=
  .next (s.whenClocked (s.done (s.snoopLost slice.val tag.toNat agent.toNat)))

/-- BULLPEN_EXPIRY (R216). -/
def execBullpenExpiry (slice : Fin 16) (credit : BitVec 5) (s : State) : Result := .next (s.whenClocked (s.done (s.creditExpire slice.val credit.toNat)))

/-- CRD_INIT (R426). -/
def execCrdInit (port : Fin 16) (s : State) : Result := .next (s.whenClocked (s.keep (s.crdInit port.val)))

/-- CRD_RETURN (R425). -/
def execCrdReturn (port : Fin 16) (snp : BitVec 4) (s : State) : Result := .next (s.whenClocked (s.keep (s.crdReturn port.val snp.toNat)))

/-! ### The host on CXL.mem (R210, R305, R306) -/

/-- MEMRD (R210). -/
def execMemRd (m : MemReq) (s : State) : Result := .next (s.done (s.memRdMsg m))

/-- MEMINV (R210). -/
def execMemInv (m : MemReq) (s : State) : Result := .next (s.done (s.memInvMsg m))

/-- MEMWR (R210). -/
def execMemWr (m : MemReq) (s : State) : Result := .next (s.done (s.memWrMsg m))

/-- MEMCLNEVCT (R210). -/
def execMemClnEvct (m : MemReq) (s : State) : Result := .next (s.done (s.memClnEvctMsg m))

/-- MEM_UNSUPPORTED (R306). -/
def execMemUnsupported (k : MemOther) (s : State) : Result := .next (s.done (s.memUnsupportedMsg k))

/-- BIRSP (R209). -/
def execBiRsp (line : BitVec 42) (s : State) : Result := .next (s.done (s.biRspMsg line))

/-- BICONFLICT (R219). -/
def execBiConflict (line : BitVec 42) (s : State) : Result := .next (s.done (s.biConflictMsg line))

/-! ### The host on CXL.cache (R222, R223, R241, R242) -/

/-- SNPDATA (R223). -/
def execSnpData (line : BitVec 42) (s : State) : Result := .next (s.done (s.snpDataMsg line))

/-- SNPINV (R223). -/
def execSnpInv (line : BitVec 42) (s : State) : Result := .next (s.done (s.snpInvMsg line))

/-- SNPCUR (R223). -/
def execSnpCur (line : BitVec 42) (s : State) : Result := .next (s.done (s.snpCurMsg line))

/-- HOST_FILL_DATA (R241). -/
def execHostFillData (line : BitVec 42) (grant : Grant) (data : Line) (poison : Bool) (s : State) : Result := .next (s.done (s.hostFillDataMsg line grant data poison))

/-- RDOWNNODATA_GO (R222). -/
def execRdOwnNoDataGo (line : BitVec 42) (grant : Grant) (s : State) : Result := .next (s.done (s.rdOwnNoDataGoMsg line grant))

/-- GO_WRITEPULL (R242). -/
def execGoWritePull (line : BitVec 42) (s : State) : Result := .next (s.done (s.goWritePullMsg line))

/-! ### Registers of the homes and the device cache -/

/-- PRED_RESET (R226). -/
def execPredReset (s : State) : Result := .next (s.keep s.predResetCmd)

/-- SF_PRED_WRITE (R226). -/
def execSfPredWrite (half : Half) (value : Word) (s : State) : Result := .next (s.keep (s.sfPredCmd half value))

/-- PRELOAD_LOCK (R235). -/
def execPreloadLock (half : Half) (value : Word) (s : State) : Result := .next (s.done (s.dcCmd (.preloadLock half value) half value))

/-- UNLOCK (R235). -/
def execUnlock (half : Half) (value : Word) (s : State) : Result := .next (s.done (s.dcCmd (.unlock half value) half value))

/-- FLUSH (R236). -/
def execFlush (half : Half) (value : Word) (s : State) : Result := .next (s.done (s.dcCmd (.flush half value) half value))

/-- FLUSH_CONTEXT (R236). -/
def execFlushContext (half : Half) (value : Word) (s : State) : Result := .next (s.done (s.dcCmd (.flushContext half value) half value))

/-- DC_CMD_END (R236). -/
def execDcCmdEnd (s : State) : Result := .next (s.whenClocked (s.done s.dcEnd))

end Sys2Proof.Machine
end

