-- ==== Sys2Proof/Machine/FaultRows.lean ====
section
/-! DEFINITION. The commands of faults (spec/15), of contexts, and of record and replay (spec/16). -/

namespace Sys2Proof.Machine

open State

/-! ### Faults (R388 to R400) -/

/-- ERROR_DETECTED (R388). -/
def execErrorDetected (e : ErrEvent) (s : State) : Result := .next (s.done (s.errorOp e))

/-- PM_FENCE (R392). -/
def execPmFence (half : Half) (value : Word) (s : State) : Result := .next (s.done (s.fenceCmdOp (.pmFence half value) half value))

/-- CROSSING_RELEASE (R397). -/
def execCrossingRelease (half : Half) (value : Word) (s : State) : Result := .next (s.done (s.fenceCmdOp (.crossingRelease half value) half value))

/-- ERR_REG_PARITY (R398). -/
def execErrRegParity (blk : Fin 18) (s : State) : Result := .next (s.done (s.safeState blk.val))

/-- ERR_INJECT_ARM (R400). -/
def execErrInjectArm (blk : Fin 18) (half : Half) (value : Word) (s : State) : Result := .next (s.keep (s.injectCmd blk half value))

/-! ### Contexts (R406 to R413) -/

/-- BIND (R406). -/
def execBind (half : Half) (value : Word) (s : State) : Result := .next (s.keep (s.rbCmdOp (.bind half value) half value))

/-- QUIESCE (R407). -/
def execQuiesce (half : Half) (value : Word) (s : State) : Result := .next (s.keep (s.rbCmdOp (.quiesce half value) half value))

/-- QUIESCED (R408). -/
def execQuiesced (s : State) : Result := .next (s.whenClocked (s.keep (s.quiescedOp)))

/-- CONTEXT_RESUME (R409). -/
def execContextResume (half : Half) (value : Word) (s : State) : Result := .next (s.done (s.rbCmdOp (.contextResume half value) half value))

/-- CHECKPOINT (R412). -/
def execCheckpoint (half : Half) (value : Word) (s : State) : Result := .next (s.done (s.rbCmdOp (.checkpoint half value) half value))

/-- REBIND (R410). -/
def execRebind (half : Half) (value : Word) (s : State) : Result := .next (s.done (s.rbCmdOp (.rebind half value) half value))

/-- RESTORE (R413). -/
def execRestore (half : Half) (value : Word) (s : State) : Result := .next (s.done (s.rbCmdOp (.restore half value) half value))

/-- CONTEXT_RELEASE (R411). -/
def execContextRelease (half : Half) (value : Word) (s : State) : Result := .next (s.done (s.rbCmdOp (.contextRelease half value) half value))

/-- RB_CTX_WRITE (R10). -/
def execRbCtxWrite (half : Half) (value : Word) (s : State) : Result := .next (s.keep (s.ctxWriteCmd half value))

/-- RB_CMD_END (R414). -/
def execRbCmdEnd (ok : Bool) (s : State) : Result := .next (s.whenClocked (s.done (s.rbCmdEndOp ok)))

/-! ### Record and replay (R415 to R420) -/

/-- RECORD (R415). -/
def execRecord (half : Half) (value : Word) (s : State) : Result := .next (s.done (s.recordOp half value))

/-- REPLAY (R419). -/
def execReplay (half : Half) (value : Word) (s : State) : Result := .next (s.done (s.replayOp half value))

/-- MODE_OFF (R416). -/
def execModeOff (half : Half) (value : Word) (s : State) : Result := .next (s.done (s.modeOffOp half value))

/-- RECORD_EVENT (R417). -/
def execRecordEvent (s : State) : Result := .next (s.whenClocked (s.done (s.recordEventOp)))

/-- REPLAY_RECORD (R419). -/
def execReplayRecord (s : State) : Result := .next (s.whenClocked (s.done (s.replayRecordOp)))

/-- DIVERGE_TIMEOUT (R420). -/
def execDivergeTimeout (s : State) : Result := .next (s.whenClocked (s.keep (s.divergeOp)))

end Sys2Proof.Machine
end

