-- ==== Sys2Proof/Machine/HostRows.lean ====
section
/-! DEFINITION. The commands of the host endpoint (spec/11). -/

namespace Sys2Proof.Machine

open State

namespace State

/-- The upstream link has trained (R322, R341, R346): only once the image load has ended and perst_n is released. -/
def upLinkTrainedOp (speed width : Nat) (flit cxl : Bool) (power : Nat) (s : State) : State :=
  if s.boot.loaded && s.up.perst then (s.upTrainedOp speed width flit cxl power).startPresets 8 else s

end State

/-! ### Requests of the host (R300, R303, R305) -/

/-- CONFIG_REQUEST (R300). -/
def execConfigRequest (fn : BitVec 8) (reg : BitVec 10) (access : CfgAccess) (s : State) : Result := .next (s.done (s.configRequestMsg fn reg access))

/-- BAR2_ACCESS (R303). -/
def execBar2Access (offset : BitVec 32) (len : BitVec 13) (access : HdmAccess) (s : State) : Result := .next (s.done (s.bar2AccessMsg offset len access))

/-- BAR2_MAP_WRITE (R303). -/
def execBar2MapWrite (half : Half) (value : Word) (s : State) : Result := .next (s.keep (s.bar2MapCmd half value))

/-- HDM_COMMIT (R305). -/
def execHdmCommit (n : Bool) (base size skip : Word) (ways : BitVec 4) (lock : Bool) (s : State) : Result :=
  .next (s.done (s.hdmCommitCmd n base size skip ways lock))

/-- HDM_IO_REQUEST (R197). -/
def execHdmIoRequest (requester : BitVec 16) (pasid : Option (BitVec 20)) (hpa : BitVec 52) (len : BitVec 13) (access : HdmAccess) (s : State) : Result :=
  .next (s.done (s.hdmIoRequestMsg requester pasid hpa len access))

/-! ### Functions (R307, R315, R317) -/

/-- VF_ENABLE_SET (R307). -/
def execVfEnableSet (s : State) : Result := .next (s.keep s.vfEnableSetMsg)

/-- VF_ENABLE_CLEAR (R315). -/
def execVfEnableClear (s : State) : Result := .next (s.done s.vfEnableClearMsg)

/-- FLR (R315). -/
def execFlr (fn : BitVec 8) (s : State) : Result := .next (s.done (s.flrMsg fn))

/-- BME_CLEAR (R315). -/
def execBmeClear (fn : BitVec 8) (s : State) : Result := .next (s.done (s.bmeClearMsg fn))

/-- D3HOT (R315). -/
def execD3hot (fn : BitVec 8) (s : State) : Result := .next (s.done (s.d3hotMsg fn))

/-- HOT_RESET (R318). -/
def execHotReset (s : State) : Result := .next (s.done (s.hotResetOp))

/-- DL_DOWN (R318). -/
def execDlDown (s : State) : Result := .next (s.done (s.dlDownOp))

/-- QUIESCE_COMPLETE (R315). -/
def execQuiesceComplete (fn : BitVec 8) (s : State) : Result := .next (s.whenClocked (s.done (s.quiesceEnd fn.toNat)))

/-- FLR_READ_ABANDON (R315). -/
def execFlrReadAbandon (fn : BitVec 8) (s : State) : Result := .next (s.whenClocked (s.done (s.abandonReads fn.toNat)))

/-- RESUME_FN (R317). -/
def execResumeFn (fn : BitVec 8) (s : State) : Result := .next (s.done (s.resumeFnCmd fn))

/-- DISCARD_FN (R317). -/
def execDiscardFn (fn : BitVec 8) (s : State) : Result := .next (s.done (s.discardFnCmd fn))

/-! ### Attachment (R319) -/

/-- ATTACH (R319). -/
def execAttach (s : State) : Result := .next (s.done s.attachCmd)

/-- ATTACH_RESUME (R319). -/
def execAttachResume (s : State) : Result := .next (s.done s.attachResumeCmd)

/-- PARK (R319). -/
def execPark (s : State) : Result := .next (s.keep s.parkCmd)

/-! ### Interrupts, timeouts, link states, time (R308, R312 to R314, R322) -/

/-- MSIX_UNMASK (R308). -/
def execMsixUnmask (fn : BitVec 8) (vector : BitVec 11) (s : State) : Result := .next (s.keep (s.msixUnmaskCmd fn vector))

/-- COMPLETION_TIMEOUT (R312). -/
def execCompletionTimeout (what : TimedOut) (s : State) : Result := .next (s.whenClocked (s.done (s.completionTimeoutOp what)))

/-- L1_IDLE_EXPIRY (R313). -/
def execL1IdleExpiry (s : State) : Result := .next (s.whenClocked (s.keep (s.l1IdleOp)))

/-- L0S_ENTRY (R313). -/
def execL0sEntry (s : State) : Result := .next (s.whenClocked (s.keep (s.l0sOp)))

/-- L1_EXIT (R313). -/
def execL1Exit (s : State) : Result := .next (s.keep (s.l1ExitOp))

/-- PTM_DIALOGUE (R314). -/
def execPtmDialogue (offset : Word) (s : State) : Result := .next (s.keep (s.ptmDialogueMsg offset))

/-- UP_LINK_TRAINED (R322). -/
def execUpLinkTrained (speed : BitVec 4) (width : BitVec 5) (flit cxl : Bool) (slotPower : BitVec 16) (s : State) : Result :=
  .next (s.done (s.upLinkTrainedOp speed.toNat width.toNat flit cxl slotPower.toNat))

end Sys2Proof.Machine
end

