-- ==== Sys2Proof/Machine/MemoryRows.lean ====
section
/-! DEFINITION. The commands of Chamois and the DMA movers (spec/06). -/

namespace Sys2Proof.Machine

open State

namespace State

/-- Moves begin in the order of R188: one queued move, an Ibex move only while fewer than 64 run (R128). -/
def startNextMove (s : State) : State :=
  match s.nextMoveToStart with
  | none => s
  | some m =>
    let s := (s.touch Dom.chamois).touch (Dom.mover 0)
    if isIbexMove m then
      (if countOf (fun x => isIbexMove x && x.running) s.ch.moves < 64 then s.startIbex m else s)
    else s.startMove m

/-- The end of a running move of a placed page, or of an Ibex page between ports, is called for (R189, R333). -/
def moveEnd (id : Nat) (s : State) : State :=
  match s.move? id with
  | none => s
  | some m => if m.kind = .evac ∨ !isIbexMove m then s.callFor true id else s

/-- The drain at the end of a commit is over, or has lasted as long as it may (R175, R198, R282, R303): BUSY clears. -/
def drainEnd (k : DrainKind) (s : State) : State :=
  match k with
  | .chCmd =>
    if s.ch.drain.all (fun w => !s.underWay w) ∨ s.ch.drainBy ≤ s.now then s.modCh fun c => { c with cmdBusy := false, drain := [] } else s
  | .window => if s.winDrained then s.modPl fun p => { p with winBusy := false } else s
  | .bar2 =>
    if s.up.bar2Drain.all (fun w => !s.underWay w) ∨ s.up.bar2From + 10000 ≤ s.now then s.modUp fun u => { u with bar2Busy := false, bar2Drain := [] } else s

end State

/-- PREFETCH (R194). -/
def execPrefetch (q : BitVec 16) (s : State) : Result := .next (s.whenClocked (s.done (s.startWork 0x20 runConv q.toNat)))

/-- ADVISE (R195, R196). -/
def execAdvise (q : BitVec 16) (s : State) : Result :=
  .next (s.whenClocked (s.done (s.startWork 0x21 runAdvise q.toNat)))

/-- SEG_COMMIT (R175). -/
def execSegCommit (s : State) : Result := .next (s.keep s.segCommitOp)

/-- REGION_COMMIT (R198). -/
def execRegionCommit (s : State) : Result := .next (s.keep s.regionCommitOp)

/-- COMMIT_DRAIN_END (R175). -/
def execCommitDrainEnd (kind : DrainKind) (s : State) : Result := .next (s.whenClocked (s.keep (s.drainEnd kind)))

/-- ATS_TRANSLATION_COMPLETION (R176, R179). -/
def execAtsTranslationCompletion (key : AtsKey) (answer : Option AtsAnswer) (s : State) : Result := .next (s.done (s.atsTranslationCompletionMsg key answer))

/-- PRG_CLOSE (R180). -/
def execPrgClose (group : Nat) (s : State) : Result := .next (s.whenClocked (s.keep (s.closeGroup group)))

/-- PRG_RESPONSE (R181). -/
def execPrgResponse (group : Nat) (code : PrgCode) (s : State) : Result := .next (s.done (s.prgResponseMsg group code))

/-- PRI_TIMEOUT (R181). -/
def execPriTimeout (group : Nat) (s : State) : Result := .next (s.whenClocked (s.done (s.prgTimeout group)))

/-- PRI_CTRL_WRITE (R181). -/
def execPriCtrlWrite (half : Half) (value : Word) (s : State) : Result := .next (s.done (s.priCtrlOp half value))

/-- ATS_INVALIDATE (R178). -/
def execAtsInvalidate (fn : BitVec 8) (pasid : Option (BitVec 20)) (base : Word) (log2 : BitVec 7) (s : State) : Result :=
  .next (s.done (s.atsInvalidateMsg fn pasid base log2))

/-- ATS_DRAIN_TIMEOUT (R178). -/
def execAtsDrainTimeout (fn : BitVec 8) (s : State) : Result := .next (s.whenClocked (s.done (s.invalTimeout fn.toNat)))

/-- FRAME_ZERO (R185). -/
def execFrameZero (pool : BitVec 4) (frame : Nat) (s : State) : Result := .next (s.whenClocked (s.done (s.frameZeroed pool.toNat frame)))

/-- CHAMOIS_SWEEP (R186, R187). -/
def execChamoisSweep (s : State) : Result := .next (s.whenClocked (s.keep s.sweep))

/-- MIGRATION_MOVE_START (R188). -/
def execMigrationMoveStart (s : State) : Result := .next (s.whenClocked (s.done s.startNextMove))

/-- MOVE_DONE (R189). -/
def execMoveDone (move : Nat) (s : State) : Result := .next (s.whenClocked (s.done (s.moveEnd move)))

/-- QUIET_END (R360): 100 ms after step 7 and ACTIVE, heat-loop moves begin. -/
def execQuietEnd (s : State) : Result :=
  .next (s.whenClocked (s.keep (if s.boot.loaded && s.ch.active then s.modCh fun c => { c with quiet := false } else s)))

end Sys2Proof.Machine
end

