-- ==== Sys2Proof/Machine/PeerRows.lean ====
section
/-! DEFINITION. The commands of Ilura Peer Link (spec/10). -/

namespace Sys2Proof.Machine

open State

/-! ### Packets (R286, R287) -/

/-- IPL_WRITE (R286). -/
def execIplWrite (m : IplPkt) (s : State) : Result := .next (s.done (s.iplWriteMsg m))

/-- IPL_READ (R286). -/
def execIplRead (m : IplPkt) (s : State) : Result := .next (s.done (s.iplReadMsg m))

/-- IPL_ATOMIC (R286). -/
def execIplAtomic (m : IplPkt) (s : State) : Result := .next (s.done (s.iplAtomicMsg m))

/-- IPL_REDUCE_WRITE (R294). -/
def execIplReduceWrite (m : IplPkt) (s : State) : Result := .next (s.done (s.iplReduceWriteMsg m))

/-- IPL_SYNC (R286). -/
def execIplSync (m : IplPkt) (s : State) : Result := .next (s.done (s.iplSyncMsg m))

/-- IPL_RDATA (R287). -/
def execIplRdata (m : IplPkt) (s : State) : Result := .next (s.done (s.iplRdataMsg m))

/-- IPL_ATOMIC_DATA (R287). -/
def execIplAtomicData (m : IplPkt) (s : State) : Result := .next (s.done (s.iplAtomicDataMsg m))

/-- IPL_CMP (R287). -/
def execIplCmp (m : IplPkt) (s : State) : Result := .next (s.done (s.iplCmpMsg m))

/-- IPL_NAK (R289). -/
def execIplNak (m : IplPkt) (s : State) : Result := .next (s.done (s.iplNakMsg m))

/-! ### Timers and commands -/

/-- ACK_TIMER (R287). -/
def execAckTimer (node : BitVec 8) (flow : BitVec 7) (s : State) : Result := .next (s.whenClocked (s.keep (s.ackTimer node.toNat flow.toNat)))

/-- RETX_TIMEOUT (R289). -/
def execRetxTimeout (node : BitVec 8) (flow : BitVec 7) (s : State) : Result := .next (s.whenClocked (s.done (s.plExpiry node.toNat flow.toNat)))

/-- RESYNC (R289). -/
def execResync (s : State) : Result := .next (s.done s.resyncCmd)

/-- WINDOW_COMMIT (R282). -/
def execWindowCommit (half : Half) (value : Word) (s : State) : Result := .next (s.keep (s.windowCmd half value))

/-- PL_CTRL_WRITE (R273). -/
def execPlCtrlWrite (half : Half) (value : Word) (s : State) : Result := .next (s.done (s.plCtrlCmd half value))

/-- IPL_CREDIT_RETURN (R284). -/
def execIplCreditReturn (port : Fin 4) (cls : BitVec 2) (credits : BitVec 12) (s : State) : Result := .next (s.keep (s.iplCreditReturnMsg port cls credits))

/-! ### Links (R270, R271, R435) -/

/-- LINK_BLOCK_FAIL (R271). -/
def execLinkBlockFail (port : Fin 4) (retrained : Bool) (s : State) : Result := .next (s.done (s.plBlockFail port.val retrained))

/-- LINK_DOWN (R271). -/
def execLinkDown (port : Fin 4) (s : State) : Result := .next (s.done (s.plLinkDown port.val))

/-- LINK_UP (R270). -/
def execLinkUp (port : Fin 4) (lanes : LinkLanes) (s : State) : Result := .next (s.done (s.plTrained port.val lanes.x8 lanes.high))

/-- OL_READY (R435). -/
def execOlReady (port : Fin 4) (s : State) : Result := .next (s.keep (s.plReady port.val))

/-- OL_LOS (R435). -/
def execOlLos (port : Fin 4) (lane : BitVec 3) (s : State) : Result := .next (s.done (s.plLos port.val lane.toNat))

/-- OL_FAULT (R435). -/
def execOlFault (port : Fin 4) (s : State) : Result := .next (s.done (s.plFault port.val))

end Sys2Proof.Machine
end

