-- ==== Sys2Proof/Machine/PortRows.lean ====
section
/-! DEFINITION. The commands of the downstream ports (spec/12). -/

namespace Sys2Proof.Machine

open State

/-! ### Slot power and bring-up (R325, R326, R333, R334) -/

/-- POWER_ON (R326). -/
def execPowerOn (p : Fin 8) (value : Word) (s : State) : Result := .next (s.keep (s.powerOnOp p value))

/-- EVACUATE (R333). -/
def execEvacuate (p : Fin 8) (value : Word) (s : State) : Result := .next (s.done (s.evacuateOp p value))

/-- POWER_OFF (R334). -/
def execPowerOff (p : Fin 8) (value : Word) (s : State) : Result := .next (s.done (s.powerOffOp p value))

/-- EVAC_DONE (R333). -/
def execEvacDone (p : Fin 8) (s : State) : Result := .next (s.whenClocked (s.done (s.evacDone p.val)))

/-- POWER_GOOD (R326). -/
def execPowerGood (p : Fin 8) (s : State) : Result := .next (s.keep (s.dnPowerGood p.val))

/-- RESET_HOLD_EXPIRY (R326). -/
def execResetHoldExpiry (p : Fin 8) (s : State) : Result := .next (s.whenClocked (s.keep (s.dnResetHold p.val)))

/-- DN_LINK_UP (R326). -/
def execDnLinkUp (p : Fin 8) (x : ExpanderId) (s : State) : Result := .next (s.keep (s.dnLinked p.val x))

/-- MEMORY_ACTIVE (R326). -/
def execMemoryActive (p : Fin 8) (size : Word) (decoderOk : Bool) (s : State) : Result :=
  .next (s.keep (s.dnActive p.val size.toNat decoderOk))

/-- BRINGUP_TIMEOUT (R326). -/
def execBringupTimeout (p : Fin 8) (at_ : BringStep) (s : State) : Result := .next (s.whenClocked (s.keep (s.dnTimeout p.val at_)))

/-! ### Slot events (R329 to R331) -/

/-- PRESENCE_CHANGE (R329). -/
def execPresenceChange (p : Fin 8) (present : Bool) (s : State) : Result := .next (s.done (s.dnPresence p.val present))

/-- POWER_FAULT (R331). -/
def execPowerFault (p : Fin 8) (s : State) : Result := .next (s.done (s.dnPowerFault p.val))

/-- DN_DL_DOWN (R331). -/
def execDnDlDown (p : Fin 8) (s : State) : Result := .next (s.done (s.dnDlDown p.val))

/-- ATTN_BUTTON (R330). -/
def execAttnButton (p : Fin 8) (s : State) : Result := .next (s.keep (s.attnButton p.val))

/-- BUTTON_WINDOW_EXPIRY (R330). -/
def execButtonWindowExpiry (p : Fin 8) (s : State) : Result := .next (s.whenClocked (s.done (s.buttonWindow p.val)))

/-! ### The expander (R323, R324, R328, R332) -/

/-- DN_CPL_TIMEOUT (R332). -/
def execDnCplTimeout (p : Fin 8) (id : Nat) (s : State) : Result := .next (s.whenClocked (s.done (s.dnCplTimeout p.val id)))

/-- EXPANDER_COMPLETION (R323). -/
def execExpanderCompletion (p : Fin 8) (id : Nat) (poison : Bool) (s : State) : Result := .next (s.done (s.expanderCompletionMsg p id poison))

/-- UNEXPECTED_S2M (R324). The message is discarded. -/
def execUnexpectedS2m (p : Fin 8) (s : State) : Result := .next (s.keep (s.unexpectedS2mMsg p))

/-- EXPANDER_MESSAGE (R328). -/
def execExpanderMessage (p : Fin 8) (s : State) : Result := .next (s.keep (s.expanderMessageMsg p))

/-- XACC_ACCESS (R328). -/
def execXaccAccess (half : Half) (value : Word) (s : State) : Result := .next (s.keep (s.xaccCmd half value))

/-- XACC_DONE (R328). -/
def execXaccDone (data : Word) (ok : Bool) (s : State) : Result := .next (s.keep (s.xaccDoneMsg data ok))

/-- POOL_ENABLE (R327). -/
def execPoolEnable (p : Fin 8) (chamois : Bool) (half : Half) (value : Word) (s : State) : Result :=
  .next (s.done (s.poolEnableOp p chamois half value))

/-! ### Equalisation (R336 to R338) -/

/-- EQ_PERIOD (R336). -/
def execEqPeriod (i : Fin 9) (margin : BitVec 8) (lane : BitVec 4) (corrected : Nat) (s : State) : Result :=
  .next (s.whenClocked (s.keep (s.eqPeriod i.val margin.toNat lane.toNat corrected)))

/-- EQ_QUIET_REDO (R337). -/
def execEqQuietRedo (p : Fin 8) (s : State) : Result := .next (s.whenClocked (s.keep (s.eqQuiet p.val)))

/-- EQ_REDO_END (R337). -/
def execEqRedoEnd (p : Fin 8) (best : Option (BitVec 2)) (inL0 : Bool) (s : State) : Result :=
  .next (s.done (s.eqEnd p.val (best.map (·.toNat)) inL0))

end Sys2Proof.Machine
end

