-- ==== Sys2Proof/Machine/PowerRows.lean ====
section
/-! DEFINITION. The commands of clocks and power (spec/14). -/

namespace Sys2Proof.Machine

open State

namespace State

/-- The PLL has locked again (R363): the divided clocks run, and what waited for them goes on. -/
def relockedOp (s : State) : State :=
  if s.ck.pll = .relocking then (s.modCk fun c => { c with pll := .locked }).redoWaits relockWait else s

/-- A wake has ended (R372, R383): what waited in the crossing is taken. -/
def wakeOver (d : Nat) (s : State) : State := if (s.dom d).waking then (s.wakeDone d).redoWaits d else s

end State

/-! ### Clocks and rails (R363 to R370, R436) -/

/-- PLL_UNLOCK (R363). -/
def execPllUnlock (s : State) : Result := .next (s.keep (s.pllUnlockOp))

/-- PLL_RELOCK (R363). -/
def execPllRelock (s : State) : Result := .next (s.done (s.relockedOp))

/-- PLL_FAIL (R363). -/
def execPllFail (s : State) : Result := .next (s.done (s.pllFailOp))

/-- LEVEL_CHANGE (R366). -/
def execLevelChange (half : Half) (value : Word) (s : State) : Result := .next (s.keep (s.levelCmd half value))

/-- VREG_ACK (R436). -/
def execVregAck (rail : BitVec 2) (s : State) : Result := .next (s.keep (s.vregAcked rail.toNat))

/-- VREG_ACK_FALL (R436). -/
def execVregAckFall (rail : BitVec 2) (s : State) : Result := .next (s.keep (s.vregAckFell rail.toNat))

/-- VREG_TIMEOUT (R367). -/
def execVregTimeout (rail : BitVec 2) (s : State) : Result := .next (s.keep (s.vregTimeoutOp rail.toNat))

/-- AVFS_PERIOD (R369). -/
def execAvfsPeriod (samples : List Slack) (s : State) : Result := .next (s.whenClocked (s.keep (s.avfs samples)))

/-- DROOP (R370). -/
def execDroop (domain : Fin 96) (slack : BitVec 8) (s : State) : Result := .next (s.whenClocked (s.keep (s.droopOp domain.val slack.toNat)))

/-! ### Domains (R372 to R378) -/

/-- IDLE_TIMER_EXPIRY (R372). -/
def execIdleTimerExpiry (d : Fin 96) (s : State) : Result := .next (s.keep (s.idleTimer d.val))

/-- NAP_TIMER_EXPIRY (R372). -/
def execNapTimerExpiry (d : Fin 96) (s : State) : Result := .next (s.keep (s.napTimer d.val))

/-- OFF_TIMER_EXPIRY (R372). -/
def execOffTimerExpiry (d : Fin 96) (s : State) : Result := .next (s.keep (s.offTimer d.val))

/-- ENTRY_COMMIT (R376). -/
def execEntryCommit (d : Fin 96) (s : State) : Result := .next (s.whenClocked (s.keep (s.entryCommitOp d.val)))

/-- SAVE_WRITE_DONE (R373). -/
def execSaveWriteDone (bank : BitVec 2) (ok : Bool) (s : State) : Result := .next (s.whenClocked (s.keep (s.saveDone bank.toNat ok)))

/-- DOMAIN_WAKE (R372). -/
def execDomainWake (d : Fin 96) (event : WakeEvent) (s : State) : Result :=
  .next (s.whenClocked (s.done (s.domainWakeOp d.val event.source event.final)))

/-- WAKE_COMPLETE (R372). -/
def execWakeComplete (d : Fin 96) (s : State) : Result := .next (s.whenClocked (s.done (s.wakeOver d.val)))

/-- WAKE_TIMEOUT (R378). -/
def execWakeTimeout (d : Fin 96) (s : State) : Result := .next (s.whenClocked (s.done (s.wakeTimeoutOp d.val)))

/-- PM_WAKE_INPUT (R375). -/
def execPmWakeInput (i : Fin 8) (change : WakeLevel) (s : State) : Result := .next (s.keep (s.wakeInput i.val change.level change.final))

/-- DBG_HOLD (R377). -/
def execDbgHold (d : Fin 96) (level : Bool) (s : State) : Result := .next (s.keep (s.dbgHoldOp d.val level))

/-- DOM_STAT_READ (R10). -/
def execDomStatRead (d : Fin 96) (s : State) : Result := .next (s.keep (s.domStatRead d))

end Sys2Proof.Machine
end

