-- ==== Sys2Proof/Machine/QueueRows.lean ====
section
/-! DEFINITION. The queue engine's commands (spec/02). -/

namespace Sys2Proof.Machine

open State

/-- REGISTER_WRITE (R10, R13): a BAR0 write of the PF. -/
def execRegisterWrite (place : BarPlace) (size : BitVec 7) (value : Word) (s : State) : Result :=
  .next (s.done (s.registerWriteOp (.registerWrite place size value) place.fn.toNat place.offset.toNat size.toNat value))

/-- QCFG_WRITE (R36). -/
def execQcfgWrite (k : BitVec 2) (half : Half) (value : Word) (s : State) : Result := .next (s.keep (s.qcfgOp k half value))

/-- ENABLE (R38). -/
def execEnable (s : State) : Result := .next (s.keep s.enableOp)

/-- DISABLE (R75). -/
def execDisable (s : State) : Result := .next (s.keep s.disableOp)

/-- DRAIN_END (R75). -/
def execDrainEnd (q : BitVec 16) (s : State) : Result := .next (s.whenClocked (s.keep (s.queueDrained q.toNat)))

/-- QUEUE_RESUME (R38). -/
def execQueueResume (s : State) : Result := .next (s.keep s.queueResumeOp)

/-- RESET_POINTERS (R38). -/
def execResetPointers (s : State) : Result := .next (s.keep s.resetPointersOp)

/-- SKIP_HEAD (R38). -/
def execSkipHead (s : State) : Result := .next (s.keep s.skipHeadOp)

/-- SQ_TAIL (R59). -/
def execSqTail (d : Doorbell) (s : State) : Result := .next (s.keep (s.bellOp .sqTail d))

/-- CQ_HEAD (R59). -/
def execCqHead (d : Doorbell) (s : State) : Result := .next (s.keep (s.bellOp .cqHead d))

/-- BATCH_SQ (R61). -/
def execBatchSq (d : Doorbell) (s : State) : Result := .next (s.keep (s.bellOp .batch d))

/-- CORE_DONE (R56). -/
def execCoreDone (d : Doorbell) (s : State) : Result := .next (s.keep (s.bellOp .coreDone d))

/-- TAIL_SHADOW_READ (R61). -/
def execTailShadowRead (q : BitVec 16) (s : State) : Result := .next (s.whenClocked (s.done (s.shadowRead q.toNat)))

/-- QUEUE_GRANT (R63): one grant of a bank. A grant to a queue wakes its bank (R383). -/
def execQueueGrant (bank : BitVec 2) (s : State) : Result :=
  let any := s.qe.queues.any fun e => decide (e.1 / 16384 = bank.toNat) && s.wantsGrant e.1 e.2
  .next (s.whenClocked (s.keep (if any then (s.touch (Dom.bank bank.toNat)).grantBank bank.toNat else s)))

/-- SLOT_FETCH (R41, R452): the read of a queue's next slots returns. -/
def execSlotFetch (q : BitVec 16) (s : State) : Result := .next (s.whenClocked (s.done (s.slotRead gzHeadCheck q.toNat)))

/-- STALE_RETRY (R73). -/
def execStaleRetry (q : BitVec 16) (s : State) : Result := .next (s.whenClocked (s.keep (s.staleRetryOp q.toNat)))

/-- DESCRIPTOR_COMPLETE (R69, R255). -/
def execDescriptorComplete (work : Nat) (s : State) : Result := .next (s.whenClocked (s.done (s.completeWork work)))

/-- DEFERRED_ENTRY_WRITE (R454). -/
def execDeferredEntryWrite (q : BitVec 16) (s : State) : Result := .next (s.whenClocked (s.done (s.writeDeferred q.toNat)))

/-- INT_TIME_EXPIRY (R47). -/
def execIntTimeExpiry (q : BitVec 16) (s : State) : Result := .next (s.whenClocked (s.keep (s.intTimeOp q.toNat)))

/-- FENCE_WATCHDOG (R71). -/
def execFenceWatchdog (s : State) : Result := .next (s.whenClocked (s.keep s.watchdog))

/-- CTR_VALUE_WRITE (R70). -/
def execCtrValueWrite (half : Half) (value : Word) (s : State) : Result := .next (s.keep (s.ctrValueCmd half value))

/-- CTR_CFG_WRITE (R65). -/
def execCtrCfgWrite (half : Half) (value : Word) (s : State) : Result := .next (s.keep (s.ctrCfgCmd half value))

/-- HTAB_BASE_WRITE (R51). -/
def execHtabBaseWrite (half : Half) (value : Word) (s : State) : Result := .next (s.keep (s.htabBaseCmd half value))

/-- INVAL (R51). -/
def execInval (s : State) : Result := .next (s.keep (s.invalCmd))

/-! ### Opcodes of the queue engine (R49 to R56) -/

/-- NOP (R49). -/
def execNop (q : BitVec 16) (s : State) : Result := .next (s.whenClocked (s.done (s.startRun 0x00 runNop q.toNat)))

/-- COPY (R49). -/
def execCopy (q : BitVec 16) (s : State) : Result := .next (s.whenClocked (s.done (s.startRun 0x01 runCopy q.toNat)))

/-- FILL (R49). -/
def execFill (q : BitVec 16) (s : State) : Result := .next (s.whenClocked (s.done (s.startRun 0x02 runFill q.toNat)))

/-- WRITE_INLINE (R49). -/
def execWriteInline (q : BitVec 16) (s : State) : Result := .next (s.whenClocked (s.done (s.startRun 0x03 runWriteInline q.toNat)))

/-- HANDLE_UPDATE (R52). -/
def execHandleUpdate (q : BitVec 16) (s : State) : Result := .next (s.whenClocked (s.done (s.startRun 0x04 runHandleUpdate q.toNat)))

/-- LAUNCH (R54, R55). -/
def execLaunch (q : BitVec 16) (s : State) : Result := .next (s.whenClocked (s.done (s.tryLaunch q.toNat)))

/-- DISPATCH_TAKEN (R432): the group takes the record on its channel. -/
def execDispatchTaken (g : BitVec 4) (s : State) : Result := .next (s.whenClocked (s.keep (s.offerTaken g.toNat)))

end Sys2Proof.Machine
end

