-- ==== Sys2Proof/Machine/Dispatch.lean ====
section
/-! DEFINITION. What each command does: one arm for each row of spec/opcode_table.json. -/

namespace Sys2Proof.Machine

/-- The effect of a command on everything but the queue. -/
def exec (i : Instr) (s : State) : Host.Outcome State Fault Refusal :=
  match i with
  | .registerWrite place size value => Sys2Proof.Machine.execRegisterWrite place size value s
  | .qcfgWrite k half value => Sys2Proof.Machine.execQcfgWrite k half value s
  | .enable => Sys2Proof.Machine.execEnable s
  | .disable => Sys2Proof.Machine.execDisable s
  | .drainEnd q => Sys2Proof.Machine.execDrainEnd q s
  | .queueResume => Sys2Proof.Machine.execQueueResume s
  | .resetPointers => Sys2Proof.Machine.execResetPointers s
  | .skipHead => Sys2Proof.Machine.execSkipHead s
  | .sqTail d => Sys2Proof.Machine.execSqTail d s
  | .cqHead d => Sys2Proof.Machine.execCqHead d s
  | .batchSq d => Sys2Proof.Machine.execBatchSq d s
  | .tailShadowRead q => Sys2Proof.Machine.execTailShadowRead q s
  | .coreDone d => Sys2Proof.Machine.execCoreDone d s
  | .queueGrant bank => Sys2Proof.Machine.execQueueGrant bank s
  | .slotFetch q => Sys2Proof.Machine.execSlotFetch q s
  | .staleRetry q => Sys2Proof.Machine.execStaleRetry q s
  | .descriptorComplete work => Sys2Proof.Machine.execDescriptorComplete work s
  | .deferredEntryWrite q => Sys2Proof.Machine.execDeferredEntryWrite q s
  | .intTimeExpiry q => Sys2Proof.Machine.execIntTimeExpiry q s
  | .fenceWatchdog => Sys2Proof.Machine.execFenceWatchdog s
  | .ctrValueWrite half value => Sys2Proof.Machine.execCtrValueWrite half value s
  | .ctrCfgWrite half value => Sys2Proof.Machine.execCtrCfgWrite half value s
  | .htabBaseWrite half value => Sys2Proof.Machine.execHtabBaseWrite half value s
  | .inval => Sys2Proof.Machine.execInval s
  | .nop q => Sys2Proof.Machine.execNop q s
  | .copy q => Sys2Proof.Machine.execCopy q s
  | .fill q => Sys2Proof.Machine.execFill q s
  | .writeInline q => Sys2Proof.Machine.execWriteInline q s
  | .handleUpdate q => Sys2Proof.Machine.execHandleUpdate q s
  | .launch q => Sys2Proof.Machine.execLaunch q s
  | .dispatchTaken g => Sys2Proof.Machine.execDispatchTaken g s
  | .convert q => Sys2Proof.Machine.execConvert q s
  | .reduce q => Sys2Proof.Machine.execReduce q s
  | .yxpCompress q => Sys2Proof.Machine.execYxpCompress q s
  | .yxpDecompress q => Sys2Proof.Machine.execYxpDecompress q s
  | .pieceDispatch u => Sys2Proof.Machine.execPieceDispatch u s
  | .pieceComplete u => Sys2Proof.Machine.execPieceComplete u s
  | .reduceWriteApply u => Sys2Proof.Machine.execReduceWriteApply u s
  | .moveJob move => Sys2Proof.Machine.execMoveJob move s
  | .ibEnable half value => Sys2Proof.Machine.execIbEnable half value s
  | .pageDemoteDone page => Sys2Proof.Machine.execPageDemoteDone page s
  | .pageFetchDone page => Sys2Proof.Machine.execPageFetchDone page s
  | .requestClose r => Sys2Proof.Machine.execRequestClose r s
  | .serveConfig q => Sys2Proof.Machine.execServeConfig q s
  | .openRequest q => Sys2Proof.Machine.execOpenRequest q s
  | .cancelRequest q => Sys2Proof.Machine.execCancelRequest q s
  | .sample q => Sys2Proof.Machine.execSample q s
  | .stepBuild => Sys2Proof.Machine.execStepBuild s
  | .step q => Sys2Proof.Machine.execStep q s
  | .rowHandout u => Sys2Proof.Machine.execRowHandout u s
  | .rowSampled u => Sys2Proof.Machine.execRowSampled u s
  | .tokenRecordWrite r => Sys2Proof.Machine.execTokenRecordWrite r s
  | .headRead r => Sys2Proof.Machine.execHeadRead r s
  | .ringPollExpiry r => Sys2Proof.Machine.execRingPollExpiry r s
  | .deadlineExpiry r => Sys2Proof.Machine.execDeadlineExpiry r s
  | .prefetch q => Sys2Proof.Machine.execPrefetch q s
  | .advise q => Sys2Proof.Machine.execAdvise q s
  | .segCommit => Sys2Proof.Machine.execSegCommit s
  | .regionCommit => Sys2Proof.Machine.execRegionCommit s
  | .commitDrainEnd kind => Sys2Proof.Machine.execCommitDrainEnd kind s
  | .atsTranslationCompletion key answer => Sys2Proof.Machine.execAtsTranslationCompletion key answer s
  | .prgClose group => Sys2Proof.Machine.execPrgClose group s
  | .prgResponse group code => Sys2Proof.Machine.execPrgResponse group code s
  | .priTimeout group => Sys2Proof.Machine.execPriTimeout group s
  | .priCtrlWrite half value => Sys2Proof.Machine.execPriCtrlWrite half value s
  | .atsInvalidate fn pasid base log2 => Sys2Proof.Machine.execAtsInvalidate fn pasid base log2 s
  | .atsDrainTimeout fn => Sys2Proof.Machine.execAtsDrainTimeout fn s
  | .frameZero pool frame => Sys2Proof.Machine.execFrameZero pool frame s
  | .chamoisSweep => Sys2Proof.Machine.execChamoisSweep s
  | .migrationMoveStart => Sys2Proof.Machine.execMigrationMoveStart s
  | .moveDone move => Sys2Proof.Machine.execMoveDone move s
  | .quietEnd => Sys2Proof.Machine.execQuietEnd s
  | .rdShared m => Sys2Proof.Machine.execRdShared m s
  | .rdOwn m => Sys2Proof.Machine.execRdOwn m s
  | .rdCur m => Sys2Proof.Machine.execRdCur m s
  | .rdOwnNodata m => Sys2Proof.Machine.execRdOwnNodata m s
  | .evictClean m => Sys2Proof.Machine.execEvictClean m s
  | .evictDirty m => Sys2Proof.Machine.execEvictDirty m s
  | .atomic m => Sys2Proof.Machine.execAtomic m s
  | .wrUc m => Sys2Proof.Machine.execWrUc m s
  | .wrNt m => Sys2Proof.Machine.execWrNt m s
  | .fence m => Sys2Proof.Machine.execFence m s
  | .rsvCheck m => Sys2Proof.Machine.execRsvCheck m s
  | .ntEntryTimeout port line => Sys2Proof.Machine.execNtEntryTimeout port line s
  | .rspI m => Sys2Proof.Machine.execRspI m s
  | .rspS m => Sys2Proof.Machine.execRspS m s
  | .rspFwdS m => Sys2Proof.Machine.execRspFwdS m s
  | .rspFwdF m => Sys2Proof.Machine.execRspFwdF m s
  | .rspFwdI m => Sys2Proof.Machine.execRspFwdI m s
  | .rspIWb m => Sys2Proof.Machine.execRspIWb m s
  | .rspFwdV m => Sys2Proof.Machine.execRspFwdV m s
  | .flushDone port agent slice => Sys2Proof.Machine.execFlushDone port agent slice s
  | .datWrite d => Sys2Proof.Machine.execDatWrite d s
  | .datSnoop d => Sys2Proof.Machine.execDatSnoop d s
  | .snoopTimeout slice tag agent => Sys2Proof.Machine.execSnoopTimeout slice tag agent s
  | .bullpenExpiry slice credit => Sys2Proof.Machine.execBullpenExpiry slice credit s
  | .memRd m => Sys2Proof.Machine.execMemRd m s
  | .memInv m => Sys2Proof.Machine.execMemInv m s
  | .memWr m => Sys2Proof.Machine.execMemWr m s
  | .memClnEvct m => Sys2Proof.Machine.execMemClnEvct m s
  | .memUnsupported k => Sys2Proof.Machine.execMemUnsupported k s
  | .biRsp line => Sys2Proof.Machine.execBiRsp line s
  | .biConflict line => Sys2Proof.Machine.execBiConflict line s
  | .snpData line => Sys2Proof.Machine.execSnpData line s
  | .snpInv line => Sys2Proof.Machine.execSnpInv line s
  | .snpCur line => Sys2Proof.Machine.execSnpCur line s
  | .hostFillData line grant data poison => Sys2Proof.Machine.execHostFillData line grant data poison s
  | .goWritePull line => Sys2Proof.Machine.execGoWritePull line s
  | .predReset => Sys2Proof.Machine.execPredReset s
  | .sfPredWrite half value => Sys2Proof.Machine.execSfPredWrite half value s
  | .preloadLock half value => Sys2Proof.Machine.execPreloadLock half value s
  | .unlock half value => Sys2Proof.Machine.execUnlock half value s
  | .flush half value => Sys2Proof.Machine.execFlush half value s
  | .flushContext half value => Sys2Proof.Machine.execFlushContext half value s
  | .dcCmdEnd => Sys2Proof.Machine.execDcCmdEnd s
  | .iplWrite m => Sys2Proof.Machine.execIplWrite m s
  | .iplRead m => Sys2Proof.Machine.execIplRead m s
  | .iplAtomic m => Sys2Proof.Machine.execIplAtomic m s
  | .iplReduceWrite m => Sys2Proof.Machine.execIplReduceWrite m s
  | .iplSync m => Sys2Proof.Machine.execIplSync m s
  | .iplRdata m => Sys2Proof.Machine.execIplRdata m s
  | .iplAtomicData m => Sys2Proof.Machine.execIplAtomicData m s
  | .iplCmp m => Sys2Proof.Machine.execIplCmp m s
  | .iplNak m => Sys2Proof.Machine.execIplNak m s
  | .ackTimer node flow => Sys2Proof.Machine.execAckTimer node flow s
  | .retxTimeout node flow => Sys2Proof.Machine.execRetxTimeout node flow s
  | .resync => Sys2Proof.Machine.execResync s
  | .windowCommit half value => Sys2Proof.Machine.execWindowCommit half value s
  | .linkBlockFail port retrained => Sys2Proof.Machine.execLinkBlockFail port retrained s
  | .linkDown port => Sys2Proof.Machine.execLinkDown port s
  | .linkUp port lanes => Sys2Proof.Machine.execLinkUp port lanes s
  | .olReady port => Sys2Proof.Machine.execOlReady port s
  | .olLos port lane => Sys2Proof.Machine.execOlLos port lane s
  | .olFault port => Sys2Proof.Machine.execOlFault port s
  | .plCtrlWrite half value => Sys2Proof.Machine.execPlCtrlWrite half value s
  | .configRequest fn reg access => Sys2Proof.Machine.execConfigRequest fn reg access s
  | .bar2Access offset len access => Sys2Proof.Machine.execBar2Access offset len access s
  | .bar2MapWrite half value => Sys2Proof.Machine.execBar2MapWrite half value s
  | .hdmCommit n base size skip ways lock => Sys2Proof.Machine.execHdmCommit n base size skip ways lock s
  | .hdmIoRequest requester pasid hpa len access => Sys2Proof.Machine.execHdmIoRequest requester pasid hpa len access s
  | .vfEnableSet => Sys2Proof.Machine.execVfEnableSet s
  | .vfEnableClear => Sys2Proof.Machine.execVfEnableClear s
  | .flr fn => Sys2Proof.Machine.execFlr fn s
  | .bmeClear fn => Sys2Proof.Machine.execBmeClear fn s
  | .d3hot fn => Sys2Proof.Machine.execD3hot fn s
  | .hotReset => Sys2Proof.Machine.execHotReset s
  | .dlDown => Sys2Proof.Machine.execDlDown s
  | .quiesceComplete fn => Sys2Proof.Machine.execQuiesceComplete fn s
  | .flrReadAbandon fn => Sys2Proof.Machine.execFlrReadAbandon fn s
  | .resumeFn fn => Sys2Proof.Machine.execResumeFn fn s
  | .discardFn fn => Sys2Proof.Machine.execDiscardFn fn s
  | .attach => Sys2Proof.Machine.execAttach s
  | .attachResume => Sys2Proof.Machine.execAttachResume s
  | .park => Sys2Proof.Machine.execPark s
  | .msixUnmask fn vector => Sys2Proof.Machine.execMsixUnmask fn vector s
  | .completionTimeout what => Sys2Proof.Machine.execCompletionTimeout what s
  | .l1IdleExpiry => Sys2Proof.Machine.execL1IdleExpiry s
  | .l0sEntry => Sys2Proof.Machine.execL0sEntry s
  | .ptmDialogue offset => Sys2Proof.Machine.execPtmDialogue offset s
  | .powerOn p value => Sys2Proof.Machine.execPowerOn p value s
  | .evacuate p value => Sys2Proof.Machine.execEvacuate p value s
  | .powerOff p value => Sys2Proof.Machine.execPowerOff p value s
  | .evacDone p => Sys2Proof.Machine.execEvacDone p s
  | .powerGood p => Sys2Proof.Machine.execPowerGood p s
  | .resetHoldExpiry p => Sys2Proof.Machine.execResetHoldExpiry p s
  | .dnLinkUp p x => Sys2Proof.Machine.execDnLinkUp p x s
  | .memoryActive p size decoderOk => Sys2Proof.Machine.execMemoryActive p size decoderOk s
  | .bringupTimeout p at_ => Sys2Proof.Machine.execBringupTimeout p at_ s
  | .presenceChange p present => Sys2Proof.Machine.execPresenceChange p present s
  | .powerFault p => Sys2Proof.Machine.execPowerFault p s
  | .attnButton p => Sys2Proof.Machine.execAttnButton p s
  | .buttonWindowExpiry p => Sys2Proof.Machine.execButtonWindowExpiry p s
  | .dnCplTimeout p id => Sys2Proof.Machine.execDnCplTimeout p id s
  | .expanderCompletion p id poison => Sys2Proof.Machine.execExpanderCompletion p id poison s
  | .unexpectedS2m p => Sys2Proof.Machine.execUnexpectedS2m p s
  | .expanderMessage p => Sys2Proof.Machine.execExpanderMessage p s
  | .xaccAccess half value => Sys2Proof.Machine.execXaccAccess half value s
  | .xaccDone data ok => Sys2Proof.Machine.execXaccDone data ok s
  | .poolEnable p chamois half value => Sys2Proof.Machine.execPoolEnable p chamois half value s
  | .eqPeriod k margin lane corrected => Sys2Proof.Machine.execEqPeriod k margin lane corrected s
  | .eqQuietRedo p => Sys2Proof.Machine.execEqQuietRedo p s
  | .eqRedoEnd p best inL0 => Sys2Proof.Machine.execEqRedoEnd p best inL0 s
  | .fundamentalReset por => Sys2Proof.Machine.execFundamentalReset por s
  | .pufRead response => Sys2Proof.Machine.execPufRead response s
  | .pllLock => Sys2Proof.Machine.execPllLock s
  | .arrayInitDone => Sys2Proof.Machine.execArrayInitDone s
  | .flashLoadRead responds octal reads => Sys2Proof.Machine.execFlashLoadRead responds octal reads s
  | .imageApply => Sys2Proof.Machine.execImageApply s
  | .keyDerive => Sys2Proof.Machine.execKeyDerive s
  | .configComplete => Sys2Proof.Machine.execConfigComplete s
  | .perstRelease => Sys2Proof.Machine.execPerstRelease s
  | .configLock => Sys2Proof.Machine.execConfigLock s
  | .flashRead half value => Sys2Proof.Machine.execFlashRead half value s
  | .flashProgram half value => Sys2Proof.Machine.execFlashProgram half value s
  | .flashErase half value => Sys2Proof.Machine.execFlashErase half value s
  | .flashCmdDone ok => Sys2Proof.Machine.execFlashCmdDone ok s
  | .enrol => Sys2Proof.Machine.execEnrol s
  | .entropyFail => Sys2Proof.Machine.execEntropyFail s
  | .getVersion => Sys2Proof.Machine.execGetVersion s
  | .getCapabilities => Sys2Proof.Machine.execGetCapabilities s
  | .negotiateAlgorithms => Sys2Proof.Machine.execNegotiateAlgorithms s
  | .getDigests => Sys2Proof.Machine.execGetDigests s
  | .getCertificate slot offset length => Sys2Proof.Machine.execGetCertificate slot offset length s
  | .challenge slot nonce => Sys2Proof.Machine.execChallenge slot nonce s
  | .getMeasurements index signed nonce => Sys2Proof.Machine.execGetMeasurements index signed nonce s
  | .keyExchange slot random exchange => Sys2Proof.Machine.execKeyExchange slot random exchange s
  | .spdmFinish session verify => Sys2Proof.Machine.execSpdmFinish session verify s
  | .heartbeat session => Sys2Proof.Machine.execHeartbeat session s
  | .keyUpdate session both => Sys2Proof.Machine.execKeyUpdate session both s
  | .endSession session => Sys2Proof.Machine.execEndSession session s
  | .keyProg session stream keySet tx sub key => Sys2Proof.Machine.execKeyProg session stream keySet tx sub key s
  | .kSetGo session stream keySet tx sub => Sys2Proof.Machine.execKSetGo session stream keySet tx sub s
  | .kSetStop session stream keySet tx sub => Sys2Proof.Machine.execKSetStop session stream keySet tx sub s
  | .query session stream => Sys2Proof.Machine.execQuery session stream s
  | .pllUnlock => Sys2Proof.Machine.execPllUnlock s
  | .pllRelock => Sys2Proof.Machine.execPllRelock s
  | .pllFail => Sys2Proof.Machine.execPllFail s
  | .levelChange half value => Sys2Proof.Machine.execLevelChange half value s
  | .vregAck rail => Sys2Proof.Machine.execVregAck rail s
  | .vregTimeout rail => Sys2Proof.Machine.execVregTimeout rail s
  | .avfsPeriod samples => Sys2Proof.Machine.execAvfsPeriod samples s
  | .droop domain slack => Sys2Proof.Machine.execDroop domain slack s
  | .idleTimerExpiry d => Sys2Proof.Machine.execIdleTimerExpiry d s
  | .napTimerExpiry d => Sys2Proof.Machine.execNapTimerExpiry d s
  | .offTimerExpiry d => Sys2Proof.Machine.execOffTimerExpiry d s
  | .entryCommit d => Sys2Proof.Machine.execEntryCommit d s
  | .saveWriteDone bank ok => Sys2Proof.Machine.execSaveWriteDone bank ok s
  | .domainWake d event => Sys2Proof.Machine.execDomainWake d event s
  | .wakeComplete d => Sys2Proof.Machine.execWakeComplete d s
  | .wakeTimeout d => Sys2Proof.Machine.execWakeTimeout d s
  | .pmWakeInput k change => Sys2Proof.Machine.execPmWakeInput k change s
  | .dbgHold d level => Sys2Proof.Machine.execDbgHold d level s
  | .domStatRead d => Sys2Proof.Machine.execDomStatRead d s
  | .errorDetected e => Sys2Proof.Machine.execErrorDetected e s
  | .pmFence half value => Sys2Proof.Machine.execPmFence half value s
  | .crossingRelease half value => Sys2Proof.Machine.execCrossingRelease half value s
  | .errRegParity blk => Sys2Proof.Machine.execErrRegParity blk s
  | .errInjectArm blk half value => Sys2Proof.Machine.execErrInjectArm blk half value s
  | .bind half value => Sys2Proof.Machine.execBind half value s
  | .quiesce half value => Sys2Proof.Machine.execQuiesce half value s
  | .quiesced => Sys2Proof.Machine.execQuiesced s
  | .contextResume half value => Sys2Proof.Machine.execContextResume half value s
  | .checkpoint half value => Sys2Proof.Machine.execCheckpoint half value s
  | .rebind half value => Sys2Proof.Machine.execRebind half value s
  | .restore half value => Sys2Proof.Machine.execRestore half value s
  | .contextRelease half value => Sys2Proof.Machine.execContextRelease half value s
  | .rbCtxWrite half value => Sys2Proof.Machine.execRbCtxWrite half value s
  | .record half value => Sys2Proof.Machine.execRecord half value s
  | .replay half value => Sys2Proof.Machine.execReplay half value s
  | .modeOff half value => Sys2Proof.Machine.execModeOff half value s
  | .recordEvent => Sys2Proof.Machine.execRecordEvent s
  | .replayRecord => Sys2Proof.Machine.execReplayRecord s
  | .divergeTimeout => Sys2Proof.Machine.execDivergeTimeout s
  | .crdInit port => Sys2Proof.Machine.execCrdInit port s
  | .crdReturn port snp => Sys2Proof.Machine.execCrdReturn port snp s
  | .dnDlDown p => Sys2Proof.Machine.execDnDlDown p s
  | .upLinkTrained speed width flit cxl slotPower => Sys2Proof.Machine.execUpLinkTrained speed width flit cxl slotPower s
  | .rdOwnNoDataGo line grant => Sys2Proof.Machine.execRdOwnNoDataGo line grant s
  | .firstPassEnd u => Sys2Proof.Machine.execFirstPassEnd u s
  | .iplCreditReturn port cls credits => Sys2Proof.Machine.execIplCreditReturn port cls credits s
  | .l1Exit => Sys2Proof.Machine.execL1Exit s
  | .porNAssert => Sys2Proof.Machine.execPorNAssert s
  | .rbCmdEnd ok => Sys2Proof.Machine.execRbCmdEnd ok s
  | .vregAckFall rail => Sys2Proof.Machine.execVregAckFall rail s

end Sys2Proof.Machine
end

