-- ==== Sys2Proof/WellFormed.lean ====
section
/-! DEFINITION. Which commands are well formed: the operands that a command's type leaves open and its rule does not. -/

namespace Sys2Proof

open Machine

/-- A value that a 32-bit access of one half carries has 32 bits (R13). -/
def halfFits (h : Half) (v : Word) : Bool :=
  match h with
  | .full => true
  | _ => decide (v.toNat < 2 ^ 32)

/-- A register write carries the command of its row in the bits `hi` to `lo`. -/
def carries (h : Half) (v : Word) (hi lo cmd : Nat) : Bool := halfFits h v && decide (bits (halfValue h v) hi lo = cmd)

/-- A doorbell's value fits the part that is written (R58). -/
def Doorbell.wf (d : Doorbell) : Bool :=
  match d.half with
  | some h => halfFits h d.value
  | none => true

/-- A BATCH_SQ doorbell is the one of its page (R57 Table 7). -/
def Doorbell.batchWf (d : Doorbell) : Bool := d.wf && decide (d.index = 0)

/-- The page of a translation lies in the 64-bit address space (R176). -/
def AtsKey.wf (k : AtsKey) : Bool := decide (k.page < 2 ^ 52)

/-- The range of an ATS answer has 4 KiB to 1 GiB and is aligned to its size (R176). -/
def AtsAnswer.wf (a : AtsAnswer) : Bool :=
  decide (12 ≤ a.log2.toNat ∧ a.log2.toNat ≤ 30) && decide (a.target.toNat % 2 ^ a.log2.toNat = 0)

/-- A packet holds at most 16 payload units (R277). -/
def IplPkt.wf (m : IplPkt) : Bool := decide (m.payload.length ≤ 16)

/-- A CXL.io access carries 1 to 4,096 bytes, and a write as many as it says (R197, R303). -/
def ioWf (len : BitVec 13) (data : Option (List Byte)) : Bool :=
  decide (1 ≤ len.toNat ∧ len.toNat ≤ 4096) && (match data with | some bs => decide (bs.length = len.toNat) | none => true)

/-- The data of an access to the HDM range (R197). -/
def HdmAccess.data : HdmAccess → Option (List Byte)
  | .write bs _ => some bs
  | _ => none

/-- An error occurrence names a status bit (R388). -/
def ErrEvent.wf (e : ErrEvent) : Bool := decide (e.bit.toNat < 48)

/-- A command is well formed. -/
def Instr.wf (i : Instr) : Bool :=
  match i with
  | .registerWrite _ size v => decide (size.toNat = 8) || (decide (1 ≤ size.toNat) && decide (v.toNat < 2 ^ 32)) || decide (8 < size.toNat)
  | .qcfgWrite _ h v | .ctrValueWrite h v | .ctrCfgWrite h v | .htabBaseWrite h v | .priCtrlWrite h v | .sfPredWrite h v
  | .windowCommit h v | .plCtrlWrite h v | .bar2MapWrite h v | .xaccAccess h v | .poolEnable _ _ h v | .levelChange h v
  | .errInjectArm _ h v | .rbCtxWrite h v | .ibEnable h v => halfFits h v
  | .sqTail d | .cqHead d | .coreDone d => d.wf
  | .batchSq d => d.batchWf
  | .preloadLock h v => carries h v 3 0 1
  | .unlock h v => carries h v 3 0 2
  | .flush h v => carries h v 3 0 3
  | .flushContext h v => carries h v 3 0 4
  | .powerOn _ v => carries .full v 2 0 1
  | .evacuate _ v => carries .full v 2 0 2
  | .powerOff _ v => carries .full v 2 0 3
  | .flashRead h v => carries h v 34 32 1
  | .flashProgram h v => carries h v 34 32 2
  | .flashErase h v => carries h v 34 32 3
  | .pmFence h v => carries h v 1 0 1
  | .crossingRelease h v => carries h v 1 0 2
  | .bind h v => carries h v 2 0 1
  | .quiesce h v => carries h v 2 0 2
  | .contextResume h v => carries h v 2 0 3
  | .checkpoint h v => carries h v 2 0 4
  | .restore h v => carries h v 2 0 5
  | .rebind h v => carries h v 2 0 6
  | .contextRelease h v => carries h v 2 0 7
  | .record h v => carries h v 1 0 1
  | .replay h v => carries h v 1 0 2
  | .modeOff h v => carries h v 1 0 0
  | .atsTranslationCompletion k a => k.wf && (match a with | some x => x.wf | none => true)
  | .atsInvalidate _ _ base n => decide (12 ≤ n.toNat ∧ n.toNat ≤ 64) && decide (base.toNat % 2 ^ n.toNat = 0)
  | .frameZero pool _ => decide (pool.toNat ≤ 8)
  | .snoopTimeout _ _ agent => decide (agent.toNat ≤ 16)
  | .iplWrite m | .iplRead m | .iplAtomic m | .iplReduceWrite m | .iplSync m | .iplRdata m | .iplAtomicData m | .iplCmp m | .iplNak m => m.wf
  | .bar2Access _ len access => ioWf len access.data
  | .hdmIoRequest _ _ _ len access => ioWf len access.data
  | .challenge _ nonce => decide (nonce.length = 32)
  | .getMeasurements _ signed nonce => decide (nonce.length = if signed then 32 else 0)
  | .keyExchange _ random exchange => decide (random.length = 32) && decide (exchange.length = 96)
  | .spdmFinish _ verify => decide (verify.length = 48)
  | .errorDetected e => e.wf
  | _ => true

end Sys2Proof
end

