-- ==== Sys2Proof/Safety.lean ====
section
/-! DEFINITION. What counts as a safe run: the block answers every command, and its memories stay in their canonical form. -/

namespace Sys2Proof.Machine

/-- The memories of a state are in canonical form: addresses strictly rising, no byte equal to what an unlisted address reads as. -/
def State.memWf (s : State) : Bool := Mem.wf s.mem && Mem.wf s.hostMem && Map.canon 0xFF s.boot.flash

/-- Every command that waits is well formed. -/
def State.pendingWf (s : State) : Bool := s.pending.all Instr.wf

/-- An answer that is a next state. -/
def Answers (r : Host.Outcome State Fault Refusal) : Prop := ∃ t, r = .next t

/-- A run of `k` steps from `s` stops nowhere. -/
def SafeFor (k : Nat) (s : State) : Prop := Answers (Host.Core.run Sys2Proof.core k s)

/-! ### How a statement says what a command does -/

/-- With the divided clocks running (R363), the command answers the state `t`. -/
def Nexts (c : Instr) (s t : State) : Prop := s.clocksStopped = false → exec c s = .next t

/-- With the divided clocks running (R363), the command brings the block to `u`; whatever it has set free then goes on before the next command
is taken, which is nothing where `u` is calm. -/
def Ends (c : Instr) (s u : State) : Prop :=
  s.clocksStopped = false → exec c s = .next (s.done u) ∧ (u.calm = true → exec c s = .next (s.keep u))

/-- The state after an operation of an engine has run: `ok` follows its answer, `fail` its failure; where it must wait, what it has begun
stands. -/
def After {α : Type} (r : Except Stop α × State) (ok : α → State → State) (fail : Nat → State → State) : State :=
  match r with
  | (.ok x, t) => ok x t
  | (.error (.fail st), t) => fail st t
  | (.error .wait, t) => t

/-- An access bound for domain `d` is taken at once (R383): the divided clocks run, and the domain is ACTIVE and not fenced. -/
abbrev State.Open (s : State) (d : Nat) : Prop := s.clocksStopped = false ∧ s.domReady d = true

/-- The block takes a write of the host to BAR0 or BAR4 of function `fn` at once: memory space is enabled (R302), the block is not in the
whole-block safe state (R399), and no earlier write still waits (R259). -/
abbrev State.HostOpen (s : State) (fn : Nat) : Prop := s.mse fn = true ∧ s.wholeSafe = false ∧ s.hostAhead = false

/-- A write of the register at BAR0 offset `off` is taken at once: the host's writes are, and it passes no crossing, or ones that are open. -/
abbrev State.OpenReg (s : State) (off : Nat) : Prop :=
  s.HostOpen 0 ∧ (s.regDomain off).all (fun d => decide (s.Open d)) = true

/-- A doorbell of origin `o` for page `page` is taken by its bank at once (R62): where it is the host's, the host's writes are taken, and the bank
is ACTIVE and not fenced. -/
abbrev State.BellOpen (s : State) (o : DbOrigin) (page : Nat) : Prop :=
  s.dbPageOf o = some page ∧ s.Open (Dom.bank (page / 256)) ∧
    (match o with | .pf _ => decide (s.HostOpen 0) | .vf fn _ => decide (s.HostOpen fn.toNat) | _ => true) = true

/-- Domain `d` is ACTIVE with no entry into a lower state in progress: an access of the block's own leaves it as it is. -/
abbrev State.Awake (s : State) (d : Nat) : Prop := (s.dom d).st = .active ∧ (s.dom d).entering = none

/-- A command of the batcher or of Ibex finds the Ibex domain awake, and no poisoned line in the structures of Ibex and the batcher. -/
abbrev State.IbexReady (s : State) : Prop := s.Awake Dom.ibex ∧ (s.ib.active = false ∨ s.poison = [])

/-- The power domains are in legal states (R371, R372, R377, R392): an entry goes one state deeper and no wake runs with it; a fenced
domain has neither an entry nor a wake; the counts are of 16 bits; and the always-on domain is ACTIVE and stays so. -/
def State.DomainsLegal (s : State) : Prop :=
  Map.rising s.pm.doms = true ∧
  (∀ d, (∀ t, (s.dom d).entering = some t → (s.dom d).waking = false ∧ State.depth t = State.depth (s.dom d).st + 1) ∧
    (s.isFenced d = true → (s.dom d).entering = none ∧ (s.dom d).waking = false) ∧
    (s.dom d).refused ≤ 0xFFFF ∧ (s.dom d).aborted ≤ 0xFFFF) ∧
  (s.dom 95).st = .active ∧ (s.dom 95).entering = none ∧ (s.dom 95).waking = false

end Sys2Proof.Machine
end

