-- ==== Sys2Proof/Certificates/Slice0/Obligations.lean ====
section
/-! DEFINITION. The statements for the provers: what each family of commands does, over every state; the order of the queue; the state after
reset; and the rules of formats, compression and places that hold for every value. -/

open Sys2Proof Sys2Proof.Machine

/-- A step with a command in front runs it on the block with the rest of the queue, every command of the table answers a next state with
that queue whatever the state, and an empty queue lets one cycle of the timestamp's clock pass: 1 ns, or 40 ns while the PLL is off; the
timestamp advances by that, or by half of it while a backward correction is being absorbed, and nothing else changes (the second is the
model's own choice, log entry 1). -/
def Obligations.StepTakesTheFront : Prop :=
  (∀ (c : Instr) (rest : List Instr) (s : State), s.pending = c :: rest → step s = exec c { s with pending := rest }) ∧
  (∀ (c : Instr) (s : State), ∃ t : State, exec c s = .next t ∧ t.pending = s.pending) ∧
  (∀ s : State, s.pending = [] →
    (s.ck.pll = .locked →
      (s.slew = 0 → step s = .next { s with now := s.now + 1 }) ∧
      (s.slew ≠ 0 → s.slew % 2 = 0 → step s = .next { s with slew := s.slew - 1 }) ∧
      (s.slew % 2 = 1 → step s = .next { s with slew := s.slew - 1, now := s.now + 1 })) ∧
    (s.ck.pll ≠ .locked →
      (s.slew = 0 → step s = .next { s with now := s.now + 40 }) ∧
      (40 ≤ s.slew → step s = .next { s with slew := s.slew - 40, now := s.now + 20 })))

/-- Commands are taken in the order in which they wait, one a step, and no command stops a run: after `k` steps the queue is what it was
without its first `k` commands. -/
def Obligations.CommandsInOrder : Prop :=
  ∀ (k : Nat) (s : State), ∃ t : State, Host.Core.run Sys2Proof.core k s = .next t ∧ t.pending = s.pending.drop k

/-- What waits stays well formed: a step answers, and if every command that waits is well formed before it, every one is after it. -/
def Obligations.WaitingCommandsStayWellFormed : Prop :=
  ∀ s : State, s.pendingWf = true → ∃ t : State, step s = .next t ∧ t.pendingWf = true ∧ t.pending = s.pending.tail

/-- After a fundamental reset (R340, R360, R404, R449): no command waits; every register holds its reset value, CFG_LOCK 0 and PM_DOM_CFG95
0 among them; every queue is DISABLED with its generation and its completion phase 1; context 0 is BOUND and every other FREE; every domain
is ACTIVE; clk_m runs at M2 and clk_x at X3 with zero trim; the timestamp is 0; no link is up; and no table or memory lists anything. -/
def Obligations.AfterReset : Prop :=
  let s := State.reset
  s.pendingWf = true ∧ s.memWf = true ∧ s.pending = [] ∧ s.now = 0 ∧ (∀ off, s.reg off = regReset off) ∧ s.locked = false ∧
  s.reg (Reg.PM_DOM_CFG + 8 * 95) = 0 ∧
  (∀ q, (s.queue q).st = .disabled ∧ (s.queue q).sqGen = 1 ∧ (s.queue q).cqPhase = true) ∧
  (s.ctxOf 0).st = .bound ∧ (∀ c, c ≠ 0 → (s.ctxOf c).st = .free) ∧ (∀ d, s.Awake d) ∧ s.ck.xLevel = 3 ∧ s.ck.mLevel = 2 ∧ s.ck.trims = [] ∧
  s.DomainsLegal ∧ s.up.linkUp = false ∧ (∀ i event, (s.ctr event i).valid = false) ∧ s.sf.entries = [] ∧ s.dc.lines = [] ∧ (∀ a n, s.readBytes a n = List.replicate n 0)

/-- REGISTER_WRITE (R10 to R13, R25, R259, R301, R302, R310): an access of the PF that is not an aligned one of 4 or 8 bytes inside the
register map, or finds Memory Space Enable clear, is an unsupported request; one of 8 bytes writes the register and one of 4 its half,
behind the host's earlier writes and once the register's domains are awake; one of a VF writes its MSI-X table. What a plain write leaves is
given bit by bit: bits that are RW, or RWL before configuration is locked, take the value, W1C bits written as 1 clear, W1S bits written as
1 set, and every other bit, and every bit of the other half, stays. -/
def Obligations.RegisterWrites : Prop :=
  (∀ (fn : BitVec 8) (off : BitVec 26) (size : BitVec 7) (v : Word) (s : State),
    let a := off.toNat
    let c : Instr := .registerWrite ⟨fn, off⟩ size v
    let aligned : Prop := size = 8 ∧ a % 8 = 0 ∨ size = 4 ∧ a % 4 = 0
    let waiting (d : Nat) : State := s.modPm fun p => { p with waits := p.waits ++ [{ dom := d, cmd := c, sel := s.reg Reg.QE_SEL }] }
    (fn = 0 →
      (s.mse 0 = false ∨ s.wholeSafe = true ∨ 0x1200000 ≤ a ∨ ¬ aligned → Ends c s (s.unsupported true)) ∧
      (s.mse 0 = true → s.wholeSafe = false → a < 0x1200000 →
        (∀ h x, (size = 8 ∧ a % 8 = 0 ∧ x = a ∧ h = Half.full) ∨ (size = 4 ∧ a % 8 = 0 ∧ x = a ∧ h = .low) ∨
            (size = 4 ∧ a % 8 = 4 ∧ x + 4 = a ∧ h = .high) →
          (s.OpenReg x → (∀ d ∈ State.predDomain x h v, s.Open d) → Ends c s (s.writeReg x h v)) ∧
          (∀ d, s.hostAhead = false → s.Open Dom.upCtl → s.unitDomain x = some d → s.domReady d = false → s.isFenced d = false →
            Ends c s (waiting d)) ∧
          (s.hostAhead = true → Ends c s (waiting State.ioWait))))) ∧
    (fn ≠ 0 → let n := fn.toNat
      (s.fnPresent n = false ∨ s.vfBarSize 16384 ≤ a ∨ ¬ aligned → Ends c s (s.unsupported true)) ∧
      (s.fnPresent n = true → a < s.vfBarSize 16384 → aligned → s.HostOpen n → s.Open Dom.upCtl →
        let h : Half := if size = 8 then .full else if a % 8 = 0 then .low else .high
        (a < 0x400 → Ends c s (s.msixWrite n (a / 8 * 8) h v)) ∧ (0x400 ≤ a → Ends c s s)))) ∧
  (∀ (off : Nat) (r : RegInfo) (h : Half) (v : Word) (s : State) (i : Nat), regInfo? off = some r → Map.rising s.regs = true → i < 64 →
    let new := (s.storeReg off h v).reg off
    let writes := bit (halfMask h) i
    let one := bit (halfValue h v) i
    let stores := bit r.rw i || (bit r.rwl i && !s.locked)
    (writes = false → bit new i = bit (s.reg off) i) ∧
    (writes = true → bit r.w1c i = false → bit r.w1s i = false → bit new i = if stores then one else bit (s.reg off) i) ∧
    (writes = true → stores = false → bit r.w1c i = true → bit r.w1s i = false → bit new i = (bit (s.reg off) i && !one)) ∧
    (writes = true → stores = false → bit r.w1c i = false → bit r.w1s i = true → bit new i = (bit (s.reg off) i || one)) ∧
    ∀ o, o ≠ off → (s.storeReg off h v).reg o = s.reg o)

/-- What the commands on queue records, counters, contexts, segments and clocks leave alone: from any state whatever, well formed and taken
at once, refused or made to wait, they change no byte of device or host memory, no poison, no line of the device cache and no entry of the
snoop filter. -/
def Obligations.MemoryIsLeftAlone : Prop :=
  ∀ (c : Instr) (s t : State), (
    (∃ k h v, c = .qcfgWrite k h v) ∨ c = .enable ∨ c = .resetPointers ∨ c = .skipHead ∨ c = .queueResume ∨ (∃ q, c = .staleRetry q) ∨
    (∃ h v, c = .ctrCfgWrite h v ∨ c = .htabBaseWrite h v ∨ c = .bind h v ∨ c = .quiesce h v ∨ c = .rbCtxWrite h v ∨ c = .levelChange h v) ∨
    c = .inval ∨ c = .quiesced ∨ c = .segCommit ∨ c = .regionCommit ∨ (∃ d on, c = .dbgHold d on) ∨ (∃ d, c = .domStatRead d)) →
    c.wf = true → exec c s = .next t →
    t.mem = s.mem ∧ t.hostMem = s.hostMem ∧ t.poison = s.poison ∧ t.dc.lines = s.dc.lines ∧ t.sf.entries = s.sf.entries ∧
      ∀ a n, t.readBytes a n = s.readBytes a n

/-- QCFG_WRITE (R36): a write of a fixed qword of the selected queue's record is stored, SERVE kept while configuration is locked, only
while the queue is DISABLED and its bank is not fenced; otherwise it is refused and changes the flag of QE_QCMD alone. ENABLE, DISABLE,
RESUME, RESET_POINTERS and SKIP_HEAD (R38, R75): each acts on the selected queue in the states that Table 2 gives it, and is refused in
every other, which changes the flags of QE_QCMD alone. DRAIN_END (R38, R75): a DRAINING queue with no started descriptor and no entry but
detached ones left becomes DISABLED, and the command that waited for it is over. -/
def Obligations.QueueConfiguration : Prop :=
  (∀ (k : BitVec 2) (h : Half) (v : Word) (s : State), s.OpenReg (Reg.QE_QCFG + 8 * k.toNat) →
    let q := s.selQueue
    let x := s.queue q
    (s.queueFenced q = false → x.st = .disabled →
      Nexts (.qcfgWrite k h v) s ((s.setQueue q (match k.toNat with
        | 0 => { x with sqBase := mergeHalf h x.sqBase v }
        | 1 => { x with cqBase := mergeHalf h x.cqBase v }
        | 2 => { x with tailShadow := mergeHalf h x.tailShadow v }
        | _ => { x with cfg := if s.locked then setBit (mergeHalf h x.cfg v) 54 (bit x.cfg 54) else mergeHalf h x.cfg v })).modQe
        fun e => { e with qcmdRefused := false })) ∧
    (s.queueFenced q = true ∨ x.st ≠ .disabled →
      Nexts (.qcfgWrite k h v) s (s.modQe fun e => { e with qcmdRefused := true }))) ∧
  (∀ s : State, s.OpenReg Reg.QE_QCMD →
    let q := s.selQueue
    let x := s.queue q
    let ok := s.modQe fun e => { e with qcmdRefused := false, qcmdBusy := none }
    let no := s.modQe fun e => { e with qcmdRefused := true, qcmdBusy := none }
    let still := { x with waitValue := 0, waitStart := 0, waitKind := .none, waitIndex := 0, reading := false, staleDue := none,
                          partialTail := none }
    (s.queueFenced q = false →
      (x.st = .disabled ∧ bits x.cfg 3 0 ≤ 12 ∧ bits x.cfg 7 4 ≤ 12 →
        Nexts .enable s (ok.setQueue q { still with st := if x.sqTail = x.sqHead then .idle else .fetching, staleRetries := 0 })) ∧
      (x.st ≠ .disabled ∧ x.st ≠ .draining →
        let u := ok.setQueue q { still with st := .draining, deferred := x.deferred.filter fun e => !e.detached }
        Nexts .disable s (s.keep (((u.endHead q St.ABORTED).forget (.slot q)).modQe fun e => { e with qcmdBusy := some q }))) ∧
      (x.st = .parked ∨ x.st = .error →
        Nexts .queueResume s (ok.setQueue q { still with st := .fetching, staleRetries := 0 })) ∧
      (x.st = .disabled →
        Nexts .resetPointers s (ok.setQueue q { x with sqHead := 0, sqTail := 0, cqHead := 0, cqTail := 0, sqGen := 1, cqPhase := true,
                                                        staleRetries := 0 })) ∧
      (x.st = .error →
        Nexts .skipHead s (ok.setQueue q { still.advance 1 with st := .fetching, staleRetries := 0 }))) ∧
    (s.queueFenced q = true → Nexts .enable s no ∧ Nexts .disable s no ∧ Nexts .queueResume s no ∧ Nexts .resetPointers s no ∧
      Nexts .skipHead s no) ∧
    (x.st ≠ .disabled → Nexts .enable s no ∧ Nexts .resetPointers s no) ∧
    (x.st = .disabled ∨ x.st = .draining → Nexts .disable s no) ∧
    (x.st ≠ .parked ∧ x.st ≠ .error → Nexts .queueResume s no) ∧
    (x.st ≠ .error → Nexts .skipHead s no)) ∧
  (∀ (q : BitVec 16) (s : State), (s.queue q.toNat).st = .draining → s.worksOf q.toNat = [] →
    ((s.queue q.toNat).deferred.all fun e => e.detached) = true →
    Nexts (.drainEnd q) s ((s.setQueue q.toNat { s.queue q.toNat with st := .disabled, deferred := [] }).modQe fun e =>
      { e with qcmdBusy := if e.qcmdBusy = some q.toNat then none else e.qcmdBusy }))

/-- SQ_TAIL and CQ_HEAD (R57 to R59, R62, R72), of every origin: a doorbell of a size that the page refuses is an unsupported request of the
host, one that fails a check of R59 is discarded with the bit of the first that applies, and so is a write of the upper half; one that
passes them completes, and moves the queue's tail, which starts the fetch of an IDLE queue whose context is not held and marks one in
IDLE_PENDING, or its completion head; one that would move it outside the ring or back is discarded with its error; and in a replay one of
anything but the batcher is discarded and counted. BATCH_SQ and TAIL_SHADOW_READ (R58, R61), of every origin: a batched ring asks for the
tail shadow of each queue of its mask, in rising order, a 32-bit write of either half with the other half 0, and discards with its error
what a check of R59 applies to; what is read then rings the queue as an SQ_TAIL doorbell would, and a read that fails discards the ring with
DB_RANGE and the shadow's address. -/
def Obligations.Doorbells : Prop :=
  (∀ (d : Doorbell) (page : Nat) (s : State), s.BellOpen d.origin page → s.rp.recording = false →
    let q := 64 * page + d.index.toNat
    let x := s.queue q
    let v := bits d.value 15 0
    (∀ (k : DbKind) (c : Instr), (k, c) ∈ [(DbKind.sqTail, Instr.sqTail d), (.cqHead, .cqHead d)] →
      (d.half = none → exec c s = .next (s.keep (s.dbBadSize d.origin))) ∧
      (∀ h i, d.half = some h → s.dbCheck d.origin k page q = some i → exec c s = .next (s.keep (s.dbError i q))) ∧
      (d.half = some .high → s.dbCheck d.origin k page q = none → exec c s = .next (s.keep (s.dbError Err.QE_DB_RANGE q)))) ∧
    (d.half = some .full ∨ d.half = some .low →
      (s.dbCheck d.origin .sqTail page q = none → s.rp.replaying = true → (∀ p, d.origin ≠ .batcher p) →
        exec (.sqTail d) s = .next (s.keep (s.bump Reg.RP_STAT_DISCARDED))) ∧
      (s.dbCheck d.origin .sqTail page q = none → s.rp.replaying = false →
        (v < x.slots → x.unfetched ≤ (v + x.slots - x.sqHead) % x.slots →
          exec (.sqTail d) s = .next (s.setQueue q { x with
            sqTail := v, dbPending := x.dbPending || decide (x.st = .idlePending),
            st := if x.st = .idle ∧ s.ctxHeld x.ctx = false then .fetching else x.st })) ∧
        (x.slots ≤ v → exec (.sqTail d) s = .next (s.keep (s.dbError Err.QE_DB_RANGE q))) ∧
        (v < x.slots → (v + x.slots - x.sqHead) % x.slots < x.unfetched →
          exec (.sqTail d) s = .next (s.keep (s.dbError Err.QE_DB_REGRESS q)))) ∧
      (s.dbCheck d.origin .cqHead page q = none → s.rp.replaying = false →
        (v < x.entries → (v + x.entries - x.cqHead) % x.entries ≤ x.unread →
          exec (.cqHead d) s = .next (s.setQueue q { x with cqHead := v })) ∧
        (x.entries ≤ v → exec (.cqHead d) s = .next (s.keep (s.dbError Err.QE_DB_RANGE q))) ∧
        (v < x.entries → x.unread < (v + x.entries - x.cqHead) % x.entries →
          exec (.cqHead d) s = .next (s.keep (s.dbError Err.QE_DB_REGRESS q)))))) ∧
  ((∀ (d : Doorbell) (page : Nat) (h : Half) (s : State), s.BellOpen d.origin page → d.half = some h → s.rp.replaying = false →
    let qs := ((List.range 64).filter fun i => bit (halfValue h d.value) i).map fun i => 64 * page + i
    (∀ q ∈ qs, s.dbCheck d.origin .batch page q = none ∧ (s.queue q).tailShadow ≠ 0) →
    exec (.batchSq d) s = .next (s.modQe fun e => { e with shadows := e.shadows ++ qs })) ∧
  (∀ (d : Doorbell) (page i : Nat) (h : Half) (s : State), s.BellOpen d.origin page → d.half = some h → i < 64 →
    halfValue h d.value = w64 (2 ^ i) →
    let q := 64 * page + i
    (∀ b, s.dbCheck d.origin .batch page q = some b → exec (.batchSq d) s = .next (s.keep (s.dbError b q))) ∧
    (s.dbCheck d.origin .batch page q = none → (s.queue q).tailShadow = 0 →
      exec (.batchSq d) s = .next (s.keep (s.dbError Err.QE_DB_RANGE q)))) ∧
  (∀ (q : BitVec 16) (s : State), q.toNat ∈ s.qe.shadows → s.clocksStopped = false →
    let read (t : State) : State := (t.forget (.shadow q.toNat)).modQe fun e => { e with shadows := e.shadows.erase q.toNat }
    let a := (s.queue q.toNat).tailShadow
    let r := (engRead (s.queueWho q.toNat (.shadow q.toNat)) a 8).exec s
    (∀ bs t, r = (.ok bs, t) → let v := bits (leWord bs) 15 0
      exec (.tailShadowRead q) s = .next (s.done (((read t).dbRecord 2 (.pf 0) q.toNat v 0).ringTail q.toNat v))) ∧
    (∀ st t, r = (.error (.fail st), t) →
      exec (.tailShadowRead q) s = .next (s.done (((read t).dbError Err.QE_DB_RANGE q.toNat).setReg (Reg.errAddr Reg.QE) a))) ∧
    (∀ t, r = (.error .wait, t) → exec (.tailShadowRead q) s = .next (s.done t))) ∧
  (∀ (q : BitVec 16) (s : State), q.toNat ∉ s.qe.shadows → s.clocksStopped = false → exec (.tailShadowRead q) s = .next (s.done s)))

/-- QUEUE_GRANT, SLOT_FETCH and STALE_RETRY (R41, R42, R43, R63, R72, R73, R452, R453). With one queue of a bank to serve, a grant reads its
tail again, reads its next slot, marks that it has reached its tail, or reserves a completion place for its head, which ends at once where a
check has failed; the credits of the classes stay. A slot whose generation is the queue's is checked and becomes the head with the three
behind it where it is extended; one whose generation is not is fetched again after 256 ns, doubled with each retry; a tail within an
extended descriptor counts as reached; and a slot that cannot be read puts the queue in ERROR with the slot's address captured. -/
def Obligations.HeadsAreFetched : Prop :=
  (∀ (b : BitVec 2) (s : State) (q : Nat), q / 16384 = b.toNat →
    (s.qe.queues.filter fun e => decide (e.1 / 16384 = b.toNat) && s.wantsGrant e.1 e.2) = [(q, s.queue q)] →
    s.isFenced (Dom.bank b.toNat) = false → s.Awake (Dom.bank b.toNat) →
    let v := s.queue q
    let k := b.toNat * 4
    let credit (m : NMap Int) : NMap Int :=
      (List.range 4).foldl (fun m c => Map.put 0 (k + c) (if c = v.cls then Map.getD 0 (k + c) s.qe.wrrCredit else 0) m) m
    let u := s.modQe fun e => { e with wrrCredit := credit e.wrrCredit, wrrLast := Map.put 0 (k + v.cls) (q + 1) e.wrrLast }
    (v.st = .idlePending → Nexts (.queueGrant b) s (u.setQueue q
      (if (v.sqTail ≠ v.sqHead ∧ v.partialTail ≠ some v.sqTail) ∨ v.dbPending = true then { v with st := .fetching } else { v with st := .idle }))) ∧
    (v.st = .fetching → v.head = none → v.sqTail ≠ v.sqHead → Nexts (.queueGrant b) s (u.setQueue q { v with reading := true })) ∧
    (v.st = .fetching → v.head = none → v.sqTail = v.sqHead →
      Nexts (.queueGrant b) s (u.setQueue q { v with st := .idlePending, dbPending := false })) ∧
    (∀ h, v.st = .fetching → v.head = some h →
      let g := u.setQueue q { v with reserved := v.reserved + 1, head := some { h with granted := true } }
      (h.preset = none → Nexts (.queueGrant b) s g) ∧
      (∀ st, h.preset = some st → Nexts (.queueGrant b) s (s.keep (g.takeHead q h .ended st))))) ∧
  (∀ (q : BitVec 16) (s : State), let v := s.queue q.toNat
    v.reading = true → v.st = .fetching →
    let k := s.queueWho q.toNat (.slot q.toNat)
    let gone (t : State) : State := t.forget (.slot q.toNat)
    let failed (i st : Nat) (t : State) : State := (gone t).slotFailed q.toNat st i
    let take (v : Queue) (d : Desc) (t : State) : State :=
      let c := (gone t).headCheck v d (gzHeadCheck d)
      let h : Head := { desc := d, slot := v.sqHead, preset := c.1, noSig := c.2, waited := false, granted := false }
      let x := { v.advance (if dExt d = true then 4 else 1) with head := some h, reading := false, partialTail := none }
      (((gone t).setQueue q.toNat x).rpEvent 0x02 0 q.toNat (w64 v.sqHead) 0 (some (d, dExt d))).beginWait q.toNat
    Ends (.slotFetch q) s (After ((engRead k (v.sqBase + w64 (64 * (v.sqHead % v.slots))) 64).exec s) (fun bs t =>
      let d := State.slotsDesc bs
      if dGen d ≠ v.sqGen then (gone t).staleFetch q.toNat
      else
        let v := { v with staleRetries := 0 }
        let t := t.setQueue q.toNat v
        if dExt d = false then take v d t
        else if v.unfetched < 4 then ((gone t).setQueue q.toNat { v with reading := false, partialTail := some v.sqTail }).reachTail q.toNat
        else match State.readSlots k v [1, 2, 3] t with
        | (.ok more, u) => take v (State.slotsDesc (bs ++ more)) u
        | (.error (.fail st, i), u) => failed i st u
        | (.error (.wait, _), u) => u) (failed 0))) ∧
  (∀ (q st i : Nat) (t : State), let v := t.queue q
    let n := (v.sqHead + i) % v.slots
    ((t.slotFailed q st i).queue q).st = .error ∧
    t.slotFailed q st i = ((t.setQueue q { v with st := .error, reading := false, staleDue := none }).setReg (Reg.errAddr Reg.QE)
      (v.sqBase + w64 (64 * n))).deferEntry q { status := st, slot := some n, cmdId := 0, result := 0, irq := false, detached := false } ∧
    (v.staleRetries < 8 → t.staleFetch q = t.setQueue q
      { v with staleRetries := v.staleRetries + 1, staleDue := some (t.now + 256 * 2 ^ v.staleRetries), reading := false }) ∧
    (8 ≤ v.staleRetries → ((t.staleFetch q).queue q).st = .error)) ∧
  (∀ (q : BitVec 16) (s : State), let v := s.queue q.toNat
    v.staleDue ≠ none → v.st = .fetching → s.ctxHeld v.ctx = false →
    Nexts (.staleRetry q) s (s.setQueue q.toNat { v with staleDue := none, reading := true }))

/-- DESCRIPTOR_COMPLETE and DEFERRED_ENTRY_WRITE (R43, R45, R52, R69, R255, R454): ended work whose writes are all performed applies its
signal and writes its entry, with the failure of a write where it had none of its own; then its place is free. The entries of a
HANDLE_UPDATE reach the cache then. An entry that has no place reserved is written once the ring has room. An entry that cannot be written
yet waits, and nothing is lost. A write of an entry that fails, at once or once it is performed, sets CQ_WRITE with the address.
INT_TIME_EXPIRY and FENCE_WATCHDOG (R47, R71): a queue's interrupt is sent INT_TIME after its first entry not signalled, and both coalescing
counts restart; the watchdog parks a queue that waits longer than the limit with FENCE_TIMEOUT, unless the queues it waits for form a cycle,
and does nothing while its limit is 0 or before step 7 of power-up (R340). -/
def Obligations.CompletionsAndTimers : Prop :=
  ((∀ (id : Nat) (s : State) (w : Work), s.work? id = some w → w.phase = .ended → s.isQuiesced id = false → (s.postedOf (.work id)).1 = 0 →
    let lost := (s.postedOf (.work id)).2
    let c := if dOpcode w.desc = 0x04 ∧ w.status = 0 ∧ w.acc = 0 then s.handlesUpdated w lost.isSome else s
    let r := c.signalAt w.desc w.ctx (some w.q) (if w.status = 0 then lost.getD 0 else w.status) w.noSig
    let y := { w with status := r.1, noSig := true, acc := 1 }
    let u := (r.2.modSf fun f => { f with posted := f.posted.filter (fun p => p.who ≠ .work id) }).setWork y
    let e : CqEntry := { status := r.1, slot := none, cmdId := dCmdId w.desc, result := w.result, irq := dIrq w.desc, detached := false }
    let fin (s : State) : State :=
      ((s.updQueue w.q fun v => { v with reserved := v.reserved - 1, lastStatus := r.1 }).dropWork y).rpEvent 0x04 0 w.q
        (w64 (dCmdId w.desc) ||| fld r.1 16) w.result none
    let x := u.writeEntry w.q e
    Ends (.descriptorComplete id) s (if dQuiet w.desc = true ∧ r.1 = 0 then fin u else if x.1 = true then fin x.2 else x.2)) ∧
  (∀ (q : BitVec 16) (s : State) (e : CqEntry) (rest : List CqEntry), (s.queue q.toNat).deferred = e :: rest → 0 < (s.queue q.toNat).room →
    let r := s.writeEntry q.toNat e
    Ends (.deferredEntryWrite q) s (if r.1 = true then (r.2.updQueue q.toNat fun v => { v with deferred := rest }).rpEvent 0x04 0 q.toNat
      (w64 e.cmdId ||| fld e.status 16) e.result none else r.2)) ∧
  (∀ (q : Nat) (e : CqEntry) (s : State), let v := s.queue q
    let w := Waiter.entry q v.cqTail
    let a := v.cqBase + w64 (16 * v.cqTail)
    s.writeEntry q e = match (engWrite (s.queueWho q w) a (State.entryBytes v.cqPhase q (e.slot.getD v.sqHead) e)).exec s with
      | (.ok (), t) => (true, (t.forgetReads w).entryWritten q e)
      | (.error (.fail _), t) => (true, ((t.raise Reg.QE Err.QE_CQ_WRITE (Capture.ctxAddr a true q (t.queue q).ctx)).forget w).entryWritten q e)
      | (.error .wait, t) => (false, t)) ∧
  (∀ (q place : Nat) (p : Posted) (s : State), let w := Waiter.entry q place
    (s.sf.posted.find? fun p => decide (p.who = w)) = some p →
    (p.n ≠ 0 → s.entryPerformed q place = s) ∧
    (p.n = 0 → p.failed = none → s.entryPerformed q place = s.forget w) ∧
    (p.n = 0 → p.failed ≠ none → s.entryPerformed q place = (s.forget w).raise Reg.QE Err.QE_CQ_WRITE
      (Capture.ctxAddr ((s.queue q).cqBase + w64 (16 * place)) true q (s.queue q).ctx)))) ∧
  ((∀ (q : BitVec 16) (s : State), let v := s.queue q.toNat
    v.coalDue ≠ none → s.queueFenced q.toNat = false →
    (v.irqEn = true → Nexts (.intTimeExpiry q) s
      (s.keep ((s.setQueue q.toNat { v with coalCount := 0, coalDue := none }).sendVector v.fn v.vector))) ∧
    (v.irqEn = false → Nexts (.intTimeExpiry q) s (s.setQueue q.toNat { v with coalDue := none }))) ∧
  (∀ s : State, s.regBits Reg.QE_CTRL 63 48 = 0 ∨ s.boot.loaded = false → Nexts .fenceWatchdog s s) ∧
  (∀ (s : State) (q : Nat), s.regBits Reg.QE_CTRL 63 48 ≠ 0 → s.rp.replaying = false → s.boot.loaded = true →
    (s.qe.queues.filter fun e => s.overdue e.2 && !s.isFenced (Dom.bank (e.1 / 16384))) = [(q, s.queue q)] →
    s.walkFrom q 16 q [q] = none →
    Nexts .fenceWatchdog s (s.keep ((s.parkQueue St.FENCE_TIMEOUT q).raise Reg.QE Err.QE_FENCE_TIMEOUT
      { Capture.none with cls := 2, index := q, ctx := some (s.queue q).ctx }))))

/-- CTR_VALUE_WRITE and CTR_CFG_WRITE (R65, R66, R70): a write of a fence counter's value is a SET signal, one of an event counter's value
is clamped to what its mode holds and releases its waiters; a write of the configuration stores its fields and clears the flags written as
1. A counter of a fenced bank ignores both (R455). HTAB_BASE_WRITE and INVAL (R51): a new table base, or INVAL, drops every cached handle
entry of that context and of no other, for what starts from then on: descriptors that have started keep those they had. -/
def Obligations.CountersAndHandleTables : Prop :=
  (∀ (h : Half) (v : Word) (s : State), s.OpenReg Reg.QE_CTR_VALUE → s.OpenReg Reg.QE_CTR_CFG →
    let event := s.regBit Reg.QE_SEL 30
    let i := s.regBits Reg.QE_SEL 29 16
    let c := s.ctr event i
    let n := (mergeHalf h (w64 c.value) v).toNat
    (s.ctrFenced i = true → Nexts (.ctrValueWrite h v) s s ∧ Nexts (.ctrCfgWrite h v) s s) ∧
    (s.ctrFenced i = false → event = false → Nexts (.ctrValueWrite h v) s (s.keep (s.applySignal false i 0 n false none))) ∧
    (s.ctrFenced i = false → event = true →
      Nexts (.ctrValueWrite h v) s
        (s.keep ((s.setCtr true i { c with value := min n (if c.mode = 1 ∨ c.mode = 2 then 1 else 0xFFFF) }).releaseWaiters true i))) ∧
    (s.ctrFenced i = false → (∀ e ∈ s.qe.queues, e.2.st ≠ .waiting) →
      let w := mergeHalf h (c.cfgWord 0) v
      let one := halfValue h v
      Nexts (.ctrCfgWrite h v) s (s.setCtr event i
        { c with error := c.error && !bit one 35, regress := c.regress && !bit one 34, overflow := c.overflow && !bit one 33,
                 prodValid := bit w 32, producer := bits w 31 16, mode := bits w 14 13, valid := bit w 12, owner := bits w 11 0 }))) ∧
  (∀ (h : Half) (v : Word) (s : State), s.OpenReg Reg.QE_CTX_HTAB →
    let c := s.regBits Reg.QE_SEL 43 32
    let old := Map.getD 0 c s.qe.htab
    let new := mergeHalf h old v &&& fieldMask 63 16
    let put := s.modQe fun e => { e with htab := Map.put 0 c new e.htab }
    let drop (t : State) : State := (t.keepHandles c).modQe fun e => { e with handles := e.handles.filter fun e => !decide (e.1 / 4096 = c) }
    (new ≠ old ∨ bit (halfValue h v) 0 = true → Nexts (.htabBaseWrite h v) s (drop put)) ∧
    (new = old → bit (halfValue h v) 0 = false → Nexts (.htabBaseWrite h v) s put) ∧
    Nexts .inval s (drop s) ∧
    (∀ x ∈ s.qe.works, x.ctx ≠ c → x ∈ (s.keepHandles c).qe.works))

/-- NOP, COPY, FILL, WRITE_INLINE, HANDLE_UPDATE and PREFETCH (R43, R49, R52, R194): the granted head of the queue leaves it as started
work. When its operation answers, the work ends with SUCCESS and that RESULT; when the operation fails, with its status; when it must wait,
the work runs on. -/
def Obligations.EngineOperations : Prop :=
  (∀ (op : Nat) (c : BitVec 16 → Instr) (f : Who → Work → M Word),
    (op, c, f) ∈ [((0x00 : Nat), Instr.nop, runNop), (0x01, Instr.copy, runCopy), (0x02, Instr.fill, runFill),
      (0x03, Instr.writeInline, runWriteInline), (0x04, Instr.handleUpdate, runHandleUpdate)] →
    ∀ (q : BitVec 16) (s : State) (h : Head), s.headFor q.toNat op = some h →
      let w := s.newWork q.toNat h .running 0
      let b := s.takeHead q.toNat h .running 0
      Ends (c q) s (After ((f (b.workWho w) w).exec b)
        (fun r t => (t.dropGot (.work w.id)).endWork w.id St.SUCCESS r)
        (fun st t => (t.dropGot (.work w.id)).endWork w.id st (w64 (t.workNext w.id))))) ∧
  (∀ (q : BitVec 16) (s : State) (h : Head), s.headFor q.toNat 0x20 = some h →
    let w := s.newWork q.toNat h .running 0
    let b := s.takeHead q.toNat h .running 0
    let t := After ((runPrefetch (b.workWho w) w).exec b)
      (fun r t => (t.dropGot (.work w.id)).endWork w.id St.SUCCESS r)
      (fun st t => (t.dropGot (.work w.id)).endWork w.id st (w64 (t.workNext w.id)))
    Ends (.prefetch q) s (if (t.work? w.id).all (fun x => decide (x.phase ≠ .running)) = true then t.gzRelease (.work w.id) else t))

/-- LAUNCH, DISPATCH_TAKEN and CORE_DONE (R50, R53 to R56, R432): an unpatched LAUNCH is offered to its queue's core group once its PROGRAM
is found usable, and one with a bad form ends with FORMAT_ERROR; a patched LAUNCH waits while its buffer is in use, and is offered once its
patches are performed; a record that is taken lets the next one be offered; and the report of a group ends the oldest dispatch of its queue
with that CMD_ID, with the report's status and RESULT. -/
def Obligations.LaunchesAndReports : Prop :=
  (∀ (q : BitVec 16) (s : State) (h : Head), s.headFor q.toNat 0x05 = some h →
    let w := s.newWork q.toNat h .running 0
    let b := (s.takeHead q.toNat h .running 0).setWork w
    (launchBad h.desc = true → Ends (.launch q) s (b.endWork w.id St.FORMAT_ERROR 0)) ∧
    (launchBad h.desc = false → patchPoints h.desc = [] →
      Ends (.launch q) s (After ((programCheck (b.workWho w) h.desc).exec b) (fun _ t => t.offer w) (fun st t => t.endWork w.id st 0))) ∧
    (launchBad h.desc = false → patchPoints h.desc ≠ [] →
      Ends (.launch q) s (After ((launchKey (s.queueWho q.toNat (.slot q.toNat)) h.desc).exec s)
        (fun key t =>
          let t := t.forget (.slot q.toNat)
          let inUse := t.qe.works.filter fun w => w.buffer.isSome
          if (inUse.any fun w => decide (w.buffer = some key)) = true ∨ 256 ≤ inUse.length then t.waitResource q.toNat
          else
            let x := { t.newWork q.toNat h .running 0 with buffer := some key }
            ((t.takeHead q.toNat h .running 0).setWork x).runLaunch x)
        (fun st t => ((t.forget (.slot q.toNat)).takeHead q.toNat h .running 0).endWork (t.forget (.slot q.toNat)).qe.nextWork st 0)))) ∧
  (∀ (w : Work) (t : State), launchBad w.desc = false → patchPoints w.desc ≠ [] →
    (w.count = 1 → t.postedOf (.work w.id) = (0, none) → t.runLaunch w = t.offer w) ∧
    (∀ st, w.count = 1 → t.postedOf (.work w.id) = (0, some st) → t.runLaunch w = t.endWork w.id st 0) ∧
    (w.count ≠ 1 → t.runLaunch w = After ((patchBuffer (t.workWho w) w.desc).exec t)
      (fun _ u => let v := u.setWork { w with count := 1 }
        if (v.postedOf (.work w.id)).1 = 0 then v.offer { w with count := 1 } else v) (fun st u => u.endWork w.id st 0))) ∧
  (∀ (g : BitVec 4) (s : State) (id : Nat) (rest : List Nat) (w : Work), Map.getD [] g.toNat s.qe.offers = id :: rest → s.work? id = some w →
    let t := (s.modQe fun e => { e with offers := Map.put [] g.toNat rest e.offers, dispatched := e.dispatched ++ [id] }).setWork { w with phase := .taken }
    (rest = [] → Nexts (.dispatchTaken g) s t) ∧
    (∀ x, rest.findSome? t.work? = some x → Nexts (.dispatchTaken g) s (t.emit (.dispatch g.toNat (dispatchRecord x))))) ∧
  (∀ (n : Fin 16) (page : BitVec 10) (i : BitVec 6) (value : Word) (s : State) (w : Work),
    s.Open (Dom.bank (page.toNat / 256)) → s.rp.recording = false → s.rp.replaying = false →
    let q := 64 * page.toNat + i.toNat
    ((s.dispatches q).find? fun w => decide (w.phase = .taken) && decide (dCmdId w.desc = bits value 15 0)) = some w →
    s.work? w.id = some w →
    Nexts (.coreDone { origin := .port n page, index := i, half := some .full, value := value }) s
      (s.setWork { w with phase := .ended, status := bits value 23 16, result := w64 (bits value 63 32) }))

/-- Every finite value of every float format survives (R78, R79, R81, R88): decoding a code and encoding the exact value again, in any
rounding mode and with saturation or without, gives the code back, the sign of zero and the subnormals among it, and counts nothing as
clamped. -/
def Obligations.FloatFormatsRoundTrip : Prop :=
  ∀ (f : FFmt) (rm : RMode) (sat : Bool) (c : Nat),
    f ∈ [FFmt.fp32, .bf16, .fp16, .e4m3, .e5m2, .e3m2, .e2m3, .e2m1] → (∀ d, rm = .stochastic d → d < 2 ^ 32) →
    c < 2 ^ (1 + f.eb + f.mb) → (f.decode c).isFin = true → f.encode rm sat (f.decode c) = (c, false)

/-- R80: a NaN code of any format, written to a format that has NaN, becomes that format's quiet NaN with the source's sign, in every
rounding mode and with saturation or without; its payload is not kept. -/
def Obligations.QuietNans : Prop :=
  ∀ (f : FFmt) (c : Nat) (rm : RMode) (sat : Bool), f ∈ [FFmt.fp32, .bf16, .fp16, .e4m3, .e5m2] → c < 2 ^ (1 + f.eb + f.mb) →
    (f.decode c).isNan = true →
    let neg := 2 ^ (f.eb + f.mb) ≤ c
    (FFmt.fp32.encode rm sat (f.decode c)).1 = (if neg then 0xFFC00000 else 0x7FC00000) ∧
    (FFmt.bf16.encode rm sat (f.decode c)).1 = (if neg then 0xFFC0 else 0x7FC0) ∧
    (FFmt.fp16.encode rm sat (f.decode c)).1 = (if neg then 0xFE00 else 0x7E00) ∧
    (FFmt.e5m2.encode rm sat (f.decode c)).1 = (if neg then 0xFE else 0x7E) ∧
    (FFmt.e4m3.encode rm sat (f.decode c)).1 = (if neg then 0xFF else 0x7F)

/-- A block that is compressed decompresses to itself (R101 to R103, R105): for each of the five element types, coding 4 KiB and decoding
the code answers the same 4 KiB, its header passes the checks, and its length is the code's. -/
def Obligations.CompressionIsLossless : Prop :=
  ∀ (ety : Nat) (bs : List Byte), ety ≤ 4 → bs.length = 4096 →
    let code := Yxp.encodeBlock ety bs
    Yxp.decodeBlock ety code = .ok code.length bs ∧ Yxp.checkHeader ety code.length (leNat (code.take 8)) = .inl code.length

/-- R103: a block whose code would exceed 64 lines is written raw, the header with RAW 1, LINES 65 and EXP_BYTES 0, then the 4,096 input
bytes, then 56 bytes of zeros; compressed data is never more than 65/64 of its input. -/
def Obligations.RawBlocks : Prop :=
  ∀ (ety : Nat) (bs : List Byte), ety ≤ 4 → bs.length = 4096 →
    let es := (Yxp.blockElems ety bs).map (Yxp.expOf ety)
    let fields := (List.range (Yxp.groups ety)).flatMap fun g => Yxp.groupFields ((es.drop (32 * g)).take 32)
    let coded := 8 + Yxp.planeBytes ety + ceilDiv (Yxp.streamBits fields) 8
    (64 * 64 < coded → Yxp.encodeBlock ety bs =
      leBytes 8 (0xA5C3 * 2 ^ 48 + 0 * 2 ^ 16 + ety * 2 ^ 8 + 1 * 2 ^ 7 + 65) ++ bs ++ List.replicate 56 0) ∧
    (Yxp.encodeBlock ety bs).length ≤ 65 * 64

/-- CONVERT, REDUCE, YXP_COMPRESS and YXP_DECOMPRESS (R92, R95, R98, R104, R105): the granted head becomes started work. A conversion whose
operands resolve stands ready in pieces, one that fails ends with its status and RESULT 0; a compression runs on one Gazelle, which it gives
up at its end, and ends with the bytes it wrote or consumed, up to the failing block where it fails. What must wait waits. PIECE_DISPATCH,
PIECE_COMPLETE and REDUCE_WRITE_APPLY (R32, R95 to R97, R99): an idle Gazelle takes the next piece of the oldest descriptor with pieces
left; a piece is computed and written, and ends with its largest magnitude and its count of clamped elements once its writes are performed,
or fails; a reduce-write, begun in its order, stores the FP32 sums of what it carries and what its destination holds, and its sender is
answered once that is performed. -/
def Obligations.GazelleOperations : Prop :=
  ((∀ (op : Nat) (c : BitVec 16 → Instr), (op, c) ∈ [((0x10 : Nat), Instr.convert), (0x11, Instr.reduce)] →
    ∀ (q : BitVec 16) (s : State) (h : Head), s.headFor q.toNat op = some h →
      let w := s.newWork q.toNat h .running 0
      let b := s.takeHead q.toNat h .running 0
      Ends (c q) s (After ((gzResolve (b.workWho w) h.desc).exec b)
        (fun _ t => t.setWork { w with count := 1, acc := t.pieceElems, total := ceilDiv (gzOp h.desc).count t.pieceElems, next := 0 })
        (fun st t => t.endWork w.id st 0))) ∧
  (∀ (op : Nat) (c : BitVec 16 → Instr) (f : Who → Work → M Word),
    (op, c, f) ∈ [((0x12 : Nat), Instr.yxpCompress, State.runYxpCompress), (0x13, Instr.yxpDecompress, State.runYxpDecompress)] →
    ∀ (q : BitVec 16) (s : State) (h : Head), s.headFor q.toNat op = some h →
      let w := s.newWork q.toNat h .running 0
      let b := s.takeHead q.toNat h .running 0
      let ending (st : Nat) (r : Word) (t : State) : State := ((t.dropGot (.work w.id)).gzRelease (.work w.id)).endWork w.id st r
      Ends (c q) s (After ((f (b.workWho w) w).exec b) (fun r t => ending St.SUCCESS r t)
        (fun st t => ending st (w64 ((t.work? w.id).getD w).acc) t)))) ∧
  ((∀ (u : Nat) (s : State), s.gzIdle u = true → s.gzUsable u = true → s.gz.rws = [] → s.gz.unitWait = [] →
    s.gzNext u = (s.nextPiece u).map fun p => (2, .piece p)) ∧
  (∀ (u : Fin 8) (s : State) (c : Nat) (p : GzPiece), s.Open (Dom.gazelle u.val) → (∀ x ∈ s.pm.waits, x.cmd ≠ .pieceDispatch u) →
    s.gzNext u.val = some (c, .piece p) →
    let g := s.gzGranted u.val c
    let p' : GzPiece := { p with unit := u.val, runs := p.runs + 1, out := none, ending := false, issued := false }
    (p.runs = 0 → Nexts (.pieceDispatch u) s
      (s.keep ((g.modGz fun g => { g with running := g.running ++ [p'] }).setWorkNext p.work (p.idx + 1)))) ∧
    (p.runs ≠ 0 → Nexts (.pieceDispatch u) s
      (s.keep (g.modGz fun g => { g with redo := g.redo.erase p, running := g.running ++ [p'] })))) ∧
  (∀ (u : Fin 8) (s : State) (p : GzPiece) (w : Work),
    (s.gz.running.find? fun x => decide (x.unit = u.val)) = some p → s.work? p.work = some w →
    let put (x : GzPiece) (t : State) : State :=
      t.modGz fun g => { g with running := updateWhere (fun x => decide (x.unit = u.val)) (fun _ => x) g.running }
    let clean (t : State) : State := if t.gz.running.any (fun x => decide (x.unit = u.val)) = true then t else t.opClean (Dom.gazelle u.val)
    let k := s.pieceWho w p.idx
    let a := p.idx * w.acc
    let p1 := { p with ending := true }
    (p.issued = true → Ends (.pieceComplete u) s (clean ((put p1 s).closePiece p1 w))) ∧
    let write (r : GzOut) (t : State) : State :=
      let p2 := { p1 with out := some r }
      After ((do let g ← gzResolve k w.desc; pieceWrite k w.desc g a r : M Unit).exec (put p2 t))
        (fun _ t => (put { p2 with issued := true } t).closePiece { p2 with issued := true } w) (fun st t => t.pieceFailed p2 w st)
    (∀ r, p.issued = false → p.out = some r → Ends (.pieceComplete u) s (clean (write r (put p1 s)))) ∧
    (p.issued = false → p.out = none → Ends (.pieceComplete u) s (clean (After
      ((do let g ← gzResolve k w.desc; pieceCompute k w.desc g a (min w.acc ((gzOp w.desc).count - a)) : M GzOut).exec (put p1 s))
      write (fun st t => t.pieceFailed p1 w st))))) ∧
  (∀ (p : GzPiece) (w : Work) (r : GzOut) (t : State), p.out = some r →
    (t.postedOf (.piece p.work p.idx) = (0, none) → t.closePiece p w = t.pieceResult p w 0 r.amax r.clamped) ∧
    (∀ st, t.postedOf (.piece p.work p.idx) = (0, some st) → t.closePiece p w = t.pieceFailed p w st) ∧
    ((t.postedOf (.piece p.work p.idx)).1 ≠ 0 → t.closePiece p w = t)) ∧
  (∀ (u : Fin 8) (s : State) (r : RedWrite), s.Open (Dom.gazelle u.val) → (∀ x ∈ s.pm.waits, x.cmd ≠ .reduceWriteApply u) →
    let begun := s.gz.rws.find? fun x => decide (x.unit = u.val ∧ x.done = none) && x.begun
    (begun = some r → Ends (.reduceWriteApply u) s (s.stepRw r)) ∧
    (∀ c, begun = none → s.gzNext u.val = some (c, .reduceWrite) → s.nextRw u.val = some r →
      let r' := { r with unit := u.val, begun := true, runs := r.runs + 1 }
      Ends (.reduceWriteApply u) s
        (((s.gzGranted u.val c).modGz fun g => { g with rws := updateWhere (fun x => decide (x.id = r.id)) (fun _ => r') g.rws }).stepRw r'))) ∧
  (∀ (r : RedWrite) (t : State),
    let w : Waiter := .reduceWrite r.id
    let upd (f : RedWrite → RedWrite) (t : State) : State := t.modGz fun g => { g with rws := updateWhere (fun x => decide (x.id = r.id)) f g.rws }
    let finish (st : Nat) (t : State) : State :=
      (((upd (fun x => { x with done := some st }) t).forget w).opClean (Dom.gazelle r.unit)).wakeUp (.peer r.node r.flow r.seq)
    let close (t : State) : State := if (t.postedOf w).1 = 0 then finish ((t.postedOf w).2.getD 0) t else t
    let one := Num.fin false 1 1
    let n := r.data.length * 8 / elemBits r.fmt
    let nums (bs : List Byte) : List Machine.Num := gzDecode r.fmt 32 false one n bs [] []
    (r.issued = true → t.stepRw r = close t) ∧
    (∀ bs, r.issued = false → r.out = some bs → t.stepRw r =
      After ((deviceWrite w r.addr bs r.poison 0).exec (upd (fun x => { x with out := some bs }) t))
        (fun _ v => close (upd (fun x => { x with issued := true }) v)) finish) ∧
    (r.issued = false → r.out = none → t.stepRw r =
      After ((deviceRead w r.addr r.data.length).exec t)
        (fun old v => if old.2 = true then finish St.DATA_ERROR v
          else v.stepRw { r with out := some (gzEncode r.fmt 32 false false one (fun _ => .even)
            ((List.range n).map fun i => sum32 [(nums old.1).getD i .zero, (nums r.data).getD i .zero])).1 }) finish)))

/-- MOVE_JOB, PAGE_DEMOTE_DONE and PAGE_FETCH_DONE (R118, R128): a running move goes on by 256 KiB when its next job is called for, and to
its end when that is, which a conversion reaches by its jobs alone. A move that is over gives its page its new place: a demoted page is
DEMOTED and its frame free, unless the move has failed or a running request has taken the page meanwhile; a fetched page is RESIDENT and its
slot free. A command of Ibex or the batcher wakes the Ibex domain. IB_ENABLE (R115, R134): ENABLE with a configuration in range recalls what
caches hold of the tables and puts Ibex in service once none is held, with cleared tables the first time after a fundamental reset; with a
configuration out of range it has no effect and sets CFG_ERROR; a write that leaves ENABLE as it is stores the register only. -/
def Obligations.IbexPages : Prop :=
  ((∀ (id : Nat) (s : State) (m : Move), s.move? id = some m → m.running = true →
    (m.upTo ≤ m.cursor → m.cursor < m.total →
      Ends (.moveJob id) s ((s.setMove { m with upTo := min m.total (m.cursor + 262144) }).wakeUp (.move id))) ∧
    (m.cursor < m.upTo ∨ m.total ≤ m.cursor → Ends (.moveJob id) s s)) ∧
  (∀ (kind : MoveKind) (c : Nat → Instr), (kind, c) ∈ [(MoveKind.demote, Instr.pageDemoteDone), (.fetch, .pageFetchDone)] →
    ∀ (page : Nat) (s : State) (m : Move), s.IbexReady → s.ibMove? page = some m → s.move? m.id = some m → m.kind = kind → m.running = true →
      let conv := match m.mode with | .out _ | .back _ => true | _ => false
      (conv = false ∨ m.total ≤ m.cursor →
        Ends (c page) s ((s.setMove { m with upTo := m.total, ending := true }).wakeUp (.move m.id))) ∧
      (conv = true → m.cursor < m.total → Ends (c page) s s)) ∧
  (∀ (id : Nat) (t : State) (m : Move), t.move? id = some m → m.running = true → State.moveOver m = true → t.moveIdle id = true →
    (m.kind = .demote → t.moveOn id = (((t.demoteDone m).reclaim).fetchAhead).evacSteps) ∧
    (m.kind = .fetch → t.moveOn id = (((t.fetchDone m).reclaim).fetchAhead).evacSteps) ∧
    (m.kind = .evac → t.moveOn id = (t.evacMoved m).evacSteps) ∧
    (State.isIbexMove m = false → t.moveOn id = (t.finishMove m).evacSteps)) ∧
  (∀ (m : Move) (t : State), m.fails < 2 →
    (m.aborted = true ∨ t.pgRefs m.page = 0 ∨ t.heldByRunning m.page = true → t.demoteDone m = t.keepResident m) ∧
    (m.aborted = false → t.pgRefs m.page ≠ 0 → t.heldByRunning m.page = false → m.mode = .lines →
      let f := (t.endMove m.id).setIbUsed 0 m.srcFrame false
      let q := f.setPageQ m.page 0 (setBits (setBits (setBits (f.pageQ m.page 0) 31 0 m.dstFrame) 57 57 0) 56 53 0)
      t.demoteDone m = (((q.setPageQ m.page 1 (setBits (f.pageQ m.page 1) 63 40 (ceilDiv m.total 64))).setPgState m.page State.DEMOTED).bump
        Reg.IB_STAT_DEMOTE).pageEvent m.page)) ∧
  (∀ (m : Move) (t : State), m.fails < 2 → m.corrupt = false →
    let f := (t.endMove m.id).setIbUsed m.srcPool m.srcFrame false
    let q := f.setPageQ m.page 0 (setBits (setBits (f.pageQ m.page 0) 60 58 0) 57 53 0)
    let v := ((q.setPageQ m.page 1 (w64 (f.pgLastUse m.page))).setPgState m.page State.RESIDENT).bump Reg.IB_STAT_FETCH
    t.fetchDone m = if v.pgRefs m.page = 0 then v.freePage m.page else v.pageEvent m.page) ∧
  (∀ (c : Instr) (s : State), (
    (∃ p, c = .pageDemoteDone p ∨ c = .pageFetchDone p) ∨ c = .stepBuild ∨
    (∃ r, c = .requestClose r ∨ c = .tokenRecordWrite r ∨ c = .headRead r ∨ c = .ringPollExpiry r ∨ c = .deadlineExpiry r) ∨
    (∃ q, c = .serveConfig q ∨ c = .openRequest q ∨ c = .cancelRequest q) ∨ (∃ u, c = .rowSampled u)) →
    s.bt.serving = true ∨ s.ib.active = true → Map.rising s.pm.doms = true → exec c s = exec c (s.touch Dom.ibex))) ∧
  ((∀ (h : Half) (v : Word) (s : State), s.OpenReg Reg.IB_CTRL →
    let t := s.storeReg Reg.IB_CTRL h v
    (s.regBit Reg.IB_CTRL 0 = t.regBit Reg.IB_CTRL 0 → Ends (.ibEnable h v) s t) ∧
    (s.regBit Reg.IB_CTRL 0 = false → t.regBit Reg.IB_CTRL 0 = true → t.ibConfigOk = true →
      Ends (.ibEnable h v) s (((t.recallLines t.ibTables).modIb fun i => { i with starting := true, cfgError := false }).ibStart)) ∧
    (s.regBit Reg.IB_CTRL 0 = false → t.regBit Reg.IB_CTRL 0 = true → t.ibConfigOk = false →
      Ends (.ibEnable h v) s ((t.setRegBits Reg.IB_CTRL 0 0 0).modIb fun i => { i with cfgError := true })) ∧
    (s.regBit Reg.IB_CTRL 0 = true → t.regBit Reg.IB_CTRL 0 = false →
      Ends (.ibEnable h v) s (t.modIb fun i => { i with active := false, starting := false }))) ∧
  (∀ t : State, t.heldLines t.ibTables = [] →
    t.recallLines t.ibTables = t ∧
    (t.ib.starting = true → t.ibStart.ib.active = true ∧ t.ibStart.ib.starting = false ∧ t.ibStart.ib.fresh = false) ∧
    (t.ib.starting = true → t.ib.fresh = false → t.ibStart.mem = t.mem)) ∧
  (∀ t : State, t.heldLines t.ibTables ≠ [] → t.ibStart = t))

/-- SERVE_CONFIG, OPEN_REQUEST, CANCEL_REQUEST, SAMPLE and STEP (R74, R136, R137, R140, R143, R156, R160), taken at the head of their queue:
each failure has the status that the spec gives it, and what passes is accepted; an OPEN_REQUEST that finds no room waits for it with
WAIT_KIND 3, and one that waits goes on waiting while there is none. -/
def Obligations.ServingDescriptors : Prop :=
  ∀ (q : BitVec 16) (s : State) (h : Head), s.IbexReady →
    let w := s.newWork q.toNat h .running 0
    let b := s.takeHead q.toNat h .running 0
    let d := h.desc
    let ending (st : Nat) (t : State) : State := t.endWork w.id st 0
    (s.headFor q.toNat 0x30 = some h →
      let on := descNat d 49 1 % 2 = 1
      let len := descNat d 50 2 * descNat d 40 4
      let k := b.workWho w
      (b.isFenced Dom.ibex = true → Ends (.serveConfig q) s (ending St.DEVICE_ERROR b)) ∧
      (b.isFenced Dom.ibex = false →
        (w.fn ≠ 0 → Ends (.serveConfig q) s (ending Sv.DENIED b)) ∧
        (w.fn = 0 → ¬ on → b.bt.reqs = [] →
          Ends (.serveConfig q) s (ending St.SUCCESS (b.modBt fun t => { t with serving := false }))) ∧
        (w.fn = 0 → ¬ on → b.bt.reqs ≠ [] → Ends (.serveConfig q) s (ending Sv.STATE b)) ∧
        (w.fn = 0 → on → b.ib.active = false ∨ b.bt.serving = true → Ends (.serveConfig q) s (ending Sv.STATE b)) ∧
        (w.fn = 0 → on → b.ib.active = true → b.bt.serving = false → b.domReady Dom.chamois = true ∨ b.isFenced Dom.chamois = true → b.serveBad w = true →
          Ends (.serveConfig q) s (ending St.FORMAT_ERROR b)) ∧
        (w.fn = 0 → on → b.ib.active = true → b.bt.serving = false → b.domReady Dom.chamois = true ∨ b.isFenced Dom.chamois = true → b.serveBad w = false →
          Ends (.serveConfig q) s (After ((operandAddr k (dHandles d) (descQ d 32) len false).exec b) (fun a t =>
            if a.toNat % 64 ≠ 0 ∨ (t.segCheck w.ctx a len (some false)).isNone = true then ending St.FORMAT_ERROR t
            else After ((translate k a len false).exec t) (fun x t => match x with
              | .device da _ =>
                if regionOf da ≠ .tier1 ∨ regionOf (da + len - 1) ≠ .tier1 then ending St.FORMAT_ERROR t
                else
                  let q0 := fld (descNat d 52 2) 48 ||| fld (descNat d 50 2) 32 ||| fld (descNat d 48 1) 24 ||| w64 (descNat d 44 4)
                  let q1 := fld (descNat d 54 2) 49 ||| fld (descNat d 56 4) 32 ||| w64 (descNat d 40 4)
                  let r := ((t.setReg Reg.BT_SERVE q0).setReg (Reg.BT_SERVE + 8) q1).setReg (Reg.BT_SERVE + 16) (descQ d 32)
                  ending St.SUCCESS (r.btStart.modBt fun t => { t with serving := true, ctx := w.ctx, logits := da })
              | _ => ending St.FORMAT_ERROR t) ending) ending)))) ∧
    (s.headFor q.toNat 0x31 = some h →
      (∀ st, s.openCheck w.ctx d = some st → Ends (.openRequest q) s (ending st b)) ∧
      (s.openCheck w.ctx d = none → s.openRoom = false → Ends (.openRequest q) s (s.waitResource q.toNat)) ∧
      (s.openCheck w.ctx d = none → s.openRoom = true → Ends (.openRequest q) s (match b.openCheck w.ctx d with
        | some st => ending st b
        | none => After ((State.openRead (b.workWho w) d).exec b)
            (fun x t => (t.dropGot (.work w.id)).openAccept w x.1 x.2.1 x.2.2) ending))) ∧
    (let v := s.queue q.toNat
     let u := s.setQueue q.toNat { v.noWait with st := .fetching }
     v.st = .waiting → v.waitKind = .resource → u.headFor q.toNat 0x31 = some h → u.openCheck v.ctx d = none → u.openRoom = false →
     Ends (.openRequest q) s s) ∧
    (s.headFor q.toNat 0x32 = some h →
      let r := descNat d 32 4
      (0xFFFF < r ∨ descNat d 36 28 ≠ 0 → Ends (.cancelRequest q) s (ending St.FORMAT_ERROR b)) ∧
      (r ≤ 0xFFFF → descNat d 36 28 = 0 → b.bReq? r = none → Ends (.cancelRequest q) s (ending Sv.NOT_OPEN b)) ∧
      (∀ x, r ≤ 0xFFFF → descNat d 36 28 = 0 → b.bReq? r = some x → x.ctx ≠ w.ctx → Ends (.cancelRequest q) s (ending Sv.NOT_OPEN b)) ∧
      (∀ x, r ≤ 0xFFFF → descNat d 36 28 = 0 → b.bReq? r = some x → x.ctx = w.ctx →
        Ends (.cancelRequest q) s ((b.endRequest r St.CANCELLED).modBt fun t =>
          { t with cancels := t.cancels ++ [{ id := w.id, r := r, seq := x.seq, work := x.work, q := x.q }] }))) ∧
    (s.headFor q.toNat 0x33 = some h →
      let vocab := descBits d 56 18 0
      let bad := vocab < 2 ∨ 262144 < vocab ∨ 2 < descBits d 56 25 24 ∨ descBits d 56 23 19 ≠ 0 ∨ descBits d 56 31 26 ≠ 0 ∨
        (dHandles d = false ∧ (descNat d 32 8 % 64 ≠ 0 ∨ descNat d 40 8 % 16 ≠ 0))
      (bad → Nexts (.sample q) s (s.keep (ending St.FORMAT_ERROR b))) ∧
      (¬ bad → Nexts (.sample q) s (s.keep (b.modBt fun t => { t with samples := t.samples ++ [w.id] })))) ∧
    (s.headFor q.toNat 0x34 = some h →
      ((b.queue q.toNat).serve = false → Nexts (.step q) s (s.keep (ending Sv.DENIED b))) ∧
      ((b.queue q.toNat).serve = true → descNat d 50 2 ≠ 0 → Nexts (.step q) s (s.keep (ending St.FORMAT_ERROR b))) ∧
      ((b.queue q.toNat).serve = true → descNat d 50 2 = 0 → Nexts (.step q) s (s.keep (b.offer w))))

/-- STEP_BUILD (R27, R29, R131, R159, R160, R162): while serving with no step in flight, the requests that are to end close, those that have
lost a page go back to be admitted again, then the running requests are placed, oldest first and those that decode before those that
prefill, and then the waiting ones are admitted by age. If that places any, the step takes the next number, its list is written and its STEP
is rung on STEP_QUEUE; if none, no step begins. Without serving, with a step in flight, or with Ibex fenced or disabled nothing changes. -/
def Obligations.StepsAreBuilt : Prop :=
  ∀ s : State, s.IbexReady → s.rp.replaying = false →
    (s.bt.serving = false ∨ s.bt.step ≠ none ∨ s.ib.active = false ∨ s.isFenced Dom.ibex = true → Ends .stepBuild s s) ∧
    (s.bt.serving = true → s.bt.step = none → s.ib.active = true → s.isFenced Dom.ibex = false →
      let c := s.closeDue.shelveLost
      let num := (c.reg Reg.BT_STEP).toNat + 1
      let running := c.byAge.filter fun r => decide (c.rState r = State.RUNNING)
      let decodes (r : Nat) : Bool := match c.bReq? r with | some b => b.last.isSome | none => false
      let x := ((running.filter decodes) ++ (running.filter fun r => !decodes r)).foldl
        (fun (x : State.Build × State) r => x.2.place r none x.1) ({ ents := [], left := c.srvTokens }, c)
      let y := x.2.admitAll num none x.2.byAge [] x.1
      let ents := State.numberRows y.1.ents
      let u := y.2.modRp Rp.stepTaken
      let p := ents.foldl (fun s e => s.pinRequest e.r) u
      let l := ents.zipIdx.foldl (fun s e => s.share .step (s.listAddr num e.2) (s.entBytes e.1)) p
      let m := l.modBt fun t => { t with step := some { num := num, ents := ents, desc := l.stepDesc num ents, rung := false,
                                                         retried := false, done := false, rows := [] } }
      let begun := (m.rpEvent 0x09 0 ents.length (w64 num) (w64 (sumOf (·.ntok) ents)) none).ringStep
      Ends .stepBuild s ((((if ents = [] then u else begun).reclaim).fetchAhead).wakeOpen))

/-- ROW_HANDOUT, FIRST_PASS_END and ROW_SAMPLED (R146, R152, R156 to R158, R161): a free Springbok takes the next row of the finished step,
and a SAMPLE at least once in eight; its first pass ends and leaves it free for another row; and a row or a SAMPLE whose data is at hand is
sampled: the token of a row is recorded and counted, that of a SAMPLE is written to OUT. -/
def Obligations.RowsAreSampled : Prop :=
  (∀ (u : Fin 4) (s : State) (t : Step) (row : Nat) (rest : List Nat), s.Open (Dom.springbok u.val) → (s.sbUnit u.val).first = none →
    s.regBit Reg.SB_CTRL u.val = true → (∀ x ∈ s.pm.waits, x.cmd ≠ .rowHandout u) → s.bt.step = some t → t.done = true → t.rows = row :: rest →
    let take (n : Nat) : State := (s.modBt fun t => { t with step := t.step.map (fun p => { p with rows := rest }), turn := n }).setSbUnit u.val
      { s.sbUnit u.val with first := some (.serve row) }
    (s.bt.samples = [] → Nexts (.rowHandout u) s (take 0)) ∧
    (s.bt.samples ≠ [] → s.bt.turn < 7 → Nexts (.rowHandout u) s (take (s.bt.turn + 1))) ∧
    (∀ w ws, s.bt.samples = w :: ws → 7 ≤ s.bt.turn → Nexts (.rowHandout u) s
      ((s.setSbUnit u.val { s.sbUnit u.val with first := some (.sample w) }).modBt fun t => { t with samples := ws, turn := 0 }))) ∧
  (∀ (u : Fin 4) (s : State) (w : Nat) (ws : List Nat), s.Open (Dom.springbok u.val) → (s.sbUnit u.val).first = none →
    s.regBit Reg.SB_CTRL u.val = true → (∀ x ∈ s.pm.waits, x.cmd ≠ .rowHandout u) → s.bt.step = none → s.bt.samples = w :: ws →
    Nexts (.rowHandout u) s ((s.setSbUnit u.val { s.sbUnit u.val with first := some (.sample w) }).modBt fun t => { t with samples := ws, turn := 0 })) ∧
  (∀ (u : Fin 4) (s : State) (j : RowJob), (s.sbUnit u.val).first = some j → (s.sbUnit u.val).second = none →
    Nexts (.firstPassEnd u) s (s.setSbUnit u.val { first := none, second := some j })) ∧
  (∀ (u : Fin 4) (s : State), s.IbexReady →
    let free (t : State) : State := (t.setSbUnit u.val { t.sbUnit u.val with second := none }).forget (.row u.val)
    let clean (t : State) : State := if (t.sbUnit u.val).second = none then t.opClean (Dom.springbok u.val) else t
    (∀ (row : Nat) (t : Step) (e : StepEnt) (b : BReq), (s.sbUnit u.val).second = some (.serve row) → s.bt.step = some t →
      (t.ents.find? fun e => e.sample && decide (e.row = row)) = some e → s.bReq? e.r = some b → b.seq = e.seq →
      Ends (.rowSampled u) s (clean (After ((State.serveRow u.val row e.r b).exec s)
        (fun data t => match t.drawRow e.r false data with
          | none => t
          | some (k, t) => (free t).rowResult e.r b data k)
        (fun st t => ((free t).settleEnt e.r).endRequest e.r st)))) ∧
    (∀ (id : Nat) (w : Work), (s.sbUnit u.val).second = some (.sample id) → s.work? id = some w → w.phase = .running →
      Ends (.rowSampled u) s (clean (After ((State.sampleRow (s.workWho w) w).exec s)
        (fun x t => match t.drawRow w.q true x.1 with
          | none => t
          | some (k, t) =>
            let t := (((free t).forgetReads (.work id)).bump Reg.SB_STAT_ROWS).bumpBy (countOf Sb.nonFinite x.1.logits) Reg.SB_STAT_NONFINITE
            match k with
            | none => t.endWork id Sv.NO_CANDIDATE 0
            | some k =>
              let t := t.rpEvent 0x0B 1 w.q (w64 x.1.p.seed) (w64 k.token ||| fld x.1.pos 32) none
              let w' := { w with count := 1, pages := (Sb.record k true 0 t.fresh.1.toNat x.1.pos).map (·.toNat), next := x.2.toNat,
                                 acc := k.token % 2 ^ 32 + k.lp % 2 ^ 32 * 2 ^ 32 }
              (t.fresh.2.setWork w').sampleOut w')
        (fun st t => (free t).endWork id st 0))))) ∧
  (∀ (src : Nat) (b : Bool) (data : Sb.Row) (t : State), t.rp.replaying = false → t.forcedSeed src b = none →
    t.drawRow src b data = some (Sb.sample data data.p.seed data.pos, t))

/-- TOKEN_RECORD_WRITE, HEAD_READ and RING_POLL_EXPIRY (R31, R153 to R155): a record is written with every byte but bytes 8 to 15 first, and
those, which carry the phase, last; the head word that is read tells whether the ring still is full, in which case a RUNNING or WAITING
request with a record behind it is HELD, and it is read again after the poll interval. REQUEST_CLOSE and DEADLINE_EXPIRY (R133, R142, R143,
R164, R316): a request that is to end closes with its status: its OPEN_REQUEST ends with that status and the count of its tokens, or, where
that is gone, a detached entry is placed unless its queue is DISABLED; Ibex frees its pages, and its record is gone. A deadline that passes
ends its request with DEADLINE_EXCEEDED, once its step's last row is sampled where it runs in one. -/
def Obligations.TokensAndCloses : Prop :=
  ((∀ (r : BitVec 16) (s : State) (b : BReq) (t : TokRec) (rest : List TokRec), s.IbexReady → s.bReq? r.toNat = some b →
    b.recs = t :: rest → b.parked = false → b.closing = none → State.ringFull b = false →
    let k := State.reqWho b (.token r.toNat)
    let a := b.ring + w64 (b.written % 2 ^ b.ringShift * t.bytes.length)
    let failed (st : Nat) (u : State) : State := u.recordFailed r.toNat st
    let second (u : State) : State :=
      After ((engWrite k (a + 8) (leBytes 8 (leNat ((t.bytes.drop 8).take 8) + b2n b.phase * 2 ^ 63))).exec u)
        (fun _ u => if (u.postedOf (.token r.toNat)).1 = 0 then u.recordDone r.toNat b t else u.setBReq r.toNat { b with stage := 2 }) failed
    ((s.postedOf (.token r.toNat)).1 ≠ 0 → Ends (.tokenRecordWrite r) s s) ∧
    (∀ st, s.postedOf (.token r.toNat) = (0, some st) → Ends (.tokenRecordWrite r) s (failed st s)) ∧
    (s.postedOf (.token r.toNat) = (0, none) →
      (b.stage = 0 → Ends (.tokenRecordWrite r) s
        (After ((do engWrite k a (t.bytes.take 8); engWrite k (a + 16) (t.bytes.drop 16) : M Unit).exec s)
          (fun _ u => let v := u.setBReq r.toNat { b with stage := 1 }
            if (v.postedOf (.token r.toNat)).1 = 0 then second v else v) failed)) ∧
      (b.stage = 1 → Ends (.tokenRecordWrite r) s (second s)) ∧
      (b.stage = 2 → Ends (.tokenRecordWrite r) s (s.recordDone r.toNat b t)))) ∧
  (∀ (r : BitVec 16) (s : State) (b : BReq), s.IbexReady → s.bReq? r.toNat = some b → b.parked = false → b.closing = none → b.reading = true →
    let put (x : BReq) (u : State) : State := u.setBReq r.toNat x
    Ends (.headRead r) s (match (engRead (State.reqWho b (.head r.toNat)) b.headAddr 8).exec s with
      | (.error .wait, u) => put { b with reading := true } u
      | (.error (.fail st), u) => (put { b with reading := false } (u.forget (.head r.toNat))).closeNow r.toNat st
      | (.ok bs, u) =>
        let b' : BReq := { b with lastHead := leNat (bs.take 4), reading := false }
        let u := put b' (u.forget (.head r.toNat))
        if State.ringFull b' = false then put { b' with pollDue := none } u
        else
          let c : BReq := { b' with pollDue := some (u.now + 1000 * max 1 (u.regBits Reg.BT_CTRL 63 48)) }
          let y := put c u
          if (y.rState r.toNat = State.RUNNING ∨ y.rState r.toNat = State.WAITING) ∧ State.needHead c = true then
            ((y.leaveRunning r.toNat State.HELD).bump Reg.BT_STAT_HELD).dueClose r.toNat
          else y)) ∧
  (∀ (r : BitVec 16) (s : State) (b : BReq), s.IbexReady → s.bReq? r.toNat = some b → s.rState r.toNat = State.HELD → b.pollDue ≠ none →
    b.parked = false → Nexts (.ringPollExpiry r) s (s.keep (s.setBReq r.toNat { b with reading := true })))) ∧
  ((∀ (r : BitVec 16) (s : State) (b : BReq) (st : Nat), s.IbexReady → s.bReq? r.toNat = some b → b.closing = some st →
    let u := s.rpEvent 0x0A 0 r.toNat (w64 st ||| fld b.lastEnd 8) (w64 b.total) none
    let gone (t : State) : State := (((if t.inStep r.toNat = true then t.unpinRequest r.toNat else t).ibClose r.toNat).modBt fun t => { t with reqs := Map.erase r.toNat t.reqs }).wakeOpen
    (∀ id, b.work = some id → Ends (.requestClose r) s (gone (u.endWork id st (State.openResult b)))) ∧
    (b.work = none →
      let x := u.signalAt b.desc b.ctx (some b.q) st b.noSig
      let e : CqEntry := { status := x.1, slot := none, cmdId := dCmdId b.desc, result := State.openResult b, irq := dIrq b.desc, detached := true }
      ((x.2.queue b.q).st = .disabled ∨ (dQuiet b.desc = true ∧ x.1 = 0) → Ends (.requestClose r) s (gone x.2)) ∧
      ((x.2.queue b.q).st ≠ .disabled → dQuiet b.desc = false ∨ x.1 ≠ 0 → Ends (.requestClose r) s (gone (x.2.deferEntry b.q e))))) ∧
  (∀ (r : BitVec 16) (s : State) (b : BReq), s.IbexReady → s.bReq? r.toNat = some b → b.deadline ≠ 0 → s.rp.replaying = false →
    Ends (.deadlineExpiry r) s (s.endRequest r.toNat St.DEADLINE_EXCEEDED)) ∧
  (∀ (r st : Nat) (s : State),
    let u := s.updBReq r fun b => { b with ending := b.ending.orElse fun _ => some st }
    (u.inStep r = false ∨ u.rState r ≠ State.RUNNING → s.endRequest r st = u.dueClose r) ∧
    (u.inStep r = true → u.rState r = State.RUNNING → u.rowsStuck = false → s.endRequest r st = u)) ∧
  (∀ (r st : Nat) (s : State) (b : BReq), s.bReq? r = some b → b.ending = some st → st ≠ St.DEADLINE_EXCEEDED → s.dueClose r = s.beginClose r st))

/-- SEG_COMMIT and REGION_COMMIT (R175, R198): a staged entry that its rule refuses sets REFUSED and changes nothing else; any other is
stored in the selected place at once, and BUSY is set until the accesses that found the old entry are over, for 100 µs or 10 µs at most. A
VALID segment entry is refused when its length is zero or no multiple of 4 KiB, when its base is no multiple of 4 KiB, when a TIER1 segment
passes the end of tier 1, when a PLACED one leaves placed memory, or when a reserved bit is set (R175). COMMIT_DRAIN_END (R175, R198, R282,
R303): the drain of a commit of Chamois or of the BAR2 window ends its BUSY once the accesses through the old entry are over, or its limit
has passed, and that of a peer window once the writes accepted before it are performed; before that BUSY stays. -/
def Obligations.SegmentsAndRegions : Prop :=
  (∀ s : State, s.OpenReg Reg.CH_CMD →
    let g := s.staged Reg.CH_SEGQ
    let r := s.staged Reg.CH_REGIONQ
    let no := s.modCh fun c => { c with cmdRefused := true }
    let ctx := s.regBits Reg.CH_SEL 27 16
    let put (key : Nat) (x : Qw3) (m : NMap Qw3) : NMap Qw3 := Map.put { q0 := 0, q1 := 0, q2 := 0 } key x m
    (State.segRefused g = true → Nexts .segCommit s no) ∧
    (State.segRefused g = false → Nexts .segCommit s (s.modCh fun c => { c with
      segs := put (ctx * 16 + s.regBits Reg.CH_SEL 3 0) g c.segs, cmdRefused := false, cmdBusy := true,
      drain := s.ctxAccesses ctx ++ c.drain, drainBy := max c.drainBy (s.now + 100000) })) ∧
    (State.regionRefused r = true → Nexts .regionCommit s no) ∧
    (State.regionRefused r = false → Nexts .regionCommit s (s.modCh fun c => { c with
      regions := put (s.regBits Reg.CH_SEL 41 32) r c.regions, cmdRefused := false, cmdBusy := true,
      drain := (c.ios.map fun r => Waiter.io r.id) ++ c.drain, drainBy := max c.drainBy (s.now + 10000) }))) ∧
  (∀ g : Qw3,
    (bits g.q1 53 44 ≠ 0 → State.segRefused g = true) ∧
    (segValid g = true → segLen g = 0 ∨ segLen g % 4096 ≠ 0 ∨ g.q0.toNat % 4096 ≠ 0 → State.segRefused g = true) ∧
    (segValid g = true → segTarget g = 1 → tier1Size < g.q0.toNat + segLen g → State.segRefused g = true) ∧
    (segValid g = true → segTarget g = 3 → g.q0.toNat < placedBase ∨ placedEnd < g.q0.toNat + segLen g → State.segRefused g = true) ∧
    (bits g.q1 53 44 = 0 → bits g.q2 63 52 = 0 → bits g.q2 43 20 = 0 → segValid g = false → State.segRefused g = false)) ∧
  (∀ s : State,
    (let ending := (∀ w ∈ s.ch.drain, s.underWay w = false) ∨ s.ch.drainBy ≤ s.now
     (ending → Nexts (.commitDrainEnd .chCmd) s (s.modCh fun c => { c with cmdBusy := false, drain := [] })) ∧
     (¬ ending → Nexts (.commitDrainEnd .chCmd) s s)) ∧
    (let ending := (∀ w ∈ s.up.bar2Drain, s.underWay w = false) ∨ s.up.bar2From + 10000 ≤ s.now
     (ending → Nexts (.commitDrainEnd .bar2) s (s.modUp fun u => { u with bar2Busy := false, bar2Drain := [] })) ∧
     (¬ ending → Nexts (.commitDrainEnd .bar2) s s)) ∧
    (s.winDrained = true → Nexts (.commitDrainEnd .window) s (s.modPl fun p => { p with winBusy := false })) ∧
    (s.winDrained = false → Nexts (.commitDrainEnd .window) s s))

/-- ATS_TRANSLATION_COMPLETION, ATS_INVALIDATE and ATS_DRAIN_TIMEOUT (R176 to R179): an answer that grants anything fills a copy while ATS
is enabled, the newest of at most 8,192; where it permits the access it wakes who waits for it, and else it is a host fault of each waiter.
An invalidation drops the copies it covers and completes at once unless a read that used one is outstanding, in which case it completes
after 100 µs at the latest, with the error of that, and the reads are made again. PRG_CLOSE, PRG_RESPONSE, PRI_TIMEOUT and PRI_CTRL_WRITE
(R180, R181): the last page request of a group that closes goes out with Last; a response ends its group, with Success its pages are
translated again, with Invalid Request or after the timeout their waiters fault, with Response Failure page requests stop as well, until
ENABLE of CH_PRI_CTRL goes from 0 to 1. What ends a group lets the faults that waited for a record be raised. A response to no group is
ignored. -/
def Obligations.TranslationAndPageRequests : Prop :=
  ((∀ (key : AtsKey) (x : AtsAnswer) (r : AtsReq) (s : State), (s.ch.reqs.filter fun r => decide (r.key = key)) = [r] →
    let l := max 12 (min 30 x.log2.toNat)
    let c : AtsCopy := { fn := key.fn.toNat, pasid := key.pasid.map (·.toNat), base := key.page * 4096 / 2 ^ l * 2 ^ l, log2 := l,
                         target := x.target.toNat / 2 ^ l * 2 ^ l, read := x.read, write := x.write }
    let same (y : AtsCopy) : Bool := decide (y.fn = c.fn ∧ y.pasid = c.pasid ∧ y.base = c.base ∧ y.log2 = c.log2)
    let gone := s.modCh fun h => { h with reqs := h.reqs.filter fun r => !decide (r.key = key) }
    let u := if (x.read = true ∨ x.write = true) ∧ s.atsOn key.fn.toNat = true then
        gone.modCh fun h => { h with copies := (c :: h.copies.filter fun y => !same y).take 8192 } else gone
    ((if r.write then x.write else x.read) = true →
      Ends (.atsTranslationCompletion key (some x)) s (r.who.foldl (fun t w => t.wakeUp w.who) u)) ∧
    ((if r.write then x.write else x.read) = false →
      Ends (.atsTranslationCompletion key (some x)) s (r.who.foldl (fun t w => t.hostFault key w) u)) ∧
    Ends (.atsTranslationCompletion key none) s (r.who.foldl (fun t w => t.hostFault key w) gone)) ∧
  (∀ (key : AtsKey) (w : AtsWaiter) (t : State),
    (w.pri = true → w.again = false → t.priAllowed key.fn.toNat = true → t.hostFault key w = t.raisePage key w) ∧
    (w.pri = false ∨ w.again = true ∨ t.priAllowed key.fn.toNat = false → t.hostFault key w = t.giveVerdict key St.PAGE_FAULT w.who)) ∧
  (∀ (fn : BitVec 8) (pasid : Option (BitVec 20)) (base : Word) (n : BitVec 7) (s : State),
    let hit := State.invalHits fn.toNat (pasid.map (·.toNat)) base.toNat n.toNat
    let u := s.modCh fun c => { c with copies := c.copies.filter fun x => !hit x.fn x.pasid x.base (2 ^ x.log2) }
    let reads := s.ch.hostReads.filter fun r => hit r.2.fn.toNat (r.2.pasid.map (·.toNat)) (r.2.page * 4096) 4096
    (reads = [] → Ends (.atsInvalidate fn pasid base n) s ((u.emit (.atsInvDone fn.toNat)).bump Reg.CH_STAT_ATS_INVAL)) ∧
    (reads ≠ [] → Ends (.atsInvalidate fn pasid base n) s (u.modCh fun c =>
      { c with invals := c.invals ++ [{ fn := fn.toNat, since := s.now, who := reads.foldl (fun l r => addNew r.1 l) [] }] }))) ∧
  (∀ (fn : BitVec 8) (s : State),
    ((∀ i ∈ s.ch.invals, i.fn ≠ fn.toNat) → Ends (.atsDrainTimeout fn) s s) ∧
    (∀ i, (s.ch.invals.find? fun i => decide (i.fn = fn.toNat)) = some i →
      let u := ((s.modCh fun c => { c with invals := c.invals.erase i }).emit (.atsInvDone fn.toNat)).bump Reg.CH_STAT_ATS_INVAL
      Ends (.atsDrainTimeout fn) s ((i.who.foldl (fun t w => (t.hostReadEnded w).wakeUp w) u).raise Reg.CH Err.CH_ATS_DRAIN
        { Capture.none with cls := 6 })))) ∧
  ((∀ (g : Nat) (s : State) (x : PriGroup), (s.ch.groups.find? fun x => decide (x.id = g) && x.closed.isNone) = some x →
    let u := match s.groupLast g with
      | some r => (s.emit (.pageRequest r.key r.group r.write true)).bump Reg.CH_STAT_FAULT
      | none => s
    Nexts (.prgClose g) s (u.modCh fun c => { c with groups := updateWhere (fun x => decide (x.id = g)) (fun x => { x with closed := some u.now }) c.groups })) ∧
  (∀ (g : Nat) (s : State), (s.ch.groups.any fun x => decide (x.id = g) && x.closed.isSome) = true →
    let fault (key : AtsKey) (x : AtsWaiter) (t : State) : State := t.giveVerdict key St.PAGE_FAULT x.who
    Ends (.prgResponse g .success) s (s.endGroup g fun key x t => t.askAts key { x with again := true }) ∧
    Ends (.prgResponse g .invalid) s (s.endGroup g fault) ∧
    Ends (.prgResponse g .failure) s (((s.modCh fun c => { c with stopped := true }).endGroup g fault).raise
      Reg.CH Err.CH_PRI_FAIL { Capture.none with cls := 6 }) ∧
    Ends (.priTimeout g) s ((s.endGroup g fault).raise Reg.CH Err.CH_PRI_TIMEOUT { Capture.none with cls := 6 })) ∧
  (∀ (g : Nat) (f : AtsKey → AtsWaiter → State → State) (t : State),
    let rs := t.ch.pri.filter fun r => decide (r.group = g)
    let u := t.modCh fun c => { c with pri := c.pri.filter (fun r => !decide (r.group = g)), groups := c.groups.filter (fun x => !decide (x.id = g)) }
    let v := rs.foldl (fun s r => r.who.foldl (fun s x => f r.key x s) s) u
    t.endGroup g f = if v.ch.priWait = [] then v
      else v.ch.priWait.foldl (fun s p => s.hostFault p.key p.who) (v.modCh fun c => { c with priWait := [] })) ∧
  (∀ (g : Nat) (code : PrgCode) (s : State), (s.ch.groups.any fun x => decide (x.id = g) && x.closed.isSome) = false →
    Ends (.prgResponse g code) s s ∧ Ends (.priTimeout g) s s) ∧
  (∀ (h : Half) (v : Word) (s : State), s.OpenReg Reg.CH_PRI_CTRL →
    let old := s.reg Reg.CH_PRI_CTRL
    let new := mergeHalf h old v &&& (fieldMask 63 48 ||| fieldMask 0 0)
    let t := s.setReg Reg.CH_PRI_CTRL new
    Ends (.priCtrlWrite h v) s (if !bit old 0 && bit new 0 then t.modCh fun c => { c with stopped := false } else t)))

/-- FRAME_ZERO, CHAMOIS_SWEEP and QUIET_END (R183, R185 to R187, R360): a frame to be zeroed reads as zeros, without poison, may be
allocated again, and what waits for a frame is tried again; a sweep halves the HEAT of every placed page and makes it one sweep older, up to
255, and does nothing while Chamois is disabled or fenced; the quiet time at power-up ends once the load has ended and Chamois is in
service. -/
def Obligations.PlacementUpkeep : Prop :=
  (∀ (pool : BitVec 4) (f : Nat) (s : State), f ∈ s.dirtyFrames pool.toNat →
    let u := (s.modCh fun c => { c with dirty := Map.put [] pool.toNat ((Map.getD [] pool.toNat c.dirty).filter (· ≠ f)) c.dirty,
                                        frameWait := [] }).clearFrame pool.toNat f
    Ends (.frameZero pool f) s ((s.ch.frameWait.foldl (fun t w => t.wakeUp w) u).wakeUp .recorder)) ∧
  (∀ (pool f : Nat) (s : State), let u := s.clearFrame pool f
    let n := State.frameSize pool
    u.readBytes (s.frameAddr pool f) n = List.replicate n 0 ∧
    ∀ l ∈ u.poison, l < s.frameAddr pool f / 64 ∨ (s.frameAddr pool f + n) / 64 ≤ l) ∧
  (∀ (pool : BitVec 4) (f : Nat) (s : State), f ∉ s.dirtyFrames pool.toNat → Ends (.frameZero pool f) s s) ∧
  (∀ s : State, s.ch.active = false ∨ s.isFenced Dom.chamois = true → Nexts .chamoisSweep s s) ∧
  (∀ s : State, s.ch.active = true → s.isFenced Dom.chamois = false → s.ch.quiet = true →
    Nexts .chamoisSweep s (s.keep (((List.range s.placePages).map fun p => (p, s.mapEntry p)).foldl (fun s p =>
      s.setMapEntry p.1 (setBits (setBits p.2 55 48 (pHeat p.2 / 2)) 47 40 (min 255 (pAge p.2 + 1)))) s))) ∧
  (∀ s : State, s.boot.loaded = true → s.ch.active = true → Nexts .quietEnd s (s.modCh fun c => { c with quiet := false })) ∧
  (∀ s : State, s.boot.loaded = false ∨ s.ch.active = false → Nexts .quietEnd s s)

/-- MIGRATION_MOVE_START and MOVE_DONE (R128, R188, R189, R333): the queued move of the lowest class starts, an Ibex move only while fewer
than 64 of them run; with nothing queued nothing starts. The end of a running move of a placed page, or of an evacuation, is called for,
which a conversion reaches by its jobs alone; a move that is not known or not running stays as it is. A move of a placed page that was
cancelled leaves it where it was, one that has failed twice does too, and a page copied to tier 1 or to tier 2 is there. ADVISE (R195,
R196): an ACTION outside Table 7 or a reserved bit is a FORMAT_ERROR; LENGTH 0 succeeds with RESULT 0 whatever ADDR is; a range that does
not translate to PLACED segments is ADVISE_TARGET; a DISCARD that is not aligned to 2 MiB is CH_ALIGN, and a PIN_T1 that would pass PIN_MAX
is PIN_LIMIT; any other goes through its pages one after the other. -/
def Obligations.MovesAndAdvice : Prop :=
  ((∀ s : State, s.nextMoveToStart = none → Ends .migrationMoveStart s s) ∧
  (∀ (s : State) (m : Move), s.Awake Dom.chamois → s.Awake (Dom.mover 0) → s.nextMoveToStart = some m →
    let n := countOf (fun x => State.isIbexMove x && x.running) s.ch.moves
    (State.isIbexMove m = true → n < 64 → Ends .migrationMoveStart s (s.startIbex m)) ∧
    (State.isIbexMove m = true → 64 ≤ n → Ends .migrationMoveStart s s) ∧
    (State.isIbexMove m = false → Ends .migrationMoveStart s (s.startMove m))) ∧
  (∀ (m : Move) (t : State), m.kind = .cow ∨ (m.kind = .demote ∧ t.demoteProfile = none ∧ t.regBit Reg.IB_POOL_CFG 30 = false) →
    t.startIbex m = t.setMove { m with running := true, src := t.ibAddr m.srcPool m.srcFrame, dst := t.ibAddr m.dstPool m.dstFrame,
                                       total := t.ibPageBytes }) ∧
  (∀ (id : Nat) (s : State), s.move? id = none → Ends (.moveDone id) s s) ∧
  (∀ (id : Nat) (s : State) (m : Move), s.move? id = some m →
    let conv := match m.mode with | .out _ | .back _ => true | _ => false
    let mine := m.kind = .evac ∨ State.isIbexMove m = false
    (mine → m.running = true → conv = false ∨ m.total ≤ m.cursor →
      Ends (.moveDone id) s ((s.setMove { m with upTo := m.total, ending := true }).wakeUp (.move id))) ∧
    (¬ mine ∨ m.running = false ∨ (conv = true ∧ m.cursor < m.total) → Ends (.moveDone id) s s)) ∧
  (∀ (m : Move) (t : State),
    (m.aborted = true → t.finishMove m = (t.cancelMove m).wakeAdvise) ∧
    (m.aborted = false → m.corrupt = true → t.finishMove m = t.packLost m) ∧
    (m.aborted = false → m.corrupt = false → 2 ≤ m.fails → t.finishMove m = t.moveFails m) ∧
    (m.aborted = false → m.corrupt = false → m.fails < 2 → m.mode = .lines →
      (m.kind = .promote → m.dstPool = 0 → t.finishMove m = (t.moveWritten m 1 0).bump Reg.CH_STAT_PROMOTE) ∧
      (m.kind = .plainDemote → m.dstPool ≠ 0 → t.finishMove m = (t.moveWritten m 2 0).bump Reg.CH_STAT_DEMOTE)))) ∧
  (∀ (q : BitVec 16) (s : State) (h : Head), s.headFor q.toNat 0x21 = some h →
    let w := s.newWork q.toNat h .running 0
    let b := s.takeHead q.toNat h .running 0
    let d := h.desc
    let len := descBits d 40 39 0
    let action := descNat d 48 1
    let ending (st : Nat) (t : State) : State := t.endWork w.id st 0
    let ok := descBits d 40 63 40 = 0 ∧ descNat d 49 15 = 0 ∧ action ≤ 5
    (¬ ok → Ends (.advise q) s (ending St.FORMAT_ERROR b)) ∧
    (ok → len = 0 → Ends (.advise q) s (ending St.SUCCESS b)) ∧
    (ok → len ≠ 0 → Ends (.advise q) s (After ((operandAddr (b.workWho w) (dHandles d) (descQ d 32) len false).exec b) (fun a t =>
      match t.segCheck w.ctx a len none with
      | some (.device da _) =>
        if ¬ (regionOf da = .placed ∧ segTarget (t.segOf w.ctx (bits a 47 44)) = 3) then ending St.ADVISE_TARGET t
        else
          let first := (da - placedBase) / pageBytes
          let n := (da + len - 1 - placedBase) / pageBytes - first + 1
          let pins := countOf (fun i => let e := t.mapEntry (first + i); !pLost e && !(pPin e && decide (pPinTier e = 0))) (List.range n)
          if action = 5 ∧ (a.toNat % pageBytes ≠ 0 ∨ len % pageBytes ≠ 0) then ending St.CH_ALIGN t
          else if action = 0 ∧ t.regBits Reg.CH_CTRL 27 8 < t.tier1Pins + pins then ending St.PIN_LIMIT t
          else (t.setWork { w with acc := first + 1, total := n }).adviseLoop w.id action first n
      | _ => ending St.ADVISE_TARGET t) ending)))

/-- The eleven requests of a Fabric Port (R424, R425, R427, R430): one that its port takes, with a credit of its class, takes that credit,
is counted, and enters the ingress; one beyond the credits is discarded and sets CREDIT, one of an agent that is not the port's is discarded
and sets BAD_MSG, and a port that is not enabled takes none. A request that leaves the ingress (R57, R168, R252, R254, R263, R429): a read
of the doorbell aperture returns zeros; a request to a hole has the error response; a FENCE empties the combining entries it covers and
waits, an error in its answer where a non-temporal write that it covers has been lost; a WR_NT merges and is answered at once; a RSV_CHECK
tells whether its thread's reservation of the line still stands, clears that thread's reservations, and breaks those of other observers
where it passes, as a write would. -/
def Obligations.FabricRequests : Prop :=
  (∀ (op : Nat) (ev : Bool) (c : Req → Instr),
    (op, ev, c) ∈ [(Op.RD_SHARED, false, Instr.rdShared), (Op.RD_OWN, false, Instr.rdOwn), (Op.RD_CUR, false, Instr.rdCur),
      (Op.RD_OWN_NODATA, false, Instr.rdOwnNodata), (Op.EVICT_CLEAN, true, Instr.evictClean), (Op.EVICT_DIRTY, true, Instr.evictDirty),
      (Op.ATOMIC, false, Instr.atomic), (Op.WR_UC, false, Instr.wrUc), (Op.WR_NT, false, Instr.wrNt), (Op.FENCE, false, Instr.fence),
      (Op.RSV_CHECK, false, Instr.rsvCheck)] →
    ∀ (m : Req) (s : State), s.Open (Dom.sf m.port.val) →
      let n := if ev then s.evCredits m.port.val else s.reqCredits m.port.val
      (s.portTakes m.port.val m.agent.toNat = true → n ≠ 0 →
        Ends (c m) s (((s.takeCredit ev m.port.val).bump Reg.FP_STAT_REQ).modFp fun f => { f with reqs := f.reqs ++ [{ op := op, m := m }] })) ∧
      (s.portTakes m.port.val m.agent.toNat = true → n = 0 → Ends (c m) s (s.creditErr m.agent.toNat)) ∧
      (s.portTakes m.port.val m.agent.toNat = false → s.portOn m.port.val = true → Ends (c m) s (s.badMsg m.agent.toNat)) ∧
      (s.portOn m.port.val = false → Ends (c m) s s)) ∧
  (∀ (p : PendReq) (s : State), let m := p.m
    let port := m.port.val
    let a := m.agent.toNat
    let x := m.txn.toNat
    let out := s.leaveIngress p
    (p.op = Op.RD_CUR → s.lineKind m.addr.toNat = 2 →
      s.serveReq p = (out.emit (.dat port a x 0 0 false false)).emit (.rsp port a x .goI false false 0)) ∧
    (p.op ≠ Op.FENCE → s.lineKind m.addr.toNat = 4 → s.serveReq p = out.holeResponse p.op m) ∧
    (p.op = Op.FENCE → (s.fp.nt.any fun e => decide (e.port = port) && e.ids.any (s.fenceCovers m)) = false →
      s.serveReq p = out.modFp fun f => { f with
        fences := f.fences ++ [{ m := m, failed := f.ntLost.any (s.fenceCovers m) }], ntLost := f.ntLost.filter fun x => !s.fenceCovers m x }) ∧
    (∀ d, p.op = Op.WR_NT → s.lineKind m.addr.toNat = 0 → s.datOf m = some d →
      s.serveReq p = (out.mergeNt port m.addr.toNat (s.reqId m) d).emit (.rsp port a x .cmp false false 0)) ∧
    (p.op = Op.RSV_CHECK → s.lineKind m.addr.toNat = 0 → s.fp.nt = [] → s.fp.ucs = [] →
      let ok := s.fp.rsv.any fun r => decide (r.agent = a ∧ r.thread = m.thread.toNat ∧ r.line = m.addr.toNat)
      let t := out.modFp fun f => { f with rsv := f.rsv.filter fun r => !decide (r.agent = a ∧ r.thread = m.thread.toNat) }
      s.serveReq p = (if ok then t.breakRsv m.addr.toNat (some (s.reqId m)) else t.bump Reg.FP_STAT_RSV_FAIL).emit (.rsp port a x .cmp false ok 0)))

/-- DAT_WRITE, NT_ENTRY_TIMEOUT, CRD_INIT and CRD_RETURN (R254, R425 to R427): write data takes a DAT credit and waits for its request, and
is discarded beyond the credits; an entry open for 1 µs leaves its combining buffer; INIT discards the SNP credits of a port and a return
adds to them, up to 63. -/
def Obligations.FabricDataAndCredits : Prop :=
  (∀ (d : Dat) (s : State), s.Open (Dom.sf d.port.val) →
    (s.portTakes d.port.val d.agent.toNat = true → s.datCredits d.port.val ≠ 0 →
      Ends (.datWrite d) s ((s.takeDat d.port.val).modFp fun f => { f with dats := f.dats ++ [d] })) ∧
    (s.portTakes d.port.val d.agent.toNat = true → s.datCredits d.port.val = 0 → Ends (.datWrite d) s (s.creditErr d.agent.toNat)) ∧
    (s.portTakes d.port.val d.agent.toNat = false → s.portOn d.port.val = true → Ends (.datWrite d) s (s.badMsg d.agent.toNat))) ∧
  (∀ (port : Fin 16) (line : BitVec 42) (s : State),
    (∀ e, (s.fp.nt.find? fun e => decide (e.port = port.val ∧ e.line = line.toNat)) = some e → Ends (.ntEntryTimeout port line) s (s.flushNt e)) ∧
    ((s.fp.nt.find? fun e => decide (e.port = port.val ∧ e.line = line.toNat)) = none → Ends (.ntEntryTimeout port line) s s)) ∧
  (∀ (port : Fin 16) (s : State), Nexts (.crdInit port) s (s.modFp fun f => { f with snpCrd := Map.put 0 port.val 0 f.snpCrd })) ∧
  (∀ (port : Fin 16) (n : BitVec 4) (s : State), s.fp.snpWait = [] →
    Nexts (.crdReturn port n) s
      (s.modFp fun f => { f with snpCrd := Map.put 0 port.val (min 63 (Map.getD 0 port.val f.snpCrd + n.toNat)) f.snpCrd }))

/-- The seven answers to snoops, DAT_SNOOP and SNOOP_TIMEOUT (R207, R218, R220, R424): an answer for no transaction of its slice, one that
the agent does not owe and one that Table 4 does not give its snoop set PROTOCOL and change nothing else; an RSP_S that was owed is counted,
and the transaction goes on when no answer is owed any more. An RSP_I of the holder whose data the snoop asked for waits for its eviction
notice. Data for the home is dirty where an agent is the requester; what comes after the transaction is written to memory where nothing has
replaced it, and sets PROTOCOL where nobody awaits it. An agent that did not answer in time is taken to have answered RSP_I, with
SNOOP_TIMEOUT, and a line of which it was the EXCL holder is written poisoned. FLUSH_DONE and BULLPEN_EXPIRY (R216, R395, R431): an agent
that has flushed a moving slice is awaited no more, and a Bullpen credit that is not used in time is given to another. -/
def Obligations.SnoopAnswers : Prop :=
  ((∀ (x : Answer) (c : Rsp → Instr),
    (x, c) ∈ [(Answer.i, Instr.rspI), (.s, Instr.rspS), (.fwdS, Instr.rspFwdS), (.fwdF, Instr.rspFwdF), (.fwdI, Instr.rspFwdI),
      (.iWb, Instr.rspIWb), (.fwdV, Instr.rspFwdV)] →
    ∀ (m : Rsp) (s : State), s.Open (Dom.sf m.port.val) → s.portTakes m.port.val m.agent.toNat = true →
      let tag := m.homeTag.toNat
      let a := m.agent.toNat
      (s.txnAt (tag / 256) (tag % 256) = none → Ends (c m) s (s.protocolErr 0)) ∧
      (∀ t, s.txnAt (tag / 256) (tag % 256) = some t →
        (a ∉ t.snoops ∨ t.phase ≠ .snooping ∨ s.snoopOf t a = none → Ends (c m) s (s.protocolErr t.line)) ∧
        (∀ k, s.snoopOf t a = some k → x.fits k = false → Ends (c m) s (s.protocolErr t.line)) ∧
        (∀ k, s.snoopOf t a = some k → x.fits k = true → a ∈ t.snoops → t.phase = .snooping →
          let r := { t with snoops := t.snoops.filter (· ≠ a) }
          (x = .s → Ends (c m) s (s.checkAnswers r)) ∧
          (x = .i → k ≠ .inv → s.isHolder t.line a = true → t.evicted = false → Ends (c m) s (s.setTxn { r with early := some a, since := s.now })) ∧
          (x = .i → k = .inv ∨ s.isHolder t.line a = false → Ends (c m) s (s.checkAnswers r)) ∧
          (x = .iWb → t.data = none → t.evicted = false → Ends (c m) s (s.checkAnswers { r with needDat := true })) ∧
          (x = .fwdS ∨ x = .fwdI ∨ x = .fwdV → t.data = none → t.direct = false → t.evicted = false →
            Ends (c m) s (s.checkAnswers { r with fwd := true, needDat := true })) ∧
          (x = .fwdF → t.data = none → t.direct = false → t.evicted = false →
            Ends (c m) s (s.checkAnswers { r with fwd := true, keptF := true, needDat := true }))))) ∧
  (∀ (d : Dat) (s : State), s.Open (Dom.sf d.port.val) → s.portTakes d.port.val d.agent.toNat = true →
    let slice := d.homeTag.toNat / 256
    let tag := d.homeTag.toNat % 256
    let late := s.sf.late.find? fun l => decide (l.slice = slice ∧ l.tag = tag ∧ l.agent = d.agent.toNat)
    (∀ t p a x, s.txnAt slice tag = some t → t.phase = .snooping → s.snoopOf t d.agent.toNat ≠ none → t.asker = .agent p a x →
      (d.dest.toNat = 31 →
        Ends (.datSnoop d) s ((s.wroteRsv t.line d.agent.toNat).checkAnswers
          { t with data := some d.data, poison := t.poison || d.poison, dirty := true, needDat := false })) ∧
      (d.dest.toNat = a → a ≠ 31 → d.txn.toNat = x → t.data ≠ none →
        Ends (.datSnoop d) s (((if d.dirty = true then s.wroteRsv t.line d.agent.toNat else s).emit (.dat (agentPort s a) a x 0 d.data d.poison d.dirty)).checkAnswers
          { t with direct := true, directDirty := t.directDirty || d.dirty, needDat := false })) ∧
      (d.dest.toNat ≠ 31 → d.dest.toNat ≠ a → Ends (.datSnoop d) s (s.protocolErr t.line))) ∧
    ((∀ t, s.txnAt slice tag = some t → t.phase ≠ .snooping ∨ s.snoopOf t d.agent.toNat = none) →
      (late = none → Ends (.datSnoop d) s (s.protocolErr 0)) ∧
      (∀ l, late = some l → isHostLine l.line = false → l.mask ≠ 0 →
        Ends (.datSnoop d) s ((s.modSf fun f => { f with late := f.late.filter (· ≠ l) }).memPut l.line l.mask d.data d.poison)))) ∧
  (∀ (slice : Fin 16) (tag : BitVec 8) (a : BitVec 5) (s : State),
    (s.txnAt slice.val tag.toNat = none → Ends (.snoopTimeout slice tag a) s s) ∧
    (∀ t, s.txnAt slice.val tag.toNat = some t → t.phase ≠ .snooping → Ends (.snoopTimeout slice tag a) s s) ∧
    (∀ t, s.txnAt slice.val tag.toNat = some t → t.phase = .snooping → a.toNat ∈ t.snoops → t.early = none →
      let cap := { Capture.none with addr := w64 (64 * t.line), space := 1, access := 3, cls := if a.toNat = 16 then 0 else 1, index := a.toNat }
      let u := s.raise Reg.SF Err.SF_SNOOP_TIMEOUT cap
      let r := { t with snoops := t.snoops.filter (· ≠ a.toNat) }
      (∀ e, u.sfEntry t.line = some e → e.st = .excl → e.fwd = a.toNat →
        let f := u.freshLine
        Ends (.snoopTimeout slice tag a) s ((f.2.memPut t.line (BitVec.allOnes 64) f.1 true).checkAnswers
          { r with evicted := true, data := some f.1, dirty := false, poison := true })) ∧
      ((u.sfEntry t.line).all (fun e => decide (e.st = .shared)) = true → Ends (.snoopTimeout slice tag a) s (u.checkAnswers r))))) ∧
  ((∀ (port : Fin 16) (agent : BitVec 4) (slice : Fin 16) (s : State),
    (s.portTakes port.val agent.toNat = true →
      let less (x : Nat × List Nat) : Nat × List Nat := if x.1 = slice.val then (x.1, x.2.filter (· ≠ port.val)) else x
      Ends (.flushDone port agent slice) s (s.modSf fun f => { f with flushing := f.flushing.map less })) ∧
    (s.portTakes port.val agent.toNat = false → s.portOn port.val = true → Ends (.flushDone port agent slice) s (s.badMsg agent.toNat))) ∧
  (∀ (slice : Fin 16) (n : BitVec 5) (s : State),
    let has := s.sf.credits.any fun c => decide (c.slice = slice.val ∧ c.num = n.toNat)
    let keepC (c : Credit) : Bool := !decide (c.slice = slice.val ∧ c.num = n.toNat)
    (has = true → Ends (.bullpenExpiry slice n) s ((s.modSf fun f => { f with credits := f.credits.filter keepC }).bump Reg.SF_STAT_CREDIT_EXPIRE)) ∧
    (has = false → Ends (.bullpenExpiry slice n) s s)))

/-- Table 5 of R209: the snoops of a request by what the filter records of its line. Nothing recorded asks nobody; RD_SHARED and RD_CUR ask
the EXCL or FWD holder alone, and the host only in HOSTX; ownership asks the holder for its data and invalidates every other enabled agent
under MULTI and the host; a back-invalidation and a write invalidate them all. The grants of a device-memory line to an agent (R209 Table 5,
R262): RD_SHARED of a line nobody holds, and RD_OWN, make the requester the EXCL holder and answer GO_E; of a line that is shared RD_SHARED
makes it the FWD holder and answers GO_F; RD_CUR records nothing and answers GO_I; an RD_OWN_NODATA answers GO_M without data and breaks the
other agents' reservations of the line. A grant of ownership breaks those of the granule's other lines. -/
def Obligations.HomeTables : Prop :=
  ((∀ (k : TxnKind) (r : Nat) (on : Nat → Bool), State.snoopPlan k none r on = ([], none)) ∧
  (∀ (e : SfEntry) (r : Nat) (on : Nat → Bool), r ≠ 16 →
    (e.st = .shared → State.snoopPlan .rdShared (some e) r on = ([], none) ∧ State.snoopPlan .rdCur (some e) r on = ([], none)) ∧
    ((e.st = .excl ∨ e.st = .fwd) → e.fwd < 16 → e.fwd ≠ r →
      State.snoopPlan .rdShared (some e) r on = ([(e.fwd, .data)], none) ∧ State.snoopPlan .rdCur (some e) r on = ([(e.fwd, .cur)], none)) ∧
    (e.st = .hostx → State.snoopPlan .rdShared (some e) r on = ([], some .data) ∧ State.snoopPlan .rdCur (some e) r on = ([], some .cur)) ∧
    (∀ rsv, let p := State.snoopPlan (.rdOwn rsv) (some e) r on
      (e.fwd < 16 → e.fwd ≠ r → (e.fwd, Snoop.invFwd) ∈ p.1) ∧
      (∀ a, (a, Snoop.inv) ∈ p.1 ↔ e.multi = true ∧ a < 16 ∧ on a = true ∧ a ≠ r ∧ a ≠ e.fwd) ∧
      (p.2 = some .inv ↔ e.host = true ∨ e.st = .hostx)) ∧
    (∀ discard, ∀ q ∈ (State.snoopPlan (.backInv discard) (some e) r on).1, q.2 = .inv ∧ q.1 < 16 ∧ q.1 ≠ r)) ∧
  (∀ (k : TxnKind) (e : Option SfEntry) (on : Nat → Bool), (State.snoopPlan k e 16 on).2 = none)) ∧
  (∀ (t : Txn) (s : State) (p a x : Nat), isHostLine t.line = false → t.asker = .agent p a x → t.direct = false → t.evicted = false → t.fwd = false →
    let d := s.sendData t (t.data.getD 0) t.poison false
    let excl : SfEntry := { tag := sfTag t.line, st := .excl, host := false, multi := false, fwd := a }
    let own (s : State) : State := (s.sfWrite t.line (some excl)).grantRsv t.line a
    (t.kind = .rdShared → s.grant t none = (own d).answer t .goE false) ∧
    (∀ e, t.kind = .rdShared → e.st = .shared →
      s.grant t (some e) = (d.sfWrite t.line (some { tag := sfTag t.line, st := .fwd, host := e.host, multi := e.multi, fwd := a })).answer t .goF false) ∧
    (∀ e, t.kind = .rdOwn none → s.grant t e = (own d).answer t .goE false) ∧
    (∀ e, t.kind = .rdCur → s.grant t e = d.answer t .goI false) ∧
    (∀ e z, t.kind = .rdOwnNodata z → s.grant t e = (own (s.wroteRsv t.line a)).answer t .goM false))

/-- The place of a line in the snoop filter (R205): a device-memory line's set index has 15 bits and its tag 23, its slice is one of
sixteen, set and tag together give the line back, so that two lines of a slice never share both. -/
def Obligations.SnoopFilterPlaces : Prop :=
  ∀ la lb : Nat, la < 2 ^ 38 → lb < 2 ^ 38 →
    sfSet la < 2 ^ 15 ∧ sfTag la < 2 ^ 23 ∧ sfLine (sfSet la) (sfTag la) = la ∧
    (sfSet la = sfSet lb → sfTag la = sfTag lb → la = lb)

/-- MEMRD, MEMINV, MEMWR, MEMCLNEVCT, MEM_UNSUPPORTED, BIRSP and BICONFLICT (R209, R210, R215, R219, R305, R306, R399): a request whose
address a decoder maps takes a reserved entry of its line's home, or waits for one or for a home that sleeps; an unmapped request, one of
another kind, and every one in the whole-block safe state set MEM_UNSUP, a read with poisoned data and a write with Cmp. A write under an
open BISnp is the write-back before the host's answer. A BIRsp is the host's answer of the open BISnp, and one for no BISnp sets PROTOCOL; a
BIConflict waits for the BIRsp of an open BISnp, and without one or an open host request it is acknowledged at once. What the host is given
of a device-memory line (R210 Table 6): ownership makes it the HOSTX holder and answers with MetaValue A; a shared read of a line nobody
holds records HOST; a read without MetaValue records nothing; a write breaks the reservations of the line and frees the entry, unless the
host keeps the line with MetaValue A; a MemClnEvct frees the entry that names the host alone, clears HOST of any other, and is answered with
Cmp. Table 7 of R222: what a request for a host-memory line asks of the host, by the line's HSTATE (0 I, 1 S, 2 E, 3 M). In E and M nothing
is asked; in S a shared or current read asks nothing and ownership asks RdOwnNoData. That a partial non-caching write asks ownership is the
model's choice (log entry 22) and is not stated here. -/
def Obligations.HostMemory : Prop :=
  (∀ s : State, s.Awake Dom.upCtl → s.Awake Dom.upPhy →
    let enter (line tag : Nat) (k : TxnKind) : State :=
      let slice := s.sliceOf line
      match (if s.heldBefore slice (.host tag) = true ∨ s.homeReady slice line = false then none else s.reservedTag slice) with
      | some n => s.addTxn (State.newTxn slice n line k (.host tag) none s.now)
      | none => s.hold slice line k (.host tag) none 0 0
    let uns := s.raise Reg.UP Err.UP_MEM_UNSUP Capture.none
    let two := s.bump Reg.SF_STAT_BICONFLICT
    (∀ (m : MemReq) (da : Nat), s.wholeSafe = false → s.hdmDecode m.hpa.toNat = some da →
      let rd := if m.noOp then TxnKind.memCur else match m.metaV with | .s => .memShared | .a => .memOwn | .i => .memCur
      Ends (.memRd m) s (enter (da / 64) m.tag.toNat rd) ∧
      Ends (.memInv m) s (enter (da / 64) m.tag.toNat .memOwn) ∧
      Ends (.memClnEvct m) s (enter (da / 64) m.tag.toNat .memClean) ∧
      (s.biTxn? (da / 64) = none → Ends (.memWr m) s
        (enter (da / 64) m.tag.toNat (.memWrite (if m.noOp = true then .i else m.metaV) m.mask m.data m.poison))) ∧
      (s.biTxn? (da / 64) ≠ none → Ends (.memWr m) s
        (((s.memPut (da / 64) m.mask m.data m.poison).breakRsv (da / 64) none).emit (.memCmp m.tag.toNat .i)))) ∧
    (∀ (m : MemReq), s.wholeSafe = true ∨ s.hdmDecode m.hpa.toNat = none →
      Ends (.memRd m) s (let d := uns.freshLine; d.2.emit (.memData m.tag.toNat d.1 true .i)) ∧
      Ends (.memInv m) s (uns.emit (.memCmp m.tag.toNat .i)) ∧ Ends (.memWr m) s (uns.emit (.memCmp m.tag.toNat .i)) ∧
      Ends (.memClnEvct m) s (uns.emit (.memCmp m.tag.toNat .i))) ∧
    (∀ tag : BitVec 16, Ends (.memUnsupported .specRd) s uns ∧ Ends (.memUnsupported (.write tag)) s (uns.emit (.memCmp tag.toNat .i)) ∧
      Ends (.memUnsupported (.read tag)) s (let d := uns.freshLine; d.2.emit (.memData tag.toNat d.1 true .i))) ∧
    (∀ line : BitVec 42,
      (s.biTxn? line.toNat = none → Ends (.biRsp line) s (s.protocolErr line.toNat)) ∧
      (two.biTxn? line.toNat = none → two.openTxn? line.toNat = none → Ends (.biConflict line) s (two.emit (.biConflictAck line.toNat))) ∧
      (two.biTxn? line.toNat ≠ none →
        Ends (.biConflict line) s (two.modSf fun f => { f with conflicts := f.conflicts ++ [(line.toNat, none)] })) ∧
      (∀ t, s.biTxn? line.toNat = some t → Ends (.biRsp line) s (s.checkAnswers { t with snoops := t.snoops.filter (· ≠ 16) })))) ∧
  (∀ (t : Txn) (s : State) (tag : Nat), isHostLine t.line = false → t.asker = .host tag → t.evicted = false → t.fwd = false →
    let d := t.data.getD 0
    (t.kind = .memOwn → s.finishTxn t =
      ((s.sfWrite t.line (some { tag := sfTag t.line, st := .hostx, host := true, multi := false, fwd := 31 })).emit
        (.memData tag d t.poison .a)).closeTxn t) ∧
    (t.kind = .memShared → t.keptF = false → s.sfEntry t.line = none → s.finishTxn t =
      ((s.sfWrite t.line (some { tag := sfTag t.line, st := .shared, host := true, multi := false, fwd := 31 })).emit
        (.memData tag d t.poison .s)).closeTxn t) ∧
    (t.kind = .memCur → s.finishTxn t = (s.emit (.memData tag d t.poison .i)).closeTxn t) ∧
    (∀ e, s.sfEntry t.line = some e →
      (∀ mv mask data po, t.kind = .memWrite mv mask data po →
        s.finishTxn t = (((if e.st = .hostx ∧ mv = .a then s else s.sfWrite t.line none).breakRsv t.line none).emit (.memCmp tag .i)).closeTxn t) ∧
      (t.kind = .memClean → s.finishTxn t =
        ((s.sfWrite t.line (if e.st = .hostx ∨ (e.st = .shared ∧ e.multi = false) then none else some { e with host := false })).emit
          (.memCmp tag .i)).closeTxn t))) ∧
  ((∀ k : TxnKind, State.hostNeed k 2 = none ∧ State.hostNeed k 3 = none) ∧
  State.hostNeed .rdShared 0 = some .rdShared ∧ State.hostNeed .rdShared 1 = none ∧
  (∀ r, State.hostNeed (.rdOwn r) 0 = some .rdOwn ∧ State.hostNeed (.rdOwn r) 1 = some .rdOwnNoData) ∧
  (∀ z, State.hostNeed (.rdOwnNodata z) 0 = some .rdOwnNoData ∧ State.hostNeed (.rdOwnNodata z) 1 = some .rdOwnNoData) ∧
  State.hostNeed .rdCur 0 = some .rdCurr ∧ State.hostNeed .rdCur 1 = none)

/-- SNPDATA, SNPINV, SNPCUR, HOST_FILL_DATA, RDOWNNODATA_GO and GO_WRITEPULL (R220, R222, R223, R239, R241, R242): a snoop of a line that
the slice holds neither in its array nor in its side buffer, and has no request for, answers RspIHitI, one of a line of the side buffer
RspSHitSE, RspIHitSE or RspVHitV as it stays or goes, and one for a slice that sleeps waits; a fill gives a waiting RdCurr its data, and
fills the way of any other request with the granted state; a fill, a GO or a pull for no request sets PROTOCOL; and pulled data is the host
memory's. -/
def Obligations.HostCacheMessages : Prop :=
  ∀ (s : State) (line : BitVec 42), s.Awake Dom.upCtl → s.Awake Dom.upPhy →
    let la := hostLa line.toNat
    let n := dcSlice s la
    let at_ := hostLineOf la
    let answered (r : H2dRsp) (s : State) : State := (s.emit (.d2hRsp r at_ none false)).snoopEnded at_
    let side := (s.pref n).side.any fun e => decide (e.1 = la)
    (s.homeReady n at_ = false → ∀ (c : Instr) (k : TxnKind), (c, k) ∈ [(Instr.snpData line, TxnKind.rdShared), (.snpInv line, .backInv false),
      (.snpCur line, .rdCur)] → Ends c s (s.hold n at_ k (.host 0) none 0 0)) ∧
    (s.homeReady n at_ = true → s.dcHState la = 0 → s.openTxn? at_ = none →
      (side = false → ∀ c ∈ [Instr.snpData line, .snpInv line, .snpCur line], Ends c s (answered .rspIHitI s)) ∧
      (side = true →
        Ends (.snpData line) s (answered .rspSHitSE s) ∧ Ends (.snpCur line) s (answered .rspVHitV s) ∧
        Ends (.snpInv line) s
          (answered .rspIHitSE ((s.setPref n { s.pref n with side := (s.pref n).side.filter fun e => e.1 ≠ la }).prefRetire n false)))) ∧
    (∀ (g : Grant) (data : Line) (poison : Bool),
      (∀ t, (s.sf.txns.find? fun t => decide (t.line = at_) && decide (t.phase = .hostReq .rdCurr)) = some t →
        (∀ x ∈ s.sf.txns, x.line = at_ → x = t) →
        Ends (.hostFillData line g data poison) s (s.proceed { t with data := some data, poison := poison, phase := .queued })) ∧
      (∀ t, s.sf.txns = [t] → t.line = at_ → t.phase = .hostReq .rdOwn → g = .s → Ends (.hostFillData line g data poison) s (s.protocolErr at_)) ∧
      (∀ t, s.sf.txns = [t] → t.line = at_ → t.phase = .hostReq .rdShared ∨ (t.phase = .hostReq .rdOwn ∧ g ≠ .s) →
        let fill (e : DcLine) : DcLine := { e with data := data, poison := poison, hstate := State.grantState g }
        Ends (.hostFillData line g data poison) s ((s.dcUpdate la fill).startDc { t with phase := .queued })) ∧
      ((∀ x ∈ s.sf.txns, x.line ≠ at_) → la ∉ (s.pref n).inFlight → Ends (.hostFillData line g data poison) s (s.protocolErr at_)) ∧
      ((∀ x ∈ s.sf.txns, x.line ≠ at_) → la ∈ (s.pref n).inFlight → Ends (.hostFillData line g data poison) s (s.prefFill n la data poison)) ∧
      ((∀ x ∈ s.sf.txns, x.line ≠ at_) → Ends (.rdOwnNoDataGo line g) s (s.protocolErr at_)) ∧
      (∀ t, s.sf.txns = [t] → t.line = at_ → t.phase = .hostReq .rdOwnNoData → s.dcHState la ≠ 0 → g ≠ .s →
        Ends (.rdOwnNoDataGo line g) s ((s.dcUpdate la fun e => { e with hstate := State.grantState g }).startDc { t with phase := .queued }))) ∧
    ((∀ x ∈ s.sf.txns, x.line ≠ at_) → Ends (.goWritePull line) s (s.protocolErr at_)) ∧
    (∀ t, s.sf.txns = [t] → t.line = at_ → t.phase = .writePull at_ →
      let u := (s.hostTakes la (t.data.getD 0) t.poison).emit (.d2hData at_ (t.data.getD 0) t.poison)
      Ends (.goWritePull line) s (((if 256 ≤ t.tag then u.bump Reg.DC_STAT_DIRTY_VICTIM else u).dcInvalidate la).closeTxn t))

/-- PRED_RESET, SF_PRED_WRITE, PRELOAD_LOCK, UNLOCK, FLUSH, FLUSH_CONTEXT and DC_CMD_END (R226, R235, R236): every counter becomes 1, or the
one selected takes its value; a command written while none runs starts with its operands and cleared counts, one written while another runs
is refused, and the command ends once no line is left: a FLUSH applies each pending MODE of its slices, once they hold no line. -/
def Obligations.DeviceCacheCommands : Prop :=
  (∀ s : State, s.OpenReg Reg.SF_CTRL → Nexts .predReset s (s.modSf fun f => { f with pred := [] })) ∧
  (∀ (v : Word) (s : State), s.OpenReg Reg.SF_PRED →
    s.Open (Dom.sf (bits v 19 16)) → Nexts (.sfPredWrite .full v) s
      (let t := s.storeReg Reg.SF_PRED .full v
       let w := t.reg Reg.SF_PRED
       t.setPred (bits w 19 16) (bits w 15 4) (bits w 1 0))) ∧
  (∀ (c : Half → Word → Instr) (code : Nat),
    (c, code) ∈ [(Instr.preloadLock, (1 : Nat)), (Instr.unlock, 2), (Instr.flush, 3), (Instr.flushContext, 4)] →
    ∀ (v : Word) (s : State), s.OpenReg Reg.DC_CMD → bits v 3 0 = code →
      let t := s.storeReg Reg.DC_CMD .full v
      (t.dc.cmd ≠ 0 → Ends (c .full v) s (t.modDc fun d => { d with refused := true })) ∧
      (t.dc.cmd = 0 →
        let la := (t.reg Reg.DC_CMD_ADDR).toNat / 64
        let n := t.regBits Reg.DC_CMD_LEN 31 0
        let arg := t.reg Reg.DC_CMD
        let b := t.modDc fun d => { d with cmd := code, cmdArg := arg, refused := false, done := 0, denied := 0, cmdKeys := [], cmdAddr := la, cmdLeft := 0 }
        (code = 1 → Ends (c .full v) s (b.modDc fun d => { d with cmdLeft := n })) ∧
        (code = 2 → Ends (c .full v) s ((List.range n).foldl (fun s i => s.unlockLine (la + i)) b)) ∧
        (code = 4 → Ends (c .full v) s (b.flushLines fun k => decide (b.dcCtx k = bits arg 31 20))) ∧
        (code = 3 → Ends (c .full v) s
          (((List.range 16).foldl (fun s n => if bit arg (32 + n) then s.prefDrop n else s) b).flushLines fun k => bit arg (32 + k / 65536))))) ∧
  (∀ s : State, s.dcWaiting = false → s.dcMore = false →
    (s.dc.cmd = 0 → Ends .dcCmdEnd s s) ∧
    (s.dc.cmd ≠ 0 → s.dc.cmd ≠ 3 → Ends .dcCmdEnd s (s.modDc fun d => { d with cmd := 0 })) ∧
    (s.dc.cmd = 3 →
      let pend := (List.range 16).filter fun n => bit s.dc.cmdArg (32 + n) && decide (s.regBits (Reg.DC_SLICE_CFG + 8 * n) 0 0 ≠ s.dcMode n)
      let left := s.dc.lines.any fun e => decide (e.1 / 65536 ∈ pend)
      (left = true → Ends .dcCmdEnd s (s.flushLines fun k => decide (k / 65536 ∈ pend))) ∧
      (left = false →
        Ends .dcCmdEnd s (s.modDc fun d => { d with cmd := 0, mode := pend.foldl (fun m n => Map.put 0 n (1 - Map.getD 0 n m) m) d.mode }))))

/-- The five requests of Ilura Peer Link (R270, R277, R279, R281, R284 to R287): a port that carries no traffic, or has given out no credits
for it, takes none; a packet takes credits of its class, and returns them when it leaves the receive buffer; one of another node, of the
wrong length or with a reserved field set is discarded with BAD_PACKET; a SYNC sets EXPECTED, what was owed before it is acknowledged first,
and what was accepted before it is answered still; the request with the EXPECTED number is accepted, MALFORMED or DENIED by its windows; a
duplicate is answered again; and any other is answered with NAK. Field ranges of requests (R277, R279): a WRITE or READ of length 0, of more
than 1,024 bytes or across a 1 KiB boundary is malformed, and so are an atomic of a length other than 4 or 8 or not aligned to it, and a
reduce-write in a format other than the three it has. REQUEST and acknowledgement order at a receiver (R287, R291): an accepted request is
performed only when every earlier one of its flow has been, but for a reduce-write behind reduce-writes; the answers leave in that order, a
write's among the owed ones, one of before a SYNC at once, a failed one's in a CMP of its own. -/
def Obligations.PeerRequests : Prop :=
  (∀ (m : IplPkt) (s : State), s.Awake (Dom.plLogic m.port.val) → s.Awake (Dom.plIf m.port.val) →
    let ends (c : Instr) (u : State) : Prop := Ends c s (u.opClean (Dom.plLogic m.port.val))
    let port := s.plPort m.port.val
    let node := m.src.toNat
    let flow := m.flow.toNat
    let seq := m.seq.toNat
    let cost := 1 + m.payload.length
    let room (op : IplOp) : Nat := port.grant.getD (State.plClass op) 0
    let up (op : IplOp) : State := s.setPlPort m.port.val
      { port with fails := 0, grant := port.grant.set (State.plClass op) (room op - cost) }
    let left (op : IplOp) : State := (up op).plGive m.port.val (State.plClass op) cost
    let bad (op : IplOp) : State := (left op).raise Reg.PL Err.PL_BAD_PACKET { Capture.none with cls := 9, index := node }
    (∀ (op : IplOp) (c : IplPkt → Instr),
      (op, c) ∈ [(IplOp.write, Instr.iplWrite), (.read, Instr.iplRead), (.atomic, Instr.iplAtomic), (.reduceWrite, Instr.iplReduceWrite)] →
      (s.plUp m.port.val = false ∨ room op < cost → ends (c m) s) ∧
      (s.plUp m.port.val = true → cost ≤ room op → (up op).plBad op m = true → ends (c m) (bad op)) ∧
      (s.plUp m.port.val = true → cost ≤ room op → (up op).plBad op m = false →
        ((s.plRx node flow).expected = none → ends (c m) ((left op).plNak node flow)) ∧
        (∀ e, (s.plRx node flow).expected = some e →
          (seq = e →
            let win := s.plWindow op node m.addr.toNat m.len.toNat
            let fault := if State.plMalformed op m then Ipl.MALFORMED else if win.isNone then Ipl.DENIED else 0
            let cap := { Capture.none with addr := w64 m.addr.toNat, space := 7, cls := 9, index := node }
            let a : PlAcc := { seq := seq, op := op, subop := m.subop.toNat, addr := m.addr.toNat, len := m.len.toNat, payload := m.payload,
                               fn := win.getD 0, poison := m.poison, fault := fault, issued := false, done := none, old := false,
                               port := m.port.val, freed := false }
            let take (s : State) : State := s.updPlRx node flow fun r => { r with expected := some ((e + 1) % 65536), acc := r.acc ++ [a] }
            let counted := (up op).bump Reg.PL_STAT_RX
            (fault ≠ Ipl.DENIED → ends (c m) ((take counted).pumpFlow node flow)) ∧
            (fault = Ipl.DENIED →
              ends (c m) ((take ((counted.raise Reg.PL Err.PL_WIN_DENIED cap).bump Reg.PL_STAT_DENIED)).pumpFlow node flow))) ∧
          (seq ≠ e → (e + 65536 - 1 - seq) % 65536 < 32768 →
            let d := ((left op).bump Reg.PL_STAT_DUP).updPlRx node flow fun r => { r with dup := true }
            ((d.plRx node flow).acc.all (·.old) = true → ends (c m) (d.plAck node flow)) ∧
            ((d.plRx node flow).acc.all (·.old) = false → ends (c m) d)) ∧
          (seq ≠ e → 32768 ≤ (e + 65536 - 1 - seq) % 65536 → ends (c m) ((left op).plNak node flow))))) ∧
    (s.plUp m.port.val = true → cost ≤ room .sync → (up .sync).plBad .sync m = false →
      let r := s.plRx node flow
      let acked (u : State) : State := if 0 < r.owed then u.plAck node flow else u
      let old (a : PlAcc) : PlAcc := { a with old := true }
      let fresh : PlRx := { PlRx.reset with expected := some seq, acc := r.acc.map old }
      ends (.iplSync m) ((((acked (up .sync)).setPlRx node flow fresh).plGive m.port.val (State.plClass .sync) cost).plRespond
        node .cmp flow seq false 0 0 0 []))) ∧
  (∀ m : IplPkt, let a := m.addr.toNat
    let n := m.len.toNat
    (∀ op, op = .write ∨ op = .read ∨ op = .reduceWrite → n = 0 ∨ 1024 < n ∨ a / 1024 ≠ (a + n - 1) / 1024 → State.plMalformed op m = true) ∧
    (n ≠ 4 → n ≠ 8 → State.plMalformed .atomic m = true) ∧ (a % max 1 n ≠ 0 → State.plMalformed .atomic m = true) ∧
    (2 < m.subop.toNat → State.plMalformed .reduceWrite m = true) ∧
    (m.cum = false → m.status = 0 → m.subop = 0 → 0 < n → n ≤ 1024 → a / 1024 = (a + n - 1) / 1024 →
      State.plMalformed .write m = false ∧ State.plMalformed .read m = false)) ∧
  (∀ (node flow : Nat) (a : PlAcc) (rest : List PlAcc) (s : State),
    (a.done = none → a.issued = false → (s.plFlow node flow (a :: rest) false false).1.head? = some a) ∧
    (a.done = none → s.plRetire node flow (a :: rest) = (a :: rest, s)) ∧
    (∀ st, a.done = some st → a.op = .read ∨ a.op = .atomic → s.plRetire node flow (a :: rest) = s.plRetire node flow rest) ∧
    (∀ st, a.done = some st → st = 0 → a.old = true → a.op = .write ∨ a.op = .reduceWrite →
      s.plRetire node flow (a :: rest) = (s.plRespond node .cmp flow a.seq true 0 0 0 []).plRetire node flow rest) ∧
    (∀ st, a.done = some st → st = 0 → a.old = false → a.op = .write ∨ a.op = .reduceWrite →
      s.plRetire node flow (a :: rest) =
        (s.updPlRx node flow fun r => { r with owed := r.owed + 1, oldest := if r.owed = 0 then s.now else r.oldest }).plRetire node flow rest) ∧
    (∀ st, a.done = some st → st ≠ 0 → a.op = .write ∨ a.op = .reduceWrite →
      s.plRetire node flow (a :: rest) = (s.plRespond node .cmp flow a.seq false st 0 0 []).plRetire node flow rest))

/-- The four responses (R280, R287, R289, R290, R294): data reaches the waiter of the READ or ATOMIC with its number; a CMP of its own ends
one write with its status, a cumulative one every write up to its number, and REDO queues a reduce-write again; a NAK with EXPECTED sends
the requests from it on again, one with SYNC_NEEDED fails every unanswered request of the pair, which is then synchronised again. An answer
to no request changes nothing. -/
def Obligations.PeerResponses : Prop :=
  ∀ (m : IplPkt) (s : State), s.Awake (Dom.plLogic m.port.val) → s.Awake (Dom.plIf m.port.val) → s.plUp m.port.val = true →
    let ends (c : Instr) (u : State) : Prop := Ends c s (u.opClean (Dom.plLogic m.port.val))
    let port := s.plPort m.port.val
    let cost := 1 + m.payload.length
    let room (op : IplOp) : Nat := port.grant.getD (State.plClass op) 0
    let held (op : IplOp) : State := s.setPlPort m.port.val
      { port with fails := 0, grant := port.grant.set (State.plClass op) (room op - cost) }
    let up (op : IplOp) : State := (held op).plGive m.port.val (State.plClass op) cost
    let node := m.src.toNat
    let flow := m.flow.toNat
    let seq := m.seq.toNat
    let tx := s.plTx node flow
    (∀ (op : IplOp) (c : IplPkt → Instr) (want : IplOp),
      (op, c, want) ∈ [(IplOp.rdata, Instr.iplRdata, IplOp.read), (.atomicData, Instr.iplAtomicData, .atomic)] → cost ≤ room op → (held op).plBad op m = false →
      ((tx.unacked.find? fun x => decide (x.seq = seq) && decide (x.op = want)) = none → ends (c m) (up op)) ∧
      (∀ x, (tx.unacked.find? fun x => decide (x.seq = seq) && decide (x.op = want)) = some x →
        (m.status.toNat ≠ Ipl.OK → m.status.toNat ≠ Ipl.POISON →
          ends (c m) ((((up op).plTakeSent node flow x).plFailSent x (Ipl.toStatus m.status.toNat)).plProgress node flow)) ∧
        (m.status.toNat = Ipl.OK ∨ m.status.toNat = Ipl.POISON →
          let ls := if op = .atomicData then [x.addr / 64] else linesOf x.addr x.len
          let line (i : Nat) : Got := { who := x.who, line := State.peerLine node (ls.getD i 0), data := some (m.payload.getD i 0),
                                        poison := decide (m.status.toNat = Ipl.POISON) }
          ends (c m) ((((List.range ls.length).foldl (fun s i => s.modSf fun f => { f with got := f.got ++ [line i] })
            ((up op).plTakeSent node flow x)).wakeUp x.who).plProgress node flow)))) ∧
    (cost ≤ room .cmp → (held .cmp).plBad .cmp m = false → m.cum = true →
      let done := tx.unacked.filter fun x => decide (x.op = .write ∨ x.op = .reduceWrite ∨ x.op = .sync) && decide ((seq + 65536 - x.seq) % 65536 < 32768)
      let take (s : State) (x : PlSent) : State := let s := s.plTakeSent node flow x; if x.op = .sync then s else s.postedDone x.who none
      (done = [] → ends (.iplCmp m) (up .cmp)) ∧
      (done ≠ [] → ends (.iplCmp m) ((done.foldl take (up .cmp)).plProgress node flow))) ∧
    (cost ≤ room .cmp → (held .cmp).plBad .cmp m = false → m.cum = false →
      let own := tx.unacked.find? fun x => decide (x.seq = seq) && decide (x.op = .write ∨ x.op = .reduceWrite ∨ x.op = .sync)
      (own = none → ends (.iplCmp m) (up .cmp)) ∧
      (∀ x, own = some x → x.op ≠ .sync → m.status.toNat = Ipl.OK →
        ends (.iplCmp m) ((((up .cmp).plTakeSent node flow x).postedDone x.who none).plProgress node flow)) ∧
      (∀ x, own = some x → x.op = .reduceWrite → m.status.toNat = Ipl.REDO →
        let t := (up .cmp).plTakeSent node flow x
        let v := t.plTx node flow
        ends (.iplCmp m) (((t.setPlTx node flow { v with wait := x :: v.wait }).bump Reg.PL_STAT_REDO).plProgress node flow))) ∧
    (cost ≤ room .nak → (held .nak).plBad .nak m = false → m.status.toNat ≠ Ipl.SYNC_NEEDED →
      ends (.iplNak m) ((up .nak).plResend node flow fun x => decide ((x.seq + 65536 - seq) % 65536 < 32768))) ∧
    (cost ≤ room .nak → (held .nak).plBad .nak m = false → m.status.toNat = Ipl.SYNC_NEEDED →
      let v := (up .nak).setPlTx node flow { tx with unacked := [], synced := false, expiries := 0 }
      let u := tx.unacked.foldl (fun s x => s.plFailSent x St.DEVICE_ERROR) v
      ends (.iplNak m) (State.plPump 2048 node flow (match u.plPortFor node flow with | some p => u.plSync node flow p | none => u)).plPumpAll)

/-- ACK_TIMER, RETX_TIMEOUT, RESYNC, WINDOW_COMMIT and IPL_CREDIT_RETURN (R282, R284, R287, R289): what is owed is acknowledged; a pair with
unanswered requests sends them all again, and after the set number of expiries its node is unreachable, with NODE_UNREACH, and its requests
fail; RESYNC makes a node reachable again; a window is committed when it is not valid or lies within one region, and stays busy for the
requests that were waiting, 10 µs at most; credits return to an up port. PL_CTRL_WRITE, LINK_BLOCK_FAIL, LINK_DOWN, LINK_UP, OL_READY,
OL_LOS and OL_FAULT (R270, R271, R273, R435): a failed link block is replayed and counted, and the eighth in a row retrains the link or
takes it down; a link that goes down sets LINK_DOWN; a port whose lasers are on and ready trains, as x8, or as x4 on one half of its lanes
where that is allowed; the loss of light on a lane in use retrains it, and a fault turns the lasers off. -/
def Obligations.PeerLinksAndTimers : Prop :=
  ((∀ (node : BitVec 8) (flow : BitVec 7) (s : State),
    let tx := s.plTx node.toNat flow.toNat
    let limit := max 1 (s.regBits Reg.PL_TIMEOUT 47 40)
    (0 < (s.plRx node.toNat flow.toNat).owed → Nexts (.ackTimer node flow) s (s.keep (s.plAck node.toNat flow.toNat))) ∧
    ((s.plRx node.toNat flow.toNat).owed = 0 → Nexts (.ackTimer node flow) s s) ∧
    (tx.unacked = [] → Ends (.retxTimeout node flow) s s) ∧
    (tx.unacked ≠ [] → tx.expiries + 1 < limit → Ends (.retxTimeout node flow) s
      ((s.setPlTx node.toNat flow.toNat { tx with expiries := tx.expiries + 1 }).plResend node.toNat flow.toNat fun _ => true)) ∧
    (tx.unacked ≠ [] → limit ≤ tx.expiries + 1 → Ends (.retxTimeout node flow) s
      (((s.modPl fun q => { q with unreach := addNew node.toNat q.unreach }).raise Reg.PL Err.PL_NODE_UNREACH
        { Capture.none with cls := 9, index := node.toNat }).plDropNode node.toNat))) ∧
  (∀ s : State, s.OpenReg Reg.PL_ROUTE → let node := s.regBits Reg.PL_SEL 7 0
    let apart (k : Nat) (t : PlTx) : PlTx := if k / 128 = node then { t with synced := false } else t
    Ends .resync s (s.modPl fun q => { q with unreach := q.unreach.filter (· ≠ node), tx := Map.mapVals apart q.tx })) ∧
  (∀ (h : Half) (v : Word) (s : State), s.OpenReg Reg.PL_WINQ1 →
    let t := s.storeReg Reg.PL_WINQ1 h v
    let waiting := t.pl.rx.flatMap fun e => (e.2.acc.filter fun a => !a.issued && a.done.isNone).map fun a => (e.1 / 128, e.1 % 128, a.seq)
    let q0 := t.reg Reg.PL_WINQ0
    let q1 := t.reg Reg.PL_WINQ1
    (bit q1 63 = true → State.winFits q0 q1 = false → Nexts (.windowCommit h v) s (t.modPl fun q => { q with winRefused := true })) ∧
    (bit q1 63 = false ∨ State.winFits q0 q1 = true → Nexts (.windowCommit h v) s (t.modPl fun q =>
      { q with windows := Map.put { q0 := 0, q1 := 0 } (t.regBits Reg.PL_SEL 37 32) { q0 := q0, q1 := q1 } q.windows, winRefused := false, winBusy := true,
               winDrain := waiting, winBy := t.now + 10000 }))) ∧
  (∀ (port : Fin 4) (cls : BitVec 2) (n : BitVec 12) (s : State), let p := s.plPort port.val
    (p.linkUp = false → Nexts (.iplCreditReturn port cls n) s s) ∧
    (p.linkUp = true → p.held = [] → Nexts (.iplCreditReturn port cls n) s
      (s.setPlPort port.val { p with credits := p.credits.set cls.toNat (p.credits.getD cls.toNat 0 + n.toNat) })))) ∧
  ((∀ (h : Half) (v : Word) (s : State), s.OpenReg Reg.PL_CTRL → Ends (.plCtrlWrite h v) s ((s.storeReg Reg.PL_CTRL h v).plCtrlChanged (s.reg Reg.PL_CTRL))) ∧
  (∀ (p : Fin 4) (s : State), let x := s.plPort p.val
    let y := { x with replays := min 0xFFFFFFFF (x.replays + 1), fails := x.fails + 1 }
    let t := s.setPlPort p.val y
    let lost := s.plLinkLost p.val
    let down := (((lost.setPlPort p.val { lost.plPort p.val with training := false, retrain := false }).emit (.plDown p.val)).raise
      Reg.PL Err.PL_LINK_DOWN Capture.none).plReroute
    (x.linkUp = false → ∀ r, Ends (.linkBlockFail p r) s s) ∧
    (x.linkUp = true → x.fails < 7 → ∀ r, Ends (.linkBlockFail p r) s t) ∧
    (x.linkUp = true → 7 ≤ x.fails → Ends (.linkBlockFail p true) s (t.plStartTrain p.val) ∧ Ends (.linkBlockFail p false) s (t.plLinkDown p.val)) ∧
    (x.linkUp = true ∨ x.training = true → Ends (.linkDown p) s down) ∧
    (x.linkUp = false → x.training = false → Ends (.linkDown p) s s) ∧
    (∀ x8 high, s.laserOn p.val = true → x.ready ≠ none → x.training = true → x8 = true ∨ s.regBit Reg.PL_CTRL (8 + p.val) = true →
      Ends (.linkUp p ⟨x8, high⟩) s ((State.plDrain p.val x.held.length (s.setPlPort p.val
        { x with linkUp := true, x8 := x8, high := high && !x8, training := false, retrain := false, fails := 0 })).plReroute)) ∧
    (∀ x8 high, s.laserOn p.val = false ∨ x.ready = none ∨ x.training = false ∨ (x8 = false ∧ s.regBit Reg.PL_CTRL (8 + p.val) = false) →
      Ends (.linkUp p ⟨x8, high⟩) s s) ∧
    (s.laserOn p.val = true → s.boot.loaded = false → Nexts (.olReady p) s (s.setPlPort p.val { x with ready := some s.now })) ∧
    (s.laserOn p.val = true → s.boot.loaded = true →
      Nexts (.olReady p) s (s.keep ((s.setPlPort p.val { x with ready := some s.now }).plStartTrain p.val))) ∧
    (s.laserOn p.val = false → Nexts (.olReady p) s s) ∧
    (∀ lane : BitVec 3,
      let used := x.linkUp = true ∧ (x.x8 = true ∨ lane.toNat / 4 = b2n x.high)
      (¬ used → Ends (.olLos p lane) s s) ∧ (used → Ends (.olLos p lane) s (s.plStartTrain p.val))) ∧
    (s.laserOn p.val = false → Ends (.olFault p) s ((s.setPlPort p.val { x with fault := true, ready := none }).plLinkDown p.val)) ∧
    (s.laserOn p.val = true →
      Ends (.olFault p) s (((s.setPlPort p.val { x with fault := true, ready := none }).emit (.laser p.val false)).plLinkDown p.val))))

/-- CONFIG_REQUEST (R300, R310): until the image load has ended it is answered with Request Retry Status, for a function that does not
answer as an unsupported request, a read with the dword's value, and a write of a dword that carries no effect of its own with the RW and
W1C bits it has. -/
def Obligations.ConfigurationRequests : Prop :=
  ∀ (fn : BitVec 8) (reg : BitVec 10) (a : CfgAccess) (s : State),
    (s.boot.loaded = false → Ends (.configRequest fn reg a) s (s.emit .cfgRetry)) ∧
    (s.boot.loaded = true → s.up.vfOn < fn.toNat → Ends (.configRequest fn reg a) s (s.unsupported false)) ∧
    (s.boot.loaded = true → fn.toNat ≤ s.up.vfOn →
      (a = .read → Ends (.configRequest fn reg a) s (s.emit (.cfgCpl (s.cfgRead fn.toNat (4 * reg.toNat))))) ∧
      (∀ be v, a = .write be v → 4 * reg.toNat ∉ [0x04, 0x44, 0x58, 0x14C, 0xB0, 0xA0, 0x2A8, 0x2AC, 0x2B0, 0x2B4, 0x348, 0x350] →
        Ends (.configRequest fn reg a) s
          ((s.setCfgDw fn.toNat (4 * reg.toNat) (s.cfgMerge fn.toNat (4 * reg.toNat) be v)).emit (.cfgCpl 0))))

/-- BAR2_ACCESS, BAR2_MAP_WRITE, HDM_COMMIT and HDM_IO_REQUEST (R197, R303, R305, R310, R399): a read, a write or an AtomicOp that its
window does not reach, that no decoder maps, that meets a hole or comes in the whole-block safe state is unsupported, and so is a 128-bit
compare and swap; one whose requester's regions do not permit what it does, a read and a write for an AtomicOp, sets REGION_DENIED too; any
other enters. The window must lie within one region, and a decoder without interleaving or skip, in 256 MiB granules. -/
def Obligations.HostMemoryWindows : Prop :=
  ∀ s : State, s.Awake Dom.upCtl → s.Awake Dom.upPhy →
    (∀ (off : BitVec 32) (len : BitVec 13) (a : HdmAccess),
      let da := s.regBits Reg.UP_BAR2_MAP 26 0 * pageBytes + off.toNat
      let n := State.ioLen len.toNat a
      (s.wholeSafe = true ∨ s.mse 0 = false ∨ 2 ^ s.bar2Shift < off.toNat + n ∨ s.ioHole da n = true ∨ a = .cas128 →
        Ends (.bar2Access off len a) s (s.unsupported (State.ioPosted a))) ∧
      (s.wholeSafe = false → s.mse 0 = true → off.toNat + n ≤ 2 ^ s.bar2Shift → s.ioHole da n = false → a ≠ .cas128 →
        Ends (.bar2Access off len a) s (s.addIo da n a true))) ∧
    (∀ (h : Half) (v : Word), s.OpenReg Reg.UP_BAR2_MAP → let base := bits (mergeHalf h (s.reg Reg.UP_BAR2_MAP) v) 26 0
      (State.oneRegion (base * pageBytes) (2 ^ s.bar2Shift) = true → Nexts (.bar2MapWrite h v) s
        ((s.setReg Reg.UP_BAR2_MAP (w64 base)).modUp fun u => { u with
          bar2Refused := false, bar2Busy := true, bar2Drain := ((s.ch.ios.filter (·.bar2)).map fun r => Waiter.io r.id) ++ u.bar2Drain,
          bar2From := s.now })) ∧
      (State.oneRegion (base * pageBytes) (2 ^ s.bar2Shift) = false → Nexts (.bar2MapWrite h v) s (s.modUp fun u => { u with bar2Refused := true }))) ∧
    (∀ (n : Bool) (base size skip : Word) (ways : BitVec 4) (lock : Bool), s.HostOpen 0 → s.Open Dom.upCtl → let h := s.hdm n
      let bad := ways.toNat ≠ 0 ∨ skip.toNat ≠ 0 ∨ size.toNat = 0 ∨ base.toNat % 2 ^ 28 ≠ 0 ∨ size.toNat % 2 ^ 28 ≠ 0 ∨
        State.oneRegion (s.hdmDev n) size.toNat = false
      (h.committed = true → h.lock = true → Ends (.hdmCommit n base size skip ways lock) s s) ∧
      (h.committed = false ∨ h.lock = false → bad → Ends (.hdmCommit n base size skip ways lock) s
        (s.setHdm n { h with base := base.toNat, size := size.toNat, committed := false, lock := false, err := true, skip := skip.toNat,
                             ways := ways.toNat })) ∧
      (h.committed = false ∨ h.lock = false → ¬ bad → Ends (.hdmCommit n base size skip ways lock) s
        (s.setHdm n { base := base.toNat, size := size.toNat, committed := true, lock := lock, err := false, skip := 0, ways := 0 }))) ∧
    (∀ (who : BitVec 16) (pasid : Option (BitVec 20)) (hpa : BitVec 52) (len : BitVec 13) (a : HdmAccess),
      let n := State.ioLen len.toNat a
      let posted := State.ioPosted a
      (s.wholeSafe = true ∨ s.hdmDecode hpa.toNat = none → Ends (.hdmIoRequest who pasid hpa len a) s (s.unsupported posted)) ∧
      (∀ da, s.wholeSafe = false → s.hdmDecode hpa.toNat = some da →
        let may (write : Bool) : Prop := s.regionPass who.toNat (pasid.map (·.toNat)) da n write = true
        let ok := (posted = true ∨ may false) ∧ (a = .read ∨ may true)
        let cap := { Capture.none with addr := w64 da, space := 1, access := b2n posted, cls := 6, index := who.toNat }
        (¬ ok → Ends (.hdmIoRequest who pasid hpa len a) s ((s.raise Reg.CH Err.CH_REGION_DENIED cap).unsupported posted)) ∧
        (ok → s.ioHole da n = true ∨ a = .cas128 → Ends (.hdmIoRequest who pasid hpa len a) s (s.unsupported posted)) ∧
        (ok → s.ioHole da n = false → a ≠ .cas128 → Ends (.hdmIoRequest who pasid hpa len a) s (s.addIo da n a false))))

/-- VF_ENABLE_SET, VF_ENABLE_CLEAR, FLR, BME_CLEAR, D3HOT, QUIESCE_COMPLETE and FLR_READ_ABANDON (R307, R315): NumVFs functions answer,
seven at most without ARI; a reset, a cleared Bus Master Enable and D3hot each quiesce their function, which ends with its queues DISABLED
once no read of its is out and every write it issued is performed, and the reads of an FLR are given up. A reset of the physical function
quiesces every function that has anything of its own. A command for a function that does not answer changes nothing. The queues that
quiescing stops (R315): every queue of the function without SERVE, and no other; a stopped queue drains with no head and with nothing being
read, and keeps its pointers, its generation and its phase. -/
def Obligations.FunctionsQuiesce : Prop :=
  ((∀ s : State, let c := s.cfgDw 0 0x348
    let n := min (s.cfgDw 0 0x350).toNat s.totalVfs
    (c.getLsbD 0 = false → Nexts .vfEnableSet s
      ((s.setCfgDw 0 0x348 (c ||| 1)).modUp fun u => { u with vfOn := if c.getLsbD 4 then n else min n 7 })) ∧
    (c.getLsbD 0 = true → Nexts .vfEnableSet s s) ∧
    (c.getLsbD 0 = true → s.up.vfOn = 0 →
      Ends .vfEnableClear s ((s.modUp fun u => { u with vfOn := 0 }).setCfgDw 0 0x348 (c &&& ~~~ 1))) ∧
    (c.getLsbD 0 = false → Ends .vfEnableClear s s)) ∧
  (∀ (fn : BitVec 8) (s : State),
    (s.up.vfOn < fn.toNat → Ends (.flr fn) s s ∧ Ends (.bmeClear fn) s s ∧ Ends (.d3hot fn) s s) ∧
    (fn.toNat ≤ s.up.vfOn → fn ≠ 0 → Ends (.flr fn) s ((s.quiesceFn true fn.toNat).cfgReset fn.toNat false)) ∧
    Ends (.flr 0) s (((s.quiesceFns true s.usedFns).resetPf false).dropHostWaits) ∧
    (fn.toNat ≤ s.up.vfOn → s.bme fn.toNat = true →
      Ends (.bmeClear fn) s ((s.setCfgDw fn.toNat 0x04 (s.cfgDw fn.toNat 0x04 &&& ~~~ 4)).quiesceFn false fn.toNat)) ∧
    (fn.toNat ≤ s.up.vfOn → s.inD3 fn.toNat = false →
      Ends (.d3hot fn) s ((s.setCfgDw fn.toNat 0x44 (s.cfgDw fn.toNat 0x44 ||| 3)).quiesceFn false fn.toNat)) ∧
    (s.quiescingOf fn.toNat = none → Ends (.quiesceComplete fn) s s ∧ Ends (.flrReadAbandon fn) s s) ∧
    (∀ x, s.quiescingOf fn.toNat = some x →
      (x.reads ≠ [] ∨ x.writes.any s.accessOut = true → Ends (.quiesceComplete fn) s s) ∧
      (x.reads = [] → x.writes.any s.accessOut = false → s.fnQueues fn.toNat = [] → s.qe.qcmdBusy = none →
        Ends (.quiesceComplete fn) s (s.modUp fun u => { u with quiescing := u.quiescing.filter fun y => !decide (y.fn = fn.toNat) })) ∧
      (∀ q, x.reads = [] → x.writes.any s.accessOut = false → s.fnQueues fn.toNat = [q] → (s.queue q).st = .draining →
        s.qe.qcmdBusy = none ∨ s.qe.qcmdBusy = some q →
        Ends (.quiesceComplete fn) s (((s.setQueue q { s.queue q with st := .disabled, deferred := [] }).modQe fun e =>
          { e with qcmdBusy := none }).modUp fun u => { u with quiescing := u.quiescing.filter fun y => !decide (y.fn = fn.toNat) })) ∧
      (x.flr = false → Ends (.flrReadAbandon fn) s s) ∧
      (x.flr = true → Ends (.flrReadAbandon fn) s
        ((x.reads.foldl (fun s id => ((s.workReads id).foldl (fun s w => s.hostReadEnded w) s).quiescedRead id) s).modUp fun u => { u with
          abandoned := u.abandoned ++ x.reads.map fun id => (id, fn.toNat) }))))) ∧
  ((∀ (fn q : Nat) (s : State), q ∈ s.fnQueues fn ↔ ∃ e ∈ s.qe.queues, e.1 = q ∧ e.2.fn = fn ∧ e.2.serve = false) ∧
  (∀ (q : Nat) (s : State), (s.queue q).st = .disabled → s.stopQueue q = s.setQueue q { s.queue q with deferred := [] }) ∧
  (∀ (q : Nat) (s : State), Map.rising s.qe.queues = true → (s.queue q).st ≠ .disabled →
    let t := (s.stopQueue q).queue q
    let v := s.queue q
    t.st = .draining ∧ t.head = none ∧ t.reading = false ∧ t.deferred = [] ∧
    t.sqHead = v.sqHead ∧ t.sqTail = v.sqTail ∧ t.cqHead = v.cqHead ∧ t.cqTail = v.cqTail ∧ t.sqGen = v.sqGen ∧ t.cqPhase = v.cqPhase))

/-- HOT_RESET and DL_DOWN (R227, R247, R318, R322): both quiesce every function that has anything of its own, reset configuration space but
for the sticky AER registers, and drop what the host held, the session keys, the reservations and the HDM decoders. After a hot reset the
next training reads the configuration again; DL_DOWN sets its error, and the link trains. MSIX_UNMASK, L1_IDLE_EXPIRY, L0S_ENTRY, L1_EXIT,
PTM_DIALOGUE, UP_LINK_TRAINED and COMPLETION_TIMEOUT (R308, R312 to R314, R322): a vector that was pending is sent once nothing masks it; a
quiet link enters L1 after its idle time and L0s in non-FLIT mode, each only where the host has enabled it, and leaves them; a PTM dialogue
moves the time forward at once and slows it for a backward correction; what waits for a read that timed out finds DEVICE_ERROR for its page,
and a translation request that timed out grants nothing. -/
def Obligations.ResetsTimersAndLink : Prop :=
  ((∀ s : State, let q := s.quiesceFns false s.usedFns
    let d := ((q.resetPf true).dropHostWaits.dropHostState).modIdent fun i => { i with keys := [] }
    let r := (d.modFp fun f => { f with rsv := [] }).modUp fun u => { u with
      hdm0 := Hdm.reset, hdm1 := Hdm.reset, ltr := 0, comp := Map.erase 0x81204 u.comp }
    let e := (r.raise Reg.UP Err.UP_DL_DOWN Capture.none).modUp fun u =>
      { u with linkUp := false, speed := 0, width := 0, flit := false, cxl := false, lpm := 0 }
    Ends .hotReset s (r.modUp fun u => { u with reread := true }) ∧
    (e.isFenced Dom.upCtl = false → e.isFenced Dom.upPhy = false → Ends .dlDown s e.trainUp)) ∧
  (∀ s : State, s.sf.txns = [] →
    (s.dropHostState).dc.lines = [] ∧
    (∀ k e, s.sf.entries = [(k, e)] → s.sfFind (sfLine (k / 16 % 32768) e.tag) = some (k, e) → isHostLine (sfLine (k / 16 % 32768) e.tag) = false →
      (e.st = .hostx ∨ (e.st = .shared ∧ e.multi = false ∧ e.host = true) → (s.dropHostState).sf.entries = []) ∧
      (e.st ≠ .hostx → e.st ≠ .shared ∨ e.multi = true → (s.dropHostState).sf.entries = [(k, { e with host := false })])))) ∧
  ((∀ (fn : BitVec 8) (vec : BitVec 11) (s : State), let key := fn.toNat * 2048 + vec.toNat
    let v := Map.getD MsixVec.reset key s.up.msix
    s.HostOpen fn.toNat → s.Open Dom.upCtl →
    (s.vectorCount fn.toNat ≤ vec.toNat → Nexts (.msixUnmask fn vec) s s) ∧
    (vec.toNat < s.vectorCount fn.toNat → v.pending = false → Map.rising s.up.msix = true →
      Nexts (.msixUnmask fn vec) s (s.modUp fun u => { u with msix := Map.put MsixVec.reset key { v with masked := false } u.msix })) ∧
    (vec.toNat < s.vectorCount fn.toNat → v.pending = true → Map.rising s.up.msix = true →
      let sent := Map.put MsixVec.reset key { v with masked := false, pending := false } (Map.put MsixVec.reset key { v with masked := false } s.up.msix)
      Nexts (.msixUnmask fn vec) s (s.keep ((s.modUp fun u => { u with msix := sent }).sendVector0 fn.toNat vec.toNat)))) ∧
  (∀ s : State,
    let l1 := s.up.linkUp = true ∧ s.up.lpm < 2 ∧ s.regBits Reg.UP_CTRL 31 16 ≠ 0 ∧ (s.cfgDw 0 0x60).getLsbD 1 = true ∧ s.upQuiet = true
    let l0s := s.up.linkUp = true ∧ s.up.flit = false ∧ s.up.lpm = 0 ∧ (s.cfgDw 0 0x60).getLsbD 0 = true
    (l1 → Nexts .l1IdleExpiry s ((s.modUp fun u => { u with lpm := s.l1Sub }).emit (.linkState s.l1Sub))) ∧
    (¬ l1 → Nexts .l1IdleExpiry s s) ∧
    (l0s → Nexts .l0sEntry s ((s.modUp fun u => { u with lpm := 1 }).emit (.linkState 1))) ∧ (¬ l0s → Nexts .l0sEntry s s) ∧
    (s.up.lpm ≠ 0 → Nexts .l1Exit s ((s.modUp fun u => { u with lpm := 0 }).emit (.linkState 0))) ∧ (s.up.lpm = 0 → Nexts .l1Exit s s)) ∧
  (∀ (o : Word) (s : State),
    ((s.cfgDw 0 0x170).getLsbD 0 = false ∨ s.up.linkUp = false → Nexts (.ptmDialogue o) s s) ∧
    ((s.cfgDw 0 0x170).getLsbD 0 = true → s.up.linkUp = true →
      let t := s.setReg Reg.UP_PTM_OFFSET o
      (o.msb = false → Nexts (.ptmDialogue o) s { t with now := t.now + o.toNat, slew := 0 }) ∧
      (o.msb = true → Nexts (.ptmDialogue o) s { t with slew := 2 * (2 ^ 64 - o.toNat) }))) ∧
  (∀ (speed : BitVec 4) (width : BitVec 5) (flit cxl : Bool) (power : BitVec 16) (s : State),
    (s.boot.loaded = false ∨ s.up.perst = false → Ends (.upLinkTrained speed width flit cxl power) s s) ∧
    (s.boot.loaded = true → s.up.perst = true → s.isFenced Dom.upCtl = false → s.isFenced Dom.upPhy = false → s.up.reread = false →
      Ends (.upLinkTrained speed width flit cxl power) s
        ((s.modUp fun u => { u with linkUp := true, speed := speed.toNat, width := width.toNat, flit := flit, cxl := cxl, slotPower := power.toNat,
                                    lpm := 0 }).startPresets 8))) ∧
  (∀ (id : Nat) (s : State),
    let given := s.up.abandoned.find? fun a => decide (a.1 = id)
    (∀ a, given = some a →
      Ends (.completionTimeout (.work id)) s ((s.modUp fun u => { u with abandoned := u.abandoned.erase a }).cplTimeout a.2)) ∧
    (given = none → s.work? id = none ∨ s.workReads id = [] → Ends (.completionTimeout (.work id)) s s) ∧
    (∀ w r rest, given = none → s.work? id = some w → s.workReads id = r :: rest →
      (s.isQuiesced id = true → Ends (.completionTimeout (.work id)) s (((s.hostReadEnded r).cplTimeout w.fn).quiescedRead id)) ∧
      (∀ h, s.isQuiesced id = false → (s.ch.hostReads.find? fun h => decide (h.1 = r)) = some h →
        Ends (.completionTimeout (.work id)) s (((s.hostReadEnded r).cplTimeout w.fn).giveVerdict h.2 St.DEVICE_ERROR r)))) ∧
  (∀ (key : AtsKey) (s : State),
    (s.ch.reqs.any (fun r => decide (r.key = key)) = true →
      Ends (.completionTimeout (.translation key)) s ((s.cplTimeout key.fn.toNat).atsAnswer key none)) ∧
    (s.ch.reqs.any (fun r => decide (r.key = key)) = false → Ends (.completionTimeout (.translation key)) s s)) ∧
  (∀ (q : BitVec 16) (s : State) (h : Waiter × AtsKey), (s.ch.hostReads.find? fun h => decide (h.1 = .slot q.toNat)) = some h →
    Ends (.completionTimeout (.slot q)) s
      (((s.hostReadEnded (.slot q.toNat)).cplTimeout (s.queue q.toNat).fn).giveVerdict h.2 St.DEVICE_ERROR (.slot q.toNat))))

/-- RESUME_FN, DISCARD_FN, ATTACH, ATTACH_RESUME and PARK (R317, R319 Table 8): a function's parked requests go on or close only while the
driver is ATTACHED and the function is a bus master that is not quiescing; an attachment from FRESH takes a new token, from PARKED it
discards the parked requests or, with the token, keeps them, the token staying in force while the entropy source has failed; a refused
command changes only its flag. -/
def Obligations.DriverAttachment : Prop :=
  ∀ s : State, let no := s.modUp fun u => { u with attRefused := true }
    let drop := s.reattach
    let token (s : State) : State := (s.modUp fun u => { u with attach := .attached, token := (Config.entropy s.ident.draws).setWidth 64, attRefused := false }).modIdent
      fun i => { i with draws := i.draws + 1 }
    (∀ fn : BitVec 8, s.OpenReg Reg.UP_FN_CMD →
      (s.fnReady fn.toNat = true →
        Ends (.resumeFn fn) s ((s.modUp fun u => { u with fnRefused := false }).resumeRequests fn.toNat) ∧
        Ends (.discardFn fn) s ((s.modUp fun u => { u with fnRefused := false }).discardRequests fn.toNat)) ∧
      (s.fnReady fn.toNat = false →
        Ends (.resumeFn fn) s (s.modUp fun u => { u with fnRefused := true }) ∧
        Ends (.discardFn fn) s (s.modUp fun u => { u with fnRefused := true }))) ∧
    (s.OpenReg Reg.UP_ATTACH →
    (s.ident.entropyBad = true → Ends .attach s no) ∧
    (s.ident.entropyBad = false → s.up.attach = .fresh → Ends .attach s (token s)) ∧
    (s.ident.entropyBad = false → s.up.attach = .attached → Ends .attach s no) ∧
    (s.ident.entropyBad = false → s.up.attach = .parked →
      Ends .attach s (token ((State.allFns.foldl (fun s f => s.discardRequests f) s).reattach))) ∧
    (s.up.attach ≠ .parked → Ends .attachResume s no) ∧
    (s.up.attach = .parked → s.up.staged ≠ s.up.token → Ends .attachResume s no) ∧
    (s.up.attach = .parked → s.up.staged = s.up.token → s.ident.entropyBad = false → Ends .attachResume s (token drop)) ∧
    (s.up.attach = .parked → s.up.staged = s.up.token → s.ident.entropyBad = true →
      Ends .attachResume s (drop.modUp fun u => { u with attach := .attached, attRefused := false })) ∧
    (s.up.attach = .attached → Nexts .park s (s.modUp fun u => { u with attRefused := false, attach := .parked })) ∧
    (s.up.attach ≠ .attached → Nexts .park s no))

/-- POWER_ON, EVACUATE and POWER_OFF (R325, R333, R334): a command of a downstream port acts in the states that it has, and is refused in
every other, which sets the port's REFUSED alone; the write sets the attention indicator too. Before power-up has ended POWER_ON is refused.
-/
def Obligations.SlotCommands : Prop :=
  ∀ (p : Fin 8) (v : Word) (s : State), s.OpenReg (Reg.DN_PORT_CTRL + 8 * p.val) →
    let w := s.storeReg (Reg.DN_PORT_CTRL + 8 * p.val) .full v
    let t := if w.attnInd p.val ≠ s.attnInd p.val ∧ (w.dnPort p.val).button = none then w.emit (.slotLed p.val (w.attnInd p.val)) else w
    let d := t.dnPort p.val
    let no := t.setDnPort p.val { d with refused := true }
    let ok := t.setDnPort p.val { d with refused := false }
    (bits v 2 0 = 1 → (s.boot.loaded = true → d.st = .off ∨ d.st = .failed → Nexts (.powerOn p v) s (s.keep (ok.dnStart p.val))) ∧
      (s.boot.loaded = false ∨ (d.st ≠ .off ∧ d.st ≠ .failed) → Nexts (.powerOn p v) s no)) ∧
    (bits v 2 0 = 2 → (d.st ≠ .up → Ends (.evacuate p v) s no) ∧
      (d.st = .up →
        let u := t.setDnPort p.val { d with st := .evacuating, busy := true, refused := false, evacDone := false, offAfter := false }
        Ends (.evacuate p v) s
          (((u.setRegBits (Reg.IB_T2_POOL + 8 * p.val) 31 31 0).setRegBits (Reg.CH_T2_POOL + 8 * p.val) 31 31 0).evacStep p.val))) ∧
    (bits v 2 0 = 3 → (d.st = .failed ∨ d.st = .off → Ends (.powerOff p v) s (ok.powerOffEnd p.val)) ∧
      (d.st = .evacuating → d.evacDone = false → Ends (.powerOff p v) s no) ∧
      (d.st = .evacuating → d.evacDone = true → Ends (.powerOff p v) s
        ((t.setDnPort p.val { d with offAfter := true, busy := true, refused := false }).dnDrain p.val)) ∧
      (d.st = .up ∨ d.st = .starting ∨ d.st = .empty → Ends (.powerOff p v) s no))

/-- POWER_GOOD, RESET_HOLD_EXPIRY, DN_LINK_UP, MEMORY_ACTIVE and BRINGUP_TIMEOUT (R326 Table 3): each step of bring-up follows the one
before; a device without CXL memory or a decoder fails it, and Memory_Active makes the port UP with its capacity in 256 MiB granules, at
most 512 GiB. A step whose limit passes fails with its code, sets START_FAIL and turns the slot off. An event out of its step changes
nothing. -/
def Obligations.BringUpSteps : Prop :=
  ∀ (p : Fin 8) (s : State), let d := s.dnPort p.val
    let fail (t : State) (code : Nat) : State :=
      ((t.slotDown p.val false).updDnPort p.val fun d => { d with st := .failed, reason := code, busy := false }).dnRaise Err.DN_START_FAIL p.val 0
    (d.st ≠ .starting → Nexts (.powerGood p) s s ∧ Nexts (.resetHoldExpiry p) s s ∧ (∀ x, Nexts (.dnLinkUp p x) s s) ∧
      (∀ n ok, Nexts (.memoryActive p n ok) s s) ∧ (∀ i, Nexts (.bringupTimeout p i) s s)) ∧
    (d.st = .starting →
      (d.step = 1 → Nexts (.powerGood p) s (s.setDnPort p.val { d with powerGood := true, step := 2, since := s.now }) ∧
        Nexts (.bringupTimeout p .power) s (s.keep (fail s 1))) ∧
      (d.step = 2 →
        let u := ((s.setDnPort p.val { d with step := 3, since := s.now }).emit (.slotReset p.val false)).startPresets p.val
        Nexts (.resetHoldExpiry p) s (u.emit (.dnTrain p.val ((u.eqLink p.val).presets.map (·.2))))) ∧
      (Nexts (.bringupTimeout p .notMemory) s s ∧ Nexts (.bringupTimeout p .decoder) s s) ∧
      (d.step = 3 ∨ d.step = 4 → ∀ x : ExpanderId,
        let u := s.setDnPort p.val { d with
          linkUp := true, speed := x.speed.toNat, width := x.width.toNat, step := if x.responds then 6 else 4, since := s.now,
          setup := { DnSetup.reset with bars := State.barBases 0 x.bars, vectors := if x.msix then 2 else b2n x.msi } }
        (x.responds = false → Nexts (.dnLinkUp p x) s u) ∧
        (x.responds = true → x.memCapable = true → x.hdmCount ≠ 0 → x.hdmDecoder = true → Nexts (.dnLinkUp p x) s u) ∧
        (x.responds = true → x.memCapable = false ∨ x.hdmCount = 0 ∨ x.hdmDecoder = false → Nexts (.dnLinkUp p x) s (s.keep (fail u 4)))) ∧
      (d.step = 3 → Nexts (.bringupTimeout p .link) s (s.keep (fail s 2))) ∧
      (d.step = 4 → Nexts (.bringupTimeout p .noResponse) s (s.keep (fail s 3))) ∧
      (d.step = 6 → Nexts (.bringupTimeout p .notActive) s (s.keep (fail s 5)) ∧ ∀ size : Word,
        let c := min (2 ^ 39) (size.toNat / 2 ^ 28 * 2 ^ 28)
        (c = 0 → ∀ ok, Nexts (.memoryActive p size ok) s (s.keep (fail s 4))) ∧
        (c ≠ 0 →
          let u := (s.emit (.dnProgram p.val d.setup.bars d.setup.vectors)).emit (.dnDecoder p.val (tier2Base p.val) c 1 true)
          Nexts (.memoryActive p size false) s (s.keep (fail u 6)) ∧
          Nexts (.memoryActive p size true) s
            (s.keep ((u.setDnPort p.val { d with
              st := .up, capacity := c, step := 0, busy := false, toRow := 0,
              setup := { d.setup with memSpace := true, busMaster := true, decoder := some (tier2Base p.val, c) } }).dnEvent p.val 3)))))

/-- PRESENCE_CHANGE, POWER_FAULT, DN_DL_DOWN, ATTN_BUTTON, BUTTON_WINDOW_EXPIRY and EVAC_DONE (R325, R329 to R331, R333): each event sets
its bit; an UP or evacuating port whose device, power or data link goes is lost; a first press of the button opens its window, blinking, a
second one closes it, and the window's end evacuates an UP port and powers an OFF one on. -/
def Obligations.SlotEvents : Prop :=
  ∀ (p : Fin 8) (s : State), let d := s.dnPort p.val
    let live := d.st = .up ∨ d.st = .evacuating
    (∀ present, d.present = present → Ends (.presenceChange p present) s s) ∧
    (live → d.present = true →
      Ends (.presenceChange p false) s (((s.setDnPort p.val { d with present := false }).dnEvent p.val 0).dnLose p.val false)) ∧
    (d.st = .empty → d.present = false → Ends (.presenceChange p true) s
      ((((s.setDnPort p.val { d with present := true }).dnEvent p.val 0).updDnPort p.val fun d => { d with st := .off }).autoPower p.val)) ∧
    (live → Ends (.powerFault p) s ((s.dnEvent p.val 2).dnLose p.val true)) ∧
    (d.st = .starting → Ends (.powerFault p) s ((s.dnEvent p.val 2).dnFail p.val 1)) ∧
    (live → Ends (.dnDlDown p) s (s.dnLose p.val false)) ∧
    (d.st = .starting → 3 ≤ d.step → Ends (.dnDlDown p) s (s.dnFail p.val 2)) ∧
    (d.st = .starting → d.step < 3 → Ends (.dnDlDown p) s s) ∧
    (let e := s.dnEvent p.val 1
     let b := e.dnPort p.val
     (e.regBit (Reg.DN_PORT_CTRL + 8 * p.val) 5 = false → Nexts (.attnButton p) s (s.keep e)) ∧
     (e.regBit (Reg.DN_PORT_CTRL + 8 * p.val) 5 = true → b.st = .up ∨ b.st = .off →
       (b.button = none →
         Nexts (.attnButton p) s (s.keep ((e.setDnPort p.val { b with button := some (e.now + 5000000000) }).emit (.slotLed p.val 2)))) ∧
       (b.button ≠ none → Nexts (.attnButton p) s (s.keep ((e.setDnPort p.val { b with button := none }).emit (.slotLed p.val (e.attnInd p.val))))))) ∧
    (d.button = none → Ends (.buttonWindowExpiry p) s s) ∧
    (d.button ≠ none →
      let e := (s.setDnPort p.val { d with button := none }).emit (.slotLed p.val (s.attnInd p.val))
      (d.st = .up → Ends (.buttonWindowExpiry p) s ((e.dnEvacuate p.val).updDnPort p.val fun d => { d with offAfter := decide (d.st = .evacuating) })) ∧
      (d.st = .off → Ends (.buttonWindowExpiry p) s (e.dnPowerOn p.val))) ∧
    (let t := s.evacStep p.val
     let x := t.dnPort p.val
     (x.st ≠ .evacuating ∨ x.evacDone = true ∨ t.evacOver p.val = false → Ends (.evacDone p) s t) ∧
     (x.st = .evacuating → x.evacDone = false → t.evacOver p.val = true →
       let e := (t.setDnPort p.val { x with evacDone := true, busy := false, offAfter := false }).dnEvent p.val 5
       Ends (.evacDone p) s (if x.offAfter = true then e.dnPowerOff p.val else e)))

/-- EXPANDER_COMPLETION, DN_CPL_TIMEOUT, UNEXPECTED_S2M, EXPANDER_MESSAGE, XACC_ACCESS, XACC_DONE and POOL_ENABLE (R323, R324, R327, R328,
R332): an answer to no request changes nothing but its error; a request that times out ends with an error, and TO_LIMIT timeouts in a row
lose the port; an access to the expander is refused without a link or to a guarded register, and its end gives the data of a read; a pool
that reaches past its port's capacity is not enabled, and one that is enabled starts with every slot and frame free. -/
def Obligations.ExpanderAccesses : Prop :=
  (∀ (p : Fin 8) (s : State), Nexts (.unexpectedS2m p) s (s.keep (s.dnRaise Err.DN_UNEXPECTED p.val 0)) ∧
    Nexts (.expanderMessage p) s (s.keep (s.dnEvent p.val 7))) ∧
  (∀ (p : Fin 8) (id : Nat) (po : Bool) (s : State), s.dnReq? p.val id = none →
    Ends (.dnCplTimeout p id) s s ∧ Ends (.expanderCompletion p id po) s (s.dnRaise Err.DN_UNEXPECTED p.val 0)) ∧
  (∀ (p : Fin 8) (id : Nat) (s : State) (r : DnReq), s.dnReq? p.val id = some r → r.held = false →
    (let b := ((s.dropDnReq id).updDnPort p.val fun d => { d with toRow := 0 }).opClean (Dom.dnCtl p.val)
     let bad := ({ b with poison := addNew r.line b.poison } : State).dnRaise Err.DN_POISON_RX p.val 0
     (∀ w, r.write = true → r.for_ = .write w → ∀ po, Ends (.expanderCompletion p id po) s
       ((b.writeLine r.line r.mask r.data r.poison).postedDone w none)) ∧
     (∀ sl tag, r.write = true → r.for_ = .txnWrite sl tag → ∀ po, Ends (.expanderCompletion p id po) s
       ((b.writeLine r.line r.mask r.data r.poison).txnWritten sl tag false)) ∧
     (∀ sl tag, r.write = false → r.for_ = .txnRead sl tag →
       Ends (.expanderCompletion p id false) s (b.txnRead sl tag (b.memLine r.line) (b.poisoned r.line)) ∧
       Ends (.expanderCompletion p id true) s (bad.txnRead sl tag (bad.memLine r.line) (bad.poisoned r.line)))) ∧
    let e := (s.dnRaise Err.DN_CPL_TIMEOUT p.val (if r.write then 64 * r.line else 0)).dnEndReq r
    let n := (e.dnPort p.val).toRow + 1
    let u := e.updDnPort p.val fun d => { d with toRow := n }
    let drains : Prop := (s.dnPort p.val).st = .evacuating ∧ (s.dnPort p.val).evacDone = true ∧ (s.dnPort p.val).offAfter = true ∨ (s.dnPort p.val).eqRedo = true
    (drains → Ends (.dnCplTimeout p id) s e) ∧
    (¬ drains → n < max 1 (u.regBits Reg.DN_CTRL 39 32) → Ends (.dnCplTimeout p id) s u) ∧
    (¬ drains → max 1 (u.regBits Reg.DN_CTRL 39 32) ≤ n → Ends (.dnCplTimeout p id) s (u.dnLose p.val false))) ∧
  (∀ (h : Half) (v : Word) (s : State), s.OpenReg Reg.DN_XACC_CMD →
    let t := s.storeReg Reg.DN_XACC_CMD h v
    let w := t.reg Reg.DN_XACC_CMD
    let port := bits w 61 59
    (s.dn.xaccBusy = true → Nexts (.xaccAccess h v) s s) ∧
    (s.dn.xaccBusy = false → (t.dnPort port).linkUp = false → Nexts (.xaccAccess h v) s (t.modDn fun d => { d with xaccErr := true })) ∧
    let guarded := bit w 57 = true ∧ State.xaccGuarded port (bit w 58) (bit w 56) (bits w 47 0) = true
    (s.dn.xaccBusy = false → guarded → Nexts (.xaccAccess h v) s (t.modDn fun d => { d with xaccErr := true })) ∧
    (s.dn.xaccBusy = false → (t.dnPort port).linkUp = true → ¬ guarded → Nexts (.xaccAccess h v) s
      ((t.modDn fun d => { d with xaccBusy := true, xaccErr := false }).emit (.xacc port (bit w 57) (bit w 58) (bit w 56) (bits w 47 0) (t.reg Reg.DN_XACC_DATA))))) ∧
  (∀ (x : Word) (ok : Bool) (s : State),
    let t := s.modDn fun d => { d with xaccBusy := false, xaccErr := !ok }
    (s.dn.xaccBusy = false → Nexts (.xaccDone x ok) s s) ∧
    (s.dn.xaccBusy = true → ok = true → s.regBit Reg.DN_XACC_CMD 57 = false →
      (s.regBit Reg.DN_XACC_CMD 56 = true → Nexts (.xaccDone x ok) s (t.setReg Reg.DN_XACC_DATA x)) ∧
      (s.regBit Reg.DN_XACC_CMD 56 = false → Nexts (.xaccDone x ok) s
        (t.fresh.2.setReg Reg.DN_XACC_DATA (setBits t.fresh.1 31 0 (bits x 31 0))))) ∧
    (s.dn.xaccBusy = true → ok = false ∨ s.regBit Reg.DN_XACC_CMD 57 = true → Nexts (.xaccDone x ok) s t)) ∧
  (∀ (p : Fin 8) (h : Half) (v : Word) (s : State), s.OpenReg (Reg.CH_T2_POOL + 8 * p.val) →
    let off := Reg.CH_T2_POOL + 8 * p.val
    let new := s.merged off h v
    let t := s.setReg off new
    let inside : Prop := t.frameAddr (p.val + 1) (bits new 63 32) - tier2Base p.val ≤ (s.dnPort p.val).capacity ∧ s.portUp p.val = true
    (bit new 31 = false ∨ (inside ∧ bit (s.reg off) 31 = true) → Ends (.poolEnable p true h v) s t) ∧
    (bit new 31 = true → ¬ inside →
      Ends (.poolEnable p true h v) s (s.dnRaise Err.DN_POOL_RANGE p.val 0)) ∧
    (bit new 31 = true → bit (s.reg off) 31 = false → inside →
      Ends (.poolEnable p true h v) s (t.modCh fun c =>
        { c with used := Map.erase (p.val + 1) c.used, dirty := Map.put [] (p.val + 1) (List.range (bits new 63 32)) c.dirty }))) ∧
  (∀ (p : Fin 8) (h : Half) (v : Word) (s : State), s.OpenReg (Reg.IB_T2_POOL + 8 * p.val) →
    let off := Reg.IB_T2_POOL + 8 * p.val
    let new := s.merged off h v
    let t := s.setReg off new
    let inside : Prop := t.ibAddr (p.val + 1) (bits new 63 32) - tier2Base p.val ≤ (s.dnPort p.val).capacity ∧ s.portUp p.val = true
    (bit new 31 = false ∨ (inside ∧ bit (s.reg off) 31 = true) → Ends (.poolEnable p false h v) s t) ∧
    (bit new 31 = true → ¬ inside → Ends (.poolEnable p false h v) s (s.dnRaise Err.DN_POOL_RANGE p.val 0)) ∧
    (bit new 31 = true → inside → bit (s.reg off) 31 = false →
      Ends (.poolEnable p false h v) s (t.writeBytes (t.bitmapAddr (p.val + 1)) (List.replicate (ceilDiv (bits new 63 32) 8) 0))))

/-- EQ_PERIOD, EQ_QUIET_REDO and EQ_REDO_END (R336 to R338): a link that is not enabled for equalisation or not in L0 at 32 GT/s or more is
not measured; a downstream link whose margin is at most the hard one is redone at once, at most once in ten periods, one within the soft
margin at the next quiet time; the upstream link's is asked of the host; the best of the candidates is kept, and a link that does not return
to L0 is down. -/
def Obligations.Equalisation : Prop :=
  (∀ (i : Fin 9) (m : BitVec 8) (lane : BitVec 4) (n : Nat) (s : State), s.regBit Reg.DN_EQ_CTRL i.val = false → Nexts (.eqPeriod i m lane n) s s) ∧
  (∀ (i : Fin 9) (m : BitVec 8) (lane : BitVec 4) (n : Nat) (s : State), let d := s.dnPort i.val
    let t := s.setEqLink i.val { s.eqLink i.val with margin := m.toNat, lane := lane.toNat, corrected := n }
    s.regBit Reg.DN_EQ_CTRL i.val = true → i.val ≠ 8 → d.linkUp = true → 5 ≤ d.speed → d.eqRedo = false → t.eqMayRedo i.val = true →
    let hard := m.toNat ≤ t.regBits Reg.DN_EQ_CTRL 27 24 ∨ 2 ^ t.regBits Reg.DN_EQ_CTRL 39 32 < n
    let soft := m.toNat ≤ t.regBits Reg.DN_EQ_CTRL 31 28
    (hard → Nexts (.eqPeriod i m lane n) s (t.eqStart i.val)) ∧
    (¬ hard → soft → Nexts (.eqPeriod i m lane n) s (t.updDnPort i.val fun d => { d with eqPending := true })) ∧
    (¬ hard → ¬ soft → Nexts (.eqPeriod i m lane n) s t)) ∧
  (∀ (m : BitVec 8) (lane : BitVec 4) (n : Nat) (s : State),
    let t := s.setEqLink 8 { s.eqLink 8 with margin := m.toNat, lane := lane.toNat, corrected := n }
    s.regBit Reg.DN_EQ_CTRL 8 = true → s.up.linkUp = true → s.up.lpm = 0 → 5 ≤ s.up.speed →
    let hard := m.toNat ≤ t.regBits Reg.DN_EQ_CTRL 27 24 ∨ 2 ^ t.regBits Reg.DN_EQ_CTRL 39 32 < n
    let asks := hard ∨ (m.toNat ≤ t.regBits Reg.DN_EQ_CTRL 31 28 ∧ t.servingHold = false)
    (asks → Nexts (.eqPeriod 8 m lane n) s
      ((t.setEqLink 8 { t.eqLink 8 with redos := min 0xFFFFFFFF ((t.eqLink 8).redos + 1) }).setCfgDw 0 0x80 (t.cfgDw 0 0x80 ||| 0x00200000))) ∧
    (¬ asks → Nexts (.eqPeriod 8 m lane n) s t)) ∧
  (∀ (p : Fin 8) (s : State),
    let quiet := (s.dnPort p.val).eqPending = true ∧ (∀ r ∈ s.dn.reqs, r.port ≠ p.val) ∧ s.eqMayRedo p.val = true
    (quiet → Nexts (.eqQuietRedo p) s (s.eqStart p.val)) ∧ (¬ quiet → Nexts (.eqQuietRedo p) s s)) ∧
  (∀ (p : Fin 8) (best : Option (BitVec 2)) (l0 : Bool) (s : State),
    ((s.dnPort p.val).eqIn = false → Ends (.eqRedoEnd p best l0) s s) ∧
    ((s.dnPort p.val).eqIn = true →
      let t := s.updDnPort p.val fun d => { d with eqRedo := false, eqIn := false }
      let kept (v : EqLink) : State := if l0 then (t.setEqLink p.val v).dnRelease p.val else (t.setEqLink p.val v).dnDlDown p.val
      (best = none → Ends (.eqRedoEnd p best l0) s (kept { t.eqLink p.val with failedLast := true })) ∧
      (∀ i x, best = some i → (t.eqCands p.val)[i.toNat]? = some x →
        Ends (.eqRedoEnd p best l0) s (kept { t.eqLink p.val with presets := Map.insert (t.dnPort p.val).speed (16 * x.1 + x.2) (t.eqLink p.val).presets, failedLast := false }))))

/-- FUNDAMENTAL_RESET, POR_N_ASSERT, PUF_READ, PLL_LOCK, ARRAY_INIT_DONE and PERST_RELEASE (R340, R341, R438): while por_n is asserted no
step of power-up takes place; its release and an assertion of perst_n under power reset the block; each step is taken once. What device
memory holds after a reset is free (log entry 32). -/
def Obligations.PowerUpSteps : Prop :=
  ∀ s : State,
    Nexts .porNAssert s (s.keep (s.resetAll true s.up.perst)) ∧
    (s.boot.por = true → Nexts (.fundamentalReset true) s (s.keep (s.resetAll false s.up.perst)) ∧
      Nexts (.fundamentalReset false) s (s.modUp fun u => { u with perst := false }) ∧
      (∀ r, Nexts (.pufRead r) s s) ∧ Nexts .pllLock s s ∧ Nexts .arrayInitDone s s ∧ Nexts .perstRelease s s) ∧
    (s.boot.por = false →
      Nexts (.fundamentalReset true) s s ∧ Nexts (.fundamentalReset false) s (s.keep (s.resetAll false false)) ∧
      (∀ r, s.boot.pufDone = false →
        Nexts (.pufRead r) s ((s.modBoot fun b => { b with pufDone := true }).modIdent fun i => { i with puf := some r })) ∧
      (s.ck.pll = .off → Nexts .pllLock s (s.keep ((s.modCk fun c => { c with pll := .locked }).rails))) ∧
      (s.boot.arrays = true → Nexts .arrayInitDone s s) ∧
      (s.boot.arrays = false → Nexts .arrayInitDone s
        (s.keep ((List.range 16).foldl (fun s n => s.portInit n) (s.modBoot fun b => { b with arrays := true })))) ∧
      Nexts .perstRelease s (s.keep ((s.modUp fun u => { u with perst := true }).startUpTrain)))

/-- FLASH_LOAD_READ, IMAGE_APPLY, CONFIG_COMPLETE and CONFIG_LOCK (R11, R340, R343, R348 to R350): the flash is read once, after the PLL has
locked; the image is applied once, after steps 3 and 4, the newer of two valid copies, or the fallback where none is valid; step 7 follows
all the others, and locks the configuration where the image says so. FLASH_READ, FLASH_PROGRAM, FLASH_ERASE and FLASH_CMD_DONE (R352, R353):
a command on an aligned address starts unless one runs or the flash must not be written there; a READ brings 64 bytes into the data
registers, a PROGRAM writes those, an ERASE clears 64 KiB, and a failure sets FLASH_CMD. Of the contents after a failed PROGRAM or ERASE
nothing is stated: they are free values (log entry 6). -/
def Obligations.ImageAndFlash : Prop :=
  ((∀ (r o e ra rb : Bool) (s : State),
    (s.boot.por = true ∨ s.boot.readDone = true ∨ s.ck.pll ≠ .locked → Nexts (.flashLoadRead r o ⟨e, ra, rb⟩) s s) ∧
    (s.boot.por = false → s.boot.readDone = false → s.ck.pll = .locked →
      let b := (s.modBoot fun b => { b with readDone := true, mode := if r then (if o then 2 else 1) else 0, erase64 := r && e }).setRegBits
        Reg.CFG_STATUS 3 2 (if r then (if o then 2 else 1) else 0)
      let f := if r && ra && rb then b else b.raise Reg.CFG Err.CFG_FLASH_READ { Capture.none with access := 0 }
      Nexts (.flashLoadRead r o ⟨e, ra, rb⟩) s (s.keep ((f.readCopy (r && ra) 1).readCopy (r && rb) 2)))) ∧
  (∀ s : State,
    (s.boot.por = true ∨ s.boot.arrays = false ∨ s.boot.readDone = false ∨ s.boot.applied = true → Nexts .imageApply s s) ∧
    (s.boot.por = false → s.boot.arrays = true → s.boot.readDone = true → s.boot.applied = false →
      let b := s.modBoot fun b => { b with applied := true, copy := s.selectCopy }
      (s.selectCopy = 0 → Nexts .imageApply s (s.keep b.applyFallback)) ∧
      (s.selectCopy ≠ 0 → Nexts .imageApply s (s.keep (b.applyCopy s.selectCopy))))) ∧
  (∀ s : State, let a := s.reg Reg.CFG_COPY_A
    let b := s.reg Reg.CFG_COPY_B
    (bits a 3 0 ≠ 1 → bits b 3 0 ≠ 1 → s.selectCopy = 0) ∧ (bits a 3 0 = 1 → bits b 3 0 ≠ 1 → s.selectCopy = 1) ∧
    (bits a 3 0 ≠ 1 → bits b 3 0 = 1 → s.selectCopy = 2) ∧
    (bits a 3 0 = 1 → bits b 3 0 = 1 → s.selectCopy = if bits a 63 32 < bits b 63 32 then 2 else 1)) ∧
  (∀ s : State, let b := s.boot
    let ready := b.por = false ∧ b.loaded = false ∧ b.pufDone = true ∧ b.arrays = true ∧ b.applied = true ∧ b.keyDone = true ∧ s.ck.pll = .locked
    (¬ ready → Nexts .configComplete s s) ∧
    (ready →
      let c := if b.lock then s.checkChain.lockConfig else s.checkChain
      let l := (((c.setRegBits Reg.CFG_STATUS 0 0 1).modBoot fun b => { b with loaded := true }).emit .cfgDone).modIdent fun i => { i with entropyOk := !i.entropyBad }
      let d := (List.range Config.downPorts).foldl (fun s p => s.autoPower p) l
      let e := (List.range 4).foldl (fun s p => if s.laserOn p && (s.plPort p).ready.isSome then s.plStartTrain p else s) d
      Nexts .configComplete s (s.keep e.startUpTrain))) ∧
  (∀ s : State, s.OpenReg Reg.CFG_LOCK → Nexts .configLock s ((s.setReg Reg.CFG_LOCK 1).modIdent fun i => { i with puf := none }))) ∧
  ((∀ (c : Half → Word → Instr) (code : Nat), (c, code) ∈ [(Instr.flashRead, (1 : Nat)), (Instr.flashProgram, 2), (Instr.flashErase, 3)] →
    ∀ (v : Word) (s : State), s.OpenReg Reg.CFG_FLASH_CMD → bits v 34 32 = code →
      let t := s.storeReg Reg.CFG_FLASH_CMD .full v
      let a := t.regBits Reg.CFG_FLASH_CMD 21 0
      let data := if code = 2 then (List.range 8).flatMap fun k => leBytes 8 (t.reg (Reg.CFG_FLASH_DATA + 8 * k)).toNat else []
      (t.flashRefused code a = true → Nexts (c .full v) s (t.modBoot fun b => { b with refused := true })) ∧
      (t.flashRefused code a = false → Nexts (c .full v) s
        ((t.modBoot fun b => { b with refused := false, failed := false, cmd := some { cmd := code, addr := a, data := data } }).emit (.flash code a data)))) ∧
  (∀ (ok : Bool) (s : State), (s.boot.cmd = none → Nexts (.flashCmdDone ok) s s)) ∧
  (∀ (s : State) (c : FlashCmd), s.boot.cmd = some c →
    let t (failed : Bool) : State := s.modBoot fun b => { b with cmd := none, failed := failed }
    (c.cmd = 1 → Nexts (.flashCmdDone true) s
      ((List.range 8).foldl (fun s k => s.setReg (Reg.CFG_FLASH_DATA + 8 * k) (w64 (leNat (s.flashBytes (c.addr + 8 * k) 8)))) (t false))) ∧
    (c.cmd = 2 → Nexts (.flashCmdDone true) s ((t false).flashPut c.addr c.data)) ∧
    (c.cmd = 3 → Nexts (.flashCmdDone true) s ((t false).modBoot fun b => { b with flash := Mem.clear c.addr 65536 b.flash })) ∧
    (c.cmd = 2 ∨ c.cmd = 3 → Nexts (.flashCmdDone false) s (s.keep
      ((State.flashScramble c.addr (if c.cmd = 2 then 1 else 1024) (t true)).raise Reg.CFG Err.CFG_FLASH_CMD { Capture.none with access := 1 }))) ∧
    (c.cmd = 1 → Nexts (.flashCmdDone false) s (s.keep ((t true).raise Reg.CFG Err.CFG_FLASH_CMD { Capture.none with access := 0 })))))

/-- KEY_DERIVE, ENROL and ENTROPY_FAIL (R354, R355, R359): without helper data nothing is derived; a response that gives no seed sets
PUF_FAIL, and a key that does not match its hash KEY_MISMATCH; ENROL needs a held response, an unlocked configuration and a working source
of entropy; a health test that fails stops that source. The extractor itself is a free function of the configuration (log entry 6). -/
def Obligations.IdentityKey : Prop :=
  (∀ s : State, s.boot.por = false → s.boot.applied = true → s.boot.pufDone = true → s.boot.keyDone = false →
    let b := s.modBoot fun b => { b with keyDone := true }
    let t := b.modIdent fun i => { i with puf := none }
    let seed := Config.fuzzySeed (s.ident.puf.getD []) (s.boot.helper.drop 48)
    (s.boot.helper = [] → Nexts .keyDerive s b) ∧
    (s.boot.helper ≠ [] → Nexts .keyDerive s (match seed with
      | none => s.keep ((t.modIdent fun i => { i with keyState := 4, d := 0, pub := [] }).raise Reg.ID Err.ID_PUF_FAIL Capture.none)
      | some x =>
        if sha384 (P384.publicKey (identityScalar x)) = s.boot.helper.take 48 then
          t.modIdent fun i => { i with keyState := 1, d := identityScalar x, pub := P384.publicKey (identityScalar x) }
        else s.keep ((t.modIdent fun i => { i with keyState := 3, d := 0, pub := [] }).raise Reg.ID Err.ID_KEY_MISMATCH Capture.none)))) ∧
  (∀ s : State, s.OpenReg Reg.ID_CMD → let no := s.modIdent fun i => { i with refused := true }
    (s.ident.puf = none → Nexts .enrol s no) ∧
    (s.ident.keyState ≠ 0 ∨ s.locked = true ∨ s.ident.entropyBad = true ∨ s.ident.safe = true → Nexts .enrol s no) ∧
    (∀ resp, s.ident.puf = some resp → s.ident.keyState = 0 → s.locked = false → s.ident.entropyBad = false → s.ident.safe = false →
      let r := s.draw 32
      let t := r.2.modIdent fun i => { i with refused := false, puf := none }
      Nexts .enrol s (match Config.fuzzySeed resp r.1 with
        | some x => t.modIdent fun i =>
            { i with keyState := 2, d := identityScalar x, pub := P384.publicKey (identityScalar x), helper := r.1 }
        | none => s.keep ((t.modIdent fun i => { i with keyState := 4, d := 0, pub := [] }).raise Reg.ID Err.ID_PUF_FAIL Capture.none)))) ∧
  (∀ s : State, Nexts .entropyFail s (s.keep ((s.modIdent fun i => { i with entropyBad := true, entropyOk := false }).raise Reg.ID Err.ID_ENTROPY Capture.none)))

/-- The SPDM requests and the IDE key messages (R341, R357, R358), their codes and layouts those of SPDM 1.3 as the model presumes them (log
entry 28): before the load has ended none is answered; one out of the order of the negotiation is answered with an error; a certificate is
given only where the chain is offered; a session opens with KEY_EXCHANGE and FINISH, at most four at once, and the messages of a session are
taken only while it is open. KEY_PROG, K_SET_GO, K_SET_STOP and QUERY inside an open session (R358): a key of the link stream or of the two
selective streams takes the place of the one with its names, one for another stream is refused; a key set goes or stops in one direction,
and a query tells for each direction whether a key of the stream is in use. -/
def Obligations.SecurityMessages : Prop :=
  (∀ s : State,
    let err (c : Nat) : State := s.emit (.spdm 0x7F [BitVec.ofNat 8 c])
    let later := fun (P : Instr → Prop) => P .getDigests ∧ (∀ slot off len, P (.getCertificate slot off len)) ∧ (∀ slot n, P (.challenge slot n)) ∧
      (∀ i g n, P (.getMeasurements i g n)) ∧ (∀ slot r e, P (.keyExchange slot r e)) ∧ (∀ n v, P (.spdmFinish n v))
    let inside := fun (P : BitVec 32 → Instr → Prop) => ∀ n, P n (.heartbeat n) ∧ (∀ b, P n (.keyUpdate n b)) ∧ P n (.endSession n) ∧
      (∀ st ks tx sub key, P n (.keyProg n st ks tx sub key)) ∧ (∀ st ks tx sub, P n (.kSetGo n st ks tx sub) ∧ P n (.kSetStop n st ks tx sub)) ∧
      (∀ st, P n (.query n st))
    (s.boot.loaded = false → Nexts .getVersion s s ∧ Nexts .getCapabilities s s ∧ Nexts .negotiateAlgorithms s s ∧
      later (fun c => Nexts c s s) ∧ inside (fun _ c => Nexts c s s)) ∧
    (s.boot.loaded = true →
      Nexts .getVersion s ((s.modIdent fun i => { i with stage := 1 }).emit (.spdm 0x04 [0, 1, 0, 0x13])) ∧
      (s.ident.stage = 0 → Nexts .getCapabilities s (err 4)) ∧
      (s.ident.stage ≠ 0 → Nexts .getCapabilities s ((s.modIdent fun i => { i with stage := max i.stage 2 }).emit (.spdm 0x61 (leBytes 4 0x62D6)))) ∧
      (s.ident.stage < 2 → Nexts .negotiateAlgorithms s (err 4)) ∧
      (2 ≤ s.ident.stage → Nexts .negotiateAlgorithms s ((s.modIdent fun i => { i with stage := 3 }).emit
        (.spdm 0x63 (leBytes 4 0x80 ++ leBytes 4 2 ++ leBytes 2 0x10 ++ leBytes 2 2 ++ leBytes 2 1)))) ∧
      (s.ident.stage < 3 → later (fun c => Nexts c s (err 4)) ∧ inside (fun _ c => Nexts c s (err 4))) ∧
      (s.ident.stage = 3 →
        Nexts .getDigests s (s.emit (.spdm 0x01 (if s.ident.chainOk then 1 :: sha384 s.spdmChain else [0]))) ∧
        (s.ident.chainOk = false → ∀ slot off len, Nexts (.getCertificate slot off len) s (err 1)) ∧
        (s.ident.chainOk = true → ∀ off len : BitVec 16, let c := s.spdmChain
          let part := (c.drop off.toNat).take len.toNat
          (c.length ≤ off.toNat → Nexts (.getCertificate 0 off len) s (err 1)) ∧
          (off.toNat < c.length → Nexts (.getCertificate 0 off len) s
            (s.emit (.spdm 0x02 (leBytes 2 part.length ++ leBytes 2 (c.length - off.toNat - part.length) ++ part))))) ∧
        (s.ident.chainOk = false → ∀ slot n, Nexts (.challenge slot n) s (err 1)) ∧
        (s.ident.chainOk = true → s.keyUsable = true → ∀ nonce, let n := s.draw 1
          let g := n.2.sign
          Nexts (.challenge 0 nonce) s (g.2.emit (.spdm 0x03 (1 :: (sha384 s.spdmChain ++ n.1.take 32 ++ g.1))))) ∧
        (∀ i : BitVec 8, 3 < i.toNat → i.toNat ≠ 0xFF → ∀ g n, Nexts (.getMeasurements i g n) s (err 1)) ∧
        (∀ n, Nexts (.getMeasurements 0 false n) s (s.emit (.spdm 0x60 [3]))) ∧
        (∀ i ∈ [1, 2, 3], ∀ n, let m := s.measurement i
          Nexts (.getMeasurements (BitVec.ofNat 8 i) false n) s (s.emit (.spdm 0x60 (BitVec.ofNat 8 i :: (leBytes 2 m.length ++ m))))) ∧
        (s.ident.chainOk = false → ∀ slot r e, Nexts (.keyExchange slot r e) s (err 1)) ∧
        (s.ident.chainOk = true → s.keyUsable = true → s.ident.entropyBad = false → 4 ≤ s.ident.sessions.length →
          ∀ r e, P384.onCurve e = true → Nexts (.keyExchange 0 r e) s (err 10)) ∧
        (s.ident.chainOk = true → s.keyUsable = true → s.ident.entropyBad = false → s.ident.sessions.length < 4 →
          let d := s.draw 2
          let q := P384.publicKey (beNat (d.1.drop 48) % (P384.order - 1) + 1)
          let g := d.2.sign
          let id := s.ident.nextSession
          ∀ r e, P384.onCurve e = true → Nexts (.keyExchange 0 r e) s
            ((g.2.modIdent fun i => { i with sessions := i.sessions ++ [{ id := id, open_ := false }], nextSession := id + 1 }).emit
              (.spdm 0x64 (leBytes 4 id ++ d.1.take 32 ++ q ++ g.1 ++ beBytes 48 (Config.verifyData id).toNat)))) ∧
        (s.ident.sessions = [] → ∀ n v, Nexts (.spdmFinish n v) s (err 2)) ∧
        (∀ (n : BitVec 32) x v, s.ident.sessions = [x] → x.id = n.toNat → x.open_ = false →
          Nexts (.spdmFinish n v) s (if Config.finishVerifies n.toNat v then
            (s.modIdent fun i => { i with sessions := [{ x with open_ := true }] }).emit (.spdm 0x65 []) else (s.modIdent fun i => { i with sessions := [] }).emit (.spdm 0x7F [6]))) ∧
        inside (fun n c => (s.ident.sessions.any fun x => decide (x.id = n.toNat) && x.open_) = false → Nexts c s (err 2)) ∧
        (∀ n : BitVec 32, (s.ident.sessions.any fun x => decide (x.id = n.toNat) && x.open_) = true →
          Nexts (.heartbeat n) s (s.emit (.spdm 0x68 [])) ∧
          (∀ b : Bool, Nexts (.keyUpdate n b) s (s.emit (.spdm 0x69 [if b then 2 else 1]))) ∧
          Nexts (.endSession n) s ((s.modIdent fun i => { i with sessions := i.sessions.filter fun x => !decide (x.id = n.toNat) }).emit (.spdm 0x6C [])))))) ∧
  (∀ (s : State) (n : BitVec 32) (st : BitVec 8) (ks tx : Bool) (sub : BitVec 4) (key : BitVec 256), s.boot.loaded = true → s.ident.stage = 3 →
    (s.ident.sessions.any fun x => decide (x.id = n.toNat) && x.open_) = true →
    let name : List Byte := [BitVec.ofNat 8 st.toNat, BitVec.ofNat 8 (b2n ks + 2 * b2n tx + 16 * sub.toNat)]
    let mine (k : IdeKey) : Bool := State.IdeKey.named k st.toNat ks tx sub.toNat
    let k : IdeKey := { stream := st.toNat, keySet := ks, tx := tx, sub := sub.toNat, key := key, going := false }
    let goes (b : Bool) : State := (s.modIdent fun i => { i with keys := updateWhere mine (fun k => { k with going := b }) i.keys }).emit (.spdm 0x106 name)
    let on (t : Bool) : Bool := s.ident.keys.any fun k => decide (k.stream = st.toNat) && (k.tx == t) && k.going
    (2 < st.toNat → Nexts (.keyProg n st ks tx sub key) s (s.emit (.spdm 0x103 (3 :: name)))) ∧
    (st.toNat ≤ 2 → Nexts (.keyProg n st ks tx sub key) s
      ((s.modIdent fun i => { i with keys := i.keys.filter (fun k => !mine k) ++ [k] }).emit (.spdm 0x103 (0 :: name)))) ∧
    Nexts (.kSetGo n st ks tx sub) s (goes true) ∧ Nexts (.kSetStop n st ks tx sub) s (goes false) ∧
    Nexts (.query n st) s (s.emit (.spdm 0x101 [BitVec.ofNat 8 st.toNat, BitVec.ofNat 8 (b2n (on false) + 2 * b2n (on true))])))

/-- PLL_UNLOCK, PLL_RELOCK, PLL_FAIL, LEVEL_CHANGE, VREG_ACK, VREG_ACK_FALL and VREG_TIMEOUT (R363, R366, R367, R436): a PLL that loses its
lock is counted and relocks, and once it has, what waited for the clocks goes on, or it fails; while the clocks stand a step of what they
drive does nothing (log entry 114); a level change begins at a write of its target; an acknowledgement ends the request, and the change that
it belongs to; a timeout sets VREG_TIMEOUT, and a lowering change is given up, its target back at its source. AVFS_PERIOD and DROOP (R369,
R370): while the loop is off, or power is held, no trim moves; a period gives each ACTIVE domain that has reported, on a rail that keeps its
level, one step down where its least slack lies below LOW_TH and one up where it lies above HIGH_TH, up to the maximum, and leaves every
other trim; a report of a droop at or above its threshold, or from the always-on domain, does nothing; one below it stretches the clock, is
counted, and lowers the domain's trim by one step where the loop runs, and one that recurs while the rail stands at trim 0 sets AVFS_LIMIT.
-/
def Obligations.ClocksAndRails : Prop :=
  ((∀ s : State,
    (s.ck.pll ≠ .locked → exec .pllUnlock s = .next s) ∧
    (s.ck.pll = .locked → exec .pllUnlock s = .next (s.keep
      (((s.modCk fun c => { c with pll := .relocking, relocks := c.relocks + 1 }).bump Reg.CK_STAT_RELOCK).raise Reg.CK Err.CK_PLL_UNLOCK Capture.none))) ∧
    (s.ck.pll ≠ .relocking → exec .pllRelock s = .next (s.done s) ∧ exec .pllFail s = .next (s.done s)) ∧
    (s.ck.pll = .relocking →
      exec .pllFail s = .next (s.keep ((s.modCk fun c => { c with pll := .failed }).raise Reg.CK Err.CK_PLL_FAIL Capture.none)) ∧
      exec .pllRelock s = .next (s.done ((s.pm.waits.filter fun w => decide (w.dom = State.relockWait)).foldl (fun t w => t.redoParked w)
        ((s.modCk fun c => { c with pll := .locked }).modPm fun p => { p with waits := p.waits.filter fun w => !decide (w.dom = State.relockWait) })))) ∧
    (s.clocksStopped = true → (∀ l, exec (.avfsPeriod l) s = .next s) ∧
      (∀ d : Fin 96, (∀ x, exec (.droop d x) s = .next s) ∧ exec (.entryCommit d) s = .next s ∧ exec (.wakeComplete d) s = .next s))) ∧
  (∀ (h : Half) (v : Word) (s : State), s.OpenReg Reg.CK_LEVEL →
    exec (.levelChange h v) s = .next (s.keep (((s.storeReg Reg.CK_LEVEL h v).levelStart 0).levelStart 1))) ∧
  (∀ (rail : BitVec 2) (s : State), let v := s.vregOf rail.toNat
    let a := (s.setVreg rail.toNat { v with req := false, ack := true }).emit (.vreg rail.toNat v.mv false)
    (v.req = false → exec (.vregAck rail) s = .next s ∧ exec (.vregTimeout rail) s = .next s) ∧
    (v.req = true →
      (s.moveOf rail.toNat = none → exec (.vregAck rail) s = .next a) ∧
      (∀ m, s.moveOf rail.toNat = some m →
        (m.asked = false → exec (.vregAck rail) s = .next a) ∧
        (m.asked = true →
          let b := if m.target < m.source then a.setLevel rail.toNat m.target else a
          exec (.vregAck rail) s = .next (s.keep (((b.bump Reg.CK_STAT_LEVEL_CHANGE).setLevelMove rail.toNat none).levelStart rail.toNat)))) ∧
      (let t := ((s.setVreg rail.toNat { v with req := false }).emit (.vreg rail.toNat v.mv false)).raise Reg.CK Err.CK_VREG_TIMEOUT { Capture.none with index := rail.toNat }
       (s.moveOf rail.toNat = none → exec (.vregTimeout rail) s = .next (s.keep (t.vregPump rail.toNat))) ∧
       (∀ m, s.moveOf rail.toNat = some m →
         (m.asked = false → exec (.vregTimeout rail) s = .next (s.keep (t.vregPump rail.toNat))) ∧
         (m.asked = true →
           let u := if m.target < m.source then (if rail.toNat = 0 then t.setRegBits Reg.CK_LEVEL 1 0 m.source else t.setRegBits Reg.CK_LEVEL 5 4 m.source) else t
           exec (.vregTimeout rail) s = .next (s.keep (((u.setLevelMove rail.toNat none).levelStart rail.toNat).vregPump rail.toNat)))))) ∧
    (v.ack = false → exec (.vregAckFall rail) s = .next s) ∧
    (v.ack = true → exec (.vregAckFall rail) s = .next (s.keep ((s.setVreg rail.toNat { v with ack := false }).vregPump rail.toNat))))) ∧
  ((∀ (l : List Slack) (s : State), s.regBit Reg.CK_CTRL 0 = false ∨ s.powerHeld = true → exec (.avfsPeriod l) s = .next s) ∧
  (∀ (l : List Slack) (s : State), s.clocksStopped = false → s.regBit Reg.CK_CTRL 0 = true → s.powerHeld = false →
    ∃ t, exec (.avfsPeriod l) s = .next t ∧ ∀ d < 95,
      let mine := (l.filter fun x => decide (x.domain.val = d)).map (·.slack.toNat)
      let rail := State.railOf d
      let moves := mine ≠ [] ∧ (s.dom d).st = .active ∧ s.moveOf rail = none
      let low := mine.foldl min 255
      let v := s.trimOf d (s.levelOf rail)
      let top := min 20 (s.regBits Reg.CK_AVFS_CFG 55 48)
      (∀ level, ¬ moves ∨ level ≠ s.levelOf rail → t.trimOf d level = s.trimOf d level) ∧
      (moves → low < s.regBits Reg.CK_AVFS_CFG 39 32 → t.trimOf d (s.levelOf rail) = v - 1) ∧
      (moves → s.regBits Reg.CK_AVFS_CFG 39 32 ≤ low → low ≤ s.regBits Reg.CK_AVFS_CFG 47 40 → t.trimOf d (s.levelOf rail) = v) ∧
      (moves → s.regBits Reg.CK_AVFS_CFG 39 32 ≤ low → s.regBits Reg.CK_AVFS_CFG 47 40 < low → v < top → t.trimOf d (s.levelOf rail) = v + 1) ∧
      (moves → s.regBits Reg.CK_AVFS_CFG 39 32 ≤ low → s.regBits Reg.CK_AVFS_CFG 47 40 < low → top ≤ v → t.trimOf d (s.levelOf rail) = v)) ∧
  (∀ (d : Fin 96) (x : BitVec 8) (s : State), let rail := State.railOf d.val
    let l := s.levelOf rail
    (s.regBits Reg.CK_AVFS_CFG 31 24 ≤ x.toNat ∨ rail = 3 → exec (.droop d x) s = .next s) ∧
    (s.clocksStopped = false → x.toNat < s.regBits Reg.CK_AVFS_CFG 31 24 → rail ≠ 3 →
      let b := s.bump Reg.CK_STAT_STRETCH
      let t := (if b.regBit Reg.CK_CTRL 0 = true ∧ b.powerHeld = false then b.setTrim d.val l (b.trimOf d.val l - 1) else b).modCk fun c => { c with stretched := addNew d.val c.stretched }
      (d.val ∉ s.ck.stretched ∨ s.railTrim rail l ≠ 0 → exec (.droop d x) s = .next (s.keep t.rails)) ∧
      (d.val ∈ s.ck.stretched → s.railTrim rail l = 0 → exec (.droop d x) s = .next
        (s.keep ((t.raise Reg.CK Err.CK_AVFS_LIMIT { Capture.none with index := d.val }).rails))))))

/-- IDLE_TIMER_EXPIRY, NAP_TIMER_EXPIRY, OFF_TIMER_EXPIRY, ENTRY_COMMIT and SAVE_WRITE_DONE (R372 to R374, R376, R377): an idle domain
enters the next state when its timer expires, not past its floor nor while it is busy, fenced or held; a refuser ends the entry and leaves
its code, and a level that a slot or an input asserts aborts it; the end of the final window puts the domain into its state, a bank into OFF
only once its records are saved, its save area holding bytes that no rule gives (log entry 69) and its holders to be invalidated, and a save
that fails ends the entry; no idle timer runs before step 7 of power-up (R340). -/
def Obligations.DomainEntries : Prop :=
  ∀ (d : Fin 96) (s : State), let x := s.dom d.val
    (∀ (c : Instr) (a b : PmSt) (timer : Nat),
      (c, a, b, timer) ∈ [(Instr.idleTimerExpiry d, PmSt.active, PmSt.idle, s.regBits (Reg.PM_DOM_CFG + 8 * d.val) 7 0),
        (.napTimerExpiry d, .idle, .nap, s.regBits (Reg.PM_DOM_CFG + 8 * d.val) 31 16),
        (.offTimerExpiry d, .nap, .off, s.regBits (Reg.PM_DOM_CFG + 8 * d.val) 47 32)] →
      let may := x.st = a ∧ x.entering = none ∧ x.waking = false ∧ s.isFenced d.val = false ∧ timer ≠ 0 ∧ s.boot.loaded = true ∧ s.clocksStopped = false ∧
        s.powerHeld = false ∧ State.depth b ≤ s.floorOf d.val ∧ s.domBusy d.val = false
      (¬ may → Nexts c s s) ∧
      (may → s.refuser d.val = 0 → s.levelSource d.val = false → Nexts c s (s.setDom d.val { x with entering := some b })) ∧
      (may → s.refuser d.val = 0 → s.levelSource d.val = true → Nexts c s
        ((s.setDom d.val { x with entering := none, aborted := min 0xFFFF (x.aborted + 1) }).modPm fun p =>
          { p with saved := p.saved.filter fun b => !decide (Dom.bank b = d.val) })) ∧
      (may → s.refuser d.val ≠ 0 →
        Nexts c s (s.setDom d.val { x with entering := none, refused := min 0xFFFF (x.refused + 1), last := s.refuser d.val }))) ∧
    (x.entering = none → Nexts (.entryCommit d) s s) ∧
    (s.refuser d.val ≠ 0 → s.quiesceRefuser d.val = s.refuser d.val) ∧
    (s.refuser d.val = 0 → s.quiesceRefuser d.val = if s.unitBusy d.val = true then 2 else 0) ∧
    (∀ t, x.entering = some t →
      let see (u : State) : State := if (u.dom d.val).st = .active then u.setDom d.val { u.dom d.val with timer := false }
        else if u.levelWake d.val = true then u.setDom d.val { u.dom d.val with waking := true, retried := false } else u
      let r := s.quiesceRefuser d.val
      (r ≠ 0 → Nexts (.entryCommit d) s (s.keep (see (s.setDom d.val { x with entering := none, refused := min 0xFFFF (x.refused + 1), last := r })))) ∧
      (r = 0 → t = .off → 78 ≤ d.val → d.val < 82 → d.val - 78 ∉ s.pm.saved → Nexts (.entryCommit d) s s) ∧
      (r = 0 → t ≠ .off ∨ d.val < 78 ∨ 82 ≤ d.val ∨ d.val - 78 ∈ s.pm.saved →
        Nexts (.entryCommit d) s (s.keep (see ((s.setDom d.val { x with st := t, entering := none }).entered d.val t))))) ∧
    (∀ bank : BitVec 2, d.val = Dom.bank bank.toNat →
      (x.entering ≠ some .off → ∀ ok, Nexts (.saveWriteDone bank ok) s s) ∧
      (x.entering = some .off →
        let area := (s.reg Reg.PM_SAVE_BASE).toNat / 2 ^ 21 * 2 ^ 21 + bank.toNat * 2 ^ 21
        let clean := s.poison.filter fun l => !decide (area / 64 ≤ l ∧ l < area / 64 + 2 ^ 15)
        let saved : State := { s with mem := Mem.fill (Config.saveByte s.freeCtr) area (2 ^ 21) s.mem, poison := clean, freeCtr := s.freeCtr + 1 }
        let held := (s.heldLines [(area, 2 ^ 21)]).foldl (fun l x => addNew x l) s.sf.tables
        Nexts (.saveWriteDone bank true) s ((saved.modSf fun f => { f with tables := held }).modPm fun p => { p with saved := addNew bank.toNat p.saved }) ∧
        Nexts (.saveWriteDone bank false) s
          (s.keep ((s.setDom d.val { x with entering := none }).raise Reg.PM Err.PM_SAVE_FAIL { Capture.none with index := d.val }))))

/-- DOMAIN_WAKE, WAKE_COMPLETE, PM_WAKE_INPUT, DBG_HOLD and DOM_STAT_READ (R10, R372, R374 to R377): a source that holds aborts an entry or
wakes a sleeping domain, one that does not hold does nothing; in the final window of an entry nothing is aborted, and a timer's request is
held for the domain; a wake that ends makes the domain ACTIVE, what waited for it is taken, oldest first, and a Fabric Port that was OFF
sends its credits anew; an input wakes its domain at its level, or in edge mode when it rises; a debug hold refuses the entry in progress
with code 4; and a read of a domain's status clears its two counts. WAKE_TIMEOUT (R378): a wake that has not ended in time is tried once
more, with WAKE_RETRY; the second time it sets WAKE_FAIL, and the domain is to be fenced before the next command, whatever the severity. -/
def Obligations.DomainWakes : Prop :=
  (∀ (d : Fin 96) (s : State), let x := s.dom d.val
    let holds (w : WakeSource) : Bool := match w with
      | .crossing => s.crossingHeld d.val
      | .floor => decide (s.floorOf d.val < State.depth x.st ∨ ∃ t ∈ x.entering, s.floorOf d.val < State.depth t)
      | .portEvent => decide (60 ≤ d.val ∧ d.val < 68 ∧ s.reg (Reg.DN_PORT_EVENT + 8 * (d.val - 60)) ≠ 0)
      | .timer => true
    (∀ w final,
      (holds w = false → Ends (.domainWake d ⟨w, final⟩) s s) ∧
      (holds w = true → final = false ∨ x.entering = none → Ends (.domainWake d ⟨w, final⟩) s (s.wakeDom d.val)) ∧
      (holds w = true → final = true → x.entering ≠ none →
        (w ≠ .timer → Ends (.domainWake d ⟨w, final⟩) s s) ∧ (w = .timer → Ends (.domainWake d ⟨w, final⟩) s (s.setDom d.val { x with timer := true })))) ∧
    (d.val ≠ 95 → s.isFenced d.val = false →
      let aborted := (s.setDom d.val { x with entering := none, aborted := min 0xFFFF (x.aborted + 1) }).modPm fun p =>
        { p with saved := p.saved.filter fun b => !decide (Dom.bank b = d.val) }
      (x.entering = none → x.st ≠ .active → x.waking = false → s.wakeDom d.val = s.setDom d.val { x with waking := true, retried := false }) ∧
      (x.entering ≠ none → x.st = .active → s.wakeDom d.val = aborted) ∧
      (x.entering ≠ none → x.st ≠ .active → x.waking = false → s.wakeDom d.val =
        aborted.setDom d.val { aborted.dom d.val with waking := true, retried := false }) ∧
      (x.entering = none → x.st = .active → s.wakeDom d.val = s)) ∧
    (x.waking = false → Ends (.wakeComplete d) s s) ∧
    (x.waking = true →
      let port := if x.st = .off ∧ 32 ≤ d.val ∧ d.val < 48 then s.portInit (d.val - 32) else s
      let up := (port.setDom d.val { x with st := .active, waking := false, retried := false, timer := false }).domainAssist d.val
      let free := up.modPm fun p => { p with saved := p.saved.filter fun b => !decide (Dom.bank b = d.val) }
      Ends (.wakeComplete d) s ((s.pm.waits.filter fun w => decide (w.dom = d.val)).foldl (fun t w => t.redoParked w)
        (free.modPm fun p => { p with waits := p.waits.filter fun w => !decide (w.dom = d.val) }))) ∧
    (∀ (i : Fin 8) (final : Bool), let cfg := Reg.PM_WAKE_IN + 8 * i.val
      let only := s.modPm fun p => { p with inputs := addNew i.val p.inputs }
      (s.regBit cfg 8 = false → Nexts (.pmWakeInput i ⟨true, final⟩) s only) ∧
      (s.regBit cfg 8 = true → s.regBits cfg 6 0 = d.val →
        let seen := s.regBit cfg 7 = false ∨ i.val ∉ s.pm.inputs
        (seen → final = false ∨ x.entering = none → Nexts (.pmWakeInput i ⟨true, final⟩) s (s.keep (only.wakeDom d.val))) ∧
        (¬ seen ∨ (final = true ∧ x.entering ≠ none) → Nexts (.pmWakeInput i ⟨true, final⟩) s only)) ∧
      Nexts (.pmWakeInput i ⟨false, final⟩) s (s.modPm fun p => { p with inputs := p.inputs.filter (· ≠ i.val) })) ∧
    Nexts (.dbgHold d false) s (s.setDom d.val { x with dbgHold := false }) ∧
    (Map.rising s.pm.doms = true → let held := s.setDom d.val { x with dbgHold := true }
      (x.entering = none → Nexts (.dbgHold d true) s held) ∧
      (x.entering ≠ none → Nexts (.dbgHold d true) s
        (s.keep (held.setDom d.val { held.dom d.val with entering := none, refused := min 0xFFFF ((held.dom d.val).refused + 1), last := 4 })))) ∧
    (s.OpenReg (Reg.PM_DOM_STAT + 8 * d.val) →
      Nexts (.domStatRead d) s ((s.setDom d.val { x with refused := 0, aborted := 0 }).emit (.cpl (leBytes 8 (s.domStat d.val).toNat) false)))) ∧
  (∀ (d : Fin 96) (s : State), let x := s.dom d.val
    (x.waking = false → Ends (.wakeTimeout d) s s) ∧
    (x.waking = true → x.retried = false →
      Ends (.wakeTimeout d) s ((s.setDom d.val { x with retried := true }).raise Reg.PM Err.PM_WAKE_RETRY { Capture.none with index := d.val })) ∧
    (x.waking = true → x.retried = true →
      let u := (s.raise Reg.PM Err.PM_WAKE_FAIL { Capture.none with index := d.val }).askFence d.val
      Ends (.wakeTimeout d) s u ∧ d.val ∈ u.fenceReq))

/-- The commands of power domains keep every domain in a legal state (R371, R372, R375 to R377, R392): whatever timer expires, entry ends,
source, input or hold comes, from a legal state the next state is legal: an entry goes one state deeper and none runs beside a wake, a
fenced domain leaves power management, the counts stop at 0xFFFF, and the always-on domain stays ACTIVE. Of DOMAIN_WAKE that is said before
what it has set free goes on. -/
def Obligations.DomainsStayLegal : Prop :=
  ∀ (c : Instr) (s : State), (
    (∃ d, c = .idleTimerExpiry d ∨ c = .napTimerExpiry d ∨ c = .offTimerExpiry d ∨ c = .entryCommit d ∨ c = .domStatRead d) ∨
    (∃ bank ok, c = .saveWriteDone bank ok) ∨ (∃ i change, c = .pmWakeInput i change) ∨ (∃ d level, c = .dbgHold d level) ∨
    ∃ d event, c = .domainWake d event) →
    s.DomainsLegal →
      ((∀ d event, c ≠ .domainWake d event) → ∃ t : State, exec c s = .next t ∧ t.DomainsLegal) ∧
      (∀ d event, c = .domainWake d event → ∃ u : State,
        (u = s ∨ u = s.wakeDom d.val ∨ u = s.setDom d.val { s.dom d.val with timer := true }) ∧ Ends c s u ∧ u.DomainsLegal)

/-- ERROR_DETECTED (R388 to R391, R394): an event of a bit that the block does not implement does nothing; an event of a block whose sources
have no unit work sets its status bit and its capture, at severity 3 asks for the fence of its unit, or raises err_fatal where the source
lies in the always-on domain; a Gazelle's buffer error redoes what the unit has in hand, and is a strike, and with a strike already held the
unit is to be fenced. -/
def Obligations.ErrorEvents : Prop :=
  ∀ (e : ErrEvent) (s : State),
    let b := e.blk.val
    let i := e.bit.toNat
    let m := (s.injected b i).raise b i (State.captureOf e)
    let r := if b = 13 ∧ i = Err.CK_XING_OVERRUN then m.setReg Reg.CK_XING_OVERRUN (setBit (m.reg Reg.CK_XING_OVERRUN) (e.unit.toNat % 3) true) else m
    (bit (errMask e.blk.val) i = false → Ends (.errorDetected e) s s) ∧
    (bit (errMask e.blk.val) i = true → e.blk.val ∈ [11, 12, 13, 14, 16, 17] →
      (s.severity b i ≠ 3 → Ends (.errorDetected e) s r) ∧
      (∀ d, s.severity b i = 3 → State.errDomain e.blk.val e.unit.toNat i = some d →
        Ends (.errorDetected e) s ((r.markCapture b i r.now 60).askFence d)) ∧
      (s.severity b i = 3 → State.errDomain e.blk.val e.unit.toNat i = none → Ends (.errorDetected e) s r.raiseFatal)) ∧
    (bit (errMask e.blk.val) i = true → e.blk.val = 1 → i = Err.GZ_BUF_UNCORR → r.severity b i = s.severity b i →
      s.severity b i = 1 ∨ s.severity b i = 2 →
      let d := Dom.gazelle (e.unit.toNat % 8)
      let u := r.gzFault (e.unit.toNat % 8)
      (Map.find? d u.strikes = none → Ends (.errorDetected e) s { u with strikes := Map.insert d (b, i, u.now) u.strikes }) ∧
      (∀ x, Map.find? d u.strikes = some x →
        Ends (.errorDetected e) s (({ u with strikes := Map.erase d u.strikes }.markCapture b i u.now 60).askFence d)))

/-- PM_FENCE, CROSSING_RELEASE, ERR_REG_PARITY and ERR_INJECT_ARM (R392, R397 to R400): a fence is asked for every domain but the always-on
one, and only a fenced domain's crossing is released; every other such command sets REFUSED alone. A parity error sets its bit of
PM_SAFE_STATE and brings its block into its safe state, the whole block and err_fatal where the block has none of its own; arming an
injection clears FIRED. -/
def Obligations.FencesAndSafeStates : Prop :=
  (∀ (h : Half) (v : Word) (c : Instr) (s : State), c ∈ [Instr.pmFence h v, .crossingRelease h v] → s.OpenReg Reg.PM_FENCE_CMD →
    let t := s.storeReg Reg.PM_FENCE_CMD h v
    let d := t.regBits Reg.PM_FENCE_CMD 14 8
    let cmd := bits (halfValue h v) 1 0
    (cmd = 1 → d < 95 → Ends c s ((t.askFence d).setRegBits Reg.PM_FENCE_CMD 62 62 0)) ∧
    (cmd = 2 → d < 95 → t.isFenced d = true → Ends c s ({ t with released := addNew d t.released }.setRegBits Reg.PM_FENCE_CMD 62 62 0)) ∧
    (cmd = 1 ∧ 95 ≤ d ∨ cmd = 2 ∧ (95 ≤ d ∨ t.isFenced d = false) → Ends c s (t.setRegBits Reg.PM_FENCE_CMD 62 62 1)) ∧
    (cmd = 0 ∨ cmd = 3 → Ends c s t)) ∧
  (∀ (b : Fin 18) (s : State),
    let t := s.setReg Reg.PM_SAFE_STATE (setBit (s.reg Reg.PM_SAFE_STATE) b.val true)
    let whole := (t.setReg Reg.PM_SAFE_STATE (setBit (t.reg Reg.PM_SAFE_STATE) 63 true)).raiseFatal
    let fenced (ds : List Nat) (u : State) : State := ds.foldl (fun s d => (s.askFence d).releaseDomain d) u
    (b.val = 15 → Ends (.errRegParity b) s (t.modRb fun r => { r with safe := true })) ∧
    (b.val = 11 ∨ b.val = 12 → Ends (.errRegParity b) s (t.modIdent fun i =>
      { i with d := 0, puf := none, keyState := 0, sessions := [], keys := [], safe := true })) ∧
    (b.val = 13 ∨ b.val = 14 → Ends (.errRegParity b) s ((List.range 95).foldl (fun s d => s.wakeDom d) t).raiseFatal) ∧
    (b.val = 16 → Ends (.errRegParity b) s (fenced [Dom.recorder] t)) ∧
    (b.val = 2 ∨ b.val = 4 → Ends (.errRegParity b) s (fenced [Dom.ibex] t)) ∧
    (b.val = 7 → Ends (.errRegParity b) s (fenced (List.range 32) t)) ∧
    (b.val = 1 → Ends (.errRegParity b) s (fenced ((List.range 8).map Dom.gazelle) t)) ∧
    (b.val = 3 → Ends (.errRegParity b) s (fenced ((List.range 4).map Dom.springbok) t)) ∧
    (b.val = 8 ∨ b.val = 10 → Ends (.errRegParity b) s (fenced (State.safeUnits b.val) t)) ∧
    (b.val = 9 → Ends (.errRegParity b) s (fenced (List.range 95) whole)) ∧
    (b.val ∈ [0, 5, 6, 17] → Ends (.errRegParity b) s
      ((fenced ((List.range 95).filter fun d => !decide (d = Dom.upCtl ∨ d = Dom.upPhy)) whole).aer 0 .uncorrInternal))) ∧
  (∀ (b : Fin 18) (h : Half) (v : Word) (s : State), s.OpenReg (Reg.errInject b.val) →
    let off := Reg.errInject b.val
    let t := s.storeReg off h v
    (bit (halfValue h v) 63 = true → Nexts (.errInjectArm b h v) s (t.setRegBits off 62 62 0)) ∧
    (bit (halfValue h v) 63 = false → Nexts (.errInjectArm b h v) s t))

/-- BIND, QUIESCE, QUIESCED, CONTEXT_RESUME, REBIND and RB_CTX_WRITE (R404 to R410): each command acts on the selected context in the state
that Table 3 gives it and is refused with its reason in every other; a QUIESCING context with nothing of its own left in progress becomes
QUIESCED; RB_CTX takes its fields in FREE and in QUIESCED only. A write of RB_CMD while a command runs is refused. CHECKPOINT, RESTORE,
CONTEXT_RELEASE and RB_CMD_END (R406, R411 to R414): a CHECKPOINT of a QUIESCED context without open requests writes the context's image,
and ends DONE once that is written, or with REASON 9; a RESTORE into a FREE context reads an image and makes the context QUIESCED, or is
refused with its reason; a RELEASE evicts the context's host lines first, then withdraws its regions, and ends once no line is left and what
had passed the regions is performed. -/
def Obligations.ContextCommands : Prop :=
  ((∀ (h : Half) (v : Word) (s : State), s.OpenReg Reg.RB_CMD →
    let cmd := bits (halfValue h v) 2 0
    let u := (s.storeReg Reg.RB_CMD h v)
    let c := u.regBits Reg.RB_SEL 11 0
    let fn := u.regBits Reg.RB_CMD 15 8
    let x := u.ctxOf c
    let t := u.modRb fun r => { r with refused := false, reason := 0, cmd := cmd, cmdCtx := c, addr := (u.reg Reg.RB_CKPT_ADDR).toNat }
    let no (n : Nat) : State := t.modRb fun r => { r with refused := true, reason := n, busy := false }
    let plain := [Instr.bind h v, .quiesce h v]
    let ended := [Instr.contextResume h v, .rebind h v]
    (s.rb.busy = true → cmd ≠ 0 → (∀ k ∈ plain, Nexts k s (s.modRb fun r => { r with refused := true })) ∧
      (∀ k ∈ ended, Ends k s (s.modRb fun r => { r with refused := true }))) ∧
    (s.rb.busy = false → s.rb.safe = false →
      (cmd = 1 → x.st = .free → Nexts (.bind h v) s (t.setCtx c { x with st := .bound, fn := fn })) ∧
      (cmd = 1 → x.st ≠ .free → Nexts (.bind h v) s (no 1)) ∧
      (cmd = 2 → x.st = .bound → Nexts (.quiesce h v) s (t.setCtx c { x with st := .quiescing })) ∧
      (cmd = 2 → x.st ≠ .bound → Nexts (.quiesce h v) s (no 1)) ∧
      (cmd = 3 → x.st = .quiescing ∨ x.st = .quiesced →
        let b := t.setCtx c { x with st := .bound, obs := x.obsSet, rsv := x.rsvSet }
        (t.ctxQueues c = [] → Ends (.contextResume h v) s b) ∧
        (∀ q, t.ctxQueues c = [(q, t.queue q)] → (t.queue q).st = .idle → (t.queue q).sqTail ≠ (t.queue q).sqHead →
          Ends (.contextResume h v) s (b.setQueue q { t.queue q with st := .fetching })) ∧
        (∀ q, t.ctxQueues c = [(q, t.queue q)] → (t.queue q).st = .fetching → (t.queue q).head.isSome = true →
          Ends (.contextResume h v) s (b.beginWait q))) ∧
      (cmd = 3 → x.st = .free ∨ x.st = .bound → Ends (.contextResume h v) s (no 1)) ∧
      (cmd = 6 → x.st ≠ .quiesced → Ends (.rebind h v) s (no 1)) ∧
      (cmd = 6 → x.st = .quiesced →
        (t.ctxServing c = true → Ends (.rebind h v) s (no 2)) ∧
        (t.ctxServing c = false → t.pageShared c = true → Ends (.rebind h v) s (no 4)) ∧
        (t.ctxServing c = false → t.pageShared c = false →
          (t.vectorBad fn ((t.ctxQueues c).map (·.2)) = true → Ends (.rebind h v) s (no 5)) ∧
          (t.vectorBad fn ((t.ctxQueues c).map (·.2)) = false → Ends (.rebind h v) s (t.ctxRebind c fn)))))) ∧
  (∀ (s : State) (c : Nat) (x : Ctx), (s.rb.ctxs.filter fun e => decide (e.2.st = .quiescing)) = [(c, x)] →
    (s.ctxQuiet c = true → Nexts .quiesced s (s.setCtx c { x with st := .quiesced })) ∧
    (s.ctxQuiet c = false → Nexts .quiesced s s)) ∧
  (∀ (h : Half) (v : Word) (s : State), s.OpenReg Reg.RB_CTX →
    let c := s.regBits Reg.RB_SEL 11 0
    let x := s.ctxOf c
    let w := mergeHalf h (s.ctxWord c) v
    (x.st = .free → Nexts (.rbCtxWrite h v) s
      (s.setCtx c { x with obs := bit w 5, rsv := bits w 3 0, obsSet := bit w 5, rsvSet := bits w 3 0 })) ∧
    (x.st = .quiesced → Nexts (.rbCtxWrite h v) s (s.setCtx c { x with obsSet := bit w 5, rsvSet := bits w 3 0 })) ∧
    (x.st = .bound ∨ x.st = .quiescing → Nexts (.rbCtxWrite h v) s (s.modRb fun r => { r with refused := true })))) ∧
  ((∀ (h : Half) (v : Word) (s : State), s.OpenReg Reg.RB_CMD →
    let cmd := bits (halfValue h v) 2 0
    let u := (s.storeReg Reg.RB_CMD h v)
    let c := u.regBits Reg.RB_SEL 11 0
    let x := u.ctxOf c
    let t := u.modRb fun r => { r with refused := false, reason := 0, cmd := cmd, cmdCtx := c, addr := (u.reg Reg.RB_CKPT_ADDR).toNat }
    let no (n : Nat) : State := t.modRb fun r => { r with refused := true, reason := n, busy := false }
    s.rb.busy = false → s.rb.safe = false →
      (cmd = 4 → x.st ≠ .quiesced → Ends (.checkpoint h v) s (no 1)) ∧
      (cmd = 4 → x.st = .quiesced → t.ctxRequests c ≠ [] → Ends (.checkpoint h v) s (no 3)) ∧
      (cmd = 4 → x.st = .quiesced → t.ctxRequests c = [] →
        let y := t.modRb fun r => { r with busy := true, image := t.ctxImage c, issued := false }
        Ends (.checkpoint h v) s (match (deviceWrite .ckpt y.rb.addr y.rb.image false 0).exec y with
          | (.ok (), z) => z.modRb fun r => { r with issued := true }
          | (.error .wait, z) => z
          | (.error (.fail st), z) => (z.postedDone .ckpt (some st)).modRb fun r => { r with issued := true })) ∧
      (cmd = 5 → x.st ≠ .free → Ends (.restore h v) s (no 1)) ∧
      (cmd = 5 → x.st = .free →
        let y := t.modRb fun r => { r with busy := true }
        let fn := y.regBits Reg.RB_CMD 15 8
        let read : M Bytes := do
          let b ← deviceRead .ckpt y.rb.addr 64
          let len := leNat ((b.1.drop 24).take 8)
          if 512 ≤ len ∧ len ≤ 512 + 72 * 65536 + 24 * 32768 + 64 then deviceRead .ckpt y.rb.addr len else pure (b.1, b.2)
        Ends (.restore h v) s (match read.exec y with
          | (.error .wait, z) => z
          | (.error (.fail _), z) => (z.forget .ckpt).modRb fun r => { r with refused := true, reason := 6, busy := false }
          | (.ok (_, true), z) => (z.forget .ckpt).modRb fun r => { r with refused := true, reason := 6, busy := false }
          | (.ok (img, false), z) => (z.forget .ckpt).ctxRestore c fn img)) ∧
      (cmd = 7 → x.st ≠ .quiesced → Ends (.contextRelease h v) s (no 1)) ∧
      (cmd = 7 → x.st = .quiesced → t.ctxServing c = true → Ends (.contextRelease h v) s (no 2)) ∧
      (cmd = 7 → x.st = .quiesced → t.ctxServing c = false → t.ctxRequests c ≠ [] → Ends (.contextRelease h v) s (no 3)) ∧
      (cmd = 7 → x.st = .quiesced → t.ctxServing c = false → t.ctxRequests c = [] →
        Ends (.contextRelease h v) s ((t.modRb fun r => { r with busy := true }).releaseStart c))) ∧
  (∀ (ok : Bool) (s : State),
    (s.rb.busy = false → Ends (.rbCmdEnd ok) s s) ∧
    (s.rb.busy = true → s.rb.cmd = 4 → s.rb.issued = true → (s.postedOf .ckpt).1 = 0 →
      let t := (s.forget .ckpt).modRb fun r => { r with busy := false, image := [], issued := false, drain := none }
      (ok = true → (s.postedOf .ckpt).2 = none → Ends (.rbCmdEnd ok) s (t.bump Reg.RB_STAT_CHECKPOINT)) ∧
      (ok = false ∨ (s.postedOf .ckpt).2 ≠ none → Ends (.rbCmdEnd ok) s
        ((t.modRb fun r => { r with refused := true, reason := 9, busy := false }).raise Reg.RB Err.RB_CKPT_WRITE
          { Capture.none with addr := w64 s.rb.addr, space := 1, access := 1 }))) ∧
    (s.rb.busy = true → s.rb.cmd = 7 →
      ((∃ e ∈ s.dc.lines, s.dcCtx e.1 = s.rb.cmdCtx ∧ e.2.hstate ≠ 0) → Ends (.rbCmdEnd ok) s s) ∧
      ((∀ e ∈ s.dc.lines, s.dcCtx e.1 = s.rb.cmdCtx → e.2.hstate = 0) →
        let t := if s.rb.drain.isNone then s.releaseRegions s.rb.cmdCtx else s
        let passed := match s.rb.drain with
          | some x => x.1.all (fun w => !s.underWay w) || decide (x.2 ≤ s.now)
          | none => s.ch.ios.all fun r => !s.underWay (.io r.id)
        (passed = true → Ends (.rbCmdEnd ok) s (t.releaseEnd s.rb.cmdCtx) ∧ (t.releaseEnd s.rb.cmdCtx).rb.busy = false) ∧
        (passed = false → Ends (.rbCmdEnd ok) s t)))))

/-- RECORD, REPLAY, MODE_OFF, RECORD_EVENT, REPLAY_RECORD and DIVERGE_TIMEOUT (R415 to R420): a change of MODE to 1 starts a recording into
a usable ring, to 2 a replay at its start, to 0 ends either, a replay with END 4; the next event of the FIFO becomes a record behind a GAP
that counts what was lost; a GAP stops a replay with END 2, an unreadable record with END 3, and so does a decision that cannot be forced in
time. -/
def Obligations.RecordAndReplay : Prop :=
  (∀ (c : Instr) (h : Half) (v : Word) (s : State), c ∈ [Instr.record h v, .replay h v, .modeOff h v] → s.OpenReg Reg.RP_CTRL →
    let t := s.storeReg Reg.RP_CTRL h v
    let old := s.regBits Reg.RP_CTRL 1 0 % 3
    let new := t.regBits Reg.RP_CTRL 1 0 % 3
    let u := if t.rp.replaying then t.replayStop 4 none else t.modRp fun r => { r with recording := false, fifo := [] }
    (old = new → Ends c s t) ∧
    (old ≠ new →
      (new = 0 → Ends c s u) ∧
      (new = 1 → u.ringUsable = true → u.isFenced Dom.recorder = false → Ends c s u.recordStart) ∧
      (new = 1 → u.ringUsable = false → Ends c s u) ∧
      (new = 2 → u.isFenced Dom.recorder = false → Ends c s (u.modRp fun r =>
        { r with replaying := true, ending := 0, differed := false, cursor := (u.reg Reg.RP_REPLAY_START).toNat, since := none, forced := [], seen := [], expect := [] })))) ∧
  (∀ s : State,
    (s.rp.fifo = [] → Ends .recordEvent s s) ∧
    (∀ e rest, s.rp.fifo = e :: rest →
      (s.rp.recording = false → Ends .recordEvent s (s.modRp fun r => { r with fifo := [] })) ∧
      (s.rp.recording = true → s.rp.lost = 0 → Ends .recordEvent s ((s.modRp fun r => { r with fifo := rest }).addRecord e)) ∧
      (s.rp.recording = true → s.rp.lost ≠ 0 →
        let g := (s.modRp fun r => { r with lost := 0 }).addRecord (s.ownEvent 0x0F (w64 s.rp.lost) 0)
        let u := g.modRp fun r => { r with fifo := rest }
        Ends .recordEvent s (if g.rp.recording then u.addRecord e else u)))) ∧
  (∀ s : State,
    (s.rp.replaying = false → Ends .replayRecord s s ∧ Nexts .divergeTimeout s s) ∧
    (s.rp.replaying = true → s.forcedOut = true →
      Ends .replayRecord s (s.modRp fun r => { r with since := some (r.since.getD s.now) })) ∧
    (s.rp.replaying = true → s.forcedOut = false →
      match (s.recordAt s.rp.cursor).exec s with
      | (.error .wait, t) => Ends .replayRecord s t
      | (.error (.fail _), t) => Ends .replayRecord s (t.replayStop 3 none)
      | (.ok (e, len, seq), t) =>
        let f := t.forget .recorder
        let next := if f.ringBytes ≤ f.rp.cursor + 32 * len then 4096 else f.rp.cursor + 32 * len
        (e.type = 0x0F → Ends .replayRecord s (f.replayStop 2 (some (seq, 0x0F)))) ∧
        (e.type = 0x03 → f.rp.expect = [] → f.rp.cursor ≠ (f.reg Reg.RP_REPLAY_END).toNat → Ends .replayRecord s
          (f.modRp fun r => { r with forced := r.forced ++ [.start e.source], since := none, cursor := next, last := (seq, e.type) })) ∧
        (e.type = 0x10 ∨ e.type = 0x11 → f.rp.expect = [] → Ends .replayRecord s
          (let u := f.modRp fun r => { r with since := none, cursor := next, last := (seq, e.type) }
           if f.rp.cursor = (f.reg Reg.RP_REPLAY_END).toNat then u.replayStop 1 none else u))) ∧
    (s.rp.replaying = true → s.rp.since = none → Nexts .divergeTimeout s s) ∧
    (s.rp.replaying = true → s.rp.since ≠ none → s.forcedOut = true → Nexts .divergeTimeout s (s.keep (s.replayStop 3 (some s.rp.last)))) ∧
    (s.rp.replaying = true → s.rp.since ≠ none → s.forcedOut = false → Nexts .divergeTimeout s (match (s.recordAt s.rp.cursor).exec s with
      | (.ok (e, _, seq), t) => s.keep (t.replayStop 3 (some (seq, e.type)))
      | (.error _, t) => s.keep (t.replayStop 3 none))))
end

