-- ==== Sys2Proof/Laws/Map.lean ====
section
/-! SUPPORT. The laws of keyed lists (Map.lean): a read after a write of the same key and of another one, and that every operation keeps
the canonical form. -/

namespace Sys2Proof.Machine.Map

variable {α : Type}

/-! ### Reads after writes -/

@[simp] theorem find?_insert_same (k : Nat) (v : α) (m : NMap α) : find? k (insert k v m) = some v := by
  induction m with
  | nil => simp [insert, find?]
  | cons e m ih =>
    obtain ⟨j, w⟩ := e
    simp only [insert]
    split
    · simp [find?]
    · split
      · simp [find?]
      · rename_i h1 h2
        simp [find?, h1, h2, ih]

theorem find?_insert_other {k j : Nat} (h : j ≠ k) (v : α) (m : NMap α) : find? j (insert k v m) = find? j m := by
  induction m with
  | nil => simp [insert, find?, Ne.symm h]
  | cons e m ih =>
    obtain ⟨i, w⟩ := e
    simp only [insert]
    split
    · subst_vars; simp [find?, Ne.symm h]
    · split
      · rename_i h1 h2
        simp only [find?, if_neg (Ne.symm h)]
        split
        · rename_i h3
          split
          · omega
          · split
            · rfl
            · omega
        · rfl
      · simp only [find?, ih]

theorem find?_above {b k : Nat} {m : NMap α} (h : above b m = true) (hk : k ≤ b) : find? k m = none := by
  cases m with
  | nil => rfl
  | cons e m =>
    obtain ⟨j, w⟩ := e
    simp [above] at h
    have h1 : j ≠ k := by omega
    have h2 : k < j := by omega
    simp [find?, h1, h2]

theorem above_mono {a b : Nat} (h : a ≤ b) {m : NMap α} (hm : above b m = true) : above a m = true := by
  cases m with
  | nil => rfl
  | cons e m =>
    obtain ⟨j, w⟩ := e
    simp [above] at hm ⊢
    exact ⟨by omega, hm.2⟩

theorem rising_of_above {b : Nat} {m : NMap α} (h : above b m = true) : rising m = true := by
  cases m with
  | nil => rfl
  | cons e m =>
    obtain ⟨j, w⟩ := e
    simp [above] at h
    simpa [rising] using h.2

theorem find?_erase_same {k : Nat} {m : NMap α} (h : rising m = true) : find? k (erase k m) = none := by
  induction m with
  | nil => rfl
  | cons e m ih =>
    obtain ⟨j, w⟩ := e
    simp [rising] at h
    simp only [erase]
    split
    · exact find?_above h (by omega)
    · split
      · rename_i h1 h2
        simp [find?, h1, h2]
      · rename_i h1 h2
        simp [find?, h1, h2, ih (rising_of_above h)]

theorem find?_erase_other {k j : Nat} (h : j ≠ k) {m : NMap α} (hm : rising m = true) : find? j (erase k m) = find? j m := by
  induction m with
  | nil => rfl
  | cons e m ih =>
    obtain ⟨i, w⟩ := e
    simp [rising] at hm
    simp only [erase]
    split
    · rename_i h1
      subst h1
      simp only [find?, if_neg (Ne.symm h)]
      split
      · exact find?_above hm (by omega)
      · rfl
    · split
      · rfl
      · simp [find?, ih (rising_of_above hm)]

variable [DecidableEq α]

/-- The value just written is read back. -/
@[simp] theorem getD_put_same (d : α) (k : Nat) (v : α) {m : NMap α} (h : rising m = true) : getD d k (put d k v m) = v := by
  unfold put getD
  split
  · rename_i hv; simp [find?_erase_same h, hv]
  · simp

/-- A write changes no other key, whatever that one reads as where it is not listed. -/
theorem getD_put_other (d e : α) {k j : Nat} (hj : j ≠ k) (v : α) {m : NMap α} (h : rising m = true) : getD e j (put d k v m) = getD e j m := by
  unfold put getD
  split
  · rw [find?_erase_other hj h]
  · rw [find?_insert_other hj]

/-! ### Canonical form -/

omit [DecidableEq α] in
theorem above_insert {b k : Nat} (hk : b < k) (v : α) {m : NMap α} (h : above b m = true) : above b (insert k v m) = true := by
  induction m generalizing b with
  | nil => simp [insert, above, hk]
  | cons e m ih =>
    obtain ⟨j, w⟩ := e
    simp [above] at h
    simp only [insert]
    split
    · subst_vars; simp [above, hk, h.2]
    · split
      · rename_i h2; simp [above, hk, h2, h.2]
      · rename_i h1 h2; simp [above, h.1, ih (by omega : j < k) h.2]

omit [DecidableEq α] in
theorem rising_insert (k : Nat) (v : α) {m : NMap α} (h : rising m = true) : rising (insert k v m) = true := by
  cases m with
  | nil => rfl
  | cons e m =>
    obtain ⟨j, w⟩ := e
    simp [rising] at h
    simp only [insert]
    split
    · subst_vars; simpa [rising] using h
    · split
      · rename_i h2; simp [rising, above, h2, h]
      · rename_i h1 h2; simpa [rising] using above_insert (by omega : j < k) v h

omit [DecidableEq α] in
theorem above_erase {b : Nat} (k : Nat) {m : NMap α} (h : above b m = true) : above b (erase k m) = true := by
  induction m generalizing b with
  | nil => rfl
  | cons e m ih =>
    obtain ⟨j, w⟩ := e
    simp [above] at h
    simp only [erase]
    split
    · exact above_mono (by omega) h.2
    · split
      · simp [above, h]
      · simp [above, h.1, ih h.2]

omit [DecidableEq α] in
theorem rising_erase (k : Nat) {m : NMap α} (h : rising m = true) : rising (erase k m) = true := by
  cases m with
  | nil => rfl
  | cons e m =>
    obtain ⟨j, w⟩ := e
    simp [rising] at h
    simp only [erase]
    split
    · exact rising_of_above h
    · split
      · simpa [rising] using h
      · simpa [rising] using above_erase k h

/-- The canonical write keeps the keys rising. -/
theorem rising_put (d : α) (k : Nat) (v : α) {m : NMap α} (h : rising m = true) : rising (put d k v m) = true := by
  unfold put
  split
  · exact rising_erase k h
  · exact rising_insert k v h

omit [DecidableEq α] in
theorem mem_insert {k : Nat} {v : α} {m : NMap α} {e : Nat × α} (h : e ∈ insert k v m) : e = (k, v) ∨ e ∈ m := by
  induction m with
  | nil => simpa [insert] using h
  | cons x m ih =>
    obtain ⟨j, w⟩ := x
    simp only [insert] at h
    split at h
    · rcases List.mem_cons.1 h with h | h
      · exact .inl h
      · exact .inr (List.mem_cons_of_mem _ h)
    · split at h
      · rcases List.mem_cons.1 h with h | h
        · exact .inl h
        · exact .inr h
      · rcases List.mem_cons.1 h with h | h
        · exact .inr (h ▸ List.mem_cons_self)
        · rcases ih h with h | h
          · exact .inl h
          · exact .inr (List.mem_cons_of_mem _ h)

omit [DecidableEq α] in
theorem mem_erase {k : Nat} {m : NMap α} {e : Nat × α} (h : e ∈ erase k m) : e ∈ m := by
  induction m with
  | nil => simp [erase] at h
  | cons x m ih =>
    obtain ⟨j, w⟩ := x
    simp only [erase] at h
    split at h
    · exact List.mem_cons_of_mem _ h
    · split at h
      · exact h
      · rcases List.mem_cons.1 h with h | h
        · exact h ▸ List.mem_cons_self
        · exact List.mem_cons_of_mem _ (ih h)

/-- The canonical write keeps the canonical form. -/
theorem canon_put (d : α) (k : Nat) (v : α) {m : NMap α} (h : canon d m = true) : canon d (put d k v m) = true := by
  simp only [canon, Bool.and_eq_true, List.all_eq_true] at h ⊢
  refine ⟨rising_put d k v h.1, fun e he => ?_⟩
  unfold put at he
  split at he
  · exact h.2 e (mem_erase he)
  · rcases mem_insert he with rfl | he
    · rename_i hv; simpa using hv
    · exact h.2 e he

omit [DecidableEq α] in
theorem above_filter {b : Nat} (p : Nat × α → Bool) {m : NMap α} (h : above b m = true) : above b (m.filter p) = true := by
  induction m generalizing b with
  | nil => rfl
  | cons e m ih =>
    obtain ⟨j, w⟩ := e
    simp [above] at h
    simp only [List.filter]
    split
    · simp [above, h.1, ih h.2]
    · exact above_mono (by omega) (ih h.2)

omit [DecidableEq α] in
/-- A part of a list with rising keys has rising keys. -/
theorem rising_filter (p : Nat × α → Bool) {m : NMap α} (h : rising m = true) : rising (m.filter p) = true := by
  cases m with
  | nil => rfl
  | cons e m =>
    obtain ⟨j, w⟩ := e
    simp [rising] at h
    simp only [List.filter]
    split
    · simpa [rising] using above_filter p h
    · exact rising_of_above (above_filter p h)

/-- A part of a canonical list is canonical. -/
theorem canon_filter (d : α) (p : Nat × α → Bool) {m : NMap α} (h : canon d m = true) : canon d (m.filter p) = true := by
  simp only [canon, Bool.and_eq_true, List.all_eq_true] at h ⊢
  exact ⟨rising_filter p h.1, fun e he => h.2 e (List.mem_filter.1 he).1⟩

omit [DecidableEq α] in
theorem above_iff {b : Nat} {m : NMap α} : above b m = true ↔ (∀ e ∈ m, b < e.1) ∧ m.Pairwise (·.1 < ·.1) := by
  induction m generalizing b with
  | nil => simp [above]
  | cons e m ih =>
    obtain ⟨j, w⟩ := e
    simp only [above, Bool.and_eq_true, decide_eq_true_eq, ih, List.forall_mem_cons, List.pairwise_cons]
    exact ⟨fun ⟨h, h1, h2⟩ => ⟨⟨h, fun e he => Nat.lt_trans h (h1 e he)⟩, h1, h2⟩, fun ⟨⟨h, _⟩, h1, h2⟩ => ⟨h, h1, h2⟩⟩

omit [DecidableEq α] in
/-- Rising keys, said of every pair of entries. -/
theorem rising_iff {m : NMap α} : rising m = true ↔ m.Pairwise (·.1 < ·.1) := by
  cases m with
  | nil => simp [rising]
  | cons e m => obtain ⟨j, w⟩ := e; simp [rising, above_iff]

omit [DecidableEq α] in
theorem rising_mapVals (f : Nat → α → α) {m : NMap α} (h : rising m = true) : rising (mapVals f m) = true := by
  rw [rising_iff] at *; simpa [mapVals, List.pairwise_map] using h

end Sys2Proof.Machine.Map
end

