-- ==== Sys2Proof/Laws/State.lean ====
section
/-! SUPPORT. What each update of a State leaves in each field: one lemma per field per update, all true by computation. -/

namespace Sys2Proof.Machine.State


@[simp] theorem modQe_pending (f : Qe → Qe) (s : State) : (s.modQe f).pending = s.pending := rfl
@[simp] theorem modQe_now (f : Qe → Qe) (s : State) : (s.modQe f).now = s.now := rfl
@[simp] theorem modQe_slew (f : Qe → Qe) (s : State) : (s.modQe f).slew = s.slew := rfl
@[simp] theorem modQe_freeCtr (f : Qe → Qe) (s : State) : (s.modQe f).freeCtr = s.freeCtr := rfl
@[simp] theorem modQe_regs (f : Qe → Qe) (s : State) : (s.modQe f).regs = s.regs := rfl
@[simp] theorem modQe_mem (f : Qe → Qe) (s : State) : (s.modQe f).mem = s.mem := rfl
@[simp] theorem modQe_poison (f : Qe → Qe) (s : State) : (s.modQe f).poison = s.poison := rfl
@[simp] theorem modQe_hostMem (f : Qe → Qe) (s : State) : (s.modQe f).hostMem = s.hostMem := rfl
@[simp] theorem modQe_hostPoison (f : Qe → Qe) (s : State) : (s.modQe f).hostPoison = s.hostPoison := rfl
@[simp] theorem modQe_hostRefused (f : Qe → Qe) (s : State) : (s.modQe f).hostRefused = s.hostRefused := rfl
@[simp] theorem modQe_hostDead (f : Qe → Qe) (s : State) : (s.modQe f).hostDead = s.hostDead := rfl
@[simp] theorem modQe_out (f : Qe → Qe) (s : State) : (s.modQe f).out = s.out := rfl
@[simp] theorem modQe_fenced (f : Qe → Qe) (s : State) : (s.modQe f).fenced = s.fenced := rfl
@[simp] theorem modQe_released (f : Qe → Qe) (s : State) : (s.modQe f).released = s.released := rfl
@[simp] theorem modQe_fenceReq (f : Qe → Qe) (s : State) : (s.modQe f).fenceReq = s.fenceReq := rfl
@[simp] theorem modQe_strikes (f : Qe → Qe) (s : State) : (s.modQe f).strikes = s.strikes := rfl
@[simp] theorem modQe_fatal (f : Qe → Qe) (s : State) : (s.modQe f).fatal = s.fatal := rfl
@[simp] theorem modQe_wake (f : Qe → Qe) (s : State) : (s.modQe f).wake = s.wake := rfl
@[simp] theorem modQe_qe (f : Qe → Qe) (s : State) : (s.modQe f).qe = f s.qe := rfl
@[simp] theorem modQe_ch (f : Qe → Qe) (s : State) : (s.modQe f).ch = s.ch := rfl
@[simp] theorem modQe_sf (f : Qe → Qe) (s : State) : (s.modQe f).sf = s.sf := rfl
@[simp] theorem modQe_dc (f : Qe → Qe) (s : State) : (s.modQe f).dc = s.dc := rfl
@[simp] theorem modQe_fp (f : Qe → Qe) (s : State) : (s.modQe f).fp = s.fp := rfl
@[simp] theorem modQe_up (f : Qe → Qe) (s : State) : (s.modQe f).up = s.up := rfl
@[simp] theorem modQe_dn (f : Qe → Qe) (s : State) : (s.modQe f).dn = s.dn := rfl
@[simp] theorem modQe_pl (f : Qe → Qe) (s : State) : (s.modQe f).pl = s.pl := rfl
@[simp] theorem modQe_rb (f : Qe → Qe) (s : State) : (s.modQe f).rb = s.rb := rfl
@[simp] theorem modQe_gz (f : Qe → Qe) (s : State) : (s.modQe f).gz = s.gz := rfl
@[simp] theorem modQe_ck (f : Qe → Qe) (s : State) : (s.modQe f).ck = s.ck := rfl
@[simp] theorem modQe_pm (f : Qe → Qe) (s : State) : (s.modQe f).pm = s.pm := rfl
@[simp] theorem modQe_rp (f : Qe → Qe) (s : State) : (s.modQe f).rp = s.rp := rfl
@[simp] theorem modQe_ib (f : Qe → Qe) (s : State) : (s.modQe f).ib = s.ib := rfl
@[simp] theorem modQe_bt (f : Qe → Qe) (s : State) : (s.modQe f).bt = s.bt := rfl
@[simp] theorem modQe_boot (f : Qe → Qe) (s : State) : (s.modQe f).boot = s.boot := rfl
@[simp] theorem modQe_ident (f : Qe → Qe) (s : State) : (s.modQe f).ident = s.ident := rfl

@[simp] theorem modCh_pending (f : Ch → Ch) (s : State) : (s.modCh f).pending = s.pending := rfl
@[simp] theorem modCh_now (f : Ch → Ch) (s : State) : (s.modCh f).now = s.now := rfl
@[simp] theorem modCh_slew (f : Ch → Ch) (s : State) : (s.modCh f).slew = s.slew := rfl
@[simp] theorem modCh_freeCtr (f : Ch → Ch) (s : State) : (s.modCh f).freeCtr = s.freeCtr := rfl
@[simp] theorem modCh_regs (f : Ch → Ch) (s : State) : (s.modCh f).regs = s.regs := rfl
@[simp] theorem modCh_mem (f : Ch → Ch) (s : State) : (s.modCh f).mem = s.mem := rfl
@[simp] theorem modCh_poison (f : Ch → Ch) (s : State) : (s.modCh f).poison = s.poison := rfl
@[simp] theorem modCh_hostMem (f : Ch → Ch) (s : State) : (s.modCh f).hostMem = s.hostMem := rfl
@[simp] theorem modCh_hostPoison (f : Ch → Ch) (s : State) : (s.modCh f).hostPoison = s.hostPoison := rfl
@[simp] theorem modCh_hostRefused (f : Ch → Ch) (s : State) : (s.modCh f).hostRefused = s.hostRefused := rfl
@[simp] theorem modCh_hostDead (f : Ch → Ch) (s : State) : (s.modCh f).hostDead = s.hostDead := rfl
@[simp] theorem modCh_out (f : Ch → Ch) (s : State) : (s.modCh f).out = s.out := rfl
@[simp] theorem modCh_fenced (f : Ch → Ch) (s : State) : (s.modCh f).fenced = s.fenced := rfl
@[simp] theorem modCh_released (f : Ch → Ch) (s : State) : (s.modCh f).released = s.released := rfl
@[simp] theorem modCh_fenceReq (f : Ch → Ch) (s : State) : (s.modCh f).fenceReq = s.fenceReq := rfl
@[simp] theorem modCh_strikes (f : Ch → Ch) (s : State) : (s.modCh f).strikes = s.strikes := rfl
@[simp] theorem modCh_fatal (f : Ch → Ch) (s : State) : (s.modCh f).fatal = s.fatal := rfl
@[simp] theorem modCh_wake (f : Ch → Ch) (s : State) : (s.modCh f).wake = s.wake := rfl
@[simp] theorem modCh_qe (f : Ch → Ch) (s : State) : (s.modCh f).qe = s.qe := rfl
@[simp] theorem modCh_ch (f : Ch → Ch) (s : State) : (s.modCh f).ch = f s.ch := rfl
@[simp] theorem modCh_sf (f : Ch → Ch) (s : State) : (s.modCh f).sf = s.sf := rfl
@[simp] theorem modCh_dc (f : Ch → Ch) (s : State) : (s.modCh f).dc = s.dc := rfl
@[simp] theorem modCh_fp (f : Ch → Ch) (s : State) : (s.modCh f).fp = s.fp := rfl
@[simp] theorem modCh_up (f : Ch → Ch) (s : State) : (s.modCh f).up = s.up := rfl
@[simp] theorem modCh_dn (f : Ch → Ch) (s : State) : (s.modCh f).dn = s.dn := rfl
@[simp] theorem modCh_pl (f : Ch → Ch) (s : State) : (s.modCh f).pl = s.pl := rfl
@[simp] theorem modCh_rb (f : Ch → Ch) (s : State) : (s.modCh f).rb = s.rb := rfl
@[simp] theorem modCh_gz (f : Ch → Ch) (s : State) : (s.modCh f).gz = s.gz := rfl
@[simp] theorem modCh_ck (f : Ch → Ch) (s : State) : (s.modCh f).ck = s.ck := rfl
@[simp] theorem modCh_pm (f : Ch → Ch) (s : State) : (s.modCh f).pm = s.pm := rfl
@[simp] theorem modCh_rp (f : Ch → Ch) (s : State) : (s.modCh f).rp = s.rp := rfl
@[simp] theorem modCh_ib (f : Ch → Ch) (s : State) : (s.modCh f).ib = s.ib := rfl
@[simp] theorem modCh_bt (f : Ch → Ch) (s : State) : (s.modCh f).bt = s.bt := rfl
@[simp] theorem modCh_boot (f : Ch → Ch) (s : State) : (s.modCh f).boot = s.boot := rfl
@[simp] theorem modCh_ident (f : Ch → Ch) (s : State) : (s.modCh f).ident = s.ident := rfl

@[simp] theorem modSf_pending (f : Sf → Sf) (s : State) : (s.modSf f).pending = s.pending := rfl
@[simp] theorem modSf_now (f : Sf → Sf) (s : State) : (s.modSf f).now = s.now := rfl
@[simp] theorem modSf_slew (f : Sf → Sf) (s : State) : (s.modSf f).slew = s.slew := rfl
@[simp] theorem modSf_freeCtr (f : Sf → Sf) (s : State) : (s.modSf f).freeCtr = s.freeCtr := rfl
@[simp] theorem modSf_regs (f : Sf → Sf) (s : State) : (s.modSf f).regs = s.regs := rfl
@[simp] theorem modSf_mem (f : Sf → Sf) (s : State) : (s.modSf f).mem = s.mem := rfl
@[simp] theorem modSf_poison (f : Sf → Sf) (s : State) : (s.modSf f).poison = s.poison := rfl
@[simp] theorem modSf_hostMem (f : Sf → Sf) (s : State) : (s.modSf f).hostMem = s.hostMem := rfl
@[simp] theorem modSf_hostPoison (f : Sf → Sf) (s : State) : (s.modSf f).hostPoison = s.hostPoison := rfl
@[simp] theorem modSf_hostRefused (f : Sf → Sf) (s : State) : (s.modSf f).hostRefused = s.hostRefused := rfl
@[simp] theorem modSf_hostDead (f : Sf → Sf) (s : State) : (s.modSf f).hostDead = s.hostDead := rfl
@[simp] theorem modSf_out (f : Sf → Sf) (s : State) : (s.modSf f).out = s.out := rfl
@[simp] theorem modSf_fenced (f : Sf → Sf) (s : State) : (s.modSf f).fenced = s.fenced := rfl
@[simp] theorem modSf_released (f : Sf → Sf) (s : State) : (s.modSf f).released = s.released := rfl
@[simp] theorem modSf_fenceReq (f : Sf → Sf) (s : State) : (s.modSf f).fenceReq = s.fenceReq := rfl
@[simp] theorem modSf_strikes (f : Sf → Sf) (s : State) : (s.modSf f).strikes = s.strikes := rfl
@[simp] theorem modSf_fatal (f : Sf → Sf) (s : State) : (s.modSf f).fatal = s.fatal := rfl
@[simp] theorem modSf_wake (f : Sf → Sf) (s : State) : (s.modSf f).wake = s.wake := rfl
@[simp] theorem modSf_qe (f : Sf → Sf) (s : State) : (s.modSf f).qe = s.qe := rfl
@[simp] theorem modSf_ch (f : Sf → Sf) (s : State) : (s.modSf f).ch = s.ch := rfl
@[simp] theorem modSf_sf (f : Sf → Sf) (s : State) : (s.modSf f).sf = f s.sf := rfl
@[simp] theorem modSf_dc (f : Sf → Sf) (s : State) : (s.modSf f).dc = s.dc := rfl
@[simp] theorem modSf_fp (f : Sf → Sf) (s : State) : (s.modSf f).fp = s.fp := rfl
@[simp] theorem modSf_up (f : Sf → Sf) (s : State) : (s.modSf f).up = s.up := rfl
@[simp] theorem modSf_dn (f : Sf → Sf) (s : State) : (s.modSf f).dn = s.dn := rfl
@[simp] theorem modSf_pl (f : Sf → Sf) (s : State) : (s.modSf f).pl = s.pl := rfl
@[simp] theorem modSf_rb (f : Sf → Sf) (s : State) : (s.modSf f).rb = s.rb := rfl
@[simp] theorem modSf_gz (f : Sf → Sf) (s : State) : (s.modSf f).gz = s.gz := rfl
@[simp] theorem modSf_ck (f : Sf → Sf) (s : State) : (s.modSf f).ck = s.ck := rfl
@[simp] theorem modSf_pm (f : Sf → Sf) (s : State) : (s.modSf f).pm = s.pm := rfl
@[simp] theorem modSf_rp (f : Sf → Sf) (s : State) : (s.modSf f).rp = s.rp := rfl
@[simp] theorem modSf_ib (f : Sf → Sf) (s : State) : (s.modSf f).ib = s.ib := rfl
@[simp] theorem modSf_bt (f : Sf → Sf) (s : State) : (s.modSf f).bt = s.bt := rfl
@[simp] theorem modSf_boot (f : Sf → Sf) (s : State) : (s.modSf f).boot = s.boot := rfl
@[simp] theorem modSf_ident (f : Sf → Sf) (s : State) : (s.modSf f).ident = s.ident := rfl

@[simp] theorem modDc_pending (f : Dc → Dc) (s : State) : (s.modDc f).pending = s.pending := rfl
@[simp] theorem modDc_now (f : Dc → Dc) (s : State) : (s.modDc f).now = s.now := rfl
@[simp] theorem modDc_slew (f : Dc → Dc) (s : State) : (s.modDc f).slew = s.slew := rfl
@[simp] theorem modDc_freeCtr (f : Dc → Dc) (s : State) : (s.modDc f).freeCtr = s.freeCtr := rfl
@[simp] theorem modDc_regs (f : Dc → Dc) (s : State) : (s.modDc f).regs = s.regs := rfl
@[simp] theorem modDc_mem (f : Dc → Dc) (s : State) : (s.modDc f).mem = s.mem := rfl
@[simp] theorem modDc_poison (f : Dc → Dc) (s : State) : (s.modDc f).poison = s.poison := rfl
@[simp] theorem modDc_hostMem (f : Dc → Dc) (s : State) : (s.modDc f).hostMem = s.hostMem := rfl
@[simp] theorem modDc_hostPoison (f : Dc → Dc) (s : State) : (s.modDc f).hostPoison = s.hostPoison := rfl
@[simp] theorem modDc_hostRefused (f : Dc → Dc) (s : State) : (s.modDc f).hostRefused = s.hostRefused := rfl
@[simp] theorem modDc_hostDead (f : Dc → Dc) (s : State) : (s.modDc f).hostDead = s.hostDead := rfl
@[simp] theorem modDc_out (f : Dc → Dc) (s : State) : (s.modDc f).out = s.out := rfl
@[simp] theorem modDc_fenced (f : Dc → Dc) (s : State) : (s.modDc f).fenced = s.fenced := rfl
@[simp] theorem modDc_released (f : Dc → Dc) (s : State) : (s.modDc f).released = s.released := rfl
@[simp] theorem modDc_fenceReq (f : Dc → Dc) (s : State) : (s.modDc f).fenceReq = s.fenceReq := rfl
@[simp] theorem modDc_strikes (f : Dc → Dc) (s : State) : (s.modDc f).strikes = s.strikes := rfl
@[simp] theorem modDc_fatal (f : Dc → Dc) (s : State) : (s.modDc f).fatal = s.fatal := rfl
@[simp] theorem modDc_wake (f : Dc → Dc) (s : State) : (s.modDc f).wake = s.wake := rfl
@[simp] theorem modDc_qe (f : Dc → Dc) (s : State) : (s.modDc f).qe = s.qe := rfl
@[simp] theorem modDc_ch (f : Dc → Dc) (s : State) : (s.modDc f).ch = s.ch := rfl
@[simp] theorem modDc_sf (f : Dc → Dc) (s : State) : (s.modDc f).sf = s.sf := rfl
@[simp] theorem modDc_dc (f : Dc → Dc) (s : State) : (s.modDc f).dc = f s.dc := rfl
@[simp] theorem modDc_fp (f : Dc → Dc) (s : State) : (s.modDc f).fp = s.fp := rfl
@[simp] theorem modDc_up (f : Dc → Dc) (s : State) : (s.modDc f).up = s.up := rfl
@[simp] theorem modDc_dn (f : Dc → Dc) (s : State) : (s.modDc f).dn = s.dn := rfl
@[simp] theorem modDc_pl (f : Dc → Dc) (s : State) : (s.modDc f).pl = s.pl := rfl
@[simp] theorem modDc_rb (f : Dc → Dc) (s : State) : (s.modDc f).rb = s.rb := rfl
@[simp] theorem modDc_gz (f : Dc → Dc) (s : State) : (s.modDc f).gz = s.gz := rfl
@[simp] theorem modDc_ck (f : Dc → Dc) (s : State) : (s.modDc f).ck = s.ck := rfl
@[simp] theorem modDc_pm (f : Dc → Dc) (s : State) : (s.modDc f).pm = s.pm := rfl
@[simp] theorem modDc_rp (f : Dc → Dc) (s : State) : (s.modDc f).rp = s.rp := rfl
@[simp] theorem modDc_ib (f : Dc → Dc) (s : State) : (s.modDc f).ib = s.ib := rfl
@[simp] theorem modDc_bt (f : Dc → Dc) (s : State) : (s.modDc f).bt = s.bt := rfl
@[simp] theorem modDc_boot (f : Dc → Dc) (s : State) : (s.modDc f).boot = s.boot := rfl
@[simp] theorem modDc_ident (f : Dc → Dc) (s : State) : (s.modDc f).ident = s.ident := rfl

@[simp] theorem modFp_pending (f : Fp → Fp) (s : State) : (s.modFp f).pending = s.pending := rfl
@[simp] theorem modFp_now (f : Fp → Fp) (s : State) : (s.modFp f).now = s.now := rfl
@[simp] theorem modFp_slew (f : Fp → Fp) (s : State) : (s.modFp f).slew = s.slew := rfl
@[simp] theorem modFp_freeCtr (f : Fp → Fp) (s : State) : (s.modFp f).freeCtr = s.freeCtr := rfl
@[simp] theorem modFp_regs (f : Fp → Fp) (s : State) : (s.modFp f).regs = s.regs := rfl
@[simp] theorem modFp_mem (f : Fp → Fp) (s : State) : (s.modFp f).mem = s.mem := rfl
@[simp] theorem modFp_poison (f : Fp → Fp) (s : State) : (s.modFp f).poison = s.poison := rfl
@[simp] theorem modFp_hostMem (f : Fp → Fp) (s : State) : (s.modFp f).hostMem = s.hostMem := rfl
@[simp] theorem modFp_hostPoison (f : Fp → Fp) (s : State) : (s.modFp f).hostPoison = s.hostPoison := rfl
@[simp] theorem modFp_hostRefused (f : Fp → Fp) (s : State) : (s.modFp f).hostRefused = s.hostRefused := rfl
@[simp] theorem modFp_hostDead (f : Fp → Fp) (s : State) : (s.modFp f).hostDead = s.hostDead := rfl
@[simp] theorem modFp_out (f : Fp → Fp) (s : State) : (s.modFp f).out = s.out := rfl
@[simp] theorem modFp_fenced (f : Fp → Fp) (s : State) : (s.modFp f).fenced = s.fenced := rfl
@[simp] theorem modFp_released (f : Fp → Fp) (s : State) : (s.modFp f).released = s.released := rfl
@[simp] theorem modFp_fenceReq (f : Fp → Fp) (s : State) : (s.modFp f).fenceReq = s.fenceReq := rfl
@[simp] theorem modFp_strikes (f : Fp → Fp) (s : State) : (s.modFp f).strikes = s.strikes := rfl
@[simp] theorem modFp_fatal (f : Fp → Fp) (s : State) : (s.modFp f).fatal = s.fatal := rfl
@[simp] theorem modFp_wake (f : Fp → Fp) (s : State) : (s.modFp f).wake = s.wake := rfl
@[simp] theorem modFp_qe (f : Fp → Fp) (s : State) : (s.modFp f).qe = s.qe := rfl
@[simp] theorem modFp_ch (f : Fp → Fp) (s : State) : (s.modFp f).ch = s.ch := rfl
@[simp] theorem modFp_sf (f : Fp → Fp) (s : State) : (s.modFp f).sf = s.sf := rfl
@[simp] theorem modFp_dc (f : Fp → Fp) (s : State) : (s.modFp f).dc = s.dc := rfl
@[simp] theorem modFp_fp (f : Fp → Fp) (s : State) : (s.modFp f).fp = f s.fp := rfl
@[simp] theorem modFp_up (f : Fp → Fp) (s : State) : (s.modFp f).up = s.up := rfl
@[simp] theorem modFp_dn (f : Fp → Fp) (s : State) : (s.modFp f).dn = s.dn := rfl
@[simp] theorem modFp_pl (f : Fp → Fp) (s : State) : (s.modFp f).pl = s.pl := rfl
@[simp] theorem modFp_rb (f : Fp → Fp) (s : State) : (s.modFp f).rb = s.rb := rfl
@[simp] theorem modFp_gz (f : Fp → Fp) (s : State) : (s.modFp f).gz = s.gz := rfl
@[simp] theorem modFp_ck (f : Fp → Fp) (s : State) : (s.modFp f).ck = s.ck := rfl
@[simp] theorem modFp_pm (f : Fp → Fp) (s : State) : (s.modFp f).pm = s.pm := rfl
@[simp] theorem modFp_rp (f : Fp → Fp) (s : State) : (s.modFp f).rp = s.rp := rfl
@[simp] theorem modFp_ib (f : Fp → Fp) (s : State) : (s.modFp f).ib = s.ib := rfl
@[simp] theorem modFp_bt (f : Fp → Fp) (s : State) : (s.modFp f).bt = s.bt := rfl
@[simp] theorem modFp_boot (f : Fp → Fp) (s : State) : (s.modFp f).boot = s.boot := rfl
@[simp] theorem modFp_ident (f : Fp → Fp) (s : State) : (s.modFp f).ident = s.ident := rfl

@[simp] theorem modUp_pending (f : Up → Up) (s : State) : (s.modUp f).pending = s.pending := rfl
@[simp] theorem modUp_now (f : Up → Up) (s : State) : (s.modUp f).now = s.now := rfl
@[simp] theorem modUp_slew (f : Up → Up) (s : State) : (s.modUp f).slew = s.slew := rfl
@[simp] theorem modUp_freeCtr (f : Up → Up) (s : State) : (s.modUp f).freeCtr = s.freeCtr := rfl
@[simp] theorem modUp_regs (f : Up → Up) (s : State) : (s.modUp f).regs = s.regs := rfl
@[simp] theorem modUp_mem (f : Up → Up) (s : State) : (s.modUp f).mem = s.mem := rfl
@[simp] theorem modUp_poison (f : Up → Up) (s : State) : (s.modUp f).poison = s.poison := rfl
@[simp] theorem modUp_hostMem (f : Up → Up) (s : State) : (s.modUp f).hostMem = s.hostMem := rfl
@[simp] theorem modUp_hostPoison (f : Up → Up) (s : State) : (s.modUp f).hostPoison = s.hostPoison := rfl
@[simp] theorem modUp_hostRefused (f : Up → Up) (s : State) : (s.modUp f).hostRefused = s.hostRefused := rfl
@[simp] theorem modUp_hostDead (f : Up → Up) (s : State) : (s.modUp f).hostDead = s.hostDead := rfl
@[simp] theorem modUp_out (f : Up → Up) (s : State) : (s.modUp f).out = s.out := rfl
@[simp] theorem modUp_fenced (f : Up → Up) (s : State) : (s.modUp f).fenced = s.fenced := rfl
@[simp] theorem modUp_released (f : Up → Up) (s : State) : (s.modUp f).released = s.released := rfl
@[simp] theorem modUp_fenceReq (f : Up → Up) (s : State) : (s.modUp f).fenceReq = s.fenceReq := rfl
@[simp] theorem modUp_strikes (f : Up → Up) (s : State) : (s.modUp f).strikes = s.strikes := rfl
@[simp] theorem modUp_fatal (f : Up → Up) (s : State) : (s.modUp f).fatal = s.fatal := rfl
@[simp] theorem modUp_wake (f : Up → Up) (s : State) : (s.modUp f).wake = s.wake := rfl
@[simp] theorem modUp_qe (f : Up → Up) (s : State) : (s.modUp f).qe = s.qe := rfl
@[simp] theorem modUp_ch (f : Up → Up) (s : State) : (s.modUp f).ch = s.ch := rfl
@[simp] theorem modUp_sf (f : Up → Up) (s : State) : (s.modUp f).sf = s.sf := rfl
@[simp] theorem modUp_dc (f : Up → Up) (s : State) : (s.modUp f).dc = s.dc := rfl
@[simp] theorem modUp_fp (f : Up → Up) (s : State) : (s.modUp f).fp = s.fp := rfl
@[simp] theorem modUp_up (f : Up → Up) (s : State) : (s.modUp f).up = f s.up := rfl
@[simp] theorem modUp_dn (f : Up → Up) (s : State) : (s.modUp f).dn = s.dn := rfl
@[simp] theorem modUp_pl (f : Up → Up) (s : State) : (s.modUp f).pl = s.pl := rfl
@[simp] theorem modUp_rb (f : Up → Up) (s : State) : (s.modUp f).rb = s.rb := rfl
@[simp] theorem modUp_gz (f : Up → Up) (s : State) : (s.modUp f).gz = s.gz := rfl
@[simp] theorem modUp_ck (f : Up → Up) (s : State) : (s.modUp f).ck = s.ck := rfl
@[simp] theorem modUp_pm (f : Up → Up) (s : State) : (s.modUp f).pm = s.pm := rfl
@[simp] theorem modUp_rp (f : Up → Up) (s : State) : (s.modUp f).rp = s.rp := rfl
@[simp] theorem modUp_ib (f : Up → Up) (s : State) : (s.modUp f).ib = s.ib := rfl
@[simp] theorem modUp_bt (f : Up → Up) (s : State) : (s.modUp f).bt = s.bt := rfl
@[simp] theorem modUp_boot (f : Up → Up) (s : State) : (s.modUp f).boot = s.boot := rfl
@[simp] theorem modUp_ident (f : Up → Up) (s : State) : (s.modUp f).ident = s.ident := rfl

@[simp] theorem modPl_pending (f : Pl → Pl) (s : State) : (s.modPl f).pending = s.pending := rfl
@[simp] theorem modPl_now (f : Pl → Pl) (s : State) : (s.modPl f).now = s.now := rfl
@[simp] theorem modPl_slew (f : Pl → Pl) (s : State) : (s.modPl f).slew = s.slew := rfl
@[simp] theorem modPl_freeCtr (f : Pl → Pl) (s : State) : (s.modPl f).freeCtr = s.freeCtr := rfl
@[simp] theorem modPl_regs (f : Pl → Pl) (s : State) : (s.modPl f).regs = s.regs := rfl
@[simp] theorem modPl_mem (f : Pl → Pl) (s : State) : (s.modPl f).mem = s.mem := rfl
@[simp] theorem modPl_poison (f : Pl → Pl) (s : State) : (s.modPl f).poison = s.poison := rfl
@[simp] theorem modPl_hostMem (f : Pl → Pl) (s : State) : (s.modPl f).hostMem = s.hostMem := rfl
@[simp] theorem modPl_hostPoison (f : Pl → Pl) (s : State) : (s.modPl f).hostPoison = s.hostPoison := rfl
@[simp] theorem modPl_hostRefused (f : Pl → Pl) (s : State) : (s.modPl f).hostRefused = s.hostRefused := rfl
@[simp] theorem modPl_hostDead (f : Pl → Pl) (s : State) : (s.modPl f).hostDead = s.hostDead := rfl
@[simp] theorem modPl_out (f : Pl → Pl) (s : State) : (s.modPl f).out = s.out := rfl
@[simp] theorem modPl_fenced (f : Pl → Pl) (s : State) : (s.modPl f).fenced = s.fenced := rfl
@[simp] theorem modPl_released (f : Pl → Pl) (s : State) : (s.modPl f).released = s.released := rfl
@[simp] theorem modPl_fenceReq (f : Pl → Pl) (s : State) : (s.modPl f).fenceReq = s.fenceReq := rfl
@[simp] theorem modPl_strikes (f : Pl → Pl) (s : State) : (s.modPl f).strikes = s.strikes := rfl
@[simp] theorem modPl_fatal (f : Pl → Pl) (s : State) : (s.modPl f).fatal = s.fatal := rfl
@[simp] theorem modPl_wake (f : Pl → Pl) (s : State) : (s.modPl f).wake = s.wake := rfl
@[simp] theorem modPl_qe (f : Pl → Pl) (s : State) : (s.modPl f).qe = s.qe := rfl
@[simp] theorem modPl_ch (f : Pl → Pl) (s : State) : (s.modPl f).ch = s.ch := rfl
@[simp] theorem modPl_sf (f : Pl → Pl) (s : State) : (s.modPl f).sf = s.sf := rfl
@[simp] theorem modPl_dc (f : Pl → Pl) (s : State) : (s.modPl f).dc = s.dc := rfl
@[simp] theorem modPl_fp (f : Pl → Pl) (s : State) : (s.modPl f).fp = s.fp := rfl
@[simp] theorem modPl_up (f : Pl → Pl) (s : State) : (s.modPl f).up = s.up := rfl
@[simp] theorem modPl_dn (f : Pl → Pl) (s : State) : (s.modPl f).dn = s.dn := rfl
@[simp] theorem modPl_pl (f : Pl → Pl) (s : State) : (s.modPl f).pl = f s.pl := rfl
@[simp] theorem modPl_rb (f : Pl → Pl) (s : State) : (s.modPl f).rb = s.rb := rfl
@[simp] theorem modPl_gz (f : Pl → Pl) (s : State) : (s.modPl f).gz = s.gz := rfl
@[simp] theorem modPl_ck (f : Pl → Pl) (s : State) : (s.modPl f).ck = s.ck := rfl
@[simp] theorem modPl_pm (f : Pl → Pl) (s : State) : (s.modPl f).pm = s.pm := rfl
@[simp] theorem modPl_rp (f : Pl → Pl) (s : State) : (s.modPl f).rp = s.rp := rfl
@[simp] theorem modPl_ib (f : Pl → Pl) (s : State) : (s.modPl f).ib = s.ib := rfl
@[simp] theorem modPl_bt (f : Pl → Pl) (s : State) : (s.modPl f).bt = s.bt := rfl
@[simp] theorem modPl_boot (f : Pl → Pl) (s : State) : (s.modPl f).boot = s.boot := rfl
@[simp] theorem modPl_ident (f : Pl → Pl) (s : State) : (s.modPl f).ident = s.ident := rfl

@[simp] theorem modRb_pending (f : Rb → Rb) (s : State) : (s.modRb f).pending = s.pending := rfl
@[simp] theorem modRb_now (f : Rb → Rb) (s : State) : (s.modRb f).now = s.now := rfl
@[simp] theorem modRb_slew (f : Rb → Rb) (s : State) : (s.modRb f).slew = s.slew := rfl
@[simp] theorem modRb_freeCtr (f : Rb → Rb) (s : State) : (s.modRb f).freeCtr = s.freeCtr := rfl
@[simp] theorem modRb_regs (f : Rb → Rb) (s : State) : (s.modRb f).regs = s.regs := rfl
@[simp] theorem modRb_mem (f : Rb → Rb) (s : State) : (s.modRb f).mem = s.mem := rfl
@[simp] theorem modRb_poison (f : Rb → Rb) (s : State) : (s.modRb f).poison = s.poison := rfl
@[simp] theorem modRb_hostMem (f : Rb → Rb) (s : State) : (s.modRb f).hostMem = s.hostMem := rfl
@[simp] theorem modRb_hostPoison (f : Rb → Rb) (s : State) : (s.modRb f).hostPoison = s.hostPoison := rfl
@[simp] theorem modRb_hostRefused (f : Rb → Rb) (s : State) : (s.modRb f).hostRefused = s.hostRefused := rfl
@[simp] theorem modRb_hostDead (f : Rb → Rb) (s : State) : (s.modRb f).hostDead = s.hostDead := rfl
@[simp] theorem modRb_out (f : Rb → Rb) (s : State) : (s.modRb f).out = s.out := rfl
@[simp] theorem modRb_fenced (f : Rb → Rb) (s : State) : (s.modRb f).fenced = s.fenced := rfl
@[simp] theorem modRb_released (f : Rb → Rb) (s : State) : (s.modRb f).released = s.released := rfl
@[simp] theorem modRb_fenceReq (f : Rb → Rb) (s : State) : (s.modRb f).fenceReq = s.fenceReq := rfl
@[simp] theorem modRb_strikes (f : Rb → Rb) (s : State) : (s.modRb f).strikes = s.strikes := rfl
@[simp] theorem modRb_fatal (f : Rb → Rb) (s : State) : (s.modRb f).fatal = s.fatal := rfl
@[simp] theorem modRb_wake (f : Rb → Rb) (s : State) : (s.modRb f).wake = s.wake := rfl
@[simp] theorem modRb_qe (f : Rb → Rb) (s : State) : (s.modRb f).qe = s.qe := rfl
@[simp] theorem modRb_ch (f : Rb → Rb) (s : State) : (s.modRb f).ch = s.ch := rfl
@[simp] theorem modRb_sf (f : Rb → Rb) (s : State) : (s.modRb f).sf = s.sf := rfl
@[simp] theorem modRb_dc (f : Rb → Rb) (s : State) : (s.modRb f).dc = s.dc := rfl
@[simp] theorem modRb_fp (f : Rb → Rb) (s : State) : (s.modRb f).fp = s.fp := rfl
@[simp] theorem modRb_up (f : Rb → Rb) (s : State) : (s.modRb f).up = s.up := rfl
@[simp] theorem modRb_dn (f : Rb → Rb) (s : State) : (s.modRb f).dn = s.dn := rfl
@[simp] theorem modRb_pl (f : Rb → Rb) (s : State) : (s.modRb f).pl = s.pl := rfl
@[simp] theorem modRb_rb (f : Rb → Rb) (s : State) : (s.modRb f).rb = f s.rb := rfl
@[simp] theorem modRb_gz (f : Rb → Rb) (s : State) : (s.modRb f).gz = s.gz := rfl
@[simp] theorem modRb_ck (f : Rb → Rb) (s : State) : (s.modRb f).ck = s.ck := rfl
@[simp] theorem modRb_pm (f : Rb → Rb) (s : State) : (s.modRb f).pm = s.pm := rfl
@[simp] theorem modRb_rp (f : Rb → Rb) (s : State) : (s.modRb f).rp = s.rp := rfl
@[simp] theorem modRb_ib (f : Rb → Rb) (s : State) : (s.modRb f).ib = s.ib := rfl
@[simp] theorem modRb_bt (f : Rb → Rb) (s : State) : (s.modRb f).bt = s.bt := rfl
@[simp] theorem modRb_boot (f : Rb → Rb) (s : State) : (s.modRb f).boot = s.boot := rfl
@[simp] theorem modRb_ident (f : Rb → Rb) (s : State) : (s.modRb f).ident = s.ident := rfl

@[simp] theorem modGz_pending (f : Gz → Gz) (s : State) : (s.modGz f).pending = s.pending := rfl
@[simp] theorem modGz_now (f : Gz → Gz) (s : State) : (s.modGz f).now = s.now := rfl
@[simp] theorem modGz_slew (f : Gz → Gz) (s : State) : (s.modGz f).slew = s.slew := rfl
@[simp] theorem modGz_freeCtr (f : Gz → Gz) (s : State) : (s.modGz f).freeCtr = s.freeCtr := rfl
@[simp] theorem modGz_regs (f : Gz → Gz) (s : State) : (s.modGz f).regs = s.regs := rfl
@[simp] theorem modGz_mem (f : Gz → Gz) (s : State) : (s.modGz f).mem = s.mem := rfl
@[simp] theorem modGz_poison (f : Gz → Gz) (s : State) : (s.modGz f).poison = s.poison := rfl
@[simp] theorem modGz_hostMem (f : Gz → Gz) (s : State) : (s.modGz f).hostMem = s.hostMem := rfl
@[simp] theorem modGz_hostPoison (f : Gz → Gz) (s : State) : (s.modGz f).hostPoison = s.hostPoison := rfl
@[simp] theorem modGz_hostRefused (f : Gz → Gz) (s : State) : (s.modGz f).hostRefused = s.hostRefused := rfl
@[simp] theorem modGz_hostDead (f : Gz → Gz) (s : State) : (s.modGz f).hostDead = s.hostDead := rfl
@[simp] theorem modGz_out (f : Gz → Gz) (s : State) : (s.modGz f).out = s.out := rfl
@[simp] theorem modGz_fenced (f : Gz → Gz) (s : State) : (s.modGz f).fenced = s.fenced := rfl
@[simp] theorem modGz_released (f : Gz → Gz) (s : State) : (s.modGz f).released = s.released := rfl
@[simp] theorem modGz_fenceReq (f : Gz → Gz) (s : State) : (s.modGz f).fenceReq = s.fenceReq := rfl
@[simp] theorem modGz_strikes (f : Gz → Gz) (s : State) : (s.modGz f).strikes = s.strikes := rfl
@[simp] theorem modGz_fatal (f : Gz → Gz) (s : State) : (s.modGz f).fatal = s.fatal := rfl
@[simp] theorem modGz_wake (f : Gz → Gz) (s : State) : (s.modGz f).wake = s.wake := rfl
@[simp] theorem modGz_qe (f : Gz → Gz) (s : State) : (s.modGz f).qe = s.qe := rfl
@[simp] theorem modGz_ch (f : Gz → Gz) (s : State) : (s.modGz f).ch = s.ch := rfl
@[simp] theorem modGz_sf (f : Gz → Gz) (s : State) : (s.modGz f).sf = s.sf := rfl
@[simp] theorem modGz_dc (f : Gz → Gz) (s : State) : (s.modGz f).dc = s.dc := rfl
@[simp] theorem modGz_fp (f : Gz → Gz) (s : State) : (s.modGz f).fp = s.fp := rfl
@[simp] theorem modGz_up (f : Gz → Gz) (s : State) : (s.modGz f).up = s.up := rfl
@[simp] theorem modGz_dn (f : Gz → Gz) (s : State) : (s.modGz f).dn = s.dn := rfl
@[simp] theorem modGz_pl (f : Gz → Gz) (s : State) : (s.modGz f).pl = s.pl := rfl
@[simp] theorem modGz_rb (f : Gz → Gz) (s : State) : (s.modGz f).rb = s.rb := rfl
@[simp] theorem modGz_gz (f : Gz → Gz) (s : State) : (s.modGz f).gz = f s.gz := rfl
@[simp] theorem modGz_ck (f : Gz → Gz) (s : State) : (s.modGz f).ck = s.ck := rfl
@[simp] theorem modGz_pm (f : Gz → Gz) (s : State) : (s.modGz f).pm = s.pm := rfl
@[simp] theorem modGz_rp (f : Gz → Gz) (s : State) : (s.modGz f).rp = s.rp := rfl
@[simp] theorem modGz_ib (f : Gz → Gz) (s : State) : (s.modGz f).ib = s.ib := rfl
@[simp] theorem modGz_bt (f : Gz → Gz) (s : State) : (s.modGz f).bt = s.bt := rfl
@[simp] theorem modGz_boot (f : Gz → Gz) (s : State) : (s.modGz f).boot = s.boot := rfl
@[simp] theorem modGz_ident (f : Gz → Gz) (s : State) : (s.modGz f).ident = s.ident := rfl

@[simp] theorem modCk_pending (f : Ck → Ck) (s : State) : (s.modCk f).pending = s.pending := rfl
@[simp] theorem modCk_now (f : Ck → Ck) (s : State) : (s.modCk f).now = s.now := rfl
@[simp] theorem modCk_slew (f : Ck → Ck) (s : State) : (s.modCk f).slew = s.slew := rfl
@[simp] theorem modCk_freeCtr (f : Ck → Ck) (s : State) : (s.modCk f).freeCtr = s.freeCtr := rfl
@[simp] theorem modCk_regs (f : Ck → Ck) (s : State) : (s.modCk f).regs = s.regs := rfl
@[simp] theorem modCk_mem (f : Ck → Ck) (s : State) : (s.modCk f).mem = s.mem := rfl
@[simp] theorem modCk_poison (f : Ck → Ck) (s : State) : (s.modCk f).poison = s.poison := rfl
@[simp] theorem modCk_hostMem (f : Ck → Ck) (s : State) : (s.modCk f).hostMem = s.hostMem := rfl
@[simp] theorem modCk_hostPoison (f : Ck → Ck) (s : State) : (s.modCk f).hostPoison = s.hostPoison := rfl
@[simp] theorem modCk_hostRefused (f : Ck → Ck) (s : State) : (s.modCk f).hostRefused = s.hostRefused := rfl
@[simp] theorem modCk_hostDead (f : Ck → Ck) (s : State) : (s.modCk f).hostDead = s.hostDead := rfl
@[simp] theorem modCk_out (f : Ck → Ck) (s : State) : (s.modCk f).out = s.out := rfl
@[simp] theorem modCk_fenced (f : Ck → Ck) (s : State) : (s.modCk f).fenced = s.fenced := rfl
@[simp] theorem modCk_released (f : Ck → Ck) (s : State) : (s.modCk f).released = s.released := rfl
@[simp] theorem modCk_fenceReq (f : Ck → Ck) (s : State) : (s.modCk f).fenceReq = s.fenceReq := rfl
@[simp] theorem modCk_strikes (f : Ck → Ck) (s : State) : (s.modCk f).strikes = s.strikes := rfl
@[simp] theorem modCk_fatal (f : Ck → Ck) (s : State) : (s.modCk f).fatal = s.fatal := rfl
@[simp] theorem modCk_wake (f : Ck → Ck) (s : State) : (s.modCk f).wake = s.wake := rfl
@[simp] theorem modCk_qe (f : Ck → Ck) (s : State) : (s.modCk f).qe = s.qe := rfl
@[simp] theorem modCk_ch (f : Ck → Ck) (s : State) : (s.modCk f).ch = s.ch := rfl
@[simp] theorem modCk_sf (f : Ck → Ck) (s : State) : (s.modCk f).sf = s.sf := rfl
@[simp] theorem modCk_dc (f : Ck → Ck) (s : State) : (s.modCk f).dc = s.dc := rfl
@[simp] theorem modCk_fp (f : Ck → Ck) (s : State) : (s.modCk f).fp = s.fp := rfl
@[simp] theorem modCk_up (f : Ck → Ck) (s : State) : (s.modCk f).up = s.up := rfl
@[simp] theorem modCk_dn (f : Ck → Ck) (s : State) : (s.modCk f).dn = s.dn := rfl
@[simp] theorem modCk_pl (f : Ck → Ck) (s : State) : (s.modCk f).pl = s.pl := rfl
@[simp] theorem modCk_rb (f : Ck → Ck) (s : State) : (s.modCk f).rb = s.rb := rfl
@[simp] theorem modCk_gz (f : Ck → Ck) (s : State) : (s.modCk f).gz = s.gz := rfl
@[simp] theorem modCk_ck (f : Ck → Ck) (s : State) : (s.modCk f).ck = f s.ck := rfl
@[simp] theorem modCk_pm (f : Ck → Ck) (s : State) : (s.modCk f).pm = s.pm := rfl
@[simp] theorem modCk_rp (f : Ck → Ck) (s : State) : (s.modCk f).rp = s.rp := rfl
@[simp] theorem modCk_ib (f : Ck → Ck) (s : State) : (s.modCk f).ib = s.ib := rfl
@[simp] theorem modCk_bt (f : Ck → Ck) (s : State) : (s.modCk f).bt = s.bt := rfl
@[simp] theorem modCk_boot (f : Ck → Ck) (s : State) : (s.modCk f).boot = s.boot := rfl
@[simp] theorem modCk_ident (f : Ck → Ck) (s : State) : (s.modCk f).ident = s.ident := rfl

@[simp] theorem modPm_pending (f : Pm → Pm) (s : State) : (s.modPm f).pending = s.pending := rfl
@[simp] theorem modPm_now (f : Pm → Pm) (s : State) : (s.modPm f).now = s.now := rfl
@[simp] theorem modPm_slew (f : Pm → Pm) (s : State) : (s.modPm f).slew = s.slew := rfl
@[simp] theorem modPm_freeCtr (f : Pm → Pm) (s : State) : (s.modPm f).freeCtr = s.freeCtr := rfl
@[simp] theorem modPm_regs (f : Pm → Pm) (s : State) : (s.modPm f).regs = s.regs := rfl
@[simp] theorem modPm_mem (f : Pm → Pm) (s : State) : (s.modPm f).mem = s.mem := rfl
@[simp] theorem modPm_poison (f : Pm → Pm) (s : State) : (s.modPm f).poison = s.poison := rfl
@[simp] theorem modPm_hostMem (f : Pm → Pm) (s : State) : (s.modPm f).hostMem = s.hostMem := rfl
@[simp] theorem modPm_hostPoison (f : Pm → Pm) (s : State) : (s.modPm f).hostPoison = s.hostPoison := rfl
@[simp] theorem modPm_hostRefused (f : Pm → Pm) (s : State) : (s.modPm f).hostRefused = s.hostRefused := rfl
@[simp] theorem modPm_hostDead (f : Pm → Pm) (s : State) : (s.modPm f).hostDead = s.hostDead := rfl
@[simp] theorem modPm_out (f : Pm → Pm) (s : State) : (s.modPm f).out = s.out := rfl
@[simp] theorem modPm_fenced (f : Pm → Pm) (s : State) : (s.modPm f).fenced = s.fenced := rfl
@[simp] theorem modPm_released (f : Pm → Pm) (s : State) : (s.modPm f).released = s.released := rfl
@[simp] theorem modPm_fenceReq (f : Pm → Pm) (s : State) : (s.modPm f).fenceReq = s.fenceReq := rfl
@[simp] theorem modPm_strikes (f : Pm → Pm) (s : State) : (s.modPm f).strikes = s.strikes := rfl
@[simp] theorem modPm_fatal (f : Pm → Pm) (s : State) : (s.modPm f).fatal = s.fatal := rfl
@[simp] theorem modPm_wake (f : Pm → Pm) (s : State) : (s.modPm f).wake = s.wake := rfl
@[simp] theorem modPm_qe (f : Pm → Pm) (s : State) : (s.modPm f).qe = s.qe := rfl
@[simp] theorem modPm_ch (f : Pm → Pm) (s : State) : (s.modPm f).ch = s.ch := rfl
@[simp] theorem modPm_sf (f : Pm → Pm) (s : State) : (s.modPm f).sf = s.sf := rfl
@[simp] theorem modPm_dc (f : Pm → Pm) (s : State) : (s.modPm f).dc = s.dc := rfl
@[simp] theorem modPm_fp (f : Pm → Pm) (s : State) : (s.modPm f).fp = s.fp := rfl
@[simp] theorem modPm_up (f : Pm → Pm) (s : State) : (s.modPm f).up = s.up := rfl
@[simp] theorem modPm_dn (f : Pm → Pm) (s : State) : (s.modPm f).dn = s.dn := rfl
@[simp] theorem modPm_pl (f : Pm → Pm) (s : State) : (s.modPm f).pl = s.pl := rfl
@[simp] theorem modPm_rb (f : Pm → Pm) (s : State) : (s.modPm f).rb = s.rb := rfl
@[simp] theorem modPm_gz (f : Pm → Pm) (s : State) : (s.modPm f).gz = s.gz := rfl
@[simp] theorem modPm_ck (f : Pm → Pm) (s : State) : (s.modPm f).ck = s.ck := rfl
@[simp] theorem modPm_pm (f : Pm → Pm) (s : State) : (s.modPm f).pm = f s.pm := rfl
@[simp] theorem modPm_rp (f : Pm → Pm) (s : State) : (s.modPm f).rp = s.rp := rfl
@[simp] theorem modPm_ib (f : Pm → Pm) (s : State) : (s.modPm f).ib = s.ib := rfl
@[simp] theorem modPm_bt (f : Pm → Pm) (s : State) : (s.modPm f).bt = s.bt := rfl
@[simp] theorem modPm_boot (f : Pm → Pm) (s : State) : (s.modPm f).boot = s.boot := rfl
@[simp] theorem modPm_ident (f : Pm → Pm) (s : State) : (s.modPm f).ident = s.ident := rfl

@[simp] theorem modRp_pending (f : Rp → Rp) (s : State) : (s.modRp f).pending = s.pending := rfl
@[simp] theorem modRp_now (f : Rp → Rp) (s : State) : (s.modRp f).now = s.now := rfl
@[simp] theorem modRp_slew (f : Rp → Rp) (s : State) : (s.modRp f).slew = s.slew := rfl
@[simp] theorem modRp_freeCtr (f : Rp → Rp) (s : State) : (s.modRp f).freeCtr = s.freeCtr := rfl
@[simp] theorem modRp_regs (f : Rp → Rp) (s : State) : (s.modRp f).regs = s.regs := rfl
@[simp] theorem modRp_mem (f : Rp → Rp) (s : State) : (s.modRp f).mem = s.mem := rfl
@[simp] theorem modRp_poison (f : Rp → Rp) (s : State) : (s.modRp f).poison = s.poison := rfl
@[simp] theorem modRp_hostMem (f : Rp → Rp) (s : State) : (s.modRp f).hostMem = s.hostMem := rfl
@[simp] theorem modRp_hostPoison (f : Rp → Rp) (s : State) : (s.modRp f).hostPoison = s.hostPoison := rfl
@[simp] theorem modRp_hostRefused (f : Rp → Rp) (s : State) : (s.modRp f).hostRefused = s.hostRefused := rfl
@[simp] theorem modRp_hostDead (f : Rp → Rp) (s : State) : (s.modRp f).hostDead = s.hostDead := rfl
@[simp] theorem modRp_out (f : Rp → Rp) (s : State) : (s.modRp f).out = s.out := rfl
@[simp] theorem modRp_fenced (f : Rp → Rp) (s : State) : (s.modRp f).fenced = s.fenced := rfl
@[simp] theorem modRp_released (f : Rp → Rp) (s : State) : (s.modRp f).released = s.released := rfl
@[simp] theorem modRp_fenceReq (f : Rp → Rp) (s : State) : (s.modRp f).fenceReq = s.fenceReq := rfl
@[simp] theorem modRp_strikes (f : Rp → Rp) (s : State) : (s.modRp f).strikes = s.strikes := rfl
@[simp] theorem modRp_fatal (f : Rp → Rp) (s : State) : (s.modRp f).fatal = s.fatal := rfl
@[simp] theorem modRp_wake (f : Rp → Rp) (s : State) : (s.modRp f).wake = s.wake := rfl
@[simp] theorem modRp_qe (f : Rp → Rp) (s : State) : (s.modRp f).qe = s.qe := rfl
@[simp] theorem modRp_ch (f : Rp → Rp) (s : State) : (s.modRp f).ch = s.ch := rfl
@[simp] theorem modRp_sf (f : Rp → Rp) (s : State) : (s.modRp f).sf = s.sf := rfl
@[simp] theorem modRp_dc (f : Rp → Rp) (s : State) : (s.modRp f).dc = s.dc := rfl
@[simp] theorem modRp_fp (f : Rp → Rp) (s : State) : (s.modRp f).fp = s.fp := rfl
@[simp] theorem modRp_up (f : Rp → Rp) (s : State) : (s.modRp f).up = s.up := rfl
@[simp] theorem modRp_dn (f : Rp → Rp) (s : State) : (s.modRp f).dn = s.dn := rfl
@[simp] theorem modRp_pl (f : Rp → Rp) (s : State) : (s.modRp f).pl = s.pl := rfl
@[simp] theorem modRp_rb (f : Rp → Rp) (s : State) : (s.modRp f).rb = s.rb := rfl
@[simp] theorem modRp_gz (f : Rp → Rp) (s : State) : (s.modRp f).gz = s.gz := rfl
@[simp] theorem modRp_ck (f : Rp → Rp) (s : State) : (s.modRp f).ck = s.ck := rfl
@[simp] theorem modRp_pm (f : Rp → Rp) (s : State) : (s.modRp f).pm = s.pm := rfl
@[simp] theorem modRp_rp (f : Rp → Rp) (s : State) : (s.modRp f).rp = f s.rp := rfl
@[simp] theorem modRp_ib (f : Rp → Rp) (s : State) : (s.modRp f).ib = s.ib := rfl
@[simp] theorem modRp_bt (f : Rp → Rp) (s : State) : (s.modRp f).bt = s.bt := rfl
@[simp] theorem modRp_boot (f : Rp → Rp) (s : State) : (s.modRp f).boot = s.boot := rfl
@[simp] theorem modRp_ident (f : Rp → Rp) (s : State) : (s.modRp f).ident = s.ident := rfl

@[simp] theorem modIb_pending (f : Ib → Ib) (s : State) : (s.modIb f).pending = s.pending := rfl
@[simp] theorem modIb_now (f : Ib → Ib) (s : State) : (s.modIb f).now = s.now := rfl
@[simp] theorem modIb_slew (f : Ib → Ib) (s : State) : (s.modIb f).slew = s.slew := rfl
@[simp] theorem modIb_freeCtr (f : Ib → Ib) (s : State) : (s.modIb f).freeCtr = s.freeCtr := rfl
@[simp] theorem modIb_regs (f : Ib → Ib) (s : State) : (s.modIb f).regs = s.regs := rfl
@[simp] theorem modIb_mem (f : Ib → Ib) (s : State) : (s.modIb f).mem = s.mem := rfl
@[simp] theorem modIb_poison (f : Ib → Ib) (s : State) : (s.modIb f).poison = s.poison := rfl
@[simp] theorem modIb_hostMem (f : Ib → Ib) (s : State) : (s.modIb f).hostMem = s.hostMem := rfl
@[simp] theorem modIb_hostPoison (f : Ib → Ib) (s : State) : (s.modIb f).hostPoison = s.hostPoison := rfl
@[simp] theorem modIb_hostRefused (f : Ib → Ib) (s : State) : (s.modIb f).hostRefused = s.hostRefused := rfl
@[simp] theorem modIb_hostDead (f : Ib → Ib) (s : State) : (s.modIb f).hostDead = s.hostDead := rfl
@[simp] theorem modIb_out (f : Ib → Ib) (s : State) : (s.modIb f).out = s.out := rfl
@[simp] theorem modIb_fenced (f : Ib → Ib) (s : State) : (s.modIb f).fenced = s.fenced := rfl
@[simp] theorem modIb_released (f : Ib → Ib) (s : State) : (s.modIb f).released = s.released := rfl
@[simp] theorem modIb_fenceReq (f : Ib → Ib) (s : State) : (s.modIb f).fenceReq = s.fenceReq := rfl
@[simp] theorem modIb_strikes (f : Ib → Ib) (s : State) : (s.modIb f).strikes = s.strikes := rfl
@[simp] theorem modIb_fatal (f : Ib → Ib) (s : State) : (s.modIb f).fatal = s.fatal := rfl
@[simp] theorem modIb_wake (f : Ib → Ib) (s : State) : (s.modIb f).wake = s.wake := rfl
@[simp] theorem modIb_qe (f : Ib → Ib) (s : State) : (s.modIb f).qe = s.qe := rfl
@[simp] theorem modIb_ch (f : Ib → Ib) (s : State) : (s.modIb f).ch = s.ch := rfl
@[simp] theorem modIb_sf (f : Ib → Ib) (s : State) : (s.modIb f).sf = s.sf := rfl
@[simp] theorem modIb_dc (f : Ib → Ib) (s : State) : (s.modIb f).dc = s.dc := rfl
@[simp] theorem modIb_fp (f : Ib → Ib) (s : State) : (s.modIb f).fp = s.fp := rfl
@[simp] theorem modIb_up (f : Ib → Ib) (s : State) : (s.modIb f).up = s.up := rfl
@[simp] theorem modIb_dn (f : Ib → Ib) (s : State) : (s.modIb f).dn = s.dn := rfl
@[simp] theorem modIb_pl (f : Ib → Ib) (s : State) : (s.modIb f).pl = s.pl := rfl
@[simp] theorem modIb_rb (f : Ib → Ib) (s : State) : (s.modIb f).rb = s.rb := rfl
@[simp] theorem modIb_gz (f : Ib → Ib) (s : State) : (s.modIb f).gz = s.gz := rfl
@[simp] theorem modIb_ck (f : Ib → Ib) (s : State) : (s.modIb f).ck = s.ck := rfl
@[simp] theorem modIb_pm (f : Ib → Ib) (s : State) : (s.modIb f).pm = s.pm := rfl
@[simp] theorem modIb_rp (f : Ib → Ib) (s : State) : (s.modIb f).rp = s.rp := rfl
@[simp] theorem modIb_ib (f : Ib → Ib) (s : State) : (s.modIb f).ib = f s.ib := rfl
@[simp] theorem modIb_bt (f : Ib → Ib) (s : State) : (s.modIb f).bt = s.bt := rfl
@[simp] theorem modIb_boot (f : Ib → Ib) (s : State) : (s.modIb f).boot = s.boot := rfl
@[simp] theorem modIb_ident (f : Ib → Ib) (s : State) : (s.modIb f).ident = s.ident := rfl

@[simp] theorem modBt_pending (f : Bt → Bt) (s : State) : (s.modBt f).pending = s.pending := rfl
@[simp] theorem modBt_now (f : Bt → Bt) (s : State) : (s.modBt f).now = s.now := rfl
@[simp] theorem modBt_slew (f : Bt → Bt) (s : State) : (s.modBt f).slew = s.slew := rfl
@[simp] theorem modBt_freeCtr (f : Bt → Bt) (s : State) : (s.modBt f).freeCtr = s.freeCtr := rfl
@[simp] theorem modBt_regs (f : Bt → Bt) (s : State) : (s.modBt f).regs = s.regs := rfl
@[simp] theorem modBt_mem (f : Bt → Bt) (s : State) : (s.modBt f).mem = s.mem := rfl
@[simp] theorem modBt_poison (f : Bt → Bt) (s : State) : (s.modBt f).poison = s.poison := rfl
@[simp] theorem modBt_hostMem (f : Bt → Bt) (s : State) : (s.modBt f).hostMem = s.hostMem := rfl
@[simp] theorem modBt_hostPoison (f : Bt → Bt) (s : State) : (s.modBt f).hostPoison = s.hostPoison := rfl
@[simp] theorem modBt_hostRefused (f : Bt → Bt) (s : State) : (s.modBt f).hostRefused = s.hostRefused := rfl
@[simp] theorem modBt_hostDead (f : Bt → Bt) (s : State) : (s.modBt f).hostDead = s.hostDead := rfl
@[simp] theorem modBt_out (f : Bt → Bt) (s : State) : (s.modBt f).out = s.out := rfl
@[simp] theorem modBt_fenced (f : Bt → Bt) (s : State) : (s.modBt f).fenced = s.fenced := rfl
@[simp] theorem modBt_released (f : Bt → Bt) (s : State) : (s.modBt f).released = s.released := rfl
@[simp] theorem modBt_fenceReq (f : Bt → Bt) (s : State) : (s.modBt f).fenceReq = s.fenceReq := rfl
@[simp] theorem modBt_strikes (f : Bt → Bt) (s : State) : (s.modBt f).strikes = s.strikes := rfl
@[simp] theorem modBt_fatal (f : Bt → Bt) (s : State) : (s.modBt f).fatal = s.fatal := rfl
@[simp] theorem modBt_wake (f : Bt → Bt) (s : State) : (s.modBt f).wake = s.wake := rfl
@[simp] theorem modBt_qe (f : Bt → Bt) (s : State) : (s.modBt f).qe = s.qe := rfl
@[simp] theorem modBt_ch (f : Bt → Bt) (s : State) : (s.modBt f).ch = s.ch := rfl
@[simp] theorem modBt_sf (f : Bt → Bt) (s : State) : (s.modBt f).sf = s.sf := rfl
@[simp] theorem modBt_dc (f : Bt → Bt) (s : State) : (s.modBt f).dc = s.dc := rfl
@[simp] theorem modBt_fp (f : Bt → Bt) (s : State) : (s.modBt f).fp = s.fp := rfl
@[simp] theorem modBt_up (f : Bt → Bt) (s : State) : (s.modBt f).up = s.up := rfl
@[simp] theorem modBt_dn (f : Bt → Bt) (s : State) : (s.modBt f).dn = s.dn := rfl
@[simp] theorem modBt_pl (f : Bt → Bt) (s : State) : (s.modBt f).pl = s.pl := rfl
@[simp] theorem modBt_rb (f : Bt → Bt) (s : State) : (s.modBt f).rb = s.rb := rfl
@[simp] theorem modBt_gz (f : Bt → Bt) (s : State) : (s.modBt f).gz = s.gz := rfl
@[simp] theorem modBt_ck (f : Bt → Bt) (s : State) : (s.modBt f).ck = s.ck := rfl
@[simp] theorem modBt_pm (f : Bt → Bt) (s : State) : (s.modBt f).pm = s.pm := rfl
@[simp] theorem modBt_rp (f : Bt → Bt) (s : State) : (s.modBt f).rp = s.rp := rfl
@[simp] theorem modBt_ib (f : Bt → Bt) (s : State) : (s.modBt f).ib = s.ib := rfl
@[simp] theorem modBt_bt (f : Bt → Bt) (s : State) : (s.modBt f).bt = f s.bt := rfl
@[simp] theorem modBt_boot (f : Bt → Bt) (s : State) : (s.modBt f).boot = s.boot := rfl
@[simp] theorem modBt_ident (f : Bt → Bt) (s : State) : (s.modBt f).ident = s.ident := rfl

@[simp] theorem modBoot_pending (f : Boot → Boot) (s : State) : (s.modBoot f).pending = s.pending := rfl
@[simp] theorem modBoot_now (f : Boot → Boot) (s : State) : (s.modBoot f).now = s.now := rfl
@[simp] theorem modBoot_slew (f : Boot → Boot) (s : State) : (s.modBoot f).slew = s.slew := rfl
@[simp] theorem modBoot_freeCtr (f : Boot → Boot) (s : State) : (s.modBoot f).freeCtr = s.freeCtr := rfl
@[simp] theorem modBoot_regs (f : Boot → Boot) (s : State) : (s.modBoot f).regs = s.regs := rfl
@[simp] theorem modBoot_mem (f : Boot → Boot) (s : State) : (s.modBoot f).mem = s.mem := rfl
@[simp] theorem modBoot_poison (f : Boot → Boot) (s : State) : (s.modBoot f).poison = s.poison := rfl
@[simp] theorem modBoot_hostMem (f : Boot → Boot) (s : State) : (s.modBoot f).hostMem = s.hostMem := rfl
@[simp] theorem modBoot_hostPoison (f : Boot → Boot) (s : State) : (s.modBoot f).hostPoison = s.hostPoison := rfl
@[simp] theorem modBoot_hostRefused (f : Boot → Boot) (s : State) : (s.modBoot f).hostRefused = s.hostRefused := rfl
@[simp] theorem modBoot_hostDead (f : Boot → Boot) (s : State) : (s.modBoot f).hostDead = s.hostDead := rfl
@[simp] theorem modBoot_out (f : Boot → Boot) (s : State) : (s.modBoot f).out = s.out := rfl
@[simp] theorem modBoot_fenced (f : Boot → Boot) (s : State) : (s.modBoot f).fenced = s.fenced := rfl
@[simp] theorem modBoot_released (f : Boot → Boot) (s : State) : (s.modBoot f).released = s.released := rfl
@[simp] theorem modBoot_fenceReq (f : Boot → Boot) (s : State) : (s.modBoot f).fenceReq = s.fenceReq := rfl
@[simp] theorem modBoot_strikes (f : Boot → Boot) (s : State) : (s.modBoot f).strikes = s.strikes := rfl
@[simp] theorem modBoot_fatal (f : Boot → Boot) (s : State) : (s.modBoot f).fatal = s.fatal := rfl
@[simp] theorem modBoot_wake (f : Boot → Boot) (s : State) : (s.modBoot f).wake = s.wake := rfl
@[simp] theorem modBoot_qe (f : Boot → Boot) (s : State) : (s.modBoot f).qe = s.qe := rfl
@[simp] theorem modBoot_ch (f : Boot → Boot) (s : State) : (s.modBoot f).ch = s.ch := rfl
@[simp] theorem modBoot_sf (f : Boot → Boot) (s : State) : (s.modBoot f).sf = s.sf := rfl
@[simp] theorem modBoot_dc (f : Boot → Boot) (s : State) : (s.modBoot f).dc = s.dc := rfl
@[simp] theorem modBoot_fp (f : Boot → Boot) (s : State) : (s.modBoot f).fp = s.fp := rfl
@[simp] theorem modBoot_up (f : Boot → Boot) (s : State) : (s.modBoot f).up = s.up := rfl
@[simp] theorem modBoot_dn (f : Boot → Boot) (s : State) : (s.modBoot f).dn = s.dn := rfl
@[simp] theorem modBoot_pl (f : Boot → Boot) (s : State) : (s.modBoot f).pl = s.pl := rfl
@[simp] theorem modBoot_rb (f : Boot → Boot) (s : State) : (s.modBoot f).rb = s.rb := rfl
@[simp] theorem modBoot_gz (f : Boot → Boot) (s : State) : (s.modBoot f).gz = s.gz := rfl
@[simp] theorem modBoot_ck (f : Boot → Boot) (s : State) : (s.modBoot f).ck = s.ck := rfl
@[simp] theorem modBoot_pm (f : Boot → Boot) (s : State) : (s.modBoot f).pm = s.pm := rfl
@[simp] theorem modBoot_rp (f : Boot → Boot) (s : State) : (s.modBoot f).rp = s.rp := rfl
@[simp] theorem modBoot_ib (f : Boot → Boot) (s : State) : (s.modBoot f).ib = s.ib := rfl
@[simp] theorem modBoot_bt (f : Boot → Boot) (s : State) : (s.modBoot f).bt = s.bt := rfl
@[simp] theorem modBoot_boot (f : Boot → Boot) (s : State) : (s.modBoot f).boot = f s.boot := rfl
@[simp] theorem modBoot_ident (f : Boot → Boot) (s : State) : (s.modBoot f).ident = s.ident := rfl

@[simp] theorem modIdent_pending (f : Ident → Ident) (s : State) : (s.modIdent f).pending = s.pending := rfl
@[simp] theorem modIdent_now (f : Ident → Ident) (s : State) : (s.modIdent f).now = s.now := rfl
@[simp] theorem modIdent_slew (f : Ident → Ident) (s : State) : (s.modIdent f).slew = s.slew := rfl
@[simp] theorem modIdent_freeCtr (f : Ident → Ident) (s : State) : (s.modIdent f).freeCtr = s.freeCtr := rfl
@[simp] theorem modIdent_regs (f : Ident → Ident) (s : State) : (s.modIdent f).regs = s.regs := rfl
@[simp] theorem modIdent_mem (f : Ident → Ident) (s : State) : (s.modIdent f).mem = s.mem := rfl
@[simp] theorem modIdent_poison (f : Ident → Ident) (s : State) : (s.modIdent f).poison = s.poison := rfl
@[simp] theorem modIdent_hostMem (f : Ident → Ident) (s : State) : (s.modIdent f).hostMem = s.hostMem := rfl
@[simp] theorem modIdent_hostPoison (f : Ident → Ident) (s : State) : (s.modIdent f).hostPoison = s.hostPoison := rfl
@[simp] theorem modIdent_hostRefused (f : Ident → Ident) (s : State) : (s.modIdent f).hostRefused = s.hostRefused := rfl
@[simp] theorem modIdent_hostDead (f : Ident → Ident) (s : State) : (s.modIdent f).hostDead = s.hostDead := rfl
@[simp] theorem modIdent_out (f : Ident → Ident) (s : State) : (s.modIdent f).out = s.out := rfl
@[simp] theorem modIdent_fenced (f : Ident → Ident) (s : State) : (s.modIdent f).fenced = s.fenced := rfl
@[simp] theorem modIdent_released (f : Ident → Ident) (s : State) : (s.modIdent f).released = s.released := rfl
@[simp] theorem modIdent_fenceReq (f : Ident → Ident) (s : State) : (s.modIdent f).fenceReq = s.fenceReq := rfl
@[simp] theorem modIdent_strikes (f : Ident → Ident) (s : State) : (s.modIdent f).strikes = s.strikes := rfl
@[simp] theorem modIdent_fatal (f : Ident → Ident) (s : State) : (s.modIdent f).fatal = s.fatal := rfl
@[simp] theorem modIdent_wake (f : Ident → Ident) (s : State) : (s.modIdent f).wake = s.wake := rfl
@[simp] theorem modIdent_qe (f : Ident → Ident) (s : State) : (s.modIdent f).qe = s.qe := rfl
@[simp] theorem modIdent_ch (f : Ident → Ident) (s : State) : (s.modIdent f).ch = s.ch := rfl
@[simp] theorem modIdent_sf (f : Ident → Ident) (s : State) : (s.modIdent f).sf = s.sf := rfl
@[simp] theorem modIdent_dc (f : Ident → Ident) (s : State) : (s.modIdent f).dc = s.dc := rfl
@[simp] theorem modIdent_fp (f : Ident → Ident) (s : State) : (s.modIdent f).fp = s.fp := rfl
@[simp] theorem modIdent_up (f : Ident → Ident) (s : State) : (s.modIdent f).up = s.up := rfl
@[simp] theorem modIdent_dn (f : Ident → Ident) (s : State) : (s.modIdent f).dn = s.dn := rfl
@[simp] theorem modIdent_pl (f : Ident → Ident) (s : State) : (s.modIdent f).pl = s.pl := rfl
@[simp] theorem modIdent_rb (f : Ident → Ident) (s : State) : (s.modIdent f).rb = s.rb := rfl
@[simp] theorem modIdent_gz (f : Ident → Ident) (s : State) : (s.modIdent f).gz = s.gz := rfl
@[simp] theorem modIdent_ck (f : Ident → Ident) (s : State) : (s.modIdent f).ck = s.ck := rfl
@[simp] theorem modIdent_pm (f : Ident → Ident) (s : State) : (s.modIdent f).pm = s.pm := rfl
@[simp] theorem modIdent_rp (f : Ident → Ident) (s : State) : (s.modIdent f).rp = s.rp := rfl
@[simp] theorem modIdent_ib (f : Ident → Ident) (s : State) : (s.modIdent f).ib = s.ib := rfl
@[simp] theorem modIdent_bt (f : Ident → Ident) (s : State) : (s.modIdent f).bt = s.bt := rfl
@[simp] theorem modIdent_boot (f : Ident → Ident) (s : State) : (s.modIdent f).boot = s.boot := rfl
@[simp] theorem modIdent_ident (f : Ident → Ident) (s : State) : (s.modIdent f).ident = f s.ident := rfl

@[simp] theorem modDn_pending (f : Dn → Dn) (s : State) : (s.modDn f).pending = s.pending := rfl
@[simp] theorem modDn_now (f : Dn → Dn) (s : State) : (s.modDn f).now = s.now := rfl
@[simp] theorem modDn_slew (f : Dn → Dn) (s : State) : (s.modDn f).slew = s.slew := rfl
@[simp] theorem modDn_freeCtr (f : Dn → Dn) (s : State) : (s.modDn f).freeCtr = s.freeCtr := rfl
@[simp] theorem modDn_regs (f : Dn → Dn) (s : State) : (s.modDn f).regs = s.regs := rfl
@[simp] theorem modDn_mem (f : Dn → Dn) (s : State) : (s.modDn f).mem = s.mem := rfl
@[simp] theorem modDn_poison (f : Dn → Dn) (s : State) : (s.modDn f).poison = s.poison := rfl
@[simp] theorem modDn_hostMem (f : Dn → Dn) (s : State) : (s.modDn f).hostMem = s.hostMem := rfl
@[simp] theorem modDn_hostPoison (f : Dn → Dn) (s : State) : (s.modDn f).hostPoison = s.hostPoison := rfl
@[simp] theorem modDn_hostRefused (f : Dn → Dn) (s : State) : (s.modDn f).hostRefused = s.hostRefused := rfl
@[simp] theorem modDn_hostDead (f : Dn → Dn) (s : State) : (s.modDn f).hostDead = s.hostDead := rfl
@[simp] theorem modDn_out (f : Dn → Dn) (s : State) : (s.modDn f).out = s.out := rfl
@[simp] theorem modDn_fenced (f : Dn → Dn) (s : State) : (s.modDn f).fenced = s.fenced := rfl
@[simp] theorem modDn_released (f : Dn → Dn) (s : State) : (s.modDn f).released = s.released := rfl
@[simp] theorem modDn_fenceReq (f : Dn → Dn) (s : State) : (s.modDn f).fenceReq = s.fenceReq := rfl
@[simp] theorem modDn_strikes (f : Dn → Dn) (s : State) : (s.modDn f).strikes = s.strikes := rfl
@[simp] theorem modDn_fatal (f : Dn → Dn) (s : State) : (s.modDn f).fatal = s.fatal := rfl
@[simp] theorem modDn_wake (f : Dn → Dn) (s : State) : (s.modDn f).wake = s.wake := rfl
@[simp] theorem modDn_qe (f : Dn → Dn) (s : State) : (s.modDn f).qe = s.qe := rfl
@[simp] theorem modDn_ch (f : Dn → Dn) (s : State) : (s.modDn f).ch = s.ch := rfl
@[simp] theorem modDn_sf (f : Dn → Dn) (s : State) : (s.modDn f).sf = s.sf := rfl
@[simp] theorem modDn_dc (f : Dn → Dn) (s : State) : (s.modDn f).dc = s.dc := rfl
@[simp] theorem modDn_fp (f : Dn → Dn) (s : State) : (s.modDn f).fp = s.fp := rfl
@[simp] theorem modDn_up (f : Dn → Dn) (s : State) : (s.modDn f).up = s.up := rfl
@[simp] theorem modDn_dn (f : Dn → Dn) (s : State) : (s.modDn f).dn = f s.dn := rfl
@[simp] theorem modDn_pl (f : Dn → Dn) (s : State) : (s.modDn f).pl = s.pl := rfl
@[simp] theorem modDn_rb (f : Dn → Dn) (s : State) : (s.modDn f).rb = s.rb := rfl
@[simp] theorem modDn_gz (f : Dn → Dn) (s : State) : (s.modDn f).gz = s.gz := rfl
@[simp] theorem modDn_ck (f : Dn → Dn) (s : State) : (s.modDn f).ck = s.ck := rfl
@[simp] theorem modDn_pm (f : Dn → Dn) (s : State) : (s.modDn f).pm = s.pm := rfl
@[simp] theorem modDn_rp (f : Dn → Dn) (s : State) : (s.modDn f).rp = s.rp := rfl
@[simp] theorem modDn_ib (f : Dn → Dn) (s : State) : (s.modDn f).ib = s.ib := rfl
@[simp] theorem modDn_bt (f : Dn → Dn) (s : State) : (s.modDn f).bt = s.bt := rfl
@[simp] theorem modDn_boot (f : Dn → Dn) (s : State) : (s.modDn f).boot = s.boot := rfl
@[simp] theorem modDn_ident (f : Dn → Dn) (s : State) : (s.modDn f).ident = s.ident := rfl

@[simp] theorem emit_pending (m : Msg) (s : State) : (s.emit m).pending = s.pending := rfl
@[simp] theorem emit_now (m : Msg) (s : State) : (s.emit m).now = s.now := rfl
@[simp] theorem emit_slew (m : Msg) (s : State) : (s.emit m).slew = s.slew := rfl
@[simp] theorem emit_freeCtr (m : Msg) (s : State) : (s.emit m).freeCtr = s.freeCtr := rfl
@[simp] theorem emit_regs (m : Msg) (s : State) : (s.emit m).regs = s.regs := rfl
@[simp] theorem emit_mem (m : Msg) (s : State) : (s.emit m).mem = s.mem := rfl
@[simp] theorem emit_poison (m : Msg) (s : State) : (s.emit m).poison = s.poison := rfl
@[simp] theorem emit_hostMem (m : Msg) (s : State) : (s.emit m).hostMem = s.hostMem := rfl
@[simp] theorem emit_hostPoison (m : Msg) (s : State) : (s.emit m).hostPoison = s.hostPoison := rfl
@[simp] theorem emit_hostRefused (m : Msg) (s : State) : (s.emit m).hostRefused = s.hostRefused := rfl
@[simp] theorem emit_hostDead (m : Msg) (s : State) : (s.emit m).hostDead = s.hostDead := rfl
@[simp] theorem emit_out (m : Msg) (s : State) : (s.emit m).out = m :: s.out := rfl
@[simp] theorem emit_fenced (m : Msg) (s : State) : (s.emit m).fenced = s.fenced := rfl
@[simp] theorem emit_released (m : Msg) (s : State) : (s.emit m).released = s.released := rfl
@[simp] theorem emit_fenceReq (m : Msg) (s : State) : (s.emit m).fenceReq = s.fenceReq := rfl
@[simp] theorem emit_strikes (m : Msg) (s : State) : (s.emit m).strikes = s.strikes := rfl
@[simp] theorem emit_fatal (m : Msg) (s : State) : (s.emit m).fatal = s.fatal := rfl
@[simp] theorem emit_wake (m : Msg) (s : State) : (s.emit m).wake = s.wake := rfl
@[simp] theorem emit_qe (m : Msg) (s : State) : (s.emit m).qe = s.qe := rfl
@[simp] theorem emit_ch (m : Msg) (s : State) : (s.emit m).ch = s.ch := rfl
@[simp] theorem emit_sf (m : Msg) (s : State) : (s.emit m).sf = s.sf := rfl
@[simp] theorem emit_dc (m : Msg) (s : State) : (s.emit m).dc = s.dc := rfl
@[simp] theorem emit_fp (m : Msg) (s : State) : (s.emit m).fp = s.fp := rfl
@[simp] theorem emit_up (m : Msg) (s : State) : (s.emit m).up = s.up := rfl
@[simp] theorem emit_dn (m : Msg) (s : State) : (s.emit m).dn = s.dn := rfl
@[simp] theorem emit_pl (m : Msg) (s : State) : (s.emit m).pl = s.pl := rfl
@[simp] theorem emit_rb (m : Msg) (s : State) : (s.emit m).rb = s.rb := rfl
@[simp] theorem emit_gz (m : Msg) (s : State) : (s.emit m).gz = s.gz := rfl
@[simp] theorem emit_ck (m : Msg) (s : State) : (s.emit m).ck = s.ck := rfl
@[simp] theorem emit_pm (m : Msg) (s : State) : (s.emit m).pm = s.pm := rfl
@[simp] theorem emit_rp (m : Msg) (s : State) : (s.emit m).rp = s.rp := rfl
@[simp] theorem emit_ib (m : Msg) (s : State) : (s.emit m).ib = s.ib := rfl
@[simp] theorem emit_bt (m : Msg) (s : State) : (s.emit m).bt = s.bt := rfl
@[simp] theorem emit_boot (m : Msg) (s : State) : (s.emit m).boot = s.boot := rfl
@[simp] theorem emit_ident (m : Msg) (s : State) : (s.emit m).ident = s.ident := rfl

@[simp] theorem wakeUp_pending (w : Waiter) (s : State) : (s.wakeUp w).pending = s.pending := rfl
@[simp] theorem wakeUp_now (w : Waiter) (s : State) : (s.wakeUp w).now = s.now := rfl
@[simp] theorem wakeUp_slew (w : Waiter) (s : State) : (s.wakeUp w).slew = s.slew := rfl
@[simp] theorem wakeUp_freeCtr (w : Waiter) (s : State) : (s.wakeUp w).freeCtr = s.freeCtr := rfl
@[simp] theorem wakeUp_regs (w : Waiter) (s : State) : (s.wakeUp w).regs = s.regs := rfl
@[simp] theorem wakeUp_mem (w : Waiter) (s : State) : (s.wakeUp w).mem = s.mem := rfl
@[simp] theorem wakeUp_poison (w : Waiter) (s : State) : (s.wakeUp w).poison = s.poison := rfl
@[simp] theorem wakeUp_hostMem (w : Waiter) (s : State) : (s.wakeUp w).hostMem = s.hostMem := rfl
@[simp] theorem wakeUp_hostPoison (w : Waiter) (s : State) : (s.wakeUp w).hostPoison = s.hostPoison := rfl
@[simp] theorem wakeUp_hostRefused (w : Waiter) (s : State) : (s.wakeUp w).hostRefused = s.hostRefused := rfl
@[simp] theorem wakeUp_hostDead (w : Waiter) (s : State) : (s.wakeUp w).hostDead = s.hostDead := rfl
@[simp] theorem wakeUp_out (w : Waiter) (s : State) : (s.wakeUp w).out = s.out := rfl
@[simp] theorem wakeUp_fenced (w : Waiter) (s : State) : (s.wakeUp w).fenced = s.fenced := rfl
@[simp] theorem wakeUp_released (w : Waiter) (s : State) : (s.wakeUp w).released = s.released := rfl
@[simp] theorem wakeUp_fenceReq (w : Waiter) (s : State) : (s.wakeUp w).fenceReq = s.fenceReq := rfl
@[simp] theorem wakeUp_strikes (w : Waiter) (s : State) : (s.wakeUp w).strikes = s.strikes := rfl
@[simp] theorem wakeUp_fatal (w : Waiter) (s : State) : (s.wakeUp w).fatal = s.fatal := rfl
@[simp] theorem wakeUp_wake (w : Waiter) (s : State) : (s.wakeUp w).wake = addNew w s.wake := rfl
@[simp] theorem wakeUp_qe (w : Waiter) (s : State) : (s.wakeUp w).qe = s.qe := rfl
@[simp] theorem wakeUp_ch (w : Waiter) (s : State) : (s.wakeUp w).ch = s.ch := rfl
@[simp] theorem wakeUp_sf (w : Waiter) (s : State) : (s.wakeUp w).sf = s.sf := rfl
@[simp] theorem wakeUp_dc (w : Waiter) (s : State) : (s.wakeUp w).dc = s.dc := rfl
@[simp] theorem wakeUp_fp (w : Waiter) (s : State) : (s.wakeUp w).fp = s.fp := rfl
@[simp] theorem wakeUp_up (w : Waiter) (s : State) : (s.wakeUp w).up = s.up := rfl
@[simp] theorem wakeUp_dn (w : Waiter) (s : State) : (s.wakeUp w).dn = s.dn := rfl
@[simp] theorem wakeUp_pl (w : Waiter) (s : State) : (s.wakeUp w).pl = s.pl := rfl
@[simp] theorem wakeUp_rb (w : Waiter) (s : State) : (s.wakeUp w).rb = s.rb := rfl
@[simp] theorem wakeUp_gz (w : Waiter) (s : State) : (s.wakeUp w).gz = s.gz := rfl
@[simp] theorem wakeUp_ck (w : Waiter) (s : State) : (s.wakeUp w).ck = s.ck := rfl
@[simp] theorem wakeUp_pm (w : Waiter) (s : State) : (s.wakeUp w).pm = s.pm := rfl
@[simp] theorem wakeUp_rp (w : Waiter) (s : State) : (s.wakeUp w).rp = s.rp := rfl
@[simp] theorem wakeUp_ib (w : Waiter) (s : State) : (s.wakeUp w).ib = s.ib := rfl
@[simp] theorem wakeUp_bt (w : Waiter) (s : State) : (s.wakeUp w).bt = s.bt := rfl
@[simp] theorem wakeUp_boot (w : Waiter) (s : State) : (s.wakeUp w).boot = s.boot := rfl
@[simp] theorem wakeUp_ident (w : Waiter) (s : State) : (s.wakeUp w).ident = s.ident := rfl

@[simp] theorem askFence_pending (d : Nat) (s : State) : (s.askFence d).pending = s.pending := rfl
@[simp] theorem askFence_now (d : Nat) (s : State) : (s.askFence d).now = s.now := rfl
@[simp] theorem askFence_slew (d : Nat) (s : State) : (s.askFence d).slew = s.slew := rfl
@[simp] theorem askFence_freeCtr (d : Nat) (s : State) : (s.askFence d).freeCtr = s.freeCtr := rfl
@[simp] theorem askFence_regs (d : Nat) (s : State) : (s.askFence d).regs = s.regs := rfl
@[simp] theorem askFence_mem (d : Nat) (s : State) : (s.askFence d).mem = s.mem := rfl
@[simp] theorem askFence_poison (d : Nat) (s : State) : (s.askFence d).poison = s.poison := rfl
@[simp] theorem askFence_hostMem (d : Nat) (s : State) : (s.askFence d).hostMem = s.hostMem := rfl
@[simp] theorem askFence_hostPoison (d : Nat) (s : State) : (s.askFence d).hostPoison = s.hostPoison := rfl
@[simp] theorem askFence_hostRefused (d : Nat) (s : State) : (s.askFence d).hostRefused = s.hostRefused := rfl
@[simp] theorem askFence_hostDead (d : Nat) (s : State) : (s.askFence d).hostDead = s.hostDead := rfl
@[simp] theorem askFence_out (d : Nat) (s : State) : (s.askFence d).out = s.out := rfl
@[simp] theorem askFence_fenced (d : Nat) (s : State) : (s.askFence d).fenced = s.fenced := rfl
@[simp] theorem askFence_released (d : Nat) (s : State) : (s.askFence d).released = s.released := rfl
@[simp] theorem askFence_fenceReq (d : Nat) (s : State) : (s.askFence d).fenceReq = addNew d s.fenceReq := rfl
@[simp] theorem askFence_strikes (d : Nat) (s : State) : (s.askFence d).strikes = s.strikes := rfl
@[simp] theorem askFence_fatal (d : Nat) (s : State) : (s.askFence d).fatal = s.fatal := rfl
@[simp] theorem askFence_wake (d : Nat) (s : State) : (s.askFence d).wake = s.wake := rfl
@[simp] theorem askFence_qe (d : Nat) (s : State) : (s.askFence d).qe = s.qe := rfl
@[simp] theorem askFence_ch (d : Nat) (s : State) : (s.askFence d).ch = s.ch := rfl
@[simp] theorem askFence_sf (d : Nat) (s : State) : (s.askFence d).sf = s.sf := rfl
@[simp] theorem askFence_dc (d : Nat) (s : State) : (s.askFence d).dc = s.dc := rfl
@[simp] theorem askFence_fp (d : Nat) (s : State) : (s.askFence d).fp = s.fp := rfl
@[simp] theorem askFence_up (d : Nat) (s : State) : (s.askFence d).up = s.up := rfl
@[simp] theorem askFence_dn (d : Nat) (s : State) : (s.askFence d).dn = s.dn := rfl
@[simp] theorem askFence_pl (d : Nat) (s : State) : (s.askFence d).pl = s.pl := rfl
@[simp] theorem askFence_rb (d : Nat) (s : State) : (s.askFence d).rb = s.rb := rfl
@[simp] theorem askFence_gz (d : Nat) (s : State) : (s.askFence d).gz = s.gz := rfl
@[simp] theorem askFence_ck (d : Nat) (s : State) : (s.askFence d).ck = s.ck := rfl
@[simp] theorem askFence_pm (d : Nat) (s : State) : (s.askFence d).pm = s.pm := rfl
@[simp] theorem askFence_rp (d : Nat) (s : State) : (s.askFence d).rp = s.rp := rfl
@[simp] theorem askFence_ib (d : Nat) (s : State) : (s.askFence d).ib = s.ib := rfl
@[simp] theorem askFence_bt (d : Nat) (s : State) : (s.askFence d).bt = s.bt := rfl
@[simp] theorem askFence_boot (d : Nat) (s : State) : (s.askFence d).boot = s.boot := rfl
@[simp] theorem askFence_ident (d : Nat) (s : State) : (s.askFence d).ident = s.ident := rfl

@[simp] theorem setReg_pending (off : Nat) (v : Word) (s : State) : (s.setReg off v).pending = s.pending := rfl
@[simp] theorem setReg_now (off : Nat) (v : Word) (s : State) : (s.setReg off v).now = s.now := rfl
@[simp] theorem setReg_slew (off : Nat) (v : Word) (s : State) : (s.setReg off v).slew = s.slew := rfl
@[simp] theorem setReg_freeCtr (off : Nat) (v : Word) (s : State) : (s.setReg off v).freeCtr = s.freeCtr := rfl
@[simp] theorem setReg_regs (off : Nat) (v : Word) (s : State) : (s.setReg off v).regs = Map.put (regReset off) off v s.regs := rfl
@[simp] theorem setReg_mem (off : Nat) (v : Word) (s : State) : (s.setReg off v).mem = s.mem := rfl
@[simp] theorem setReg_poison (off : Nat) (v : Word) (s : State) : (s.setReg off v).poison = s.poison := rfl
@[simp] theorem setReg_hostMem (off : Nat) (v : Word) (s : State) : (s.setReg off v).hostMem = s.hostMem := rfl
@[simp] theorem setReg_hostPoison (off : Nat) (v : Word) (s : State) : (s.setReg off v).hostPoison = s.hostPoison := rfl
@[simp] theorem setReg_hostRefused (off : Nat) (v : Word) (s : State) : (s.setReg off v).hostRefused = s.hostRefused := rfl
@[simp] theorem setReg_hostDead (off : Nat) (v : Word) (s : State) : (s.setReg off v).hostDead = s.hostDead := rfl
@[simp] theorem setReg_out (off : Nat) (v : Word) (s : State) : (s.setReg off v).out = s.out := rfl
@[simp] theorem setReg_fenced (off : Nat) (v : Word) (s : State) : (s.setReg off v).fenced = s.fenced := rfl
@[simp] theorem setReg_released (off : Nat) (v : Word) (s : State) : (s.setReg off v).released = s.released := rfl
@[simp] theorem setReg_fenceReq (off : Nat) (v : Word) (s : State) : (s.setReg off v).fenceReq = s.fenceReq := rfl
@[simp] theorem setReg_strikes (off : Nat) (v : Word) (s : State) : (s.setReg off v).strikes = s.strikes := rfl
@[simp] theorem setReg_fatal (off : Nat) (v : Word) (s : State) : (s.setReg off v).fatal = s.fatal := rfl
@[simp] theorem setReg_wake (off : Nat) (v : Word) (s : State) : (s.setReg off v).wake = s.wake := rfl
@[simp] theorem setReg_qe (off : Nat) (v : Word) (s : State) : (s.setReg off v).qe = s.qe := rfl
@[simp] theorem setReg_ch (off : Nat) (v : Word) (s : State) : (s.setReg off v).ch = s.ch := rfl
@[simp] theorem setReg_sf (off : Nat) (v : Word) (s : State) : (s.setReg off v).sf = s.sf := rfl
@[simp] theorem setReg_dc (off : Nat) (v : Word) (s : State) : (s.setReg off v).dc = s.dc := rfl
@[simp] theorem setReg_fp (off : Nat) (v : Word) (s : State) : (s.setReg off v).fp = s.fp := rfl
@[simp] theorem setReg_up (off : Nat) (v : Word) (s : State) : (s.setReg off v).up = s.up := rfl
@[simp] theorem setReg_dn (off : Nat) (v : Word) (s : State) : (s.setReg off v).dn = s.dn := rfl
@[simp] theorem setReg_pl (off : Nat) (v : Word) (s : State) : (s.setReg off v).pl = s.pl := rfl
@[simp] theorem setReg_rb (off : Nat) (v : Word) (s : State) : (s.setReg off v).rb = s.rb := rfl
@[simp] theorem setReg_gz (off : Nat) (v : Word) (s : State) : (s.setReg off v).gz = s.gz := rfl
@[simp] theorem setReg_ck (off : Nat) (v : Word) (s : State) : (s.setReg off v).ck = s.ck := rfl
@[simp] theorem setReg_pm (off : Nat) (v : Word) (s : State) : (s.setReg off v).pm = s.pm := rfl
@[simp] theorem setReg_rp (off : Nat) (v : Word) (s : State) : (s.setReg off v).rp = s.rp := rfl
@[simp] theorem setReg_ib (off : Nat) (v : Word) (s : State) : (s.setReg off v).ib = s.ib := rfl
@[simp] theorem setReg_bt (off : Nat) (v : Word) (s : State) : (s.setReg off v).bt = s.bt := rfl
@[simp] theorem setReg_boot (off : Nat) (v : Word) (s : State) : (s.setReg off v).boot = s.boot := rfl
@[simp] theorem setReg_ident (off : Nat) (v : Word) (s : State) : (s.setReg off v).ident = s.ident := rfl

@[simp] theorem writeBytes_pending (a : Nat) (bs : List Byte) (s : State) : (s.writeBytes a bs).pending = s.pending := rfl
@[simp] theorem writeBytes_now (a : Nat) (bs : List Byte) (s : State) : (s.writeBytes a bs).now = s.now := rfl
@[simp] theorem writeBytes_slew (a : Nat) (bs : List Byte) (s : State) : (s.writeBytes a bs).slew = s.slew := rfl
@[simp] theorem writeBytes_freeCtr (a : Nat) (bs : List Byte) (s : State) : (s.writeBytes a bs).freeCtr = s.freeCtr := rfl
@[simp] theorem writeBytes_regs (a : Nat) (bs : List Byte) (s : State) : (s.writeBytes a bs).regs = s.regs := rfl
@[simp] theorem writeBytes_mem (a : Nat) (bs : List Byte) (s : State) : (s.writeBytes a bs).mem = Mem.write a bs s.mem := rfl
@[simp] theorem writeBytes_poison (a : Nat) (bs : List Byte) (s : State) : (s.writeBytes a bs).poison = s.poison := rfl
@[simp] theorem writeBytes_hostMem (a : Nat) (bs : List Byte) (s : State) : (s.writeBytes a bs).hostMem = s.hostMem := rfl
@[simp] theorem writeBytes_hostPoison (a : Nat) (bs : List Byte) (s : State) : (s.writeBytes a bs).hostPoison = s.hostPoison := rfl
@[simp] theorem writeBytes_hostRefused (a : Nat) (bs : List Byte) (s : State) : (s.writeBytes a bs).hostRefused = s.hostRefused := rfl
@[simp] theorem writeBytes_hostDead (a : Nat) (bs : List Byte) (s : State) : (s.writeBytes a bs).hostDead = s.hostDead := rfl
@[simp] theorem writeBytes_out (a : Nat) (bs : List Byte) (s : State) : (s.writeBytes a bs).out = s.out := rfl
@[simp] theorem writeBytes_fenced (a : Nat) (bs : List Byte) (s : State) : (s.writeBytes a bs).fenced = s.fenced := rfl
@[simp] theorem writeBytes_released (a : Nat) (bs : List Byte) (s : State) : (s.writeBytes a bs).released = s.released := rfl
@[simp] theorem writeBytes_fenceReq (a : Nat) (bs : List Byte) (s : State) : (s.writeBytes a bs).fenceReq = s.fenceReq := rfl
@[simp] theorem writeBytes_strikes (a : Nat) (bs : List Byte) (s : State) : (s.writeBytes a bs).strikes = s.strikes := rfl
@[simp] theorem writeBytes_fatal (a : Nat) (bs : List Byte) (s : State) : (s.writeBytes a bs).fatal = s.fatal := rfl
@[simp] theorem writeBytes_wake (a : Nat) (bs : List Byte) (s : State) : (s.writeBytes a bs).wake = s.wake := rfl
@[simp] theorem writeBytes_qe (a : Nat) (bs : List Byte) (s : State) : (s.writeBytes a bs).qe = s.qe := rfl
@[simp] theorem writeBytes_ch (a : Nat) (bs : List Byte) (s : State) : (s.writeBytes a bs).ch = s.ch := rfl
@[simp] theorem writeBytes_sf (a : Nat) (bs : List Byte) (s : State) : (s.writeBytes a bs).sf = s.sf := rfl
@[simp] theorem writeBytes_dc (a : Nat) (bs : List Byte) (s : State) : (s.writeBytes a bs).dc = s.dc := rfl
@[simp] theorem writeBytes_fp (a : Nat) (bs : List Byte) (s : State) : (s.writeBytes a bs).fp = s.fp := rfl
@[simp] theorem writeBytes_up (a : Nat) (bs : List Byte) (s : State) : (s.writeBytes a bs).up = s.up := rfl
@[simp] theorem writeBytes_dn (a : Nat) (bs : List Byte) (s : State) : (s.writeBytes a bs).dn = s.dn := rfl
@[simp] theorem writeBytes_pl (a : Nat) (bs : List Byte) (s : State) : (s.writeBytes a bs).pl = s.pl := rfl
@[simp] theorem writeBytes_rb (a : Nat) (bs : List Byte) (s : State) : (s.writeBytes a bs).rb = s.rb := rfl
@[simp] theorem writeBytes_gz (a : Nat) (bs : List Byte) (s : State) : (s.writeBytes a bs).gz = s.gz := rfl
@[simp] theorem writeBytes_ck (a : Nat) (bs : List Byte) (s : State) : (s.writeBytes a bs).ck = s.ck := rfl
@[simp] theorem writeBytes_pm (a : Nat) (bs : List Byte) (s : State) : (s.writeBytes a bs).pm = s.pm := rfl
@[simp] theorem writeBytes_rp (a : Nat) (bs : List Byte) (s : State) : (s.writeBytes a bs).rp = s.rp := rfl
@[simp] theorem writeBytes_ib (a : Nat) (bs : List Byte) (s : State) : (s.writeBytes a bs).ib = s.ib := rfl
@[simp] theorem writeBytes_bt (a : Nat) (bs : List Byte) (s : State) : (s.writeBytes a bs).bt = s.bt := rfl
@[simp] theorem writeBytes_boot (a : Nat) (bs : List Byte) (s : State) : (s.writeBytes a bs).boot = s.boot := rfl
@[simp] theorem writeBytes_ident (a : Nat) (bs : List Byte) (s : State) : (s.writeBytes a bs).ident = s.ident := rfl

end Sys2Proof.Machine.State
end

