-- ==== Sys2Proof/Laws/Memory.lean ====
section
/-! SUPPORT. The laws of memory (Ops.lean): what a byte reads as after each operation, and that every operation keeps the canonical
form. -/

namespace Sys2Proof.Machine

namespace Mem

theorem rising_of_wf {m : List Host.Cell} (h : wf m = true) : Map.rising m = true := by
  simp only [wf, Map.canon, Bool.and_eq_true] at h; exact h.1

@[simp] theorem wf_nil : wf [] = true := rfl

/-! ### One byte -/

theorem wf_setByte (a : Nat) (v : Byte) {m : List Host.Cell} (h : wf m = true) : wf (setByte a v m) = true := Map.canon_put 0 a v h

theorem byte_setByte_same (a : Nat) (v : Byte) {m : List Host.Cell} (h : wf m = true) : byte (setByte a v m) a = v :=
  Map.getD_put_same 0 a v (rising_of_wf h)

theorem byte_setByte_other {a b : Nat} (hb : b ≠ a) (v : Byte) {m : List Host.Cell} (h : wf m = true) :
    byte (setByte a v m) b = byte m b := Map.getD_put_other 0 0 hb v (rising_of_wf h)

/-! ### A run of bytes -/

theorem wf_write (a : Nat) (bs : List Byte) {m : List Host.Cell} (h : wf m = true) : wf (write a bs m) = true := by
  induction bs generalizing a m with
  | nil => exact h
  | cons b bs ih => exact ih (a + 1) (wf_setByte a b h)

/-- A write leaves every byte outside its range alone. -/
theorem byte_write_outside {a b : Nat} (bs : List Byte) {m : List Host.Cell} (h : wf m = true) (hb : b < a ∨ a + bs.length ≤ b) :
    byte (write a bs m) b = byte m b := by
  induction bs generalizing a m with
  | nil => rfl
  | cons c bs ih =>
    simp only [List.length_cons] at hb
    rw [write, ih (wf_setByte a c h) (by omega), byte_setByte_other (by omega) c h]

/-- A byte inside the range of a write is the byte written. -/
theorem byte_write_inside {a i : Nat} (bs : List Byte) {m : List Host.Cell} (h : wf m = true) (hi : i < bs.length) :
    byte (write a bs m) (a + i) = bs[i] := by
  induction bs generalizing a m i with
  | nil => simp at hi
  | cons c bs ih =>
    cases i with
    | zero =>
      rw [write, byte_write_outside bs (wf_setByte a c h) (by omega)]
      simpa using byte_setByte_same a c h
    | succ i =>
      rw [write, show a + (i + 1) = a + 1 + i by omega, ih (wf_setByte a c h) (by simpa using hi)]
      rfl

/-- What has been written is read back. -/
theorem read_write (a : Nat) (bs : List Byte) {m : List Host.Cell} (h : wf m = true) : read (write a bs m) a bs.length = bs := by
  apply List.ext_getElem
  · simp [read]
  · intro i h1 h2
    simp [read, byte_write_inside bs h h2]

/-! ### Lines and ranges -/

theorem wf_writeMasked (line : Nat) (mask : BitVec 64) (data : Line) {m : List Host.Cell} (h : wf m = true) :
    wf (writeMasked line mask data m) = true := by
  unfold writeMasked
  generalize List.range 64 = l
  induction l generalizing m with
  | nil => exact h
  | cons i l ih =>
    simp only [List.foldl_cons]
    split
    · exact ih (wf_setByte _ _ h)
    · exact ih h

theorem wf_clear (a n : Nat) {m : List Host.Cell} (h : wf m = true) : wf (clear a n m) = true := Map.canon_filter 0 _ h

theorem wf_scramble (f : Nat → Byte) {m : List Host.Cell} (h : wf m = true) : wf (scramble f m) = true := by
  simp only [wf, Map.canon, Bool.and_eq_true]
  exact ⟨Map.rising_filter _ (Map.rising_mapVals _ (rising_of_wf h)), by simp [scramble]⟩

/-- A filled range keeps the form: it takes the place of what was listed there. -/
theorem wf_fill (f : Nat → Byte) (a n : Nat) {m : List Host.Cell} (h : wf m = true) : wf (fill f a n m) = true := by
  simp only [wf, Map.canon, Bool.and_eq_true, Map.rising_iff, List.all_eq_true] at h ⊢
  constructor
  · simp only [fill, List.pairwise_append]
    refine ⟨⟨h.1.filter _, ?_, ?_⟩, h.1.filter _, ?_⟩
    · exact (List.pairwise_map.2 (List.pairwise_lt_range.imp (by intros; simpa))).filter _
    · intro x hx y hy
      simp at hx hy
      obtain ⟨⟨i, -, rfl⟩, -⟩ := hy
      simp; omega
    · intro x hx y hy
      simp at hx hy
      rcases hx with ⟨-, h1⟩ | ⟨⟨i, hi, rfl⟩, -⟩
      · omega
      · simp; omega
  · intro e he
    simp only [fill, List.mem_append, List.mem_filter] at he
    rcases he with (⟨h1, -⟩ | ⟨-, h1⟩) | ⟨h1, -⟩
    · exact h.2 e h1
    · exact h1
    · exact h.2 e h1

end Mem

/-! ### The operations of State -/

theorem State.wf_writeBytes (a : Nat) (bs : List Byte) {s : State} (h : Mem.wf s.mem = true) : Mem.wf (s.writeBytes a bs).mem = true :=
  Mem.wf_write a bs h

theorem State.wf_writeLine (l : Nat) (mask : BitVec 64) (data : Line) (poison : Bool) {s : State} (h : Mem.wf s.mem = true) :
    Mem.wf (s.writeLine l mask data poison).mem = true := by
  unfold State.writeLine
  dsimp only
  repeat' split
  all_goals exact Mem.wf_writeMasked l mask data h

/-- Reset memory is canonical. -/
theorem State.reset_memWf : State.reset.memWf = true := by rfl

end Sys2Proof.Machine
end

