-- ==== Sys2Proof/Laws/Settle.lean ====
section
/-! SUPPORT. What the end of a command does (Settle.lean): nothing where the block is calm or its clocks stand, and never anything to the queue of
commands. -/

namespace Sys2Proof.Machine

theorem State.settle_zero (s : State) : State.settle 0 s = s := rfl

theorem State.settle_succ_of_calm {s : State} (h : s.calm = true) (n : Nat) : State.settle (n + 1) s = s :=
  if_pos (by rw [h]; rfl)

/-- A calm block is already settled. -/
theorem State.settle_of_calm {s : State} (h : s.calm = true) (n : Nat) : State.settle n s = s := by
  cases n with
  | zero => exact rfl
  | succ n => exact State.settle_succ_of_calm h n

/-- While the divided clocks stand nothing goes on (R363). -/
theorem State.settle_of_stopped {s : State} (h : s.clocksStopped = true) (n : Nat) : State.settle n s = s := by
  cases n with
  | zero => exact rfl
  | succ n => exact if_pos (by rw [h, Bool.or_true])

@[simp] theorem State.keep_pending (s t : State) : (s.keep t).pending = s.pending := rfl
@[simp] theorem State.done_pending (s t : State) : (s.done t).pending = s.pending := State.keep_pending s (State.settle 64 t)

theorem State.done_of_calm {s u : State} (h : u.calm = true) : s.done u = s.keep u := by
  rw [State.done, State.settle_of_calm h]

theorem State.done_of_stopped {s u : State} (h : u.clocksStopped = true) : s.done u = s.keep u := by
  rw [State.done, State.settle_of_stopped h]

/-- A command of what the divided clocks drive, while they run and while they stand. -/
theorem State.whenClocked_running {s : State} (h : s.clocksStopped = false) (t : State) : s.whenClocked t = t :=
  if_neg (by rw [h]; exact Bool.false_ne_true)

theorem State.whenClocked_stopped {s : State} (h : s.clocksStopped = true) (t : State) : s.whenClocked t = s := if_pos h

/-- A state with the command's own queue is kept as it is. -/
theorem State.keep_of_pending {s t : State} (h : t.pending = s.pending) : s.keep t = t := by
  cases t; simp [State.keep] at *; exact h.symm

/-- How a command that ends by settling meets its statement. -/
theorem Ends.of_exec {c : Instr} {s u : State} (h : exec c s = .next (s.done u)) : Ends c s u :=
  fun _ => ⟨h, fun hc => by rw [h, State.done_of_calm hc]⟩

/-- A command whose effect leaves the block calm answers that effect. -/
theorem Ends.nexts {c : Instr} {s u : State} (h : Ends c s u) (hc : u.calm = true) : Nexts c s (s.keep u) :=
  fun hs => (h hs).2 hc

end Sys2Proof.Machine
end

