-- ==== Sys2Proof/Laws/Units.lean ====
section
/-! SUPPORT. What reading a register, a queue record, a counter, a context or a power domain gives after a write: the one written, another
one, and after an update of something else. -/

namespace Sys2Proof.Machine.State

/-! ### Registers -/

theorem reg_setReg_same (off : Nat) (v : Word) {s : State} (h : Map.rising s.regs = true) : (s.setReg off v).reg off = v :=
  Map.getD_put_same _ off v h

theorem reg_setReg_other {off o : Nat} (ho : o ≠ off) (v : Word) {s : State} (h : Map.rising s.regs = true) :
    (s.setReg off v).reg o = s.reg o := Map.getD_put_other _ _ ho v h

theorem rising_setReg (off : Nat) (v : Word) {s : State} (h : Map.rising s.regs = true) : Map.rising (s.setReg off v).regs = true :=
  Map.rising_put _ off v h

/-- A register reads as before while the registers are the same. -/
theorem reg_congr {s t : State} (h : t.regs = s.regs) (off : Nat) : t.reg off = s.reg off := by simp [reg, h]

theorem regBits_congr {s t : State} (h : t.regs = s.regs) (off hi lo : Nat) : t.regBits off hi lo = s.regBits off hi lo := by
  simp [regBits, reg_congr h]

/-! ### Queue records -/

theorem queue_setQueue_same (q : Nat) (v : Queue) {s : State} (h : Map.rising s.qe.queues = true) : (s.setQueue q v).queue q = v :=
  Map.getD_put_same _ q v h

theorem queue_setQueue_other {q j : Nat} (hj : j ≠ q) (v : Queue) {s : State} (h : Map.rising s.qe.queues = true) :
    (s.setQueue q v).queue j = s.queue j := Map.getD_put_other _ _ hj v h

theorem rising_setQueue (q : Nat) (v : Queue) {s : State} (h : Map.rising s.qe.queues = true) :
    Map.rising (s.setQueue q v).qe.queues = true := Map.rising_put _ q v h

theorem queue_congr {s t : State} (h : t.qe.queues = s.qe.queues) (q : Nat) : t.queue q = s.queue q := by simp [queue, h]

@[simp] theorem setQueue_mem (q : Nat) (v : Queue) (s : State) : (s.setQueue q v).mem = s.mem := rfl
@[simp] theorem setQueue_regs (q : Nat) (v : Queue) (s : State) : (s.setQueue q v).regs = s.regs := rfl
@[simp] theorem setQueue_pending (q : Nat) (v : Queue) (s : State) : (s.setQueue q v).pending = s.pending := rfl
@[simp] theorem setQueue_fenced (q : Nat) (v : Queue) (s : State) : (s.setQueue q v).fenced = s.fenced := rfl
@[simp] theorem setQueue_works (q : Nat) (v : Queue) (s : State) : (s.setQueue q v).qe.works = s.qe.works := rfl

/-! ### Power domains and contexts -/

theorem dom_setDom_same (d : Nat) (v : PmDom) {s : State} (h : Map.rising s.pm.doms = true) : (s.setDom d v).dom d = v :=
  Map.getD_put_same _ d v h

theorem dom_setDom_other {d j : Nat} (hj : j ≠ d) (v : PmDom) {s : State} (h : Map.rising s.pm.doms = true) :
    (s.setDom d v).dom j = s.dom j := Map.getD_put_other _ _ hj v h

/-- An awake or fenced unit is left as it is by an access of the block's own. -/
theorem touch_awake {d : Nat} {s : State} (h : (s.dom d).st = .active) (he : (s.dom d).entering = none) : s.touch d = s := by
  simp [touch, h, he]

theorem touch_fenced {d : Nat} {s : State} (h : s.isFenced d = true) : s.touch d = s := by simp [touch, h]

theorem ctxOf_setCtx_same (c : Nat) (v : Ctx) {s : State} (h : Map.rising s.rb.ctxs = true) : (s.setCtx c v).ctxOf c = v :=
  Map.getD_put_same _ c v h

theorem ctxOf_setCtx_other {c j : Nat} (hj : j ≠ c) (v : Ctx) {s : State} (h : Map.rising s.rb.ctxs = true) :
    (s.setCtx c v).ctxOf j = s.ctxOf j := Map.getD_put_other _ _ hj v h

/-! ### Crossings -/

/-- An open crossing lets an access through at once. -/
theorem crossE_open {s : State} {d : Nat} (c : Instr) (r f : State → State) (h1 : s.clocksStopped = false) (h2 : s.domReady d = true) :
    s.crossE d c r f = f s := by
  have h3 : s.isFenced d = false := by
    simp only [domReady, Bool.and_eq_true] at h2; simpa using h2.2
  simp [crossE, h1, h2, h3]

theorem cross_open {s : State} {d : Nat} (c : Instr) (f : State → State) (h1 : s.clocksStopped = false) (h2 : s.domReady d = true) :
    s.cross d c f = f s := crossE_open c id f h1 h2

/-- A message of a link or an agent acts at once while the divided clocks run, and waits while they stand (R363). -/
theorem clocked_running {s : State} (h : s.clocksStopped = false) (c : Instr) (f : State → State) : s.clocked c f = f s := by simp [clocked, h]

theorem clocked_stopped {s : State} (h : s.clocksStopped = true) (c : Instr) (f : State → State) : s.clocked c f = s.park relockWait c := by
  simp [clocked, h]

/-- While the divided clocks stand still every access waits (R363). -/
theorem crossE_stopped {s : State} (d : Nat) (c : Instr) (r f : State → State) (h : s.clocksStopped = true) :
    s.crossE d c r f = s.park relockWait c := by simp [crossE, h]

end Sys2Proof.Machine.State
end

