-- ==== Sys2Proof/Tests/Slice0.lean ====
section
/-! SUPPORT. Tests: commands that the well-formedness checks refuse, the spec's worked examples, and for every clause of the statements with
hypotheses a state and operands that meet them together. -/

set_option linter.unusedVariables false
set_option Elab.async false

open Sys2Proof Sys2Proof.Machine

namespace Sys2Proof.Tests

/-! ### Well-formedness: one ill-formed command for each check -/

def pkt (n : Nat) : IplPkt :=
  { port := 0, dst := 0, src := 0, flow := 0, seq := 0, cum := false, status := 0, subop := 0, len := 0, addr := 0, rsvd := false, poison := false,
    payload := List.replicate n 0 }
def bell (index : BitVec 6) (value : Word) : Doorbell := { origin := .pf 0, index := index, half := some .low, value := value }
def at12 (page : Nat) : AtsKey := { fn := 0, page := page, pasid := none }

/-- A half that carries more than 32 bits, a command of another row, a doorbell beyond its page, and a size that no access has. -/
theorem test_wf_registers : [Instr.qcfgWrite 0 .low (2 ^ 32), .preloadLock .full 2, .flush .high (2 ^ 32 + 3), .powerOn 0 4, .flashErase .full 0,
    .pmFence .full 2, .bind .full 7, .modeOff .full 1, .sqTail (bell 0 (2 ^ 32)), .batchSq (bell 1 0), .registerWrite ⟨0, 0⟩ 4 (2 ^ 32)].all
    (fun c => !c.wf) = true := by decide

/-- An answer that does not lie on its own size, an invalidation below a page, a pool that is absent, an agent beyond the host, a packet
of 17 payload units, CXL.io accesses of 0 bytes and of other data than they say, and security messages of other lengths. -/
theorem test_wf_messages : [Instr.atsTranslationCompletion (at12 0) (some { log2 := 13, target := 4096, read := true, write := true }),
    .atsTranslationCompletion (at12 0) (some { log2 := 31, target := 0, read := true, write := true }),
    .atsInvalidate 0 none 0 11, .atsInvalidate 0 none 4096 13, .frameZero 9 0, .snoopTimeout 0 0 17, .iplWrite (pkt 17),
    .bar2Access 0 0 .read, .bar2Access 0 2 (.write [1] false), .hdmIoRequest 0 none 0 2 (.write [1] false), .challenge 0 [], .getMeasurements 1 true [],
    .keyExchange 0 [] [], .spdmFinish 0 []].all (fun c => !c.wf) = true := by decide +kernel

theorem test_wf_accepts : [Instr.qcfgWrite 0 .low 5, .preloadLock .full 1, .flush .low 3, .sqTail (bell 5 7), .batchSq (bell 0 1),
    .atsTranslationCompletion (at12 0) (some { log2 := 13, target := 8192, read := true, write := true }), .atsInvalidate 0 none 8192 13,
    .frameZero 8 0, .snoopTimeout 0 0 16, .iplWrite (pkt 16), .bar2Access 0 1 (.write [1] false), .inval].all Instr.wf = true := by decide +kernel

/-! ### Worked examples of the spec -/

/-- The example under R232: the slice, the sets of both modes, and the slice that takes over from fenced slice 7. -/
theorem test_device_cache_index :
    let la := 0x000048D159E27
    let sectored := State.reset.modDc fun d => { d with mode := [(7, 1)] }
    redirect (fun _ => true) la = 7 ∧ redirect (fun n => n ≠ 7) la = 3 ∧ State.reset.dcSet 7 la = 0xB08 ∧ sectored.dcSet 7 la = 4 * 0x278 + 2 := by
  decide +kernel

/-- The example before R83: one MXFP4 block, its scale and its amax. -/
theorem test_mxfp4_block :
    let vs := ([0x4138, 0xC040, 0x3F50, 0x4010, 0xBEC0, 0x40E0, 0xC140] ++ List.replicate 25 0).map fun c => FFmt.bf16.decode c
    gzEncode 0x14 0 false false .zero (fun _ => .even) vs = ([0xB7, 0x21, 0x68, 0x0F] ++ List.replicate 12 0, [0x80], [], 0) ∧
      amaxCode vs = 0x41400000 := by decide +kernel

/-- The example under R60: the batch doorbell of page 64 lies at offset 0x400 of that page. -/
theorem test_doorbell_page : State.doorbellAt 0x400 = some (.batch, 0) ∧ State.doorbellAt 0x208 = some (.cqHead, 1) ∧ State.doorbellAt 0x408 = none := by decide

def withVectors (cfg : Nat) : State :=
  (State.reset.modUp fun u => { u with trainedCfg := BitVec.ofNat 64 cfg }).modBoot fun b => { b with ids := { b.ids with vfCount := 255 } }

/-- The example under R307: the cap on the functions, with the reset value of UP_CFG and with VF_VECTORS 8. -/
theorem test_total_vfs : (withVectors (regReset Reg.UP_CFG).toNat).totalVfs = 255 ∧
    (withVectors (1024 * 2 ^ 5 + 8 * 2 ^ 19)).totalVfs = 128 := by decide +kernel

def hostMse (s : State) : State := s.setCfgDw 0 4 2

/-- The example under R449: DC_SLICE_CFG5 lies at 0x7001A8 with LOCK_MAX 8 at reset; 0x700400 names no register, and 0x1200000 no window. -/
theorem test_register_places :
    let s := (hostMse State.reset)
    regReset 0x7001A8 = 0x800 ∧ (s.storeReg 0x7001A8 .full 0x810).readReg 0x7001A8 = 0x810 ∧
      (State.registerRead .inval 0x700400 8 s).1 = .value 0 ∧ (State.registerRead .inval 0x1200000 8 s).1 = .unsupported := by decide +kernel

/-- The two halves of a register are read as the host reads them (R13), and an access of 4 bytes at an odd place is none. -/
theorem test_half_reads :
    let s := (hostMse State.reset).setReg Reg.BT_CTRL 0x1122334455667788
    (State.registerRead .inval Reg.BT_CTRL 4 s).1 = .value 0x55667788 ∧ (State.registerRead .inval (Reg.BT_CTRL + 4) 4 s).1 = .value 0x11223344 ∧
      (State.registerRead .inval (Reg.BT_CTRL + 2) 4 s).1 = .unsupported := by decide +kernel

/-- The always-on domain's policy reads 0, whatever is written (R10). -/
theorem test_always_on_policy : (State.reset.storeReg (Reg.PM_DOM_CFG + 8 * 95) .full 0xFFFFFFFFFFFFFFFF).readReg (Reg.PM_DOM_CFG + 8 * 95) = 0 := by
  decide +kernel

/-- R19: with the PLL off, an empty step is one cycle of the reference clock divided by four. -/
theorem test_clock_without_pll : step State.reset = .next { State.reset with now := 40 } := by rfl

/-- R79: an INT4_G zero under a negative scale is +0. -/
theorem test_int4_zero : decodeElem 0x06 (FFmt.fp16.decode 0xBC00) none 0 = .zero := by decide +kernel


/-- Equality of what an access answers. -/
def eqE {α : Type} [DecidableEq α] : Except Stop α → Except Stop α → Bool
  | .ok x, .ok y => decide (x = y)
  | .error x, .error y => decide (x = y)
  | _, _ => false
def eqES {α : Type} [DecidableEq α] (x y : Except Stop α × State) : Bool := eqE x.1 y.1 && decide (x.2 = y.2)
/-- After reset, with memory space enabled in the physical function. -/
def on : State := State.reset.setCfgDw 0 4 2
/-- A state whose queue 0 is `v`. -/
def withQueue (v : Queue) : State := on.setQueue 0 v
def qIdle : Queue := { Queue.reset with st := .idle }
def qRun : Queue := { Queue.reset with st := .fetching, sqTail := 3 }
def sQ (st : QState) : State := withQueue { Queue.reset with st := st, sqTail := 3 }
/-- Bank 0 is fenced. -/
def sFenced (s : State) : State := { s with fenced := [Dom.bank 0] }
/-- The image is loaded (step 7 of power-up). -/
def sLoaded (s : State) : State := s.modBoot fun b => { b with loaded := true }
def sPage (s : State) : State := s.modQe fun e => { e with dbPages := [(0, 0x100)] }
/-- Segment 0 of context 0 leads to tier 1, segment 1 to the host. -/
def sSeg (s : State) : State := s.modCh fun c => { c with segs := [
  (0, { q0 := 0, q1 := 0x9C00010000000000, q2 := 0 }), (1, { q0 := 0, q1 := 0xCC00010000000000, q2 := 0 })] }
/-- A descriptor with an opcode and generation 1. -/
def dsc (op : Nat) (more : Nat := 0) : Desc := BitVec.ofNat _ (op + 256 + more)
def hd (d : Desc) : Head := { desc := d, slot := 0, preset := none, noSig := false, waited := true, granted := true }
def sHead (d : Desc) : State := sSeg (withQueue { qRun with sqHead := 1, head := some (hd d), reserved := 1 })
def wk (d : Desc) (ph : WorkPhase) : Work :=
  { id := 0, q := 0, ctx := 0, fn := 0, desc := d, htab := 0, kept := [], phase := ph, status := 0, result := 7, noSig := false, buffer := none, pages := [], count := 0,
    next := 0, total := 0, acc := 0 }
def sWork (d : Desc) (ph : WorkPhase) : State := (sSeg (withQueue { qRun with reserved := 1, cqBase := 0x10000 })).modQe fun e => { e with works := [wk d ph], nextWork := 1 }
/-- Function 0 translates its host addresses by ATS, and the completion ring of queue 0 lies in host memory. -/
def atsOff (s : State) : State := (s.updQueue 0 fun v => { v with cqBase := 0x100000000000 }).setCfgDw 0 0x14C 0x80000000
/-- An extended LAUNCH with one patch point. -/
def dPatch : Desc := dsc 5 (8 * 2 ^ 24 + 2 ^ 16 + 2 ^ 320)
def ent : CqEntry := { status := 0, slot := some 0, cmdId := 5, result := 1, irq := false, detached := false }

def gzW (op : Nat) : Work := { wk (dsc op) .running with count := 1, total := 2, acc := 1024 }
def gzOut0 : GzOut := { bytes := [1, 2, 3, 4], scales := [], zps := [], amax := 7, clamped := 0 }
def gzP : GzPiece := { work := 0, idx := 0, unit := 0, runs := 1, out := some gzOut0, ending := false, issued := false }
def sGz : State := (sWork (dsc 0x10) .running).modQe fun e => { e with works := [gzW 0x10] }
def sPiece : State := sGz.modGz fun g => { g with running := [gzP] }
def sRedo : State := sGz.modGz fun g => { g with redo := [{ gzP with unit := 3 }] }
def rw0 : RedWrite := { id := 0, unit := 0, node := 1, flow := 0, seq := 0, addr := 0x1000, fmt := 0, data := [1, 0, 0, 0], poison := false, runs := 1, begun := true, out := some [5, 0, 0, 0], issued := false, done := none }
def sRw : State := on.modGz fun g => { g with rws := [rw0] }
def mv0 (k : MoveKind) : Move :=
  { State.newMove 0 0 k 0 none with dstPool := 1, total := 262144, running := true }
def sMv (k : MoveKind) : State := on.modCh fun c => { c with moves := [mv0 k], nextMove := 1 }
/-- Ibex's and the batcher's tables lie apart from each other in tier 1. -/
def sTab (s : State) : State :=
  ((((((((s.setReg Reg.IB_REQ_BASE 0x100000).setReg Reg.IB_BTAB_BASE 0x200000).setReg Reg.IB_FTAB_BASE 0x300000).setReg Reg.IB_HIST_BASE 0x400000).setReg Reg.IB_PAGE_BASE 0x500000).setReg
    Reg.BT_REQ_BASE 0x600000).setReg Reg.BT_CNT_BASE 0x700000).setReg Reg.BT_LIST_BASE 0x800000).setReg Reg.IB_T1_BASE 0x1000000
def sServe (s : State) : State := ((sTab s).modBt fun t => { t with serving := true }).modIb fun i => { i with active := true }
def bq : BReq :=
  { ctx := 0, fn := 0, q := 0, work := some 0, desc := dsc 0x31, noSig := false, ring := 0x9000000, headAddr := 0x9100000, ringShift := 4, deadline := 9, arrival := 0,
    seq := 0, maxNew := 4, gen := 0, hist := 0, init := 0, last := none, written := 0, total := 2, lastHead := 0, phase := false, recs := [], lastEnd := 1,
    stage := 0, reading := true, pollDue := none, bypass := 0, ending := none, closing := none, parked := false }
def sReq (b : BReq) (st : Nat) : State :=
  let s := (sServe (sWork (dsc 0x31) .open)).modBt fun t => { t with reqs := [(0, b)] }
  s.setRecBits 0 0 2 0 st
def tok0 : TokRec := { bytes := leBytes 32 (2 ^ 100 + 5), ending := 0 }
def ent0 : StepEnt := { r := 0, prefill := false, sample := true, ntok := 1, start := 0, row := 0, settled := false, seq := 0 }
def step0 : Machine.Step := { num := 1, ents := [ent0], desc := 0, rung := true, retried := false, done := true, rows := [0] }
def sStep : State := (sReq bq State.RUNNING).modBt fun t => { t with step := some step0 }
/-- A Springbok's row runs its candidate pass; the vocabulary has four entries of FP32. -/
def sRow : State := (sStep.setReg Reg.BT_SERVE 4).setSbUnit 0 { first := none, second := some (.serve 0) }
/-- An OPEN_REQUEST of one prompt token for a request of an accepted configuration. -/
def dOpen : Desc := dsc 0x31 (2 ^ 384 + 2 ^ 416 + 2 ^ 640 + 0x3F800000 * (2 ^ 1248 + 2 ^ 1312))
def sOpen : State := (sServe (sHead dOpen)).setReg Reg.IB_POOL_CFG 0x02060010
/-- Tier 1 has four frames and Ibex eight pages. -/
def sPool (s : State) : State := (((s.setReg Reg.IB_POOL_CFG 0x02060010).setReg Reg.IB_T1_FRAMES 4).setReg Reg.IB_PAGES 8).setReg (Reg.BT_SERVE + 8) 0x0100001000000000 |>.setReg Reg.BT_SERVE 0x400000004 |>.setReg Reg.IB_CTRL 1
/-- `n` posted writes of a waiter are still to be performed; the first that failed, failed so. -/
def sPosted (w : Waiter) (n : Nat) (e : Option Nat) (s : State) : State := s.modSf fun f => { f with posted := [{ who := w, n := n, failed := e }] }
def sPieceX : State := sGz.modGz fun g => { g with running := [{ gzP with issued := true }] }
def sPieceN : State := sGz.modGz fun g => { g with running := [{ gzP with out := none }] }
def rw1 : RedWrite := { rw0 with begun := false, runs := 0, out := none }
def sRw1 : State := on.modGz fun g => { g with rws := [rw1] }
/-- A move that converts, and one whose end has been called for. -/
def mvX (k : MoveKind) : Move := { mv0 k with mode := .out 0 }
def mvE (k : MoveKind) : Move := { mv0 k with cursor := 262144, upTo := 262144, ending := true }
def sMvA (m : Move) : State := on.modCh fun c => { c with moves := [m], nextMove := 1 }
def mvU : Move := { mv0 .demote with upTo := 100 }
/-- A SERVE_CONFIG that starts serving, on a queue that serves. -/
def dServe : Desc := dsc 0x30 (64 * 2 ^ 320 + 4 * 2 ^ 352 + 2 ^ 392 + 2 ^ 400 + 2 ^ 432 + 2 ^ 448)
def sServing : State := ((sServe (sHead dServe)).modBt fun t => { t with serving := false }).updQueue 0 fun v => { v with cfg := v.cfg + 2 ^ 54 }
/-- An OPEN_REQUEST that waits while the waiting list is full. -/
def sWaitOpen : State := (((sReq bq 1).setReg Reg.IB_POOL_CFG 0x02060010).setReg Reg.BT_CTRL 0x100000000).setQueue 0
  { qRun with st := .waiting, waitKind := .resource, head := some (hd (dOpen + 1 <<< 256)), reserved := 1 }
/-- A SAMPLE's row is in the second pass. -/
def sSample : State := (sWork (dsc 0x33 (4 * 2 ^ 448)) .running).setSbUnit 0 { first := none, second := some (.sample 0) }

def key0 : AtsKey := { fn := 0, pasid := none, page := 5 }
def ats0 : AtsAnswer := { log2 := 12, target := 0x5000, read := true, write := true }
def aw0 : AtsWaiter := { who := .work 9, write := false, pri := false, again := false }
def areq : AtsReq := { key := key0, write := false, who := [aw0] }
def sAts : State := on.modCh fun c => { c with reqs := [areq] }
def sInv : State := on.modCh fun c => { c with invals := [{ fn := 0, since := 0, who := [.work 9] }], hostReads := [(.work 9, key0)] }
def sGrp (closed : Option Nat) : State := on.modCh fun c => { c with
  groups := [{ id := 1, fn := 0, pasid := none, size := 1, opened := 0, closed := closed }],
  pri := [{ key := key0, write := false, group := 1, who := [aw0] }] }
def sDirty : State := on.modCh fun c => { c with dirty := [(0, [3])] }
def sChOn : State := on.modCh fun c => { c with active := true }
/-- A queued move of a placed page. -/
def sMove (k : MoveKind) : State := (sMv k).modCh fun c => { c with moves := [{ mv0 k with running := false, cls := 2 }] }
def req0 : Req :=
  { port := 0, addr := 1, bullpen := 0, crdValid := false, scope := false, rsv := false, zero := false, aop := 0, size := 0, offset := 0, thread := 0,
    context := 0, txn := 1, engine := 0, core := 0, agent := 0 }
def dat0 : Dat := { port := 0, mask := 0xF, poison := false, dirty := true, homeTag := 0, dest := 31, txn := 1, agent := 0, data := 7 }
def rsp0 : Rsp := { port := 0, homeTag := 0, agent := 1 }
/-- Every Fabric Port is enabled. -/
def sFp (s : State) : State := s.setReg Reg.FP_CTRL 0xFFFF
def sf0 (st : SfSt) (fwd : Nat) : SfEntry := { tag := 0, st := st, host := false, multi := true, fwd := fwd }
/-- The home asks agent 1 for line 0, for agent 0. -/
def txn0 (k : TxnKind) (ph : TxnPhase) : Txn := { State.newTxn 0 0 0 k (.agent 0 0 1) none 0 with phase := ph, snoops := [1] }
def sTxn (k : TxnKind) (ph : TxnPhase) (e : SfEntry) : State :=
  (sFp on).modSf fun f => { f with txns := [txn0 k ph], entries := [(0, e)] }
/-- The snoop filter holds an entry of a line. -/
def sHas (la : Nat) (e : SfEntry) (s : State) : State := s.sfSetKey ((homeSlice s la * 32768 + sfSet la) * 16) (some { e with tag := sfTag la })
def nt0 : NtEntry := { port := 0, line := 1, ids := [(0, 0, 0)], mask := 1, data := 5, poison := false, opened := 0 }
def pkt0 : IplPkt := { poison := false, port := 0, dst := 0, src := 1, flow := 0, seq := 3, cum := false, status := 0, subop := 0, len := 64, addr := 0, rsvd := false, payload := [9] }
/-- IPL port 0 is up, and node 1's flow 0 expects request 3. -/
def sIpl (expected : Option Nat) : State := on.modPl fun p => { p with
  ports := [(0, { PlPort.reset with linkUp := true, credits := [9, 9, 9, 9] })], rx := [(128, { PlRx.reset with expected := expected })] }
/-- Page requests of function 0 may be raised. -/
def sPri : State := ((on.setReg Reg.CH_PRI_CTRL 1).setCfgDw 0 0x14C 0x80000000).setCfgDw 0 0x154 1
def late0 : LateDat := { slice := 0, tag := 0, line := 3, agent := 0, mask := 1 }
def dcl0 (h c : Nat) : DcLine := { tag := 0, lock := false, poison := false, hstate := h, cstate := c, multi := false, fwd := 31, shash := 0, ctx := 0, data := 3 }
/-- A FLUSH of slice 0 runs, whose mode is to change; the slice may still hold a line. -/
def sSect (full : Bool) : State := (on.modDc fun d => { d with cmd := 3, cmdArg := 2 ^ 32, lines := if full then [(0, dcl0 1 3)] else [] }).setReg Reg.DC_SLICE_CFG 1

/-- The node's IPL ports are enabled and up, window 0 lets every node into tier 1, and node 1 is reached by port 0. -/
def sPl (s : State) : State := (s.setReg Reg.PL_CTRL 0xF1).modPl fun p => { p with
  ports := [(0, { PlPort.reset with linkUp := true, ready := some 0, credits := [9, 9, 9, 9] })], windows := [(0, { q0 := 0, q1 := 0x8007800000000100 })], routes := [(1, 1)] }
def sent0 (op : IplOp) : PlSent := { seq := 3, op := op, subop := 0, addr := 0, len := 64, payload := [9], poison := false, who := .work 9, port := 0 }
/-- Node 1's flow 0: what is not answered, and what is expected. -/
def sPlTx (u : List PlSent) (s : State) : State := s.modPl fun p => { p with tx := [(128, { PlTx.reset with synced := true, next := 4, unacked := u })] }
def sPlRx (e : Option Nat) (a : List PlAcc) (s : State) : State := s.modPl fun p => { p with rx := [(128, { PlRx.reset with expected := e, acc := a, owed := 1 })] }
def acc0 (op : IplOp) : PlAcc := { seq := 3, op := op, subop := 0, addr := 0, len := 64, payload := [9], fn := 0, fault := 0, issued := false, done := none, poison := false, old := false, port := 0, freed := false }

def sCfg (fn off : Nat) (v : BitVec 32) (s : State) : State := s.setCfgDw fn off v
/-- HDM decoder 0 maps the host's [0, 256 MiB). -/
def sHdm (lock : Bool) (s : State) : State := s.modUp fun u => { u with hdm0 := { base := 0, size := 0x10000000, committed := true, lock := lock, err := false, skip := 0, ways := 0 } }
def sQuies (flr : Bool) (reads : List Nat) (s : State) : State := s.modUp fun u => { u with quiescing := [{ fn := 0, flr := flr, since := 0, reads := reads, writes := [] }] }
def sAtt (a : AttachSt) (staged token : Word) (s : State) : State := s.modUp fun u => { u with attach := a, staged := staged, token := token }
def sLink (s : State) : State := s.modUp fun u => { u with linkUp := true, speed := 6, width := 16 }

def dp (st : DnSt) : DnPort := { DnPort.reset with st := st, present := true, powered := true, linkUp := true, speed := 6 }
/-- Port 0 is in the given state. -/
def sDn (v : DnPort) (s : State) : State := s.setDnPort 0 v
def dnr (w : Bool) : DnReq := { id := 5, port := 0, line := 0x4000000001, write := w, mask := 1, data := 7, poison := false, for_ := .write (.work 9), sent := 0, held := false }
def sDnReq (r : DnReq) (s : State) : State := s.modDn fun d => { d with reqs := [r] }
def exp0 (responds mem : Bool) : ExpanderId := { speed := 6, width := 16, responds := responds, memCapable := mem, hdmCount := 1, hdmDecoder := true, bars := [], msix := true, msi := true }
/-- Link `i` is measured, hard at 1 and soft at 5. -/
def sEq (s : State) : State := s.setReg Reg.DN_EQ_CTRL 0x51000001

def sPor (s : State) : State := s.modBoot fun b => { b with por := false }
def sLock (s : State) : State := s.modCk fun c => { c with pll := .locked }
/-- Steps 2 to 6 of power-up have ended. -/
def sSteps (s : State) : State := (sLock s).modBoot fun b => { b with por := false, pufDone := true, arrays := true, readDone := true, applied := true, keyDone := true }
/-- The SPDM negotiation has ended. -/
def sSpdm (stage : Nat) (s : State) : State := (sLoaded s).modIdent fun i => { i with stage := stage }
def sSess (l : List Session) (s : State) : State := s.modIdent fun i => { i with sessions := l }
def sKeyOk (s : State) : State := s.modIdent fun i => { i with chainOk := true, keyState := 1, d := 5 }
/-- Copy A of the image is its header alone. -/
def sCopyA (s : State) : State := (s.setReg Reg.CFG_COPY_A 0x100000001).modBoot fun b => { b with flash := (State.copyBase 1 + 12, 64) :: (List.range 51).map fun i => (State.copyBase 1 + 13 + i, 0) }
def sFlash (c : Nat) (s : State) : State := s.modBoot fun b => { b with cmd := some { cmd := c, addr := 0x10000, data := [1] }, erase64 := true }

def sPll (p : Pll) (s : State) : State := s.modCk fun c => { c with pll := p }
def sVreg (r : Nat) (req ack : Bool) (s : State) : State := s.setVreg r { mv := 750, req := req, ack := ack }
/-- Idle states are allowed: the timers of a domain are set, and no floor holds it. -/
def sPm (d : Nat) (s : State) : State := ((s.setReg Reg.PM_CTRL 1).setReg (Reg.PM_DOM_CFG + 8 * d) 0x0003000500050005)
def sDom (d : Nat) (x : PmDom) (s : State) : State := (sPm d s).setDom d x
def dom0 (st : PmSt) : PmDom := { PmDom.reset with st := st }

def ev0 (b : Fin 18) (i : BitVec 6) : ErrEvent := { blk := b, bit := i, unit := 0, address := 0, space := 0, access := 0, cls := 0, index := 0, context := none, symbol := 0, redo := true }
def ctx0 (st : CtxSt) : Ctx := { Ctx.reset 0 with st := st }
/-- Context 5 is selected, in the given state. -/
def sCtx (st : CtxSt) (s : State) : State := (s.setReg Reg.RB_SEL 5).setCtx 5 (ctx0 st)
def sCtxQ (v : Queue) (s : State) : State := s.setQueue 0 { v with cfg := setBits v.cfg 19 8 5 }
def sRb (cmd : Nat) (s : State) : State := s.modRb fun r => { r with busy := true, cmd := cmd, cmdCtx := 5, issued := true }
/-- The replay ring lies in tier 1, where its reads end at once. -/
def sRing (mem : List Host.Cell) (s : State) : State :=
  { ((s.setReg Reg.RP_RING_BASE 0x200000).setReg Reg.RP_RING_SIZE 1).modRp fun r => { r with replaying := true, cursor := 4096 } with mem := mem }
def sRecord (lost : Nat) (l : List RpEvent) (s : State) : State :=
  ((s.setReg Reg.RP_RING_BASE 0x200000).setReg Reg.RP_RING_SIZE 1).modRp fun r => { r with recording := true, lost := lost, fifo := l }
def rpe (t : Nat) : RpEvent := { time := 0, type := t, flags := 0, source := 0, q2 := 0, q3 := 0, desc := none }

def line0 : BitVec 42 := BitVec.ofNat 42 (2^41)
def dtxn (ph : TxnPhase) : Txn := {State.newTxn 0 0 (2^41) .rdCur (.agent 0 0 1) none 0 with phase := ph, data := some 5}
def pt : List Byte := beBytes 48 P384.gx ++ beBytes 48 P384.gy
def nextOf (c : Instr) (s : State) : State := match exec c s with | .next t => t | _ => s
def sAvfs (t : Nat) (s : State) : State := ((s.setReg Reg.CK_CTRL 1).setReg Reg.CK_AVFS_CFG 0x0014A02080400000).modCk fun c => {c with trims := if t = 0 then [] else [(96 * 3 + 48, t)]}
def sMse (s : State) : State := sCfg 0 4 2 s
def st1 : State := sPage (withQueue {qIdle with cqTail := 3})
def st2 : State := sSeg (sPage (withQueue { qIdle with tailShadow := 0x40}))
def st3 : State := (sSeg (sPage (withQueue { qIdle with tailShadow := 0x40}))).modQe fun e => {e with shadows := [0]}
def st4 : State := (sSeg (sPage (withQueue { qIdle with tailShadow := 0x800000000000000}))).modQe fun e => {e with shadows := [0]}
def st5 : State := (atsOff (sSeg (sPage (withQueue { qIdle with tailShadow := 0x100000000000})))).modQe fun e => {e with shadows := [0]}
def st6 : State := (sPage (withQueue qIdle)).modRp fun r => {r with replaying := true}
def st7 : State := withQueue { qRun with sqTail := 0 }
def st8 : State := sSeg (withQueue { qRun with head := some { hd (dsc 0) with granted := false } })
def st9 : State := sSeg (withQueue { qRun with head := some { hd (dsc 0) with granted := false, preset := some 3 } })
def st10 : State := sSeg (withQueue { qRun with reading := true })
def st11 : State := (withQueue { qRun with reading := true })
def st12 : State := (sSeg (withQueue { qRun with reading := true })).writeBytes 0 [0,1]
def st13 : State := withQueue { qRun with staleDue := some 5 }
def st14 : State := (sWork (dsc 0) .ended).modQe fun e => {e with queues := [(0, {qRun with reserved := 1, cqBase := 0x10000, cqHead := 1})]}
def st15 : State := sSeg (withQueue {qRun with deferred := [ent]})
def st16 : State := withQueue {qRun with coalDue := some 5}
def st17 : State := withQueue {qRun with coalDue := some 5, cfg := 0x20030000000}
def st18 : State := (sLoaded (withQueue {qRun with st := .waiting, waitKind := .fence, waitIndex := 1})).setReg Reg.QE_CTRL 0x0001000000000000 |> fun s => {s with now := 3000000}
def st19 : State := atsOff (sSeg (withQueue {qRun with deferred := [ent]}))
def st20 : State := on.modSf (fun f => {f with posted := [⟨.entry 0 0, 1, none⟩]})
def st21 : State := on.modSf (fun f => {f with posted := [⟨.entry 0 0, 0, none⟩]})
def st22 : State := on.modSf (fun f => {f with posted := [⟨.entry 0 0, 0, some 3⟩]})
def st23 : State := on.setReg Reg.QE_SEL 0x40000000
def st24 : State := on.modQe fun e => {e with handles := [(3, {q0 := 0, q1 := 0}), (4096, {q0 := 0, q1 := 0})]}
def st25 : State := (sWork (dsc 0) .running).setReg Reg.QE_SEL 0x100000000
def st26 : State := atsOff (sHead (dsc 1 (0x100000000000 * 2^256 + 16*2^384)))
def st27 : State := (sWork (dsc 5) .offered).modQe fun e => {e with offers := [(0,[0])]}
def st28 : State := (sWork (dsc 5) .offered).modQe fun e => {e with offers := [(0,[0,1])], works := e.works ++ [{ wk (dsc 5) .offered with id := 1 }]}
def st29 : State := (sWork (dsc 5) .taken).modQe fun e => { e with dispatched := [0] }
def st30 : State := (on.setReg Reg.IB_POOL_CFG 0x02060010).setReg Reg.IB_CTRL 0x1000
def st31 : State := (sReq bq State.RUNNING).setRecBits 0 0 31 15 1 |>.setPageBits 0 49 32 1 |>.modCh fun c => { c with moves := [mv0 .demote] }
def st32 : State := { sHead (dsc 0x30) with fenced := [90] }
def st33 : State := (sHead (dsc 0x30)).updQueue 0 fun v => {v with cfg := v.cfg + 0x100000}
def st34 : State := sServe (sHead (dsc 0x30 (2^392)))
def st35 : State := (sServe (sHead (dsc 0x30 (2^392)))).modBt fun t => {t with serving := false}
def st36 : State := (sHead (dsc 0x30)).modBt fun t => {t with reqs := [(0,bq)]}
def st37 : State := sServe (sHead (dsc 0x31)) |>.setReg Reg.IB_POOL_CFG 0x02060010
def st38 : State := (sServe (sHead (dsc 0x31 (2^384 + 2^512*0x10 + 2^640*2)))) |>.setReg Reg.IB_POOL_CFG 0x02060010
def st39 : State := ((sReq bq 1).setReg Reg.IB_POOL_CFG 0x02060010).setReg Reg.BT_CTRL 0x100000000 |>.setQueue 0 {qRun with head := some (hd (dOpen + 1 <<< 256)), reserved := 1}
def st40 : State := (sHead (dsc 0x32)).modBt fun t => {t with reqs := [(0,bq)]}
def st41 : State := (sHead (dsc 0x32)).modBt fun t => {t with reqs := [(0,{bq with ctx := 1})]}
def st42 : State := (sHead (dsc 0x34)).updQueue 0 fun v => {v with cfg := v.cfg + 2^54}
def st43 : State := (sHead (dsc 0x34 (2^400))).updQueue 0 fun v => {v with cfg := v.cfg + 2^54}
def st44 : State := sPool (sReq {bq with hist := 3, init := 3, deadline := 0} 2)
def st45 : State := sPool (sReq {bq with hist := 3, init := 3, deadline := 0} 1)
def st46 : State := sReq {bq with hist := 3, init := 3} 2 |>.setReg (Reg.BT_SERVE + 8) 0x0100001000000000
def st47 : State := sReq {bq with hist := 3, last := some 5} 2 |>.setReg (Reg.BT_SERVE + 8) 0x0100001000000000
def st48 : State := sStep.modBt (fun t => { t with samples := [0] })
def st49 : State := sStep.modBt (fun t => { t with samples := [0], turn := 7 })
def st50 : State := sStep.modBt fun t => {t with step := none, samples := [0]}
def st51 : State := sStep.setSbUnit 0 {first := some (.serve 0), second := none}
def st52 : State := sPosted (.token 0) 1 none (sReq {bq with recs := [tok0]} 2)
def st53 : State := sPosted (.token 0) 0 (some 3) (sReq {bq with recs := [tok0]} 2)
def st54 : State := sReq {bq with recs := [tok0], stage := 1} 2
def st55 : State := sReq {bq with recs := [tok0], stage := 2} 2
def st56 : State := sReq {bq with closing := some 3, work := none} 4
def st57 : State := sReq {bq with ending := some 3} 2
def st58 : State := sReq {bq with closing := some 3, work := none, desc := dsc 0x31 0x80000} 4 |>.modQe (fun e => { e with queues := [] })
def st59 : State := sReq {bq with recs := [tok0]} 2
def st60 : State := sSeg (sReq {bq with recs := [tok0]} 2)
def st61 : State := sSeg (sReq {bq with recs := [tok0], written := 16, lastHead := 0} 2)
def st62 : State := sReq {bq with pollDue := some 4} 3
def st63 : State := sReq {bq with closing := some 3} 4
def st64 : State := (sPosted (.work 9) 1 none on).modCh (fun c => { c with drain := [.work 9], drainBy := 5 })
def st65 : State := (sPosted (.work 9) 1 none on).modUp (fun u => { u with bar2Drain := [.work 9] })
def st66 : State := on.setReg Reg.CH_SEGQ 1 |>.setReg (Reg.CH_SEGQ+8) 0x8000000000000000 |>.setReg (Reg.CH_REGIONQ+8) 0x8000000100000000
def st67 : State := on.modPl fun p => {p with winDrain := [(1, 0, 0)], winBy := 10000, rx := [(128, {PlRx.reset with acc := [{seq := 0, op := .read, subop := 0, addr := 0, len := 4, payload := [], fn := 0, poison := false, fault := 0, issued := false, done := none, old := true, port := 0, freed := false}]})]}
def st68 : State := sChOn.setReg Reg.CH_PLACE_PAGES 3
def st69 : State := {sChOn with boot := {Boot.reset with loaded := true}}
def st70 : State := (sMove .demote).modCh fun c => {c with moves := c.moves ++ (List.range 64).map fun i => {mv0 .demote with id := i+1, page := i+1}}
def st71 : State := (sMove .promote).modSf fun f => {f with txns := [{State.newTxn 0 0 (placedBase/64) .rdCur .home none 0 with phase := .memory}]}
def st72 : State := sHead (dsc 0x21 (2^320 + 7*2^384))
def st73 : State := (sHead (dsc 0x21 (2^320 + 0x300000000000*2^256)))
def st74 : State := ((sHead (dsc 0x21 (2^320 + 0x300000000000*2^256 + 5*2^384))).modCh (fun c => { c with segs := [(3, { q0 := w64 placedBase, q1 := 0xBC00010000000000, q2 := 0 })] })) |>.setReg Reg.CH_PLACE_PAGES 4 |>.setReg Reg.CH_CTRL 1
def st75 : State := (sFp on).modFp fun f => {f with reqCrd := [(0,0)], evCrd := [(0,0)]}
def st76 : State := (sFp on).modFp fun f => {f with dats := [dat0]}
def st77 : State := (sFp on).modFp fun f => {f with rsv := [{ctx := 0, port := 0, agent := 0, core := 0, thread := 0, code := 0, line := 1, shift := 6}]}
def st78 : State := (sFp on).modFp fun f => {f with datCrd := [(0,0)]}
def st79 : State := on.modFp fun f => {f with nt := [nt0]}
def st80 : State := (sTxn .rdShared .snooping (sf0 .excl 1)).modSf (fun f => { f with txns := [{ txn0 .rdShared .snooping with data := some 4 }] })
def st81 : State := (sFp on).modSf (fun f => { f with late := [late0] })
def st82 : State := sTxn .rdShared .snooping (sf0 .fwd 1)
def st83 : State := sTxn .memShared .snooping (sf0 .fwd 1)
def st84 : State := sTxn (.rdOwn none) .snooping (sf0 .shared 31)
def st85 : State := sTxn .rdShared .snooping (sf0 .excl 1)
def st86 : State := sTxn .rdShared .memory (sf0 .excl 1)
def st87 : State := sTxn .rdCur .snooping (sf0 .fwd 1)
def st88 : State := (sFp on).modSf fun f => {f with flushing := [(0,[0])]}
def st89 : State := on.modSf fun f => {f with credits := [{slice := 0, num := 0, due := 5, agent := 0}]}
def st90 : State := (on.modUp fun u => {u with hdm0 := {base := 0, size := 0x10000000, committed := true, lock := false, err := false, skip := 0, ways := 0}}).modSf (fun f => { f with txns := [{txn0 .rdShared .snooping with line := 1, snoops := [16]}] })
def st91 : State := on.setReg Reg.PM_SAFE_STATE 0x8000000000000000
def st92 : State := on.modUp fun u => {u with hdm0 := {base := 0, size := 0x10000000, committed := true, lock := false, err := false, skip := 0, ways := 0}}
def st93 : State := sHas 1 {sf0 .hostx 31 with host := true} (on.modUp fun u => {u with hdm0 := {base := 0, size := 0x10000000, committed := true, lock := false, err := false, skip := 0, ways := 0}})
def st94 : State := sHas 0 {sf0 .hostx 31 with host := true} on
def st95 : State := on.modSf fun f => {f with txns := [{txn0 .rdShared .snooping with snoops := [16]}]}
def st96 : State := {on with pm := {on.pm with doms := [(0, {PmDom.reset with st := .nap})]}}
def st97 : State := on.modSf (fun f => {f with txns := [{dtxn (.hostReq .rdOwn) with kind := .rdOwn none}]})
def st98 : State := on.setPref 0 {on.pref 0 with side := [(0, 5, false)]}
def st99 : State := on.setPref 0 {on.pref 0 with inFlight := [0]}
def st100 : State := on.modSf fun f => {f with txns := [dtxn (.hostReq .rdCurr)]}
def st101 : State := on.modSf fun f => {f with txns := [{dtxn (.hostReq .rdShared) with kind := .rdShared}]}
def st102 : State := (on.modSf fun f => {f with txns := [{dtxn (.hostReq .rdOwnNoData) with kind := .rdOwn none}]}).modDc fun d => {d with lines := [(0, {tag := 0, lock := false, poison := false, hstate := 1, cstate := 3, multi := false, fwd := 31, shash := 0, ctx := 0, data := 3})]}
def st103 : State := (on.modSf fun f => {f with txns := [{dtxn (.writePull (2^41)) with kind := .backInv false, asker := .home}]}).modDc fun d => {d with lines := [(0, {tag := 0, lock := false, poison := false, hstate := 3, cstate := 3, multi := false, fwd := 31, shash := 0, ctx := 0, data := 3})]}
def st104 : State := on.modDc fun d => {d with cmd := 1}
def st105 : State := sPlRx (some 3) [acc0 .write] (sPl on)
def st106 : State := sPlTx [sent0 .reduceWrite] (sPl on)
def st107 : State := (sPl on).modPl (fun p => {p with ports := [(0, {PlPort.reset with linkUp := true, high := true})]})
def st108 : State := (sPlTx [sent0 .write] (sPl on)).setReg Reg.PL_TIMEOUT 0x30000000000
def st109 : State := (sPlTx [sent0 .write] (sPl on)).setReg Reg.PL_TIMEOUT 0x10000000000
def st110 : State := (sPl on).modPl fun p => {p with ports := [(0, {PlPort.reset with linkUp := true, fails := 7})]}
def st111 : State := (sPl on).modPl fun p => {p with ports := [(0, {PlPort.reset with training := true, ready := some 0})]}
def st112 : State := ((sPl on).setReg Reg.PL_CTRL 0x1F1).modPl fun p => {p with ports := [(0, {PlPort.reset with training := true, ready := some 0})]}
def st113 : State := {sPl on with boot := {on.boot with loaded := true}}
def st114 : State := {sPl on with boot := {on.boot with loaded := false}}
def st115 : State := (sHdm false on).modCh fun c => {c with regions := [(0, {q0 := 0, q1 := 0xE000000000000FFF, q2 := 0})]}
def st116 : State := ((sHdm false on).setReg Reg.UP_HDM_DEVBASE0 0x1000).modCh fun c => {c with regions := [(0, {q0 := 0x10000000000, q1 := 0xE000000000000FFF, q2 := 0})]}
def st117 : State := sCfg 0 4 4 (on.modUp fun u => {u with vfOn := 2})
def st118 : State := sHas 0 { sf0 .hostx 31 with host := true } on
def st119 : State := on.modUp (fun u => { u with msix := [(0, { MsixVec.reset with pending := true })] })
def st120 : State := on.modUp (fun u => { u with abandoned := [(0, 0)] })
def st121 : State := on.modCh (fun c => {c with hostReads := [(.slot 0, key0)]})
def st122 : State := sQuies true [0] ((on.modCh fun c => {c with hostReads := [(.work 0, key0)]}).modQe fun e => {e with works := [wk (dsc 0x40) .running]})
def st123 : State := sCfg 0 0x60 3 ((sLink on).setReg Reg.UP_CTRL 0x10000)
def st124 : State := sLoaded (on.modUp fun u => {u with perst := true, reread := false})
def st125 : State := on.modUp fun u => {u with lpm := 2}
def st126 : State := (on.modCh fun c => {c with hostReads := [(.work 0, key0)]}).modQe fun e => {e with works := [wk (dsc 0x40) .running]}
def st127 : State := sAtt .attached 0 0 (sCfg 0 4 6 on)
def st128 : State := sAtt .parked 0 0 (on.modIdent fun i => {i with entropyBad := true})
def st129 : State := sCfg 0 4 4 (sAtt .attached 0 0 on)
def st130 : State := on.modIdent fun i => {i with entropyBad := true}
def st131 : State := sDn {dp .evacuating with evacDone := true} on
def st132 : State := sDn {dp .starting with step := 1} on
def st133 : State := sDn {dp .starting with step := 2} on
def st134 : State := sDn {dp .starting with step := 3} on
def st135 : State := sDn {dp .starting with step := 4} on
def st136 : State := sDn {dp .starting with step := 6} on
def st137 : State := (sDn {dp .off with button := some 9} on).setReg Reg.DN_PORT_CTRL 0x20
def st138 : State := (sDn (dp .off) on).setReg Reg.DN_PORT_CTRL 0x20
def st139 : State := sDn {dp .up with button := some 9} on
def st140 : State := sDnReq { dnr true with for_ := .txnWrite 0 0 } (sDn (dp .up) on)
def st141 : State := sDnReq { dnr false with for_ := .txnRead 0 0 } (sDn (dp .up) on)
def st142 : State := sDnReq (dnr true) (sDn (dp .up) on)
def st143 : State := (sDnReq (dnr true) (sDn (dp .up) on)).setReg Reg.DN_CTRL 0x100000000
def st144 : State := (sDnReq (dnr true) (sDn (dp .up) on)).setReg Reg.DN_CTRL 0x800000000
def st145 : State := sDnReq (dnr true) (sDn {dp .up with eqRedo := true} on)
def st146 : State := (on.modDn fun d => {d with xaccBusy := true}).setReg Reg.DN_XACC_CMD (BitVec.ofNat 64 (2^56))
def st147 : State := on.modDn fun d => {d with xaccBusy := true}
def st148 : State := (on.modDn fun d => {d with xaccBusy := true}).setReg Reg.DN_XACC_CMD (BitVec.ofNat 64 (2^57))
def st149 : State := sDn {dp .up with capacity := 2^39} on
def st150 : State := sDn {dp .off with linkUp := false} on
def st151 : State := (sDn {dp .up with capacity := 2^39} on).setReg Reg.CH_T2_POOL 0x80000000
def st152 : State := (on.setReg Reg.DN_EQ_CTRL 0x51000101).modUp (fun u => { u with linkUp := true, lpm := 0, speed := 6 })
def st153 : State := sDn {dp .up with eqPending := true} (sEq on)
def st154 : State := sDn {dp .up with eqRedo := true} (sEq on)
def st155 : State := {sDn {dp .up with eqRedo := true, eqIn := true} (sEq on) with boot := {on.boot with eq := [{port := 0, rate := 3, own := 0, far := 0, cands := [(4,5)]}]}}
def st156 : State := sPor (on.modCk fun c => { c with pll := .off})
def st157 : State := sPor (on.modBoot fun b => {b with arrays := true})
def st158 : State := on.modBoot fun b => {b with por := false, arrays := true}
def st159 : State := on.modBoot fun b => {b with por := false}
def st160 : State := on.modBoot fun b => {b with por := false, arrays := true, readDone := true}
def st161 : State := (sCopyA on).modBoot fun b => {b with por := false, arrays := true, readDone := true}
def st162 : State := sCopyA (on.setReg Reg.CFG_COPY_B 1)
def st163 : State := (sFlash 3 on).modBoot fun b => {b with cmd := none}
def st164 : State := (sSteps on).modBoot fun b => {b with keyDone := false}
def st165 : State := (sSteps on).modBoot fun b => {b with keyDone := false, helper := List.replicate 80 1}
def st166 : State := on.modIdent fun i => {i with puf := some [1]}
def st167 : State := on.modIdent fun i => {i with puf := some [1], keyState := 1}
def st168 : State := sSess [{id := 1, open_ := false}] (sSpdm 3 on)
def st169 : State := sSess [{id := 1, open_ := true}] (sSpdm 3 on)
def st170 : State := sSess (List.replicate 4 {id := 1, open_ := true}) (sKeyOk (sSpdm 3 on))
def st171 : State := (on.modCk fun c => {c with pll := .relocking}).modPm fun p => {p with waits := [{dom := 96, cmd := .predReset, sel := 0}]}
def st172 : State := (sVreg 0 true false on).modCk fun c => {c with xMove := some {source := 1, target := 0, asked := true}}
def st173 : State := (sVreg 0 true false on).modCk fun c => {c with xMove := some {source := 1, target := 0, asked := false}}
def st174 : State := (sVreg 0 true false on).modCk fun c => {c with xMove := some {source := 0, target := 1, asked := true}}
def st175 : State := (on.setReg Reg.CK_CTRL 1).modCk fun c => {c with stretched := [48]}
def st176 : State := ((on.setReg Reg.CK_CTRL 1).setReg Reg.CK_AVFS_CFG 0x20000000)
def st177 : State := ((on.setReg Reg.CK_CTRL 1).setReg Reg.CK_AVFS_CFG 0x20000000).modCk fun c => {c with stretched := [48]}
def st178 : State := (on.modSf fun f => {f with flushing := []})
def st179 : State := (sPm 32 (sLoaded on)).modFp fun f => {f with nt := [nt0]}
def st180 : State := sDom 48 (dom0 .idle) (sLoaded on)
def st181 : State := ((sPm 48 (sLoaded on)).setReg Reg.PM_WAKE_IN 0x130).modPm fun p => {p with inputs := [0]}
def st182 : State := sDom 48 (dom0 .nap) (sLoaded on)
def st183 : State := sDom 48 {dom0 .idle with entering := some .nap} on
def st184 : State := sDom 78 {dom0 .nap with entering := some .off} on
def st185 : State := sDom 32 {dom0 .nap with entering := some .off} on
def st186 : State := sDom 48 {dom0 .idle with dbgHold := true, entering := some .nap} on
def st187 : State := sDom 48 {dom0 .idle with dbgHold := true} (sLoaded on)
def st188 : State := (sDom 48 {dom0 .idle with entering := some .nap} on).setReg (Reg.PM_DOM_CFG + 8 * 48) 0x8000000000000000
def st189 : State := sDom 48 {dom0 .nap with waking := true} on
def st190 : State := sDom 48 {dom0 .nap with entering := some .off} on
def st191 : State := (sDom 48 {dom0 .nap with entering := some .off} on).modPm (fun p => {p with waits := [{ dom := 48, cmd := .predReset, sel := 0 }]})
def st192 : State := sDom 48 {dom0 .nap with waking := true, retried := true} on
def st193 : State := (on.modPm fun p => {p with waits := [{ dom := 48, cmd := .predReset, sel := 0 }]})
def st194 : State := sDom 48 {dom0 .active with entering := some .idle} on
def st195 : State := (on.setReg Reg.PM_WAKE_IN 0x1B0).modPm fun p => {p with inputs := [0]}
def st196 : State := {on with strikes := [(Dom.gazelle 0, (1, 1, 0))]}
def st197 : State := on.setReg (Reg.errSeverity (16)) 0xFFFFFFFFFFFFFFFF
def st198 : State := on.setReg (Reg.errSeverity (12)) 0xFFFFFFFFFFFFFFFF
def st199 : State := (((((sDn {dp .up with capacity := 2^39} on).setReg Reg.RP_RING_BASE 0x10000000000).setReg Reg.RP_RING_SIZE 1).setReg Reg.CH_T2_POOL 0).setReg Reg.IB_T2_POOL 0)
def st200 : State := (sRing [(0x201008, 0x03)] on).modRp fun r => {r with forced := [.start 0]}
def st201 : State := (sRing [] on).modRp (fun r => {r with since := some 0})
def st202 : State := (sRing [] on).modRp (fun r => {r with since := some 0, forced := [.start 0], last := (4, 3)})
def st203 : State := on.modRp (fun r => {r with differed := true})
def st204 : State := (sRing [] on).setReg Reg.RP_RING_BASE 0x400000000000
def st205 : State := ((sRing [] on).setReg Reg.RP_RING_BASE 0x400000000000).modRp fun r => {r with since := some 0}
def st206 : State := (sRecord 0 [rpe 1] on).modRp fun r => {r with recording := false}
def st207 : State := sCtx .quiesced (sCtxQ {qRun with st := .idle} on)
def st208 : State := sCtx .quiesced (sCtxQ {qRun with head := some (hd 0)} on)
def st209 : State := ((sCtx .quiescing on).modRb fun r => {r with ctxs := [(5, ctx0 .quiescing)]}).modQe fun e => {e with works := [{wk 0 .running with ctx := 5}]}
def st210 : State := (sCtx .quiesced on).modBt fun t => {t with serving := true, ctx := 5}
def st211 : State := sCtx .quiesced ((sCtxQ qRun on).setQueue 1 qRun)
def st212 : State := sCtx .quiesced (sCtxQ {qRun with cfg := 0x2000000000000000 + 0x20000000000 + 2000 * 2^30} on)
def st213 : State := (sCtx .free on).modRb fun r => {r with busy := true}
def st214 : State := (sCtx .quiescing on).modRb fun r => {r with ctxs := [(5, ctx0 .quiescing)]}
def st215 : State := ((sCtx .quiescing on).modRb fun r => {r with ctxs := [(5, ctx0 .quiescing)]}).setQueue 0 {qRun with reserved := 1, cfg := setBits 0 19 8 5}
def st216 : State := (sCtx .quiesced on).modBt fun t => {t with reqs := [(0, {bq with ctx := 5})]}
def st217 : State := (sCtx .quiesced on).setReg Reg.RB_CKPT_ADDR 0x10000000000
def st218 : State := (sRb 4 (sCtx .quiesced on)).modSf fun f => {f with posted := [{who := .ckpt, n := 0, failed := some 0x11}]}
def st219 : State := (sRb 7 (sCtx .quiesced on)).modCh fun c => {c with ios := [{id := 0, addr := 0, len := 4, data := some [1], atomic := none, poison := false, bar2 := true, issued := false}]}
def st220 : State := (sRb 7 (sCtx .quiesced on)).modDc fun d => { d with lines := [(0, {tag := 0, lock := false, poison := false, hstate := 1, cstate := 3, multi := false, fwd := 31, shash := 0, ctx := 5, data := 3})]}
def st221 : State := {sCtx .free on with mem := [(25, 2)]}
def st222 : State := sCfg 0 0x348 8 ((sMse on).modUp fun u => {u with vfOn := 3})
def st223 : State := (sMse on).setReg Reg.PM_SAFE_STATE 0x8000000000000000
def st224 : State := (sMse on).modCh fun c => {c with ios := [{id := 0, addr := 0, len := 4, data := some [1], atomic := none, poison := false, bar2 := true, issued := false}]}
def st225 : State := {sPll .locked on with slew := 2}
def st226 : State := {sPll .locked on with slew := 3}
theorem witness_StepTakesTheFront : [
   (let c : Instr := Instr.inval;
   let rest : List Instr := [];
   let s : State :=
     let __src : State := on;
     { pending := [Instr.inval], now := __src.now, slew := __src.slew, freeCtr := __src.freeCtr, regs := __src.regs,
       mem := __src.mem, poison := __src.poison, hostMem := __src.hostMem, hostPoison := __src.hostPoison,
       hostRefused := __src.hostRefused, hostDead := __src.hostDead, out := __src.out, fenced := __src.fenced,
       released := __src.released, fenceReq := __src.fenceReq, strikes := __src.strikes, fatal := __src.fatal,
       wake := __src.wake, qe := __src.qe, ch := __src.ch, sf := __src.sf, dc := __src.dc, fp := __src.fp, up := __src.up,
       dn := __src.dn, pl := __src.pl, rb := __src.rb, gz := __src.gz, ck := __src.ck, pm := __src.pm, rp := __src.rp,
       ib := __src.ib, bt := __src.bt, boot := __src.boot, ident := __src.ident };
   decide (s.pending = c :: rest)),
   (let s : State := on;
   decide (s.pending = [] ∧ s.ck.pll ≠ Pll.locked ∧ s.slew = 0)),
   (let s : State :=
     let __src : State := on;
     { pending := __src.pending, now := __src.now, slew := 80, freeCtr := __src.freeCtr, regs := __src.regs,
       mem := __src.mem, poison := __src.poison, hostMem := __src.hostMem, hostPoison := __src.hostPoison,
       hostRefused := __src.hostRefused, hostDead := __src.hostDead, out := __src.out, fenced := __src.fenced,
       released := __src.released, fenceReq := __src.fenceReq, strikes := __src.strikes, fatal := __src.fatal,
       wake := __src.wake, qe := __src.qe, ch := __src.ch, sf := __src.sf, dc := __src.dc, fp := __src.fp, up := __src.up,
       dn := __src.dn, pl := __src.pl, rb := __src.rb, gz := __src.gz, ck := __src.ck, pm := __src.pm, rp := __src.rp,
       ib := __src.ib, bt := __src.bt, boot := __src.boot, ident := __src.ident };
   decide (s.pending = [] ∧ s.ck.pll ≠ Pll.locked ∧ 40 ≤ s.slew)),
   (let s : State := sPll Pll.locked on;
   decide (s.pending = [] ∧ s.ck.pll = Pll.locked ∧ s.slew = 0)),
   (let s : State := st225;
   decide (s.pending = [] ∧ s.ck.pll = Pll.locked ∧ s.slew ≠ 0 ∧ s.slew % 2 = 0)),
   (let s : State := st226;
   decide (s.pending = [] ∧ s.ck.pll = Pll.locked ∧ s.slew % 2 = 1))].all id = true := by decide +kernel

theorem witness_RegisterWrites : [
   (let fn : BitVec 8 := 0;
   let off : BitVec 26 := 16;
   let size : BitVec 7 := 8;
   let s : State := st223;
   let a : Nat := off.toNat;
   let aligned : Prop := size = 8 ∧ a % 8 = 0 ∨ size = 4 ∧ a % 4 = 0;
   decide (fn = 0 ∧ (s.mse 0 = false ∨ s.wholeSafe = true ∨ 18874368 ≤ a ∨ ¬aligned))),
   (let fn : BitVec 8 := 0;
   let off : BitVec 26 := 2097152;
   let size : BitVec 7 := 8;
   let v : Word := 18446744073709551615;
   let s : State := on;
   let a : Nat := off.toNat;
   let h : Half := Half.full;
   let x : Nat := 2097152;
   decide
     (fn = 0 ∧
       s.mse 0 = true ∧
         s.wholeSafe = false ∧
           a < 18874368 ∧
             (size = 8 ∧ a % 8 = 0 ∧ x = a ∧ h = Half.full ∨
                 size = 4 ∧ a % 8 = 0 ∧ x = a ∧ h = Half.low ∨ size = 4 ∧ a % 8 = 4 ∧ x + 4 = a ∧ h = Half.high) ∧
               s.OpenReg x ∧ ∀ (d : Nat), d ∈ State.predDomain x h v → s.Open d)),
   (let fn : BitVec 8 := 0;
   let off : BitVec 26 := 2097152;
   let size : BitVec 7 := 8;
   let s : State := sMse (sDom 90 (dom0 PmSt.nap) on);
   let a : Nat := off.toNat;
   let h : Half := Half.full;
   let x : Nat := 2097152;
   let d : Nat := 90;
   decide
     (fn = 0 ∧
       s.mse 0 = true ∧
         s.wholeSafe = false ∧
           a < 18874368 ∧
             (size = 8 ∧ a % 8 = 0 ∧ x = a ∧ h = Half.full ∨
                 size = 4 ∧ a % 8 = 0 ∧ x = a ∧ h = Half.low ∨ size = 4 ∧ a % 8 = 4 ∧ x + 4 = a ∧ h = Half.high) ∧
               s.hostAhead = false ∧
                 s.Open Dom.upCtl ∧ s.unitDomain x = some d ∧ s.domReady d = false ∧ s.isFenced d = false)),
   (let fn : BitVec 8 := 0;
   let off : BitVec 26 := 2097152;
   let size : BitVec 7 := 8;
   let s : State := st224;
   let a : Nat := off.toNat;
   let h : Half := Half.full;
   let x : Nat := 2097152;
   decide
     (fn = 0 ∧
       s.mse 0 = true ∧
         s.wholeSafe = false ∧
           a < 18874368 ∧
             (size = 8 ∧ a % 8 = 0 ∧ x = a ∧ h = Half.full ∨
                 size = 4 ∧ a % 8 = 0 ∧ x = a ∧ h = Half.low ∨ size = 4 ∧ a % 8 = 4 ∧ x + 4 = a ∧ h = Half.high) ∧
               s.hostAhead = true)),
   (let fn : BitVec 8 := 1;
   let off : BitVec 26 := 16;
   let size : BitVec 7 := 8;
   let s : State := on;
   let a : Nat := off.toNat;
   let aligned : Prop := size = 8 ∧ a % 8 = 0 ∨ size = 4 ∧ a % 4 = 0;
   let n : Nat := fn.toNat;
   decide (fn ≠ 0 ∧ (s.fnPresent n = false ∨ s.vfBarSize 16384 ≤ a ∨ ¬aligned))),
   (let fn : BitVec 8 := 1;
   let off : BitVec 26 := 16;
   let size : BitVec 7 := 8;
   let s : State := st222;
   let a : Nat := off.toNat;
   let aligned : Prop := size = 8 ∧ a % 8 = 0 ∨ size = 4 ∧ a % 4 = 0;
   let n : Nat := fn.toNat;
   decide (fn ≠ 0 ∧ s.fnPresent n = true ∧ a < s.vfBarSize 16384 ∧ aligned ∧ s.HostOpen n ∧ s.Open Dom.upCtl ∧ a < 1024)),
   (let fn : BitVec 8 := 1;
   let off : BitVec 26 := 2048;
   let size : BitVec 7 := 8;
   let s : State := st222;
   let a : Nat := off.toNat;
   let aligned : Prop := size = 8 ∧ a % 8 = 0 ∨ size = 4 ∧ a % 4 = 0;
   let n : Nat := fn.toNat;
   decide (fn ≠ 0 ∧ s.fnPresent n = true ∧ a < s.vfBarSize 16384 ∧ aligned ∧ s.HostOpen n ∧ s.Open Dom.upCtl ∧ 1024 ≤ a)),
   (let off : Nat := 16;
   let r : RegInfo :=
     (regInfo? off).getD
       ((regInfo? 0).getD { off := 0, count := 0, reset := 0, rw := 0, rwl := 0, w1c := 0, w1s := 0, rc := 0 });
   let h : Half := Half.full;
   let s : State := on;
   let i : Nat := 0;
   let writes : Bool := bit (halfMask h) i;
   decide
     (regInfo? off = some r ∧
       Map.rising s.regs = true ∧ i < 64 ∧ writes = true ∧ bit r.w1c i = false ∧ bit r.w1s i = false)),
   (let off : Nat := 16;
   let r : RegInfo :=
     (regInfo? off).getD
       ((regInfo? 0).getD { off := 0, count := 0, reset := 0, rw := 0, rwl := 0, w1c := 0, w1s := 0, rc := 0 });
   let s : State := on;
   let i : Nat := 0;
   let o : Nat := 8;
   decide (regInfo? off = some r ∧ Map.rising s.regs = true ∧ i < 64 ∧ o ≠ off))].all id = true := by decide +kernel

theorem witness_RegisterWrites_2 : [
   (let off : Nat := 16;
   let r : RegInfo :=
     (regInfo? off).getD
       ((regInfo? 0).getD { off := 0, count := 0, reset := 0, rw := 0, rwl := 0, w1c := 0, w1s := 0, rc := 0 });
   let h : Half := Half.low;
   let s : State := on;
   let i : Nat := 63;
   let writes : Bool := bit (halfMask h) i;
   decide (regInfo? off = some r ∧ Map.rising s.regs = true ∧ i < 64 ∧ writes = false)),
   (let off : Nat := 2097152;
   let r : RegInfo :=
     (regInfo? off).getD
       ((regInfo? 0).getD { off := 0, count := 0, reset := 0, rw := 0, rwl := 0, w1c := 0, w1s := 0, rc := 0 });
   let h : Half := Half.full;
   let s : State := on;
   let i : Nat := 0;
   let writes : Bool := bit (halfMask h) i;
   let stores : Bool := bit r.rw i || bit r.rwl i && !s.locked;
   decide
     (regInfo? off = some r ∧
       Map.rising s.regs = true ∧ i < 64 ∧ writes = true ∧ stores = false ∧ bit r.w1c i = true ∧ bit r.w1s i = false)),
   (let off : Nat := Reg.CFG_LOCK;
   let r : RegInfo :=
     (regInfo? off).getD
       ((regInfo? 0).getD { off := 0, count := 0, reset := 0, rw := 0, rwl := 0, w1c := 0, w1s := 0, rc := 0 });
   let h : Half := Half.full;
   let s : State := on;
   let i : Nat := 0;
   let writes : Bool := bit (halfMask h) i;
   let stores : Bool := bit r.rw i || bit r.rwl i && !s.locked;
   decide
     (regInfo? off = some r ∧
       Map.rising s.regs = true ∧ i < 64 ∧ writes = true ∧ stores = false ∧ bit r.w1c i = false ∧ bit r.w1s i = true))].all id = true := by decide +kernel

theorem witness_QueueConfiguration : [
   (let k : BitVec 2 := 0;
   let s : State := sQ QState.disabled;
   let q : Nat := s.selQueue;
   let x : Queue := s.queue q;
   decide (s.OpenReg (Reg.QE_QCFG + 8 * k.toNat) ∧ s.queueFenced q = false ∧ x.st = QState.disabled)),
   (let k : BitVec 2 := 0;
   let s : State := sQ QState.idle;
   let q : Nat := s.selQueue;
   let x : Queue := s.queue q;
   decide (s.OpenReg (Reg.QE_QCFG + 8 * k.toNat) ∧ (s.queueFenced q = true ∨ x.st ≠ QState.disabled))),
   (let s : State := sQ QState.disabled;
   let q : Nat := s.selQueue;
   let x : Queue := s.queue q;
   decide
     (s.OpenReg Reg.QE_QCMD ∧ s.queueFenced q = false ∧ x.st = QState.disabled ∧ bits x.cfg 3 0 ≤ 12 ∧ bits x.cfg 7 4 ≤ 12)),
   (let s : State := sQ QState.disabled;
   let q : Nat := s.selQueue;
   let x : Queue := s.queue q;
   decide (s.OpenReg Reg.QE_QCMD ∧ s.queueFenced q = false ∧ x.st = QState.disabled)),
   (let s : State := sQ QState.disabled;
   let q : Nat := s.selQueue;
   let x : Queue := s.queue q;
   decide (s.OpenReg Reg.QE_QCMD ∧ (x.st = QState.disabled ∨ x.st = QState.draining))),
   (let s : State := sQ QState.disabled;
   let q : Nat := s.selQueue;
   let x : Queue := s.queue q;
   decide (s.OpenReg Reg.QE_QCMD ∧ x.st ≠ QState.parked ∧ x.st ≠ QState.error)),
   (let s : State := sQ QState.disabled;
   let q : Nat := s.selQueue;
   let x : Queue := s.queue q;
   decide (s.OpenReg Reg.QE_QCMD ∧ x.st ≠ QState.error)),
   (let s : State := sQ QState.idle;
   let q : Nat := s.selQueue;
   let x : Queue := s.queue q;
   decide (s.OpenReg Reg.QE_QCMD ∧ s.queueFenced q = false ∧ x.st ≠ QState.disabled ∧ x.st ≠ QState.draining)),
   (let s : State := sQ QState.idle;
   let q : Nat := s.selQueue;
   let x : Queue := s.queue q;
   decide (s.OpenReg Reg.QE_QCMD ∧ x.st ≠ QState.disabled))].all id = true := by decide +kernel

theorem witness_QueueConfiguration_2 : [
   (let s : State := sFenced (sQ QState.disabled);
   let q : Nat := s.selQueue;
   decide (s.OpenReg Reg.QE_QCMD ∧ s.queueFenced q = true)),
   (let s : State := sQ QState.parked;
   let q : Nat := s.selQueue;
   let x : Queue := s.queue q;
   decide (s.OpenReg Reg.QE_QCMD ∧ s.queueFenced q = false ∧ (x.st = QState.parked ∨ x.st = QState.error))),
   (let s : State := sQ QState.error;
   let q : Nat := s.selQueue;
   let x : Queue := s.queue q;
   decide (s.OpenReg Reg.QE_QCMD ∧ s.queueFenced q = false ∧ x.st = QState.error)),
   (let q : BitVec 16 := 0;
   let s : State := sQ QState.draining;
   decide
     ((s.queue q.toNat).st = QState.draining ∧
       s.worksOf q.toNat = [] ∧ ((s.queue q.toNat).deferred.all fun e ↦ e.detached) = true))].all id = true := by decide +kernel

theorem witness_Doorbells : [
   (let d : Doorbell := { origin := DbOrigin.pf 0, index := 0, half := some Half.full, value := 0 };
   let page : Nat := 0;
   let s : State := sPage (withQueue qIdle);
   let q : Nat := 64 * page + d.index.toNat;
   let x : Queue := s.queue q;
   let v : Nat := bits d.value 15 0;
   decide
     (s.BellOpen d.origin page ∧
       s.rp.recording = false ∧
         (d.half = some Half.full ∨ d.half = some Half.low) ∧
           s.dbCheck d.origin DbKind.sqTail page q = none ∧
             s.rp.replaying = false ∧ v < x.slots ∧ x.unfetched ≤ (v + x.slots - x.sqHead) % x.slots)),
   (let d : Doorbell := { origin := DbOrigin.pf 0, index := 0, half := some Half.full, value := 0 };
   let page : Nat := 0;
   let s : State := sPage (withQueue qIdle);
   let q : Nat := 64 * page + d.index.toNat;
   let x : Queue := s.queue q;
   let v : Nat := bits d.value 15 0;
   decide
     (s.BellOpen d.origin page ∧
       s.rp.recording = false ∧
         (d.half = some Half.full ∨ d.half = some Half.low) ∧
           s.dbCheck d.origin DbKind.cqHead page q = none ∧
             s.rp.replaying = false ∧ v < x.entries ∧ (v + x.entries - x.cqHead) % x.entries ≤ x.unread)),
   (let d : Doorbell := { origin := DbOrigin.pf 0, index := 0, half := some Half.full, value := 0 };
   let page : Nat := 0;
   let s : State := sPage (sQ QState.fetching);
   let q : Nat := 64 * page + d.index.toNat;
   let x : Queue := s.queue q;
   let v : Nat := bits d.value 15 0;
   decide
     (s.BellOpen d.origin page ∧
       s.rp.recording = false ∧
         (d.half = some Half.full ∨ d.half = some Half.low) ∧
           s.dbCheck d.origin DbKind.sqTail page q = none ∧
             s.rp.replaying = false ∧ v < x.slots ∧ (v + x.slots - x.sqHead) % x.slots < x.unfetched)),
   (let d : Doorbell := { origin := DbOrigin.pf 0, index := 0, half := some Half.full, value := 0 };
   let page : Nat := 0;
   let s : State := withQueue qIdle;
   let q : Nat := 64 * page + d.index.toNat;
   let k : DbKind := DbKind.sqTail;
   let c : Instr := Instr.sqTail d;
   let h : Half := Half.full;
   let i : Nat := Err.QE_DB_FOREIGN;
   decide
     (s.BellOpen d.origin page ∧
       s.rp.recording = false ∧
         (k, c) ∈ [(DbKind.sqTail, Instr.sqTail d), (DbKind.cqHead, Instr.cqHead d)] ∧
           d.half = some h ∧ s.dbCheck d.origin k page q = some i)),
   (let d : Doorbell := { origin := DbOrigin.pf 0, index := 0, half := some Half.full, value := 0 };
   let page : Nat := 0;
   let s : State := st6;
   let q : Nat := 64 * page + d.index.toNat;
   decide
     (s.BellOpen d.origin page ∧
       s.rp.recording = false ∧
         (d.half = some Half.full ∨ d.half = some Half.low) ∧
           s.dbCheck d.origin DbKind.sqTail page q = none ∧
             s.rp.replaying = true ∧ ∀ (p : BitVec 10), d.origin ≠ DbOrigin.batcher p)),
   (let d : Doorbell := { origin := DbOrigin.pf 0, index := 0, half := some Half.full, value := 3 };
   let page : Nat := 0;
   let s : State := sPage (withQueue qIdle);
   let q : Nat := 64 * page + d.index.toNat;
   let x : Queue := s.queue q;
   let v : Nat := bits d.value 15 0;
   decide
     (s.BellOpen d.origin page ∧
       s.rp.recording = false ∧
         (d.half = some Half.full ∨ d.half = some Half.low) ∧
           s.dbCheck d.origin DbKind.cqHead page q = none ∧
             s.rp.replaying = false ∧ v < x.entries ∧ x.unread < (v + x.entries - x.cqHead) % x.entries)),
   (let d : Doorbell := { origin := DbOrigin.pf 0, index := 0, half := some Half.low, value := 16 };
   let page : Nat := 0;
   let s : State := sPage (withQueue qIdle);
   let q : Nat := 64 * page + d.index.toNat;
   let x : Queue := s.queue q;
   let v : Nat := bits d.value 15 0;
   decide
     (s.BellOpen d.origin page ∧
       s.rp.recording = false ∧
         (d.half = some Half.full ∨ d.half = some Half.low) ∧
           s.dbCheck d.origin DbKind.sqTail page q = none ∧ s.rp.replaying = false ∧ x.slots ≤ v)),
   (let d : Doorbell := { origin := DbOrigin.pf 0, index := 0, half := some Half.low, value := 16 };
   let page : Nat := 0;
   let s : State := sPage (withQueue qIdle);
   let q : Nat := 64 * page + d.index.toNat;
   let x : Queue := s.queue q;
   let v : Nat := bits d.value 15 0;
   decide
     (s.BellOpen d.origin page ∧
       s.rp.recording = false ∧
         (d.half = some Half.full ∨ d.half = some Half.low) ∧
           s.dbCheck d.origin DbKind.cqHead page q = none ∧ s.rp.replaying = false ∧ x.entries ≤ v)),
   (let d : Doorbell := { origin := DbOrigin.pf 0, index := 0, half := none, value := 1 };
   let page : Nat := 0;
   let s : State := sPage (withQueue qIdle);
   let k : DbKind := DbKind.sqTail;
   let c : Instr := Instr.sqTail d;
   decide
     (s.BellOpen d.origin page ∧
       s.rp.recording = false ∧
         (k, c) ∈ [(DbKind.sqTail, Instr.sqTail d), (DbKind.cqHead, Instr.cqHead d)] ∧ d.half = none))].all id = true := by decide +kernel

theorem witness_Doorbells_2 : [
   (let d : Doorbell := { origin := DbOrigin.pf 0, index := 0, half := some Half.high, value := 1 };
   let page : Nat := 0;
   let s : State := sPage (withQueue qIdle);
   let q : Nat := 64 * page + d.index.toNat;
   let k : DbKind := DbKind.sqTail;
   let c : Instr := Instr.sqTail d;
   decide
     (s.BellOpen d.origin page ∧
       s.rp.recording = false ∧
         (k, c) ∈ [(DbKind.sqTail, Instr.sqTail d), (DbKind.cqHead, Instr.cqHead d)] ∧
           d.half = some Half.high ∧ s.dbCheck d.origin k page q = none)),
   (let d : Doorbell := { origin := DbOrigin.pf 0, index := 0, half := some Half.full, value := 0 };
   let page : Nat := 0;
   let h : Half := Half.full;
   let s : State := sPage (withQueue qIdle);
   let qs : List Nat :=
     List.map (fun i ↦ 64 * page + i) (List.filter (fun i ↦ bit (halfValue h d.value) i) (List.range 64));
   decide
     (s.BellOpen d.origin page ∧
       d.half = some h ∧
         s.rp.replaying = false ∧
           ∀ (q : Nat), q ∈ qs → s.dbCheck d.origin DbKind.batch page q = none ∧ (s.queue q).tailShadow ≠ 0)),
   (let d : Doorbell := { origin := DbOrigin.batcher 0, index := 0, half := some Half.full, value := 1 };
   let page : Nat := 0;
   let i : Nat := 0;
   let h : Half := Half.full;
   let s : State := sPage (withQueue qIdle);
   let q : Nat := 64 * page + i;
   decide
     (s.BellOpen d.origin page ∧
       d.half = some h ∧
         i < 64 ∧
           halfValue h d.value = w64 (2 ^ i) ∧ s.dbCheck d.origin DbKind.batch page q = none ∧ (s.queue q).tailShadow = 0)),
   (let d : Doorbell := { origin := DbOrigin.pf 0, index := 0, half := some Half.low, value := 1 };
   let page : Nat := 0;
   let i : Nat := 0;
   let h : Half := Half.low;
   let s : State := withQueue qIdle;
   let q : Nat := 64 * page + i;
   let b : Nat := Err.QE_DB_FOREIGN;
   decide
     (s.BellOpen d.origin page ∧
       d.half = some h ∧ i < 64 ∧ halfValue h d.value = w64 (2 ^ i) ∧ s.dbCheck d.origin DbKind.batch page q = some b)),
   (let q : BitVec 16 := 0;
   let s : State := st3;
   let a : Word := (s.queue q.toNat).tailShadow;
   let r : Except Stop (List Byte) × State := (engRead (s.queueWho q.toNat (Waiter.shadow q.toNat)) a 8).exec s;
   let bs : List Byte :=
     match ((engRead (s.queueWho q.toNat (Waiter.shadow q.toNat)) (s.queue q.toNat).tailShadow 8).exec s).fst with
     | Except.ok x => x
     | x => [];
   let t : State := ((engRead (s.queueWho q.toNat (Waiter.shadow q.toNat)) (s.queue q.toNat).tailShadow 8).exec s).snd;
   decide (q.toNat ∈ s.qe.shadows ∧ s.clocksStopped = false ∧ eqES r (Except.ok bs, t) = true)),
   (let q : BitVec 16 := 0;
   let s : State := st4;
   let a : Word := (s.queue q.toNat).tailShadow;
   let r : Except Stop (List Byte) × State := (engRead (s.queueWho q.toNat (Waiter.shadow q.toNat)) a 8).exec s;
   let st : Nat :=
     match ((engRead (s.queueWho q.toNat (Waiter.shadow q.toNat)) (s.queue q.toNat).tailShadow 8).exec s).fst with
     | Except.error (Stop.fail x) => x
     | x => 0;
   let t : State := ((engRead (s.queueWho q.toNat (Waiter.shadow q.toNat)) (s.queue q.toNat).tailShadow 8).exec s).snd;
   decide (q.toNat ∈ s.qe.shadows ∧ s.clocksStopped = false ∧ eqES r (Except.error (Stop.fail st), t) = true)),
   (let q : BitVec 16 := 0;
   let s : State := st5;
   let a : Word := (s.queue q.toNat).tailShadow;
   let r : Except Stop (List Byte) × State := (engRead (s.queueWho q.toNat (Waiter.shadow q.toNat)) a 8).exec s;
   let t : State := ((engRead (s.queueWho q.toNat (Waiter.shadow q.toNat)) (s.queue q.toNat).tailShadow 8).exec s).snd;
   decide (q.toNat ∈ s.qe.shadows ∧ s.clocksStopped = false ∧ eqES r (Except.error Stop.wait, t) = true)),
   (let q : BitVec 16 := 0;
   let s : State := sPage (withQueue qIdle);
   decide (¬q.toNat ∈ s.qe.shadows ∧ s.clocksStopped = false))].all id = true := by decide +kernel

theorem witness_HeadsAreFetched : [
   (let b : BitVec 2 := 0;
   let s : State := sQ QState.fetching;
   let q : Nat := 0;
   let v : Queue := s.queue q;
   decide
     (q / 16384 = b.toNat ∧
       List.filter (fun e ↦ decide (e.fst / 16384 = b.toNat) && s.wantsGrant e.fst e.snd) s.qe.queues = [(q, s.queue q)] ∧
         s.isFenced (Dom.bank b.toNat) = false ∧
           s.Awake (Dom.bank b.toNat) ∧ v.st = QState.fetching ∧ v.head = none ∧ v.sqTail ≠ v.sqHead)),
   (let b : BitVec 2 := 0;
   let s : State := sQ QState.idlePending;
   let q : Nat := 0;
   let v : Queue := s.queue q;
   decide
     (q / 16384 = b.toNat ∧
       List.filter (fun e ↦ decide (e.fst / 16384 = b.toNat) && s.wantsGrant e.fst e.snd) s.qe.queues = [(q, s.queue q)] ∧
         s.isFenced (Dom.bank b.toNat) = false ∧ s.Awake (Dom.bank b.toNat) ∧ v.st = QState.idlePending)),
   (let b : BitVec 2 := 0;
   let s : State := st7;
   let q : Nat := 0;
   let v : Queue := s.queue q;
   decide
     (q / 16384 = b.toNat ∧
       List.filter (fun e ↦ decide (e.fst / 16384 = b.toNat) && s.wantsGrant e.fst e.snd) s.qe.queues = [(q, s.queue q)] ∧
         s.isFenced (Dom.bank b.toNat) = false ∧
           s.Awake (Dom.bank b.toNat) ∧ v.st = QState.fetching ∧ v.head = none ∧ v.sqTail = v.sqHead)),
   (let b : BitVec 2 := 0;
   let s : State := st8;
   let q : Nat := 0;
   let v : Queue := s.queue q;
   let h : Head := (s.queue 0).head.getD (hd 0);
   decide
     (q / 16384 = b.toNat ∧
       List.filter (fun e ↦ decide (e.fst / 16384 = b.toNat) && s.wantsGrant e.fst e.snd) s.qe.queues = [(q, s.queue q)] ∧
         s.isFenced (Dom.bank b.toNat) = false ∧
           s.Awake (Dom.bank b.toNat) ∧ v.st = QState.fetching ∧ v.head = some h ∧ h.preset = none)),
   (let b : BitVec 2 := 0;
   let s : State := st9;
   let q : Nat := 0;
   let v : Queue := s.queue q;
   let h : Head := (s.queue 0).head.getD (hd 0);
   let st : Nat := 3;
   decide
     (q / 16384 = b.toNat ∧
       List.filter (fun e ↦ decide (e.fst / 16384 = b.toNat) && s.wantsGrant e.fst e.snd) s.qe.queues = [(q, s.queue q)] ∧
         s.isFenced (Dom.bank b.toNat) = false ∧
           s.Awake (Dom.bank b.toNat) ∧ v.st = QState.fetching ∧ v.head = some h ∧ h.preset = some st)),
   (let q : BitVec 16 := 0;
   let s : State := st10;
   let v : Queue := s.queue q.toNat;
   decide (v.reading = true ∧ v.st = QState.fetching)),
   (let q : Nat := 0;
   let t : State := sQ QState.fetching;
   let v : Queue := t.queue q;
   decide (v.staleRetries < 8)),
   (let q : Nat := 0;
   let t : State :=
     withQueue
       (let __src : Queue := qRun;
       { sqBase := __src.sqBase, cqBase := __src.cqBase, tailShadow := __src.tailShadow, cfg := __src.cfg,
         cqHead := __src.cqHead, cqTail := __src.cqTail, sqHead := __src.sqHead, sqTail := __src.sqTail, staleRetries := 8,
         lastStatus := __src.lastStatus, dbPending := __src.dbPending, st := __src.st, cqPhase := __src.cqPhase,
         sqGen := __src.sqGen, waitValue := __src.waitValue, waitStart := __src.waitStart, waitKind := __src.waitKind,
         waitIndex := __src.waitIndex, waitSeq := __src.waitSeq, head := __src.head, reading := __src.reading,
         staleDue := __src.staleDue, partialTail := __src.partialTail, reserved := __src.reserved,
         deferred := __src.deferred, coalCount := __src.coalCount, coalDue := __src.coalDue });
   let v : Queue := t.queue q;
   decide (8 ≤ v.staleRetries)),
   (let q : BitVec 16 := 0;
   let s : State := st13;
   let v : Queue := s.queue q.toNat;
   decide (v.staleDue ≠ none ∧ v.st = QState.fetching ∧ s.ctxHeld v.ctx = false))].all id = true := by decide +kernel

theorem witness_CompletionsAndTimers : [
   (let id : Nat := 0;
   let s : State := sWork (dsc 0) WorkPhase.ended;
   let w : Work := wk (dsc 0) WorkPhase.ended;
   decide
     (s.work? id = some w ∧ w.phase = WorkPhase.ended ∧ s.isQuiesced id = false ∧ (s.postedOf (Waiter.work id)).fst = 0)),
   (let q : BitVec 16 := 0;
   let s : State := st15;
   let e : CqEntry := ent;
   let rest : List CqEntry := [];
   decide ((s.queue q.toNat).deferred = e :: rest ∧ 0 < (s.queue q.toNat).room)),
   (let q : Nat := 0;
   let place : Nat := 0;
   let p : Posted := { who := Waiter.entry 0 0, n := 1, failed := none };
   let s : State := st20;
   let w : Waiter := Waiter.entry q place;
   decide (List.find? (fun p ↦ decide (p.who = w)) s.sf.posted = some p ∧ p.n ≠ 0)),
   (let q : Nat := 0;
   let place : Nat := 0;
   let p : Posted := { who := Waiter.entry 0 0, n := 0, failed := none };
   let s : State := st21;
   let w : Waiter := Waiter.entry q place;
   decide (List.find? (fun p ↦ decide (p.who = w)) s.sf.posted = some p ∧ p.n = 0 ∧ p.failed = none)),
   (let q : Nat := 0;
   let place : Nat := 0;
   let p : Posted := { who := Waiter.entry 0 0, n := 0, failed := some 3 };
   let s : State := st22;
   let w : Waiter := Waiter.entry q place;
   decide (List.find? (fun p ↦ decide (p.who = w)) s.sf.posted = some p ∧ p.n = 0 ∧ p.failed ≠ none)),
   (let q : BitVec 16 := 0;
   let s : State := st16;
   let v : Queue := s.queue q.toNat;
   decide (v.coalDue ≠ none ∧ s.queueFenced q.toNat = false ∧ v.irqEn = false)),
   (let q : BitVec 16 := 0;
   let s : State := st17;
   let v : Queue := s.queue q.toNat;
   decide (v.coalDue ≠ none ∧ s.queueFenced q.toNat = false ∧ v.irqEn = true)),
   (let s : State := sWork (dsc 0) WorkPhase.ended;
   decide (s.regBits Reg.QE_CTRL 63 48 = 0 ∨ s.boot.loaded = false)),
   (let s : State := st18;
   let q : Nat := 0;
   decide
     (s.regBits Reg.QE_CTRL 63 48 ≠ 0 ∧
       s.rp.replaying = false ∧
         s.boot.loaded = true ∧
           List.filter (fun e ↦ s.overdue e.snd && !s.isFenced (Dom.bank (e.fst / 16384))) s.qe.queues = [(q, s.queue q)] ∧
             s.walkFrom q 16 q [q] = none))].all id = true := by decide +kernel

theorem witness_CountersAndHandleTables : [
   (let s : State := on;
   let event : Bool := s.regBit Reg.QE_SEL 30;
   let i : Nat := s.regBits Reg.QE_SEL 29 16;
   decide (s.OpenReg Reg.QE_CTR_VALUE ∧ s.OpenReg Reg.QE_CTR_CFG ∧ s.ctrFenced i = false ∧ event = false)),
   (let s : State := on;
   let i : Nat := s.regBits Reg.QE_SEL 29 16;
   decide
     (s.OpenReg Reg.QE_CTR_VALUE ∧
       s.OpenReg Reg.QE_CTR_CFG ∧ s.ctrFenced i = false ∧ ∀ (e : Nat × Queue), e ∈ s.qe.queues → e.snd.st ≠ QState.waiting)),
   (let s : State := st23;
   let event : Bool := s.regBit Reg.QE_SEL 30;
   let i : Nat := s.regBits Reg.QE_SEL 29 16;
   decide (s.OpenReg Reg.QE_CTR_VALUE ∧ s.OpenReg Reg.QE_CTR_CFG ∧ s.ctrFenced i = false ∧ event = true)),
   (let s : State := sFenced on;
   let i : Nat := s.regBits Reg.QE_SEL 29 16;
   decide (s.OpenReg Reg.QE_CTR_VALUE ∧ s.OpenReg Reg.QE_CTR_CFG ∧ s.ctrFenced i = true)),
   (let h : Half := Half.full;
   let v : Word := 5;
   let s : State := on;
   let c : Nat := s.regBits Reg.QE_SEL 43 32;
   let old : Word := Map.getD 0 c s.qe.htab;
   let new : Word := mergeHalf h old v &&& fieldMask 63 16;
   decide (s.OpenReg Reg.QE_CTX_HTAB ∧ (new ≠ old ∨ bit (halfValue h v) 0 = true))),
   (let s : State := st25;
   let c : Nat := s.regBits Reg.QE_SEL 43 32;
   let x : Work := wk (dsc 0) WorkPhase.running;
   decide (s.OpenReg Reg.QE_CTX_HTAB ∧ x ∈ s.qe.works ∧ x.ctx ≠ c)),
   (let h : Half := Half.full;
   let v : Word := 4096;
   let s : State := on;
   let c : Nat := s.regBits Reg.QE_SEL 43 32;
   let old : Word := Map.getD 0 c s.qe.htab;
   let new : Word := mergeHalf h old v &&& fieldMask 63 16;
   decide (s.OpenReg Reg.QE_CTX_HTAB ∧ new = old ∧ bit (halfValue h v) 0 = false))].all id = true := by decide +kernel

theorem witness_EngineOperations : [
   (let op : Nat := 0;
   let q : BitVec 16 := 0;
   let s : State := sHead (dsc 0);
   let h : Head := (s.queue 0).head.getD (hd 0);
   decide (s.headFor q.toNat op = some h)),
   (let q : BitVec 16 := 0;
   let s : State := sHead (dsc 32);
   let h : Head := (s.queue 0).head.getD (hd 0);
   decide (s.headFor q.toNat 32 = some h))].all id = true := by decide +kernel

theorem witness_EngineOperations_mem : let op : Nat := 0;
   let c : BitVec 16 → Instr := Instr.nop;
   let f : Who → Work → M Word := runNop;
   (op, c, f) ∈
     [(0, Instr.nop, runNop), (1, Instr.copy, runCopy), (2, Instr.fill, runFill), (3, Instr.writeInline, runWriteInline),
       (4, Instr.handleUpdate, runHandleUpdate)] := by simp

theorem witness_LaunchesAndReports : [
   (let q : BitVec 16 := 0;
   let s : State := sHead (dsc 5);
   let h : Head := (s.queue 0).head.getD (hd 0);
   decide (s.headFor q.toNat 5 = some h ∧ launchBad h.desc = false ∧ patchPoints h.desc = [])),
   (let q : BitVec 16 := 0;
   let s : State := sHead (dsc 5 (2 ^ 352));
   let h : Head := (s.queue 0).head.getD (hd 0);
   decide (s.headFor q.toNat 5 = some h ∧ launchBad h.desc = true)),
   (let q : BitVec 16 := 0;
   let s : State := sHead dPatch;
   let h : Head := (s.queue 0).head.getD (hd 0);
   decide (s.headFor q.toNat 5 = some h ∧ launchBad h.desc = false ∧ patchPoints h.desc ≠ [])),
   (let w : Work := wk dPatch WorkPhase.running;
   decide (launchBad w.desc = false ∧ patchPoints w.desc ≠ [] ∧ w.count ≠ 1)),
   (let w : Work :=
     let __src : Work := wk dPatch WorkPhase.running;
     { id := __src.id, q := __src.q, ctx := __src.ctx, fn := __src.fn, desc := __src.desc, htab := __src.htab,
       kept := __src.kept, phase := __src.phase, status := __src.status, result := __src.result, noSig := __src.noSig,
       buffer := __src.buffer, pages := __src.pages, count := 1, next := __src.next, total := __src.total,
       acc := __src.acc };
   let t : State := sWork dPatch WorkPhase.running;
   decide (launchBad w.desc = false ∧ patchPoints w.desc ≠ [] ∧ w.count = 1 ∧ t.postedOf (Waiter.work w.id) = (0, none))),
   (let w : Work :=
     let __src : Work := wk dPatch WorkPhase.running;
     { id := __src.id, q := __src.q, ctx := __src.ctx, fn := __src.fn, desc := __src.desc, htab := __src.htab,
       kept := __src.kept, phase := __src.phase, status := __src.status, result := __src.result, noSig := __src.noSig,
       buffer := __src.buffer, pages := __src.pages, count := 1, next := __src.next, total := __src.total,
       acc := __src.acc };
   let t : State :=
     State.modSf
       (fun f ↦
         { entries := f.entries, plru := f.plru, waysOff := f.waysOff, wayFlush := f.wayFlush, wayTimes := f.wayTimes,
           txns := f.txns, got := f.got, put := f.put, posted := [{ who := Waiter.work 0, n := 0, failed := some 3 }],
           credits := f.credits, held := f.held, far := f.far, pred := f.pred, hostAsks := f.hostAsks,
           conflicts := f.conflicts, backs := f.backs, late := f.late, tables := f.tables, turns := f.turns,
           flushing := f.flushing })
       (sWork dPatch WorkPhase.running);
   let st : Nat := 3;
   decide (launchBad w.desc = false ∧ patchPoints w.desc ≠ [] ∧ w.count = 1 ∧ t.postedOf (Waiter.work w.id) = (0, some st))),
   (let g : BitVec 4 := 0;
   let s : State := st27;
   let id : Nat := 0;
   let rest : List Nat := [];
   let w : Work := wk (dsc 5) WorkPhase.offered;
   decide (Map.getD [] g.toNat s.qe.offers = id :: rest ∧ s.work? id = some w ∧ rest = [])),
   (let g : BitVec 4 := 0;
   let s : State := st28;
   let id : Nat := 0;
   let rest : List Nat := [1];
   let w : Work := wk (dsc 5) WorkPhase.offered;
   let t : State :=
     State.setWork
       { id := w.id, q := w.q, ctx := w.ctx, fn := w.fn, desc := w.desc, htab := w.htab, kept := w.kept,
         phase := WorkPhase.taken, status := w.status, result := w.result, noSig := w.noSig, buffer := w.buffer,
         pages := w.pages, count := w.count, next := w.next, total := w.total, acc := w.acc }
       (State.modQe
         (fun e ↦
           { queues := e.queues, fences := e.fences, events := e.events, htab := e.htab, handles := e.handles,
             dbPages := e.dbPages, works := e.works, nextWork := e.nextWork, waitSeq := e.waitSeq, shadows := e.shadows,
             offers := Map.put [] g.toNat rest e.offers, dispatched := e.dispatched ++ [id], wrrCredit := e.wrrCredit,
             wrrLast := e.wrrLast, qcmdBusy := e.qcmdBusy, qcmdRefused := e.qcmdRefused })
         s);
   let x : Work :=
     let __src : Work := wk (dsc 5) WorkPhase.offered;
     { id := 1, q := __src.q, ctx := __src.ctx, fn := __src.fn, desc := __src.desc, htab := __src.htab, kept := __src.kept,
       phase := __src.phase, status := __src.status, result := __src.result, noSig := __src.noSig, buffer := __src.buffer,
       pages := __src.pages, count := __src.count, next := __src.next, total := __src.total, acc := __src.acc };
   decide (Map.getD [] g.toNat s.qe.offers = id :: rest ∧ s.work? id = some w ∧ List.findSome? t.work? rest = some x)),
   (let page : BitVec 10 := 0;
   let i : BitVec 6 := 0;
   let value : Word := 4294967296;
   let s : State := st29;
   let w : Work := wk (dsc 5) WorkPhase.taken;
   let q : Nat := 64 * page.toNat + i.toNat;
   decide
     (s.Open (Dom.bank (page.toNat / 256)) ∧
       s.rp.recording = false ∧
         s.rp.replaying = false ∧
           List.find? (fun w ↦ decide (w.phase = WorkPhase.taken) && decide (dCmdId w.desc = bits value 15 0))
                 (s.dispatches q) =
               some w ∧
             s.work? w.id = some w))].all id = true := by decide +kernel

theorem witness_GazelleOperations : [
   (let op : Nat := 16;
   let q : BitVec 16 := 0;
   let s : State := sHead (dsc 16);
   let h : Head := (s.queue 0).head.getD (hd 0);
   decide (s.headFor q.toNat op = some h)),
   (let u : Nat := 0;
   let s : State := sHead (dsc 16);
   decide (s.gzIdle u = true ∧ s.gzUsable u = true ∧ s.gz.rws = [] ∧ s.gz.unitWait = [])),
   (let u : Fin 8 := 0;
   let s : State := sGz;
   let c : Nat := 2;
   let p : GzPiece := (s.nextPiece 0).getD gzP;
   decide
     (s.Open (Dom.gazelle ↑u) ∧
       (∀ (x : Parked), x ∈ s.pm.waits → x.cmd ≠ Instr.pieceDispatch u) ∧
         s.gzNext ↑u = some (c, State.GzJob.piece p) ∧ p.runs = 0)),
   (let u : Fin 8 := 0;
   let s : State := sRedo;
   let c : Nat := 2;
   let p : GzPiece := (s.nextPiece 0).getD gzP;
   decide
     (s.Open (Dom.gazelle ↑u) ∧
       (∀ (x : Parked), x ∈ s.pm.waits → x.cmd ≠ Instr.pieceDispatch u) ∧
         s.gzNext ↑u = some (c, State.GzJob.piece p) ∧ p.runs ≠ 0)),
   (let u : Fin 8 := 0;
   let s : State := sPiece;
   let p : GzPiece := gzP;
   let w : Work := gzW 16;
   let r : GzOut := gzOut0;
   decide
     (List.find? (fun x ↦ decide (x.unit = ↑u)) s.gz.running = some p ∧
       s.work? p.work = some w ∧ p.issued = false ∧ p.out = some r)),
   (let u : Fin 8 := 0;
   let s : State := sPieceX;
   let p : GzPiece :=
     let __src : GzPiece := gzP;
     { work := __src.work, idx := __src.idx, unit := __src.unit, runs := __src.runs, out := __src.out,
       ending := __src.ending, issued := true };
   let w : Work := gzW 16;
   decide (List.find? (fun x ↦ decide (x.unit = ↑u)) s.gz.running = some p ∧ s.work? p.work = some w ∧ p.issued = true)),
   (let u : Fin 8 := 0;
   let s : State := sPieceN;
   let p : GzPiece :=
     let __src : GzPiece := gzP;
     { work := __src.work, idx := __src.idx, unit := __src.unit, runs := __src.runs, out := none, ending := __src.ending,
       issued := __src.issued };
   let w : Work := gzW 16;
   decide
     (List.find? (fun x ↦ decide (x.unit = ↑u)) s.gz.running = some p ∧
       s.work? p.work = some w ∧ p.issued = false ∧ p.out = none)),
   (let p : GzPiece := gzP;
   let r : GzOut := gzOut0;
   let t : State := sPiece;
   decide (p.out = some r ∧ t.postedOf (Waiter.piece p.work p.idx) = (0, none))),
   (let p : GzPiece := gzP;
   let r : GzOut := gzOut0;
   let t : State := sPosted (Waiter.piece 0 0) 0 (some 3) sPiece;
   let st : Nat := 3;
   decide (p.out = some r ∧ t.postedOf (Waiter.piece p.work p.idx) = (0, some st)))].all id = true := by decide +kernel

theorem witness_GazelleOperations_2 : [
   (let p : GzPiece := gzP;
   let r : GzOut := gzOut0;
   let t : State := sPosted (Waiter.piece 0 0) 1 none sPiece;
   decide (p.out = some r ∧ (t.postedOf (Waiter.piece p.work p.idx)).fst ≠ 0)),
   (let u : Fin 8 := 0;
   let s : State := sRw;
   let r : RedWrite := rw0;
   let begun : Option RedWrite := List.find? (fun x ↦ decide (x.unit = ↑u ∧ x.done = none) && x.begun) s.gz.rws;
   decide (s.Open (Dom.gazelle ↑u) ∧ (∀ (x : Parked), x ∈ s.pm.waits → x.cmd ≠ Instr.reduceWriteApply u) ∧ begun = some r)),
   (let u : Fin 8 := 0;
   let s : State := sRw1;
   let r : RedWrite := rw1;
   let begun : Option RedWrite := List.find? (fun x ↦ decide (x.unit = ↑u ∧ x.done = none) && x.begun) s.gz.rws;
   let c : Nat := 0;
   decide
     (s.Open (Dom.gazelle ↑u) ∧
       (∀ (x : Parked), x ∈ s.pm.waits → x.cmd ≠ Instr.reduceWriteApply u) ∧
         begun = none ∧ s.gzNext ↑u = some (c, State.GzJob.reduceWrite) ∧ s.nextRw ↑u = some r)),
   (let r : RedWrite := rw0;
   let bs : List Byte := [5, 0, 0, 0];
   decide (r.issued = false ∧ r.out = some bs)),
   (let r : RedWrite := rw1;
   decide (r.issued = false ∧ r.out = none)),
   (let r : RedWrite :=
     let __src : RedWrite := rw0;
     { id := __src.id, unit := __src.unit, node := __src.node, flow := __src.flow, seq := __src.seq, addr := __src.addr,
       fmt := __src.fmt, data := __src.data, poison := __src.poison, runs := __src.runs, begun := __src.begun,
       out := __src.out, issued := true, done := __src.done };
   decide (r.issued = true))].all id = true := by decide +kernel

theorem witness_GazelleOperations_mem : let op : Nat := 16;
   let c : BitVec 16 → Instr := Instr.convert;
   (op, c) ∈ [(16, Instr.convert), (17, Instr.reduce)] := by simp

theorem witness_GazelleOperations_mem2 : let op : Nat := 18;
   let c : BitVec 16 → Instr := Instr.yxpCompress;
   let f : Who → Work → M Word := State.runYxpCompress;
   (op, c, f) ∈ [(18, Instr.yxpCompress, State.runYxpCompress), (19, Instr.yxpDecompress, State.runYxpDecompress)] := by simp

theorem witness_IbexPages : [
   (let id : Nat := 0;
   let s : State := sMvA mvU;
   let m : Move := mvU;
   decide (s.move? id = some m ∧ m.running = true ∧ (m.cursor < m.upTo ∨ m.total ≤ m.cursor))),
   (let id : Nat := 0;
   let s : State := sMv MoveKind.demote;
   let m : Move := mv0 MoveKind.demote;
   decide (s.move? id = some m ∧ m.running = true ∧ m.upTo ≤ m.cursor ∧ m.cursor < m.total)),
   (let kind : MoveKind := MoveKind.demote;
   let page : Nat := 0;
   let s : State := sMvA mvU;
   let m : Move := mvU;
   let conv : Bool :=
     match m.mode with
     | MoveMode.out profile => true
     | MoveMode.back profile => true
     | x => false;
   decide
     (s.IbexReady ∧
       s.ibMove? page = some m ∧
         s.move? m.id = some m ∧ m.kind = kind ∧ m.running = true ∧ (conv = false ∨ m.total ≤ m.cursor))),
   (let kind : MoveKind := MoveKind.demote;
   let page : Nat := 0;
   let s : State := sMvA (mvX MoveKind.demote);
   let m : Move := mvX MoveKind.demote;
   let conv : Bool :=
     match m.mode with
     | MoveMode.out profile => true
     | MoveMode.back profile => true
     | x => false;
   decide
     (s.IbexReady ∧
       s.ibMove? page = some m ∧
         s.move? m.id = some m ∧ m.kind = kind ∧ m.running = true ∧ conv = true ∧ m.cursor < m.total)),
   (let id : Nat := 0;
   let t : State := sMvA (mvE MoveKind.demote);
   let m : Move := mvE MoveKind.demote;
   decide
     (t.move? id = some m ∧ m.running = true ∧ State.moveOver m = true ∧ t.moveIdle id = true ∧ m.kind = MoveKind.demote)),
   (let id : Nat := 0;
   let t : State := sMvA (mvE MoveKind.fetch);
   let m : Move := mvE MoveKind.fetch;
   decide
     (t.move? id = some m ∧ m.running = true ∧ State.moveOver m = true ∧ t.moveIdle id = true ∧ m.kind = MoveKind.fetch)),
   (let id : Nat := 0;
   let t : State := sMvA (mvE MoveKind.evac);
   let m : Move := mvE MoveKind.evac;
   decide
     (t.move? id = some m ∧ m.running = true ∧ State.moveOver m = true ∧ t.moveIdle id = true ∧ m.kind = MoveKind.evac)),
   (let id : Nat := 0;
   let t : State := sMvA (mvE MoveKind.promote);
   let m : Move := mvE MoveKind.promote;
   decide
     (t.move? id = some m ∧ m.running = true ∧ State.moveOver m = true ∧ t.moveIdle id = true ∧ State.isIbexMove m = false)),
   (let m : Move := mvU;
   let t : State := on;
   decide (m.fails < 2 ∧ (m.aborted = true ∨ t.pgRefs m.page = 0 ∨ t.heldByRunning m.page = true)))].all id = true := by decide +kernel

theorem witness_IbexPages_2 : [
   (let m : Move := mvU;
   let t : State := State.setPageBits 0 49 32 1 (sReq bq State.WAITING);
   decide
     (m.fails < 2 ∧ m.aborted = false ∧ t.pgRefs m.page ≠ 0 ∧ t.heldByRunning m.page = false ∧ m.mode = MoveMode.lines)),
   (let m : Move := mvU;
   decide (m.fails < 2 ∧ m.corrupt = false)),
   (let s : State := st31;
   decide ((s.bt.serving = true ∨ s.ib.active = true) ∧ Map.rising s.pm.doms = true)),
   (let h : Half := Half.full;
   let v : Word := 0;
   let s : State := sMvA mvU;
   let t : State := State.storeReg Reg.IB_CTRL h v s;
   decide (s.OpenReg Reg.IB_CTRL ∧ s.regBit Reg.IB_CTRL 0 = t.regBit Reg.IB_CTRL 0)),
   (let h : Half := Half.full;
   let v : Word := 0;
   let s : State := State.setReg Reg.IB_CTRL 1 on;
   let t : State := State.storeReg Reg.IB_CTRL h v s;
   decide (s.OpenReg Reg.IB_CTRL ∧ s.regBit Reg.IB_CTRL 0 = true ∧ t.regBit Reg.IB_CTRL 0 = false)),
   (let h : Half := Half.full;
   let v : Word := 1;
   let s : State := sMvA mvU;
   let t : State := State.storeReg Reg.IB_CTRL h v s;
   decide (s.OpenReg Reg.IB_CTRL ∧ s.regBit Reg.IB_CTRL 0 = false ∧ t.regBit Reg.IB_CTRL 0 = true ∧ t.ibConfigOk = false)),
   (let h : Half := Half.full;
   let v : Word := 131329;
   let s : State := sMvA mvU;
   let t : State := State.storeReg Reg.IB_CTRL h v s;
   decide (s.OpenReg Reg.IB_CTRL ∧ s.regBit Reg.IB_CTRL 0 = false ∧ t.regBit Reg.IB_CTRL 0 = true ∧ t.ibConfigOk = true)),
   (let t : State :=
     State.modIb
       (fun i ↦
         { active := i.active, cfgError := i.cfgError, growth := i.growth, spare := i.spare, admitted := i.admitted,
           nextAdmit := i.nextAdmit, reclaiming := i.reclaiming, starting := true, fresh := false })
       (sTab on);
   decide (t.heldLines t.ibTables = [] ∧ t.ib.starting = true ∧ t.ib.fresh = false)),
   (let t : State := sHas 16384 (sf0 SfSt.excl 0) (sTab on);
   decide (t.heldLines t.ibTables ≠ []))].all id = true := by decide +kernel

theorem witness_IbexPages_mem : let kind : MoveKind := MoveKind.demote;
   let c : Nat → Instr := Instr.pageDemoteDone;
   (kind, c) ∈ [(MoveKind.demote, Instr.pageDemoteDone), (MoveKind.fetch, Instr.pageFetchDone)] := by simp

theorem witness_ServingDescriptors : [
   (let q : BitVec 16 := 0;
   let s : State := sHead (dsc 48);
   let h : Head := (s.queue 0).head.getD (hd 0);
   let w : Work := s.newWork q.toNat h WorkPhase.running 0;
   let b : State := State.takeHead q.toNat h WorkPhase.running 0 s;
   let d : Desc := h.desc;
   let on : Prop := descNat d 49 1 % 2 = 1;
   decide (s.IbexReady ∧ s.headFor q.toNat 48 = some h ∧ b.isFenced Dom.ibex = false ∧ w.fn = 0 ∧ ¬on ∧ b.bt.reqs = [])),
   (let q : BitVec 16 := 0;
   let s : State := st32;
   let h : Head := (s.queue 0).head.getD (hd 0);
   let b : State := State.takeHead q.toNat h WorkPhase.running 0 s;
   decide (s.IbexReady ∧ s.headFor q.toNat 48 = some h ∧ b.isFenced Dom.ibex = true)),
   (let q : BitVec 16 := 0;
   let s : State := sServing;
   let h : Head := (s.queue 0).head.getD (hd 0);
   let w : Work := s.newWork q.toNat h WorkPhase.running 0;
   let b : State := State.takeHead q.toNat h WorkPhase.running 0 s;
   let d : Desc := h.desc;
   let on : Prop := descNat d 49 1 % 2 = 1;
   decide
     (s.IbexReady ∧
       s.headFor q.toNat 48 = some h ∧
         b.isFenced Dom.ibex = false ∧
           w.fn = 0 ∧
             on ∧
               b.ib.active = true ∧
                 b.bt.serving = false ∧
                   (b.domReady Dom.chamois = true ∨ b.isFenced Dom.chamois = true) ∧ b.serveBad w = false)),
   (let q : BitVec 16 := 0;
   let s : State := sWaitOpen;
   let h : Head := (s.queue 0).head.getD (hd 0);
   let d : Desc := h.desc;
   let v : Queue := s.queue q.toNat;
   let u : State :=
     State.setQueue q.toNat
       (have __src : Queue := v.noWait;
       { sqBase := __src.sqBase, cqBase := __src.cqBase, tailShadow := __src.tailShadow, cfg := __src.cfg,
         cqHead := __src.cqHead, cqTail := __src.cqTail, sqHead := __src.sqHead, sqTail := __src.sqTail,
         staleRetries := __src.staleRetries, lastStatus := __src.lastStatus, dbPending := __src.dbPending,
         st := QState.fetching, cqPhase := __src.cqPhase, sqGen := __src.sqGen, waitValue := __src.waitValue,
         waitStart := __src.waitStart, waitKind := __src.waitKind, waitIndex := __src.waitIndex, waitSeq := __src.waitSeq,
         head := __src.head, reading := __src.reading, staleDue := __src.staleDue, partialTail := __src.partialTail,
         reserved := __src.reserved, deferred := __src.deferred, coalCount := __src.coalCount, coalDue := __src.coalDue })
       s;
   decide
     (s.IbexReady ∧
       v.st = QState.waiting ∧
         v.waitKind = WaitKind.resource ∧ u.headFor q.toNat 49 = some h ∧ u.openCheck v.ctx d = none ∧ u.openRoom = false)),
   (let q : BitVec 16 := 0;
   let s : State := st33;
   let h : Head := (s.queue 0).head.getD (hd 0);
   let w : Work := s.newWork q.toNat h WorkPhase.running 0;
   let b : State := State.takeHead q.toNat h WorkPhase.running 0 s;
   decide (s.IbexReady ∧ s.headFor q.toNat 48 = some h ∧ b.isFenced Dom.ibex = false ∧ w.fn ≠ 0)),
   (let q : BitVec 16 := 0;
   let s : State := st34;
   let h : Head := (s.queue 0).head.getD (hd 0);
   let w : Work := s.newWork q.toNat h WorkPhase.running 0;
   let b : State := State.takeHead q.toNat h WorkPhase.running 0 s;
   let d : Desc := h.desc;
   let on : Prop := descNat d 49 1 % 2 = 1;
   decide
     (s.IbexReady ∧
       s.headFor q.toNat 48 = some h ∧
         b.isFenced Dom.ibex = false ∧ w.fn = 0 ∧ on ∧ (b.ib.active = false ∨ b.bt.serving = true))),
   (let q : BitVec 16 := 0;
   let s : State := st35;
   let h : Head := (s.queue 0).head.getD (hd 0);
   let w : Work := s.newWork q.toNat h WorkPhase.running 0;
   let b : State := State.takeHead q.toNat h WorkPhase.running 0 s;
   let d : Desc := h.desc;
   let on : Prop := descNat d 49 1 % 2 = 1;
   decide
     (s.IbexReady ∧
       s.headFor q.toNat 48 = some h ∧
         b.isFenced Dom.ibex = false ∧
           w.fn = 0 ∧
             on ∧
               b.ib.active = true ∧
                 b.bt.serving = false ∧
                   (b.domReady Dom.chamois = true ∨ b.isFenced Dom.chamois = true) ∧ b.serveBad w = true)),
   (let q : BitVec 16 := 0;
   let s : State := st36;
   let h : Head := (s.queue 0).head.getD (hd 0);
   let w : Work := s.newWork q.toNat h WorkPhase.running 0;
   let b : State := State.takeHead q.toNat h WorkPhase.running 0 s;
   let d : Desc := h.desc;
   let on : Prop := descNat d 49 1 % 2 = 1;
   decide (s.IbexReady ∧ s.headFor q.toNat 48 = some h ∧ b.isFenced Dom.ibex = false ∧ w.fn = 0 ∧ ¬on ∧ b.bt.reqs ≠ [])),
   (let q : BitVec 16 := 0;
   let s : State := sHead (dsc 49);
   let h : Head := (s.queue 0).head.getD (hd 0);
   let w : Work := s.newWork q.toNat h WorkPhase.running 0;
   let d : Desc := h.desc;
   let st : Nat := (s.openCheck (s.queue q.toNat).ctx h.desc).getD 0;
   decide (s.IbexReady ∧ s.headFor q.toNat 49 = some h ∧ s.openCheck w.ctx d = some st))].all id = true := by decide +kernel

theorem witness_ServingDescriptors_2 : [
   (let q : BitVec 16 := 0;
   let s : State := sOpen;
   let h : Head := (s.queue 0).head.getD (hd 0);
   let w : Work := s.newWork q.toNat h WorkPhase.running 0;
   let d : Desc := h.desc;
   decide (s.IbexReady ∧ s.headFor q.toNat 49 = some h ∧ s.openCheck w.ctx d = none ∧ s.openRoom = true)),
   (let q : BitVec 16 := 0;
   let s : State := st39;
   let h : Head := (s.queue 0).head.getD (hd 0);
   let w : Work := s.newWork q.toNat h WorkPhase.running 0;
   let d : Desc := h.desc;
   decide (s.IbexReady ∧ s.headFor q.toNat 49 = some h ∧ s.openCheck w.ctx d = none ∧ s.openRoom = false)),
   (let q : BitVec 16 := 0;
   let s : State := sHead (dsc 50);
   let h : Head := (s.queue 0).head.getD (hd 0);
   let b : State := State.takeHead q.toNat h WorkPhase.running 0 s;
   let d : Desc := h.desc;
   let r : Nat := descNat d 32 4;
   decide (s.IbexReady ∧ s.headFor q.toNat 50 = some h ∧ r ≤ 65535 ∧ descNat d 36 28 = 0 ∧ b.bReq? r = none)),
   (let q : BitVec 16 := 0;
   let s : State := sHead (dsc 50 (2 ^ 272));
   let h : Head := (s.queue 0).head.getD (hd 0);
   let d : Desc := h.desc;
   let r : Nat := descNat d 32 4;
   decide (s.IbexReady ∧ s.headFor q.toNat 50 = some h ∧ (65535 < r ∨ descNat d 36 28 ≠ 0))),
   (let q : BitVec 16 := 0;
   let s : State := st40;
   let h : Head := (s.queue 0).head.getD (hd 0);
   let w : Work := s.newWork q.toNat h WorkPhase.running 0;
   let b : State := State.takeHead q.toNat h WorkPhase.running 0 s;
   let d : Desc := h.desc;
   let r : Nat := descNat d 32 4;
   let x : BReq := (b.bReq? r).getD bq;
   decide
     (s.IbexReady ∧ s.headFor q.toNat 50 = some h ∧ r ≤ 65535 ∧ descNat d 36 28 = 0 ∧ b.bReq? r = some x ∧ x.ctx = w.ctx)),
   (let q : BitVec 16 := 0;
   let s : State := st41;
   let h : Head := (s.queue 0).head.getD (hd 0);
   let w : Work := s.newWork q.toNat h WorkPhase.running 0;
   let b : State := State.takeHead q.toNat h WorkPhase.running 0 s;
   let d : Desc := h.desc;
   let r : Nat := descNat d 32 4;
   let x : BReq := (b.bReq? r).getD bq;
   decide
     (s.IbexReady ∧ s.headFor q.toNat 50 = some h ∧ r ≤ 65535 ∧ descNat d 36 28 = 0 ∧ b.bReq? r = some x ∧ x.ctx ≠ w.ctx)),
   (let q : BitVec 16 := 0;
   let s : State := sHead (dsc 51);
   let h : Head := (s.queue 0).head.getD (hd 0);
   let d : Desc := h.desc;
   let vocab : Nat := descBits d 56 18 0;
   let bad : Prop :=
     vocab < 2 ∨
       262144 < vocab ∨
         2 < descBits d 56 25 24 ∨
           descBits d 56 23 19 ≠ 0 ∨
             descBits d 56 31 26 ≠ 0 ∨ dHandles d = false ∧ (descNat d 32 8 % 64 ≠ 0 ∨ descNat d 40 8 % 16 ≠ 0);
   decide (s.IbexReady ∧ s.headFor q.toNat 51 = some h ∧ bad)),
   (let q : BitVec 16 := 0;
   let s : State := sHead (dsc 51 (2 ^ 449));
   let h : Head := (s.queue 0).head.getD (hd 0);
   let d : Desc := h.desc;
   let vocab : Nat := descBits d 56 18 0;
   let bad : Prop :=
     vocab < 2 ∨
       262144 < vocab ∨
         2 < descBits d 56 25 24 ∨
           descBits d 56 23 19 ≠ 0 ∨
             descBits d 56 31 26 ≠ 0 ∨ dHandles d = false ∧ (descNat d 32 8 % 64 ≠ 0 ∨ descNat d 40 8 % 16 ≠ 0);
   decide (s.IbexReady ∧ s.headFor q.toNat 51 = some h ∧ ¬bad)),
   (let q : BitVec 16 := 0;
   let s : State := sHead (dsc 52);
   let h : Head := (s.queue 0).head.getD (hd 0);
   let b : State := State.takeHead q.toNat h WorkPhase.running 0 s;
   decide (s.IbexReady ∧ s.headFor q.toNat 52 = some h ∧ (b.queue q.toNat).serve = false))].all id = true := by decide +kernel

theorem witness_ServingDescriptors_3 : [
   (let q : BitVec 16 := 0;
   let s : State := st42;
   let h : Head := (s.queue 0).head.getD (hd 0);
   let b : State := State.takeHead q.toNat h WorkPhase.running 0 s;
   let d : Desc := h.desc;
   decide (s.IbexReady ∧ s.headFor q.toNat 52 = some h ∧ (b.queue q.toNat).serve = true ∧ descNat d 50 2 = 0)),
   (let q : BitVec 16 := 0;
   let s : State := st43;
   let h : Head := (s.queue 0).head.getD (hd 0);
   let b : State := State.takeHead q.toNat h WorkPhase.running 0 s;
   let d : Desc := h.desc;
   decide (s.IbexReady ∧ s.headFor q.toNat 52 = some h ∧ (b.queue q.toNat).serve = true ∧ descNat d 50 2 ≠ 0))].all id = true := by decide +kernel

theorem witness_StepsAreBuilt : [
   (let s : State := on;
   decide
     (s.IbexReady ∧
       s.rp.replaying = false ∧
         (s.bt.serving = false ∨ s.bt.step ≠ none ∨ s.ib.active = false ∨ s.isFenced Dom.ibex = true))),
   (let s : State := st44;
   decide
     (s.IbexReady ∧
       s.rp.replaying = false ∧ s.bt.serving = true ∧ s.bt.step = none ∧ s.ib.active = true ∧ s.isFenced Dom.ibex = false))].all id = true := by decide +kernel

theorem witness_RowsAreSampled : [
   (let u : Fin 4 := 0;
   let s : State := sStep;
   let t : Step := step0;
   let row : Nat := 0;
   let rest : List Nat := [];
   decide
     (s.Open (Dom.springbok ↑u) ∧
       (s.sbUnit ↑u).first = none ∧
         s.regBit Reg.SB_CTRL ↑u = true ∧
           (∀ (x : Parked), x ∈ s.pm.waits → x.cmd ≠ Instr.rowHandout u) ∧
             s.bt.step = some t ∧ t.done = true ∧ t.rows = row :: rest ∧ s.bt.samples = [])),
   (let u : Fin 4 := 0;
   let s : State := st48;
   let t : Step := step0;
   let row : Nat := 0;
   let rest : List Nat := [];
   decide
     (s.Open (Dom.springbok ↑u) ∧
       (s.sbUnit ↑u).first = none ∧
         s.regBit Reg.SB_CTRL ↑u = true ∧
           (∀ (x : Parked), x ∈ s.pm.waits → x.cmd ≠ Instr.rowHandout u) ∧
             s.bt.step = some t ∧ t.done = true ∧ t.rows = row :: rest ∧ s.bt.samples ≠ [] ∧ s.bt.turn < 7)),
   (let u : Fin 4 := 0;
   let s : State := st49;
   let t : Step := step0;
   let row : Nat := 0;
   let rest : List Nat := [];
   let w : Nat := 0;
   let ws : List Nat := [];
   decide
     (s.Open (Dom.springbok ↑u) ∧
       (s.sbUnit ↑u).first = none ∧
         s.regBit Reg.SB_CTRL ↑u = true ∧
           (∀ (x : Parked), x ∈ s.pm.waits → x.cmd ≠ Instr.rowHandout u) ∧
             s.bt.step = some t ∧ t.done = true ∧ t.rows = row :: rest ∧ s.bt.samples = w :: ws ∧ 7 ≤ s.bt.turn)),
   (let u : Fin 4 := 0;
   let s : State := st50;
   let w : Nat := 0;
   let ws : List Nat := [];
   decide
     (s.Open (Dom.springbok ↑u) ∧
       (s.sbUnit ↑u).first = none ∧
         s.regBit Reg.SB_CTRL ↑u = true ∧
           (∀ (x : Parked), x ∈ s.pm.waits → x.cmd ≠ Instr.rowHandout u) ∧ s.bt.step = none ∧ s.bt.samples = w :: ws)),
   (let u : Fin 4 := 0;
   let s : State := st51;
   let j : RowJob := RowJob.serve 0;
   decide ((s.sbUnit ↑u).first = some j ∧ (s.sbUnit ↑u).second = none)),
   (let u : Fin 4 := 0;
   let s : State := sSample;
   let id : Nat := 0;
   let w : Work := wk (dsc 51 (4 * 2 ^ 448)) WorkPhase.running;
   decide
     (s.IbexReady ∧ (s.sbUnit ↑u).second = some (RowJob.sample id) ∧ s.work? id = some w ∧ w.phase = WorkPhase.running)),
   (let u : Fin 4 := 0;
   let s : State := sRow;
   let row : Nat := 0;
   let t : Step := step0;
   let e : StepEnt := ent0;
   let b : BReq := bq;
   decide
     (s.IbexReady ∧
       (s.sbUnit ↑u).second = some (RowJob.serve row) ∧
         s.bt.step = some t ∧
           List.find? (fun e ↦ e.sample && decide (e.row = row)) t.ents = some e ∧ s.bReq? e.r = some b ∧ b.seq = e.seq)),
   (let src : Nat := 0;
   let b : Bool := true;
   let t : State := on;
   decide (t.rp.replaying = false ∧ t.forcedSeed src b = none))].all id = true := by decide +kernel

theorem witness_TokensAndCloses : [
   (let r : BitVec 16 := 0;
   let s : State := st52;
   let b : BReq := (s.bReq? 0).getD bq;
   let t : TokRec := tok0;
   let rest : List TokRec := [];
   decide
     (s.IbexReady ∧
       s.bReq? r.toNat = some b ∧
         b.recs = t :: rest ∧
           b.parked = false ∧ b.closing = none ∧ State.ringFull b = false ∧ (s.postedOf (Waiter.token r.toNat)).fst ≠ 0)),
   (let r : BitVec 16 := 0;
   let s : State := st53;
   let b : BReq := (s.bReq? 0).getD bq;
   let t : TokRec := tok0;
   let rest : List TokRec := [];
   let st : Nat := 3;
   decide
     (s.IbexReady ∧
       s.bReq? r.toNat = some b ∧
         b.recs = t :: rest ∧
           b.parked = false ∧
             b.closing = none ∧ State.ringFull b = false ∧ s.postedOf (Waiter.token r.toNat) = (0, some st))),
   (let r : BitVec 16 := 0;
   let s : State := st54;
   let b : BReq := (s.bReq? 0).getD bq;
   let t : TokRec := tok0;
   let rest : List TokRec := [];
   decide
     (s.IbexReady ∧
       s.bReq? r.toNat = some b ∧
         b.recs = t :: rest ∧
           b.parked = false ∧
             b.closing = none ∧ State.ringFull b = false ∧ s.postedOf (Waiter.token r.toNat) = (0, none) ∧ b.stage = 1)),
   (let r : BitVec 16 := 0;
   let s : State := st55;
   let b : BReq := (s.bReq? 0).getD bq;
   let t : TokRec := tok0;
   let rest : List TokRec := [];
   decide
     (s.IbexReady ∧
       s.bReq? r.toNat = some b ∧
         b.recs = t :: rest ∧
           b.parked = false ∧
             b.closing = none ∧ State.ringFull b = false ∧ s.postedOf (Waiter.token r.toNat) = (0, none) ∧ b.stage = 2)),
   (let r : BitVec 16 := 0;
   let s : State := st59;
   let b : BReq := (s.bReq? 0).getD bq;
   let t : TokRec := tok0;
   let rest : List TokRec := [];
   decide
     (s.IbexReady ∧
       s.bReq? r.toNat = some b ∧
         b.recs = t :: rest ∧
           b.parked = false ∧
             b.closing = none ∧ State.ringFull b = false ∧ s.postedOf (Waiter.token r.toNat) = (0, none) ∧ b.stage = 0)),
   (let r : BitVec 16 := 0;
   let s : State := st52;
   let b : BReq := (s.bReq? 0).getD bq;
   decide (s.IbexReady ∧ s.bReq? r.toNat = some b ∧ b.parked = false ∧ b.closing = none ∧ b.reading = true)),
   (let r : BitVec 16 := 0;
   let s : State := st62;
   let b : BReq := (s.bReq? 0).getD bq;
   decide (s.IbexReady ∧ s.bReq? r.toNat = some b ∧ s.rState r.toNat = State.HELD ∧ b.pollDue ≠ none ∧ b.parked = false)),
   (let r : BitVec 16 := 0;
   let s : State := st56;
   let b : BReq := (s.bReq? 0).getD bq;
   let st : Nat := 3;
   let u : State := State.rpEvent 10 0 r.toNat (w64 st ||| fld b.lastEnd 8) (w64 b.total) none s;
   let x : Nat × State := State.signalAt b.desc b.ctx (some b.q) st b.noSig u;
   decide
     (s.IbexReady ∧
       s.bReq? r.toNat = some b ∧
         b.closing = some st ∧
           b.work = none ∧ (x.snd.queue b.q).st ≠ QState.disabled ∧ (dQuiet b.desc = false ∨ x.fst ≠ 0))),
   (let r : BitVec 16 := 0;
   let s : State := st58;
   let b : BReq := (s.bReq? 0).getD bq;
   let st : Nat := 3;
   let u : State := State.rpEvent 10 0 r.toNat (w64 st ||| fld b.lastEnd 8) (w64 b.total) none s;
   let x : Nat × State := State.signalAt b.desc b.ctx (some b.q) st b.noSig u;
   decide
     (s.IbexReady ∧
       s.bReq? r.toNat = some b ∧
         b.closing = some st ∧ b.work = none ∧ ((x.snd.queue b.q).st = QState.disabled ∨ dQuiet b.desc = true ∧ x.fst = 0)))].all id = true := by decide +kernel

theorem witness_TokensAndCloses_2 : [
   (let r : BitVec 16 := 0;
   let s : State := st63;
   let b : BReq := (s.bReq? 0).getD bq;
   let st : Nat := 3;
   let id : Nat := 0;
   decide (s.IbexReady ∧ s.bReq? r.toNat = some b ∧ b.closing = some st ∧ b.work = some id)),
   (let r : BitVec 16 := 0;
   let s : State := st52;
   let b : BReq := (s.bReq? 0).getD bq;
   decide (s.IbexReady ∧ s.bReq? r.toNat = some b ∧ b.deadline ≠ 0 ∧ s.rp.replaying = false)),
   (let r : Nat := 0;
   let st : Nat := 3;
   let s : State := st52;
   let u : State :=
     State.updBReq r
       (fun b ↦
         { ctx := b.ctx, fn := b.fn, q := b.q, work := b.work, desc := b.desc, noSig := b.noSig, ring := b.ring,
           headAddr := b.headAddr, ringShift := b.ringShift, deadline := b.deadline, arrival := b.arrival, seq := b.seq,
           maxNew := b.maxNew, gen := b.gen, hist := b.hist, init := b.init, last := b.last, written := b.written,
           total := b.total, lastHead := b.lastHead, phase := b.phase, recs := b.recs, lastEnd := b.lastEnd,
           stage := b.stage, reading := b.reading, pollDue := b.pollDue, bypass := b.bypass, bypassAt := b.bypassAt,
           ending := b.ending.orElse fun x ↦ some st, closing := b.closing, parked := b.parked })
       s;
   decide (u.inStep r = false ∨ u.rState r ≠ State.RUNNING)),
   (let r : Nat := 0;
   let st : Nat := 3;
   let s : State := sStep;
   let u : State :=
     State.updBReq r
       (fun b ↦
         { ctx := b.ctx, fn := b.fn, q := b.q, work := b.work, desc := b.desc, noSig := b.noSig, ring := b.ring,
           headAddr := b.headAddr, ringShift := b.ringShift, deadline := b.deadline, arrival := b.arrival, seq := b.seq,
           maxNew := b.maxNew, gen := b.gen, hist := b.hist, init := b.init, last := b.last, written := b.written,
           total := b.total, lastHead := b.lastHead, phase := b.phase, recs := b.recs, lastEnd := b.lastEnd,
           stage := b.stage, reading := b.reading, pollDue := b.pollDue, bypass := b.bypass, bypassAt := b.bypassAt,
           ending := b.ending.orElse fun x ↦ some st, closing := b.closing, parked := b.parked })
       s;
   decide (u.inStep r = true ∧ u.rState r = State.RUNNING ∧ u.rowsStuck = false)),
   (let r : Nat := 0;
   let st : Nat := 3;
   let s : State := st57;
   let b : BReq := (s.bReq? 0).getD bq;
   decide (s.bReq? r = some b ∧ b.ending = some st ∧ st ≠ St.DEADLINE_EXCEEDED))].all id = true := by decide +kernel

theorem witness_SegmentsAndRegions : [
   (let s : State := on;
   let g : Qw3 := s.staged Reg.CH_SEGQ;
   decide (s.OpenReg Reg.CH_CMD ∧ State.segRefused g = false)),
   (let s : State := on;
   let r : Qw3 := s.staged Reg.CH_REGIONQ;
   decide (s.OpenReg Reg.CH_CMD ∧ State.regionRefused r = false)),
   (let s : State := st66;
   let g : Qw3 := s.staged Reg.CH_SEGQ;
   decide (s.OpenReg Reg.CH_CMD ∧ State.segRefused g = true)),
   (let s : State := st66;
   let r : Qw3 := s.staged Reg.CH_REGIONQ;
   decide (s.OpenReg Reg.CH_CMD ∧ State.regionRefused r = true)),
   (let g : Qw3 := { q0 := 0, q1 := ↑(1 <<< 44), q2 := 0 };
   decide (bits g.q1 53 44 ≠ 0)),
   (let g : Qw3 := { q0 := 1, q1 := 9223372036854775808, q2 := 0 };
   decide (segValid g = true ∧ (segLen g = 0 ∨ segLen g % 4096 ≠ 0 ∨ BitVec.toNat g.q0 % 4096 ≠ 0))),
   (let g : Qw3 := { q0 := 412316860416, q1 := 10376293541461626880, q2 := 0 };
   decide (segValid g = true ∧ segTarget g = 1 ∧ tier1Size < BitVec.toNat g.q0 + segLen g)),
   (let g : Qw3 := { q0 := 8796093018112, q1 := 12682136550675320832, q2 := 0 };
   decide
     (segValid g = true ∧ segTarget g = 3 ∧ (BitVec.toNat g.q0 < placedBase ∨ placedEnd < BitVec.toNat g.q0 + segLen g))),
   (let g : Qw3 := { q0 := 0, q1 := 0, q2 := 0 };
   decide (bits g.q1 53 44 = 0 ∧ bits g.q2 63 52 = 0 ∧ bits g.q2 43 20 = 0 ∧ segValid g = false))].all id = true := by decide +kernel

theorem witness_SegmentsAndRegions_2 : [
   (let s : State := on;
   let ending : Prop := (∀ (w : Waiter), w ∈ s.ch.drain → s.underWay w = false) ∨ s.ch.drainBy ≤ s.now;
   decide ending),
   (let s : State := on;
   let ending : Prop := (∀ (w : Waiter), w ∈ s.up.bar2Drain → s.underWay w = false) ∨ s.up.bar2From + 10000 ≤ s.now;
   decide ending),
   (let s : State := on;
   decide (s.winDrained = true)),
   (let s : State := st64;
   let ending : Prop := (∀ (w : Waiter), w ∈ s.ch.drain → s.underWay w = false) ∨ s.ch.drainBy ≤ s.now;
   decide ¬ending),
   (let s : State := st65;
   let ending : Prop := (∀ (w : Waiter), w ∈ s.up.bar2Drain → s.underWay w = false) ∨ s.up.bar2From + 10000 ≤ s.now;
   decide ¬ending),
   (let s : State := st67;
   decide (s.winDrained = false))].all id = true := by decide +kernel

theorem witness_TranslationAndPageRequests : [
   (let key : AtsKey := key0;
   let x : AtsAnswer := ats0;
   let r : AtsReq := areq;
   let s : State := sAts;
   decide
     (List.filter (fun r ↦ decide (r.key = key)) s.ch.reqs = [r] ∧ (if r.write = true then x.write else x.read) = true)),
   (let key : AtsKey := key0;
   let x : AtsAnswer :=
     let __src : AtsAnswer := ats0;
     { log2 := __src.log2, target := __src.target, read := false, write := __src.write };
   let r : AtsReq := areq;
   let s : State := sAts;
   decide
     (List.filter (fun r ↦ decide (r.key = key)) s.ch.reqs = [r] ∧ (if r.write = true then x.write else x.read) = false)),
   (let key : AtsKey := key0;
   let w : AtsWaiter := aw0;
   let t : State := on;
   decide (w.pri = false ∨ w.again = true ∨ t.priAllowed key.fn.toNat = false)),
   (let key : AtsKey := key0;
   let w : AtsWaiter :=
     let __src : AtsWaiter := aw0;
     { who := __src.who, write := __src.write, pri := true, again := __src.again };
   let t : State := sPri;
   decide (w.pri = true ∧ w.again = false ∧ t.priAllowed key.fn.toNat = true)),
   (let fn : BitVec 8 := 0;
   let pasid : Option (BitVec 20) := none;
   let base : Word := 0;
   let n : BitVec 7 := 12;
   let s : State := sAts;
   let hit : Nat → Option Nat → Nat → Nat → Bool :=
     State.invalHits fn.toNat (Option.map (fun x ↦ x.toNat) pasid) (BitVec.toNat base) n.toNat;
   let reads : List (Waiter × AtsKey) :=
     List.filter (fun r ↦ hit r.snd.fn.toNat (Option.map (fun x ↦ x.toNat) r.snd.pasid) (r.snd.page * 4096) 4096)
       s.ch.hostReads;
   decide (reads = [])),
   (let fn : BitVec 8 := 0;
   let pasid : Option (BitVec 20) := none;
   let base : Word := 20480;
   let n : BitVec 7 := 12;
   let s : State := sInv;
   let hit : Nat → Option Nat → Nat → Nat → Bool :=
     State.invalHits fn.toNat (Option.map (fun x ↦ x.toNat) pasid) (BitVec.toNat base) n.toNat;
   let reads : List (Waiter × AtsKey) :=
     List.filter (fun r ↦ hit r.snd.fn.toNat (Option.map (fun x ↦ x.toNat) r.snd.pasid) (r.snd.page * 4096) 4096)
       s.ch.hostReads;
   decide (reads ≠ [])),
   (let fn : BitVec 8 := 0;
   let s : State := sAts;
   decide (∀ (i : Inval), i ∈ s.ch.invals → i.fn ≠ fn.toNat)),
   (let fn : BitVec 8 := 0;
   let s : State := sInv;
   let i : Inval := { fn := 0, since := 0, who := [Waiter.work 9] };
   decide (List.find? (fun i ↦ decide (i.fn = fn.toNat)) s.ch.invals = some i)),
   (let g : Nat := 1;
   let s : State := sGrp none;
   let x : PriGroup := { id := 1, fn := 0, pasid := none, size := 1, opened := 0, closed := none };
   decide (List.find? (fun x ↦ decide (x.id = g) && x.closed.isNone) s.ch.groups = some x))].all id = true := by decide +kernel

theorem witness_TranslationAndPageRequests_2 : [
   (let g : Nat := 1;
   let s : State := sGrp (some 3);
   decide ((s.ch.groups.any fun x ↦ decide (x.id = g) && x.closed.isSome) = true)),
   (let g : Nat := 1;
   let s : State := sAts;
   decide ((s.ch.groups.any fun x ↦ decide (x.id = g) && x.closed.isSome) = false)),
   (let s : State := sAts;
   decide (s.OpenReg Reg.CH_PRI_CTRL))].all id = true := by decide +kernel

theorem witness_PlacementUpkeep : [
   (let pool : BitVec 4 := 0;
   let f : Nat := 3;
   let s : State := sDirty;
   decide (f ∈ s.dirtyFrames pool.toNat)),
   (let pool : Nat := 0;
   let f : Nat := 3;
   let s : State :=
     let __src : State := on;
     { pending := __src.pending, now := __src.now, slew := __src.slew, freeCtr := __src.freeCtr, regs := __src.regs,
       mem := __src.mem, poison := [5], hostMem := __src.hostMem, hostPoison := __src.hostPoison,
       hostRefused := __src.hostRefused, hostDead := __src.hostDead, out := __src.out, fenced := __src.fenced,
       released := __src.released, fenceReq := __src.fenceReq, strikes := __src.strikes, fatal := __src.fatal,
       wake := __src.wake, qe := __src.qe, ch := __src.ch, sf := __src.sf, dc := __src.dc, fp := __src.fp, up := __src.up,
       dn := __src.dn, pl := __src.pl, rb := __src.rb, gz := __src.gz, ck := __src.ck, pm := __src.pm, rp := __src.rp,
       ib := __src.ib, bt := __src.bt, boot := __src.boot, ident := __src.ident };
   let u : State := State.clearFrame pool f s;
   let l : Nat := 5;
   decide (l ∈ u.poison)),
   (let pool : BitVec 4 := 0;
   let f : Nat := 3;
   let s : State :=
     let __src : State := on;
     { pending := __src.pending, now := __src.now, slew := __src.slew, freeCtr := __src.freeCtr, regs := __src.regs,
       mem := __src.mem, poison := [5], hostMem := __src.hostMem, hostPoison := __src.hostPoison,
       hostRefused := __src.hostRefused, hostDead := __src.hostDead, out := __src.out, fenced := __src.fenced,
       released := __src.released, fenceReq := __src.fenceReq, strikes := __src.strikes, fatal := __src.fatal,
       wake := __src.wake, qe := __src.qe, ch := __src.ch, sf := __src.sf, dc := __src.dc, fp := __src.fp, up := __src.up,
       dn := __src.dn, pl := __src.pl, rb := __src.rb, gz := __src.gz, ck := __src.ck, pm := __src.pm, rp := __src.rp,
       ib := __src.ib, bt := __src.bt, boot := __src.boot, ident := __src.ident };
   decide ¬f ∈ s.dirtyFrames pool.toNat),
   (let s : State :=
     let __src : State := on;
     { pending := __src.pending, now := __src.now, slew := __src.slew, freeCtr := __src.freeCtr, regs := __src.regs,
       mem := __src.mem, poison := [5], hostMem := __src.hostMem, hostPoison := __src.hostPoison,
       hostRefused := __src.hostRefused, hostDead := __src.hostDead, out := __src.out, fenced := __src.fenced,
       released := __src.released, fenceReq := __src.fenceReq, strikes := __src.strikes, fatal := __src.fatal,
       wake := __src.wake, qe := __src.qe, ch := __src.ch, sf := __src.sf, dc := __src.dc, fp := __src.fp, up := __src.up,
       dn := __src.dn, pl := __src.pl, rb := __src.rb, gz := __src.gz, ck := __src.ck, pm := __src.pm, rp := __src.rp,
       ib := __src.ib, bt := __src.bt, boot := __src.boot, ident := __src.ident };
   decide (s.ch.active = false ∨ s.isFenced Dom.chamois = true)),
   (let s : State := sChOn;
   decide (s.ch.active = true ∧ s.isFenced Dom.chamois = false ∧ s.ch.quiet = true)),
   (let s : State := st69;
   decide (s.boot.loaded = true ∧ s.ch.active = true)),
   (let s : State :=
     let __src : State := on;
     { pending := __src.pending, now := __src.now, slew := __src.slew, freeCtr := __src.freeCtr, regs := __src.regs,
       mem := __src.mem, poison := [5], hostMem := __src.hostMem, hostPoison := __src.hostPoison,
       hostRefused := __src.hostRefused, hostDead := __src.hostDead, out := __src.out, fenced := __src.fenced,
       released := __src.released, fenceReq := __src.fenceReq, strikes := __src.strikes, fatal := __src.fatal,
       wake := __src.wake, qe := __src.qe, ch := __src.ch, sf := __src.sf, dc := __src.dc, fp := __src.fp, up := __src.up,
       dn := __src.dn, pl := __src.pl, rb := __src.rb, gz := __src.gz, ck := __src.ck, pm := __src.pm, rp := __src.rp,
       ib := __src.ib, bt := __src.bt, boot := __src.boot, ident := __src.ident };
   decide (s.boot.loaded = false ∨ s.ch.active = false))].all id = true := by decide +kernel

theorem witness_MovesAndAdvice : [
   (let s : State := on;
   decide (s.nextMoveToStart = none)),
   (let s : State := sMove MoveKind.demote;
   let m : Move := s.nextMoveToStart.getD (mv0 MoveKind.evac);
   let n : Nat := countOf (fun x ↦ State.isIbexMove x && x.running) s.ch.moves;
   decide (s.Awake Dom.chamois ∧ s.Awake (Dom.mover 0) ∧ s.nextMoveToStart = some m ∧ State.isIbexMove m = true ∧ n < 64)),
   (let s : State := sMove MoveKind.promote;
   let m : Move := s.nextMoveToStart.getD (mv0 MoveKind.evac);
   decide (s.Awake Dom.chamois ∧ s.Awake (Dom.mover 0) ∧ s.nextMoveToStart = some m ∧ State.isIbexMove m = false)),
   (let s : State := st70;
   let m : Move := s.nextMoveToStart.getD (mv0 MoveKind.evac);
   let n : Nat := countOf (fun x ↦ State.isIbexMove x && x.running) s.ch.moves;
   decide (s.Awake Dom.chamois ∧ s.Awake (Dom.mover 0) ∧ s.nextMoveToStart = some m ∧ State.isIbexMove m = true ∧ 64 ≤ n)),
   (let m : Move := mv0 MoveKind.cow;
   let t : State := on;
   decide (m.kind = MoveKind.cow ∨ m.kind = MoveKind.demote ∧ t.demoteProfile = none ∧ t.regBit Reg.IB_POOL_CFG 30 = false)),
   (let id : Nat := 0;
   let s : State := on;
   decide (s.move? id = none)),
   (let id : Nat := 0;
   let s : State := sMove MoveKind.demote;
   let m : Move := s.nextMoveToStart.getD (mv0 MoveKind.evac);
   let conv : Bool :=
     match m.mode with
     | MoveMode.out profile => true
     | MoveMode.back profile => true
     | x => false;
   let mine : Prop := m.kind = MoveKind.evac ∨ State.isIbexMove m = false;
   decide (s.move? id = some m ∧ (¬mine ∨ m.running = false ∨ conv = true ∧ m.cursor < m.total))),
   (let id : Nat := 0;
   let s : State := sMv MoveKind.evac;
   let m : Move := mv0 MoveKind.evac;
   let conv : Bool :=
     match m.mode with
     | MoveMode.out profile => true
     | MoveMode.back profile => true
     | x => false;
   let mine : Prop := m.kind = MoveKind.evac ∨ State.isIbexMove m = false;
   decide (s.move? id = some m ∧ mine ∧ m.running = true ∧ (conv = false ∨ m.total ≤ m.cursor))),
   (let m : Move :=
     let __src : Move := mvE MoveKind.promote;
     { id := __src.id, cls := __src.cls, kind := __src.kind, page := __src.page, srcPool := __src.srcPool,
       srcFrame := __src.srcFrame, dstPool := 0, dstFrame := __src.dstFrame, mode := __src.mode, src := __src.src,
       dst := __src.dst, cursor := __src.cursor, upTo := __src.upTo, total := __src.total, inPos := __src.inPos,
       inLen := __src.inLen, outPos := __src.outPos, job := __src.job, running := __src.running, ending := __src.ending,
       fails := __src.fails, corrupt := __src.corrupt, aborted := __src.aborted, work := __src.work };
   decide
     (m.aborted = false ∧
       m.corrupt = false ∧ m.fails < 2 ∧ m.mode = MoveMode.lines ∧ m.kind = MoveKind.promote ∧ m.dstPool = 0))].all id = true := by decide +kernel

theorem witness_MovesAndAdvice_2 : [
   (let m : Move :=
     let __src : Move := mvE MoveKind.plainDemote;
     { id := __src.id, cls := __src.cls, kind := __src.kind, page := __src.page, srcPool := __src.srcPool,
       srcFrame := __src.srcFrame, dstPool := 1, dstFrame := __src.dstFrame, mode := __src.mode, src := __src.src,
       dst := __src.dst, cursor := __src.cursor, upTo := __src.upTo, total := __src.total, inPos := __src.inPos,
       inLen := __src.inLen, outPos := __src.outPos, job := __src.job, running := __src.running, ending := __src.ending,
       fails := __src.fails, corrupt := __src.corrupt, aborted := __src.aborted, work := __src.work };
   decide
     (m.aborted = false ∧
       m.corrupt = false ∧ m.fails < 2 ∧ m.mode = MoveMode.lines ∧ m.kind = MoveKind.plainDemote ∧ m.dstPool ≠ 0)),
   (let m : Move :=
     let __src : Move := mv0 MoveKind.promote;
     { id := __src.id, cls := __src.cls, kind := __src.kind, page := __src.page, srcPool := __src.srcPool,
       srcFrame := __src.srcFrame, dstPool := __src.dstPool, dstFrame := __src.dstFrame, mode := __src.mode,
       src := __src.src, dst := __src.dst, cursor := __src.cursor, upTo := __src.upTo, total := __src.total,
       inPos := __src.inPos, inLen := __src.inLen, outPos := __src.outPos, job := __src.job, running := __src.running,
       ending := __src.ending, fails := __src.fails, corrupt := __src.corrupt, aborted := true, work := __src.work };
   decide (m.aborted = true)),
   (let m : Move :=
     let __src : Move := mv0 MoveKind.promote;
     { id := __src.id, cls := __src.cls, kind := __src.kind, page := __src.page, srcPool := __src.srcPool,
       srcFrame := __src.srcFrame, dstPool := __src.dstPool, dstFrame := __src.dstFrame, mode := __src.mode,
       src := __src.src, dst := __src.dst, cursor := __src.cursor, upTo := __src.upTo, total := __src.total,
       inPos := __src.inPos, inLen := __src.inLen, outPos := __src.outPos, job := __src.job, running := __src.running,
       ending := __src.ending, fails := __src.fails, corrupt := true, aborted := __src.aborted, work := __src.work };
   decide (m.aborted = false ∧ m.corrupt = true)),
   (let m : Move :=
     let __src : Move := mv0 MoveKind.promote;
     { id := __src.id, cls := __src.cls, kind := __src.kind, page := __src.page, srcPool := __src.srcPool,
       srcFrame := __src.srcFrame, dstPool := __src.dstPool, dstFrame := __src.dstFrame, mode := __src.mode,
       src := __src.src, dst := __src.dst, cursor := __src.cursor, upTo := __src.upTo, total := __src.total,
       inPos := __src.inPos, inLen := __src.inLen, outPos := __src.outPos, job := __src.job, running := __src.running,
       ending := __src.ending, fails := 2, corrupt := __src.corrupt, aborted := __src.aborted, work := __src.work };
   decide (m.aborted = false ∧ m.corrupt = false ∧ 2 ≤ m.fails)),
   (let q : BitVec 16 := 0;
   let s : State := sHead (dsc 33);
   let h : Head := (s.queue 0).head.getD (hd 0);
   let d : Desc := h.desc;
   let len : Nat := descBits d 40 39 0;
   let action : Nat := descNat d 48 1;
   let ok : Prop := descBits d 40 63 40 = 0 ∧ descNat d 49 15 = 0 ∧ action ≤ 5;
   decide (s.headFor q.toNat 33 = some h ∧ ok ∧ len = 0)),
   (let q : BitVec 16 := 0;
   let s : State := sHead (dsc 33 (2 ^ 424));
   let h : Head := (s.queue 0).head.getD (hd 0);
   let d : Desc := h.desc;
   let action : Nat := descNat d 48 1;
   let ok : Prop := descBits d 40 63 40 = 0 ∧ descNat d 49 15 = 0 ∧ action ≤ 5;
   decide (s.headFor q.toNat 33 = some h ∧ ¬ok)),
   (let q : BitVec 16 := 0;
   let s : State := sHead (dsc 33 (2 ^ 320));
   let h : Head := (s.queue 0).head.getD (hd 0);
   let d : Desc := h.desc;
   let len : Nat := descBits d 40 39 0;
   let action : Nat := descNat d 48 1;
   let ok : Prop := descBits d 40 63 40 = 0 ∧ descNat d 49 15 = 0 ∧ action ≤ 5;
   decide (s.headFor q.toNat 33 = some h ∧ ok ∧ len ≠ 0))].all id = true := by decide +kernel

theorem witness_FabricRequests : [
   (let ev : Bool := false;
   let m : Req := req0;
   let s : State := on;
   let n : Nat := if ev = true then s.evCredits ↑m.port else s.reqCredits ↑m.port;
   decide (s.Open (Dom.sf ↑m.port) ∧ s.portTakes (↑m.port) m.agent.toNat = true ∧ n ≠ 0)),
   (let m : Req := req0;
   let s : State := State.setReg Reg.FP_CTRL 0 on;
   decide (s.Open (Dom.sf ↑m.port) ∧ s.portOn ↑m.port = false)),
   (let ev : Bool := false;
   let m : Req := req0;
   let s : State := st75;
   let n : Nat := if ev = true then s.evCredits ↑m.port else s.reqCredits ↑m.port;
   decide (s.Open (Dom.sf ↑m.port) ∧ s.portTakes (↑m.port) m.agent.toNat = true ∧ n = 0)),
   (let m : Req :=
     let __src : Req := req0;
     { port := __src.port, addr := __src.addr, bullpen := __src.bullpen, crdValid := __src.crdValid, scope := __src.scope,
       rsv := __src.rsv, zero := __src.zero, aop := __src.aop, size := __src.size, offset := __src.offset,
       thread := __src.thread, context := __src.context, txn := __src.txn, engine := __src.engine, core := __src.core,
       agent := 3 };
   let s : State := on;
   decide (s.Open (Dom.sf ↑m.port) ∧ s.portTakes (↑m.port) m.agent.toNat = false ∧ s.portOn ↑m.port = true)),
   (let p : PendReq :=
     { op := Op.RD_CUR,
       m :=
         let __src : Req := req0;
         { port := __src.port, addr := BitVec.ofNat 42 (1030792151040 / 64), bullpen := __src.bullpen,
           crdValid := __src.crdValid, scope := __src.scope, rsv := __src.rsv, zero := __src.zero, aop := __src.aop,
           size := __src.size, offset := __src.offset, thread := __src.thread, context := __src.context, txn := __src.txn,
           engine := __src.engine, core := __src.core, agent := __src.agent } };
   let s : State := on;
   let m : Req := p.m;
   decide (p.op = Op.RD_CUR ∧ s.lineKind m.addr.toNat = 2)),
   (let p : PendReq :=
     { op := Op.RD_SHARED,
       m :=
         let __src : Req := req0;
         { port := __src.port, addr := BitVec.ofNat 42 (481036337152 / 64), bullpen := __src.bullpen,
           crdValid := __src.crdValid, scope := __src.scope, rsv := __src.rsv, zero := __src.zero, aop := __src.aop,
           size := __src.size, offset := __src.offset, thread := __src.thread, context := __src.context, txn := __src.txn,
           engine := __src.engine, core := __src.core, agent := __src.agent } };
   let s : State := on;
   let m : Req := p.m;
   decide (p.op ≠ Op.FENCE ∧ s.lineKind m.addr.toNat = 4)),
   (let p : PendReq := { op := Op.FENCE, m := req0 };
   let s : State := on;
   let m : Req := p.m;
   let port : Nat := ↑m.port;
   decide (p.op = Op.FENCE ∧ (s.fp.nt.any fun e ↦ decide (e.port = port) && e.ids.any (s.fenceCovers m)) = false)),
   (let p : PendReq := { op := Op.WR_NT, m := req0 };
   let s : State := st76;
   let m : Req := p.m;
   let d : Dat := dat0;
   decide (p.op = Op.WR_NT ∧ s.lineKind m.addr.toNat = 0 ∧ s.datOf m = some d)),
   (let p : PendReq := { op := Op.RSV_CHECK, m := req0 };
   let s : State := on;
   let m : Req := p.m;
   decide (p.op = Op.RSV_CHECK ∧ s.lineKind m.addr.toNat = 0 ∧ s.fp.nt = [] ∧ s.fp.ucs = []))].all id = true := by decide +kernel

theorem witness_FabricRequests_mem : let op : Nat := Op.RD_SHARED;
   let ev : Bool := false;
   let c : Req → Instr := Instr.rdShared;
   (op, ev, c) ∈
     [(Op.RD_SHARED, false, Instr.rdShared), (Op.RD_OWN, false, Instr.rdOwn), (Op.RD_CUR, false, Instr.rdCur),
       (Op.RD_OWN_NODATA, false, Instr.rdOwnNodata), (Op.EVICT_CLEAN, true, Instr.evictClean),
       (Op.EVICT_DIRTY, true, Instr.evictDirty), (Op.ATOMIC, false, Instr.atomic), (Op.WR_UC, false, Instr.wrUc),
       (Op.WR_NT, false, Instr.wrNt), (Op.FENCE, false, Instr.fence), (Op.RSV_CHECK, false, Instr.rsvCheck)] := by simp

theorem witness_FabricDataAndCredits : [
   (let d : Dat := dat0;
   let s : State := on;
   decide (s.Open (Dom.sf ↑d.port) ∧ s.portTakes (↑d.port) d.agent.toNat = true ∧ s.datCredits ↑d.port ≠ 0)),
   (let d : Dat := dat0;
   let s : State := st78;
   decide (s.Open (Dom.sf ↑d.port) ∧ s.portTakes (↑d.port) d.agent.toNat = true ∧ s.datCredits ↑d.port = 0)),
   (let d : Dat :=
     let __src : Dat := dat0;
     { port := __src.port, mask := __src.mask, poison := __src.poison, dirty := __src.dirty, homeTag := __src.homeTag,
       dest := __src.dest, txn := __src.txn, agent := 3, data := __src.data };
   let s : State := on;
   decide (s.Open (Dom.sf ↑d.port) ∧ s.portTakes (↑d.port) d.agent.toNat = false ∧ s.portOn ↑d.port = true)),
   (let port : Fin 16 := 0;
   let line : BitVec 42 := 1;
   let s : State := on;
   decide (List.find? (fun e ↦ decide (e.port = ↑port ∧ e.line = line.toNat)) s.fp.nt = none)),
   (let port : Fin 16 := 0;
   let line : BitVec 42 := 1;
   let s : State := st79;
   let e : NtEntry := nt0;
   decide (List.find? (fun e ↦ decide (e.port = ↑port ∧ e.line = line.toNat)) s.fp.nt = some e)),
   (let s : State := on;
   decide (s.fp.snpWait = []))].all id = true := by decide +kernel

theorem witness_SnoopAnswers : [
   (let m : Rsp :=
     let __src : Rsp := rsp0;
     { port := 1, homeTag := __src.homeTag, agent := __src.agent };
   let s : State := sFp on;
   let tag : Nat := m.homeTag.toNat;
   decide (s.Open (Dom.sf ↑m.port) ∧ s.portTakes (↑m.port) m.agent.toNat = true ∧ s.txnAt (tag / 256) (tag % 256) = none)),
   (let x : Answer := Answer.i;
   let m : Rsp :=
     let __src : Rsp := rsp0;
     { port := 1, homeTag := __src.homeTag, agent := __src.agent };
   let s : State := st80;
   let tag : Nat := m.homeTag.toNat;
   let a : Nat := m.agent.toNat;
   let t : Txn := (s.txn? 0 0).getD (txn0 TxnKind.rdCur TxnPhase.queued);
   let k : Snoop := (s.snoopOf ((s.txn? 0 0).getD (txn0 TxnKind.rdCur TxnPhase.queued)) 1).getD Snoop.inv;
   decide
     (s.Open (Dom.sf ↑m.port) ∧
       s.portTakes (↑m.port) m.agent.toNat = true ∧
         s.txnAt (tag / 256) (tag % 256) = some t ∧
           s.snoopOf t a = some k ∧
             x.fits k = true ∧
               a ∈ t.snoops ∧
                 t.phase = TxnPhase.snooping ∧
                   x = Answer.i ∧ k ≠ Snoop.inv ∧ s.isHolder t.line a = true ∧ t.evicted = false)),
   (let x : Answer := Answer.i;
   let m : Rsp :=
     let __src : Rsp := rsp0;
     { port := 1, homeTag := __src.homeTag, agent := __src.agent };
   let s : State := st84;
   let tag : Nat := m.homeTag.toNat;
   let a : Nat := m.agent.toNat;
   let t : Txn := (s.txn? 0 0).getD (txn0 TxnKind.rdCur TxnPhase.queued);
   let k : Snoop := (s.snoopOf ((s.txn? 0 0).getD (txn0 TxnKind.rdCur TxnPhase.queued)) 1).getD Snoop.inv;
   decide
     (s.Open (Dom.sf ↑m.port) ∧
       s.portTakes (↑m.port) m.agent.toNat = true ∧
         s.txnAt (tag / 256) (tag % 256) = some t ∧
           s.snoopOf t a = some k ∧
             x.fits k = true ∧
               a ∈ t.snoops ∧ t.phase = TxnPhase.snooping ∧ x = Answer.i ∧ (k = Snoop.inv ∨ s.isHolder t.line a = false))),
   (let m : Rsp :=
     let __src : Rsp := rsp0;
     { port := 1, homeTag := __src.homeTag, agent := __src.agent };
   let s : State := st86;
   let tag : Nat := m.homeTag.toNat;
   let a : Nat := m.agent.toNat;
   let t : Txn := (s.txn? 0 0).getD (txn0 TxnKind.rdCur TxnPhase.queued);
   decide
     (s.Open (Dom.sf ↑m.port) ∧
       s.portTakes (↑m.port) m.agent.toNat = true ∧
         s.txnAt (tag / 256) (tag % 256) = some t ∧ (¬a ∈ t.snoops ∨ t.phase ≠ TxnPhase.snooping ∨ s.snoopOf t a = none))),
   (let x : Answer := Answer.s;
   let m : Rsp :=
     let __src : Rsp := rsp0;
     { port := 1, homeTag := __src.homeTag, agent := __src.agent };
   let s : State := st80;
   let tag : Nat := m.homeTag.toNat;
   let a : Nat := m.agent.toNat;
   let t : Txn := (s.txn? 0 0).getD (txn0 TxnKind.rdCur TxnPhase.queued);
   let k : Snoop := (s.snoopOf ((s.txn? 0 0).getD (txn0 TxnKind.rdCur TxnPhase.queued)) 1).getD Snoop.inv;
   decide
     (s.Open (Dom.sf ↑m.port) ∧
       s.portTakes (↑m.port) m.agent.toNat = true ∧
         s.txnAt (tag / 256) (tag % 256) = some t ∧
           s.snoopOf t a = some k ∧ x.fits k = true ∧ a ∈ t.snoops ∧ t.phase = TxnPhase.snooping ∧ x = Answer.s)),
   (let x : Answer := Answer.s;
   let m : Rsp :=
     let __src : Rsp := rsp0;
     { port := 1, homeTag := __src.homeTag, agent := __src.agent };
   let s : State := st84;
   let tag : Nat := m.homeTag.toNat;
   let a : Nat := m.agent.toNat;
   let t : Txn := (s.txn? 0 0).getD (txn0 TxnKind.rdCur TxnPhase.queued);
   let k : Snoop := (s.snoopOf ((s.txn? 0 0).getD (txn0 TxnKind.rdCur TxnPhase.queued)) 1).getD Snoop.inv;
   decide
     (s.Open (Dom.sf ↑m.port) ∧
       s.portTakes (↑m.port) m.agent.toNat = true ∧
         s.txnAt (tag / 256) (tag % 256) = some t ∧ s.snoopOf t a = some k ∧ x.fits k = false)),
   (let x : Answer := Answer.fwdS;
   let m : Rsp :=
     let __src : Rsp := rsp0;
     { port := 1, homeTag := __src.homeTag, agent := __src.agent };
   let s : State := st82;
   let tag : Nat := m.homeTag.toNat;
   let a : Nat := m.agent.toNat;
   let t : Txn := (s.txn? 0 0).getD (txn0 TxnKind.rdCur TxnPhase.queued);
   let k : Snoop := (s.snoopOf ((s.txn? 0 0).getD (txn0 TxnKind.rdCur TxnPhase.queued)) 1).getD Snoop.inv;
   decide
     (s.Open (Dom.sf ↑m.port) ∧
       s.portTakes (↑m.port) m.agent.toNat = true ∧
         s.txnAt (tag / 256) (tag % 256) = some t ∧
           s.snoopOf t a = some k ∧
             x.fits k = true ∧
               a ∈ t.snoops ∧
                 t.phase = TxnPhase.snooping ∧
                   (x = Answer.fwdS ∨ x = Answer.fwdI ∨ x = Answer.fwdV) ∧
                     t.data = none ∧ t.direct = false ∧ t.evicted = false)),
   (let x : Answer := Answer.fwdF;
   let m : Rsp :=
     let __src : Rsp := rsp0;
     { port := 1, homeTag := __src.homeTag, agent := __src.agent };
   let s : State := st83;
   let tag : Nat := m.homeTag.toNat;
   let a : Nat := m.agent.toNat;
   let t : Txn := (s.txn? 0 0).getD (txn0 TxnKind.rdCur TxnPhase.queued);
   let k : Snoop := (s.snoopOf ((s.txn? 0 0).getD (txn0 TxnKind.rdCur TxnPhase.queued)) 1).getD Snoop.inv;
   decide
     (s.Open (Dom.sf ↑m.port) ∧
       s.portTakes (↑m.port) m.agent.toNat = true ∧
         s.txnAt (tag / 256) (tag % 256) = some t ∧
           s.snoopOf t a = some k ∧
             x.fits k = true ∧
               a ∈ t.snoops ∧
                 t.phase = TxnPhase.snooping ∧ x = Answer.fwdF ∧ t.data = none ∧ t.direct = false ∧ t.evicted = false)),
   (let x : Answer := Answer.iWb;
   let m : Rsp :=
     let __src : Rsp := rsp0;
     { port := 1, homeTag := __src.homeTag, agent := __src.agent };
   let s : State := st84;
   let tag : Nat := m.homeTag.toNat;
   let a : Nat := m.agent.toNat;
   let t : Txn := (s.txn? 0 0).getD (txn0 TxnKind.rdCur TxnPhase.queued);
   let k : Snoop := (s.snoopOf ((s.txn? 0 0).getD (txn0 TxnKind.rdCur TxnPhase.queued)) 1).getD Snoop.inv;
   decide
     (s.Open (Dom.sf ↑m.port) ∧
       s.portTakes (↑m.port) m.agent.toNat = true ∧
         s.txnAt (tag / 256) (tag % 256) = some t ∧
           s.snoopOf t a = some k ∧
             x.fits k = true ∧
               a ∈ t.snoops ∧ t.phase = TxnPhase.snooping ∧ x = Answer.iWb ∧ t.data = none ∧ t.evicted = false))].all id = true := by decide +kernel

theorem witness_SnoopAnswers_2 : [
   (let d : Dat := dat0;
   let s : State := sFp on;
   let slice : Nat := d.homeTag.toNat / 256;
   let tag : Nat := d.homeTag.toNat % 256;
   let late : Option LateDat :=
     List.find? (fun l ↦ decide (l.slice = slice ∧ l.tag = tag ∧ l.agent = d.agent.toNat)) s.sf.late;
   decide
     (s.Open (Dom.sf ↑d.port) ∧
       s.portTakes (↑d.port) d.agent.toNat = true ∧
         (∀ (t : Txn), s.txnAt slice tag = some t → t.phase ≠ TxnPhase.snooping ∨ s.snoopOf t d.agent.toNat = none) ∧
           late = none)),
   (let d : Dat := dat0;
   let s : State := st81;
   let slice : Nat := d.homeTag.toNat / 256;
   let tag : Nat := d.homeTag.toNat % 256;
   let late : Option LateDat :=
     List.find? (fun l ↦ decide (l.slice = slice ∧ l.tag = tag ∧ l.agent = d.agent.toNat)) s.sf.late;
   let l : LateDat := late0;
   decide
     (s.Open (Dom.sf ↑d.port) ∧
       s.portTakes (↑d.port) d.agent.toNat = true ∧
         (∀ (t : Txn), s.txnAt slice tag = some t → t.phase ≠ TxnPhase.snooping ∨ s.snoopOf t d.agent.toNat = none) ∧
           late = some l ∧ isHostLine l.line = false ∧ l.mask ≠ 0)),
   (let d : Dat :=
     let __src : Dat := dat0;
     { port := 1, mask := __src.mask, poison := __src.poison, dirty := __src.dirty, homeTag := __src.homeTag,
       dest := __src.dest, txn := __src.txn, agent := 1, data := __src.data };
   let s : State := st80;
   let slice : Nat := d.homeTag.toNat / 256;
   let tag : Nat := d.homeTag.toNat % 256;
   let t : Txn := (s.txn? 0 0).getD (txn0 TxnKind.rdCur TxnPhase.queued);
   let p : Nat := 0;
   let a : Nat := 0;
   let x : Nat := 1;
   decide
     (s.Open (Dom.sf ↑d.port) ∧
       s.portTakes (↑d.port) d.agent.toNat = true ∧
         s.txnAt slice tag = some t ∧
           t.phase = TxnPhase.snooping ∧
             s.snoopOf t d.agent.toNat ≠ none ∧ t.asker = Asker.agent p a x ∧ d.dest.toNat = 31)),
   (let d : Dat :=
     let __src : Dat := dat0;
     { port := 1, mask := __src.mask, poison := __src.poison, dirty := __src.dirty, homeTag := __src.homeTag, dest := 0,
       txn := __src.txn, agent := 1, data := __src.data };
   let s : State := st80;
   let slice : Nat := d.homeTag.toNat / 256;
   let tag : Nat := d.homeTag.toNat % 256;
   let t : Txn := (s.txn? 0 0).getD (txn0 TxnKind.rdCur TxnPhase.queued);
   let p : Nat := 0;
   let a : Nat := 0;
   let x : Nat := 1;
   decide
     (s.Open (Dom.sf ↑d.port) ∧
       s.portTakes (↑d.port) d.agent.toNat = true ∧
         s.txnAt slice tag = some t ∧
           t.phase = TxnPhase.snooping ∧
             s.snoopOf t d.agent.toNat ≠ none ∧
               t.asker = Asker.agent p a x ∧ d.dest.toNat = a ∧ a ≠ 31 ∧ d.txn.toNat = x ∧ t.data ≠ none)),
   (let d : Dat :=
     let __src : Dat := dat0;
     { port := 1, mask := __src.mask, poison := __src.poison, dirty := __src.dirty, homeTag := __src.homeTag, dest := 5,
       txn := __src.txn, agent := 1, data := __src.data };
   let s : State := st80;
   let slice : Nat := d.homeTag.toNat / 256;
   let tag : Nat := d.homeTag.toNat % 256;
   let t : Txn := (s.txn? 0 0).getD (txn0 TxnKind.rdCur TxnPhase.queued);
   let p : Nat := 0;
   let a : Nat := 0;
   let x : Nat := 1;
   decide
     (s.Open (Dom.sf ↑d.port) ∧
       s.portTakes (↑d.port) d.agent.toNat = true ∧
         s.txnAt slice tag = some t ∧
           t.phase = TxnPhase.snooping ∧
             s.snoopOf t d.agent.toNat ≠ none ∧ t.asker = Asker.agent p a x ∧ d.dest.toNat ≠ 31 ∧ d.dest.toNat ≠ a)),
   (let slice : Fin 16 := 0;
   let tag : BitVec 8 := 0;
   let s : State := sFp on;
   decide (s.txnAt (↑slice) tag.toNat = none)),
   (let slice : Fin 16 := 0;
   let tag : BitVec 8 := 0;
   let s : State := st86;
   let t : Txn := (s.txn? 0 0).getD (txn0 TxnKind.rdCur TxnPhase.queued);
   decide (s.txnAt (↑slice) tag.toNat = some t ∧ t.phase ≠ TxnPhase.snooping)),
   (let slice : Fin 16 := 0;
   let tag : BitVec 8 := 0;
   let a : BitVec 5 := 1;
   let s : State := st80;
   let t : Txn := (s.txn? 0 0).getD (txn0 TxnKind.rdCur TxnPhase.queued);
   let cap : Capture :=
     have __src : Capture := Capture.none;
     { addr := w64 (64 * t.line), space := 1, access := 3, cls := if a.toNat = 16 then 0 else 1, index := a.toNat,
       ctx := __src.ctx, symbol := __src.symbol };
   let u : State := State.raise Reg.SF Err.SF_SNOOP_TIMEOUT cap s;
   let e : SfEntry := sf0 SfSt.excl 1;
   decide
     (s.txnAt (↑slice) tag.toNat = some t ∧
       t.phase = TxnPhase.snooping ∧
         a.toNat ∈ t.snoops ∧ t.early = none ∧ u.sfEntry t.line = some e ∧ e.st = SfSt.excl ∧ e.fwd = a.toNat)),
   (let slice : Fin 16 := 0;
   let tag : BitVec 8 := 0;
   let a : BitVec 5 := 1;
   let s : State := st84;
   let t : Txn := (s.txn? 0 0).getD (txn0 TxnKind.rdCur TxnPhase.queued);
   let cap : Capture :=
     have __src : Capture := Capture.none;
     { addr := w64 (64 * t.line), space := 1, access := 3, cls := if a.toNat = 16 then 0 else 1, index := a.toNat,
       ctx := __src.ctx, symbol := __src.symbol };
   let u : State := State.raise Reg.SF Err.SF_SNOOP_TIMEOUT cap s;
   decide
     (s.txnAt (↑slice) tag.toNat = some t ∧
       t.phase = TxnPhase.snooping ∧
         a.toNat ∈ t.snoops ∧ t.early = none ∧ Option.all (fun e ↦ decide (e.st = SfSt.shared)) (u.sfEntry t.line) = true))].all id = true := by decide +kernel

theorem witness_SnoopAnswers_3 : [
   (let port : Fin 16 := 0;
   let agent : BitVec 4 := 0;
   let s : State := sFp on;
   decide (s.portTakes (↑port) agent.toNat = true)),
   (let port : Fin 16 := 0;
   let agent : BitVec 4 := 3;
   let s : State := sFp on;
   decide (s.portTakes (↑port) agent.toNat = false ∧ s.portOn ↑port = true)),
   (let slice : Fin 16 := 0;
   let n : BitVec 5 := 0;
   let s : State := sFp on;
   let has : Bool := s.sf.credits.any fun c ↦ decide (c.slice = ↑slice ∧ c.num = n.toNat);
   decide (has = false)),
   (let slice : Fin 16 := 0;
   let n : BitVec 5 := 0;
   let s : State := st89;
   let has : Bool := s.sf.credits.any fun c ↦ decide (c.slice = ↑slice ∧ c.num = n.toNat);
   decide (has = true))].all id = true := by decide +kernel

theorem witness_SnoopAnswers_mem : let x : Answer := Answer.i;
   let c : Rsp → Instr := Instr.rspI;
   (x, c) ∈
     [(Answer.i, Instr.rspI), (Answer.s, Instr.rspS), (Answer.fwdS, Instr.rspFwdS), (Answer.fwdF, Instr.rspFwdF),
       (Answer.fwdI, Instr.rspFwdI), (Answer.iWb, Instr.rspIWb), (Answer.fwdV, Instr.rspFwdV)] := by simp

theorem witness_SnoopAnswers_mem2 : let x : Answer := Answer.s;
   let c : Rsp → Instr := Instr.rspS;
   (x, c) ∈
     [(Answer.i, Instr.rspI), (Answer.s, Instr.rspS), (Answer.fwdS, Instr.rspFwdS), (Answer.fwdF, Instr.rspFwdF),
       (Answer.fwdI, Instr.rspFwdI), (Answer.iWb, Instr.rspIWb), (Answer.fwdV, Instr.rspFwdV)] := by simp

theorem witness_SnoopAnswers_mem3 : let x : Answer := Answer.fwdS;
   let c : Rsp → Instr := Instr.rspFwdS;
   (x, c) ∈
     [(Answer.i, Instr.rspI), (Answer.s, Instr.rspS), (Answer.fwdS, Instr.rspFwdS), (Answer.fwdF, Instr.rspFwdF),
       (Answer.fwdI, Instr.rspFwdI), (Answer.iWb, Instr.rspIWb), (Answer.fwdV, Instr.rspFwdV)] := by simp

theorem witness_SnoopAnswers_mem4 : let x : Answer := Answer.fwdF;
   let c : Rsp → Instr := Instr.rspFwdF;
   (x, c) ∈
     [(Answer.i, Instr.rspI), (Answer.s, Instr.rspS), (Answer.fwdS, Instr.rspFwdS), (Answer.fwdF, Instr.rspFwdF),
       (Answer.fwdI, Instr.rspFwdI), (Answer.iWb, Instr.rspIWb), (Answer.fwdV, Instr.rspFwdV)] := by simp

theorem witness_SnoopAnswers_mem5 : let x : Answer := Answer.iWb;
   let c : Rsp → Instr := Instr.rspIWb;
   (x, c) ∈
     [(Answer.i, Instr.rspI), (Answer.s, Instr.rspS), (Answer.fwdS, Instr.rspFwdS), (Answer.fwdF, Instr.rspFwdF),
       (Answer.fwdI, Instr.rspFwdI), (Answer.iWb, Instr.rspIWb), (Answer.fwdV, Instr.rspFwdV)] := by simp

theorem witness_HomeTables : [
   (let e : SfEntry := sf0 SfSt.shared 31;
   let r : Nat := 0;
   decide (r ≠ 16 ∧ e.st = SfSt.shared)),
   (let e : SfEntry := sf0 SfSt.shared 31;
   let r : Nat := 0;
   let on : Nat → Bool := fun x ↦ true;
   let discard : Bool := true;
   let q : Nat × Snoop := (2, Snoop.inv);
   decide (r ≠ 16 ∧ q ∈ (State.snoopPlan (TxnKind.backInv discard) (some e) r on).fst)),
   (let e : SfEntry := sf0 SfSt.excl 1;
   let r : Nat := 0;
   decide (r ≠ 16 ∧ (e.st = SfSt.excl ∨ e.st = SfSt.fwd) ∧ e.fwd < 16 ∧ e.fwd ≠ r)),
   (let e : SfEntry := sf0 SfSt.hostx 31;
   let r : Nat := 0;
   decide (r ≠ 16 ∧ e.st = SfSt.hostx)),
   (let t : Txn := txn0 TxnKind.rdShared TxnPhase.queued;
   let p : Nat := 0;
   let a : Nat := 0;
   let x : Nat := 1;
   let e : SfEntry := sf0 SfSt.shared 31;
   decide
     (isHostLine t.line = false ∧
       t.asker = Asker.agent p a x ∧
         t.direct = false ∧ t.evicted = false ∧ t.fwd = false ∧ t.kind = TxnKind.rdShared ∧ e.st = SfSt.shared)),
   (let t : Txn := txn0 (TxnKind.rdOwn none) TxnPhase.queued;
   let p : Nat := 0;
   let a : Nat := 0;
   let x : Nat := 1;
   decide
     (isHostLine t.line = false ∧
       t.asker = Asker.agent p a x ∧ t.direct = false ∧ t.evicted = false ∧ t.fwd = false ∧ t.kind = TxnKind.rdOwn none)),
   (let t : Txn := txn0 TxnKind.rdCur TxnPhase.queued;
   let p : Nat := 0;
   let a : Nat := 0;
   let x : Nat := 1;
   decide
     (isHostLine t.line = false ∧
       t.asker = Asker.agent p a x ∧ t.direct = false ∧ t.evicted = false ∧ t.fwd = false ∧ t.kind = TxnKind.rdCur)),
   (let t : Txn := txn0 (TxnKind.rdOwnNodata true) TxnPhase.queued;
   let p : Nat := 0;
   let a : Nat := 0;
   let x : Nat := 1;
   let z : Bool := true;
   decide
     (isHostLine t.line = false ∧
       t.asker = Asker.agent p a x ∧ t.direct = false ∧ t.evicted = false ∧ t.fwd = false ∧ t.kind = TxnKind.rdOwnNodata z))].all id = true := by decide +kernel

theorem witness_SnoopFilterPlaces : [
   (let la : Nat := 5;
   let lb : Nat := 5;
   decide (la < 2 ^ 38 ∧ lb < 2 ^ 38 ∧ sfSet la = sfSet lb ∧ sfTag la = sfTag lb))].all id = true := by decide +kernel

theorem witness_HostMemory : [
   (let s : State := st90;
   let m : MemReq := { hpa := 64, metaV := MetaValue.s, noOp := false, tag := 3, data := 0, mask := 0, poison := false };
   let da : Nat := 64;
   decide
     (s.Awake Dom.upCtl ∧
       s.Awake Dom.upPhy ∧ s.wholeSafe = false ∧ s.hdmDecode m.hpa.toNat = some da ∧ s.biTxn? (da / 64) ≠ none)),
   (let s : State := st90;
   let line : BitVec 42 := 0;
   decide (s.Awake Dom.upCtl ∧ s.Awake Dom.upPhy ∧ s.biTxn? line.toNat = none)),
   (let s : State := st90;
   let two : State := State.bump Reg.SF_STAT_BICONFLICT s;
   let line : BitVec 42 := 0;
   decide (s.Awake Dom.upCtl ∧ s.Awake Dom.upPhy ∧ two.biTxn? line.toNat = none ∧ two.openTxn? line.toNat = none)),
   (let s : State := on;
   let m : MemReq := { hpa := 64, metaV := MetaValue.s, noOp := false, tag := 3, data := 0, mask := 0, poison := false };
   decide (s.Awake Dom.upCtl ∧ s.Awake Dom.upPhy ∧ (s.wholeSafe = true ∨ s.hdmDecode m.hpa.toNat = none))),
   (let s : State := st92;
   let m : MemReq := { hpa := 64, metaV := MetaValue.s, noOp := false, tag := 3, data := 0, mask := 0, poison := false };
   let da : Nat := 64;
   decide
     (s.Awake Dom.upCtl ∧
       s.Awake Dom.upPhy ∧ s.wholeSafe = false ∧ s.hdmDecode m.hpa.toNat = some da ∧ s.biTxn? (da / 64) = none)),
   (let s : State := st95;
   let two : State := State.bump Reg.SF_STAT_BICONFLICT s;
   let line : BitVec 42 := 0;
   decide (s.Awake Dom.upCtl ∧ s.Awake Dom.upPhy ∧ two.biTxn? line.toNat ≠ none)),
   (let s : State := st95;
   let line : BitVec 42 := 0;
   let t : Txn :=
     let __src : Txn := txn0 TxnKind.rdShared TxnPhase.snooping;
     { slice := __src.slice, tag := __src.tag, line := __src.line, kind := __src.kind, asker := __src.asker,
       phase := __src.phase, credit := __src.credit, snoops := [16], since := __src.since, data := __src.data,
       dirty := __src.dirty, poison := __src.poison, direct := __src.direct, directDirty := __src.directDirty,
       fwd := __src.fwd, keptF := __src.keptF, evicted := __src.evicted, early := __src.early, needDat := __src.needDat,
       owes := __src.owes, err := __src.err, ctx := __src.ctx, missed := __src.missed, decided := __src.decided,
       way := __src.way, off := __src.off };
   decide (s.Awake Dom.upCtl ∧ s.Awake Dom.upPhy ∧ s.biTxn? line.toNat = some t)),
   (let t : Txn :=
     let __src : Txn := txn0 TxnKind.memClean TxnPhase.queued;
     { slice := __src.slice, tag := __src.tag, line := __src.line, kind := __src.kind, asker := Asker.host 2,
       phase := __src.phase, credit := __src.credit, snoops := __src.snoops, since := __src.since, data := __src.data,
       dirty := __src.dirty, poison := __src.poison, direct := __src.direct, directDirty := __src.directDirty,
       fwd := __src.fwd, keptF := __src.keptF, evicted := __src.evicted, early := __src.early, needDat := __src.needDat,
       owes := __src.owes, err := __src.err, ctx := __src.ctx, missed := __src.missed, decided := __src.decided,
       way := __src.way, off := __src.off };
   let s : State := st94;
   let tag : Nat := 2;
   let e : SfEntry :=
     let __src : SfEntry := sf0 SfSt.hostx 31;
     { tag := __src.tag, st := __src.st, host := true, multi := __src.multi, fwd := __src.fwd };
   decide
     (isHostLine t.line = false ∧
       t.asker = Asker.host tag ∧
         t.evicted = false ∧ t.fwd = false ∧ s.sfEntry t.line = some e ∧ t.kind = TxnKind.memClean)),
   (let t : Txn :=
     let __src : Txn := txn0 TxnKind.memOwn TxnPhase.queued;
     { slice := __src.slice, tag := __src.tag, line := __src.line, kind := __src.kind, asker := Asker.host 2,
       phase := __src.phase, credit := __src.credit, snoops := __src.snoops, since := __src.since, data := __src.data,
       dirty := __src.dirty, poison := __src.poison, direct := __src.direct, directDirty := __src.directDirty,
       fwd := __src.fwd, keptF := __src.keptF, evicted := __src.evicted, early := __src.early, needDat := __src.needDat,
       owes := __src.owes, err := __src.err, ctx := __src.ctx, missed := __src.missed, decided := __src.decided,
       way := __src.way, off := __src.off };
   let tag : Nat := 2;
   decide
     (isHostLine t.line = false ∧ t.asker = Asker.host tag ∧ t.evicted = false ∧ t.fwd = false ∧ t.kind = TxnKind.memOwn))].all id = true := by decide +kernel

theorem witness_HostMemory_2 : [
   (let t : Txn :=
     let __src : Txn := txn0 TxnKind.memShared TxnPhase.queued;
     { slice := __src.slice, tag := __src.tag, line := __src.line, kind := __src.kind, asker := Asker.host 2,
       phase := __src.phase, credit := __src.credit, snoops := __src.snoops, since := __src.since, data := __src.data,
       dirty := __src.dirty, poison := __src.poison, direct := __src.direct, directDirty := __src.directDirty,
       fwd := __src.fwd, keptF := __src.keptF, evicted := __src.evicted, early := __src.early, needDat := __src.needDat,
       owes := __src.owes, err := __src.err, ctx := __src.ctx, missed := __src.missed, decided := __src.decided,
       way := __src.way, off := __src.off };
   let s : State := st90;
   let tag : Nat := 2;
   decide
     (isHostLine t.line = false ∧
       t.asker = Asker.host tag ∧
         t.evicted = false ∧ t.fwd = false ∧ t.kind = TxnKind.memShared ∧ t.keptF = false ∧ s.sfEntry t.line = none)),
   (let t : Txn :=
     let __src : Txn := txn0 TxnKind.memCur TxnPhase.queued;
     { slice := __src.slice, tag := __src.tag, line := __src.line, kind := __src.kind, asker := Asker.host 2,
       phase := __src.phase, credit := __src.credit, snoops := __src.snoops, since := __src.since, data := __src.data,
       dirty := __src.dirty, poison := __src.poison, direct := __src.direct, directDirty := __src.directDirty,
       fwd := __src.fwd, keptF := __src.keptF, evicted := __src.evicted, early := __src.early, needDat := __src.needDat,
       owes := __src.owes, err := __src.err, ctx := __src.ctx, missed := __src.missed, decided := __src.decided,
       way := __src.way, off := __src.off };
   let tag : Nat := 2;
   decide
     (isHostLine t.line = false ∧ t.asker = Asker.host tag ∧ t.evicted = false ∧ t.fwd = false ∧ t.kind = TxnKind.memCur)),
   (let t : Txn :=
     let __src : Txn := txn0 (TxnKind.memWrite MetaValue.i 1 2 false) TxnPhase.queued;
     { slice := __src.slice, tag := __src.tag, line := __src.line, kind := __src.kind, asker := Asker.host 2,
       phase := __src.phase, credit := __src.credit, snoops := __src.snoops, since := __src.since, data := __src.data,
       dirty := __src.dirty, poison := __src.poison, direct := __src.direct, directDirty := __src.directDirty,
       fwd := __src.fwd, keptF := __src.keptF, evicted := __src.evicted, early := __src.early, needDat := __src.needDat,
       owes := __src.owes, err := __src.err, ctx := __src.ctx, missed := __src.missed, decided := __src.decided,
       way := __src.way, off := __src.off };
   let s : State := st94;
   let tag : Nat := 2;
   let e : SfEntry :=
     let __src : SfEntry := sf0 SfSt.hostx 31;
     { tag := __src.tag, st := __src.st, host := true, multi := __src.multi, fwd := __src.fwd };
   let mv : MetaValue := MetaValue.i;
   let mask : BitVec 64 := 1;
   let data : Line := 2;
   let po : Bool := false;
   decide
     (isHostLine t.line = false ∧
       t.asker = Asker.host tag ∧
         t.evicted = false ∧ t.fwd = false ∧ s.sfEntry t.line = some e ∧ t.kind = TxnKind.memWrite mv mask data po))].all id = true := by decide +kernel

theorem witness_HostCacheMessages : [
   (let s : State := on;
   let line : BitVec 42 := line0;
   let la : Nat := hostLa line.toNat;
   let n : Nat := dcSlice s la;
   let at_ : Nat := hostLineOf la;
   let side : Bool := (s.pref n).side.any fun e ↦ decide (e.fst = la);
   let c : Instr := Instr.snpData line;
   decide
     (s.Awake Dom.upCtl ∧
       s.Awake Dom.upPhy ∧
         s.homeReady n at_ = true ∧
           s.dcHState la = 0 ∧
             s.openTxn? at_ = none ∧ side = false ∧ c ∈ [Instr.snpData line, Instr.snpInv line, Instr.snpCur line])),
   (let s : State := on;
   let line : BitVec 42 := line0;
   let la : Nat := hostLa line.toNat;
   let n : Nat := dcSlice s la;
   let at_ : Nat := hostLineOf la;
   decide (s.Awake Dom.upCtl ∧ s.Awake Dom.upPhy ∧ (∀ (x : Txn), x ∈ s.sf.txns → x.line ≠ at_) ∧ ¬la ∈ (s.pref n).inFlight)),
   (let s : State := st96;
   let line : BitVec 42 := line0;
   let la : Nat := hostLa line.toNat;
   let n : Nat := dcSlice s la;
   let at_ : Nat := hostLineOf la;
   let c : Instr := Instr.snpData line;
   let k : TxnKind := TxnKind.rdShared;
   decide
     (s.Awake Dom.upCtl ∧
       s.Awake Dom.upPhy ∧
         s.homeReady n at_ = false ∧
           (c, k) ∈
             [(Instr.snpData line, TxnKind.rdShared), (Instr.snpInv line, TxnKind.backInv false),
               (Instr.snpCur line, TxnKind.rdCur)])),
   (let s : State := st97;
   let line : BitVec 42 := line0;
   let la : Nat := hostLa line.toNat;
   let at_ : Nat := hostLineOf la;
   let g : Grant := Grant.s;
   let t : Txn := s.sf.txns.head?.getD (txn0 TxnKind.rdCur TxnPhase.queued);
   decide
     (s.Awake Dom.upCtl ∧
       s.Awake Dom.upPhy ∧ s.sf.txns = [t] ∧ t.line = at_ ∧ t.phase = TxnPhase.hostReq D2h.rdOwn ∧ g = Grant.s)),
   (let s : State := st97;
   let line : BitVec 42 := line0;
   let la : Nat := hostLa line.toNat;
   let at_ : Nat := hostLineOf la;
   let g : Grant := Grant.e;
   let t : Txn := s.sf.txns.head?.getD (txn0 TxnKind.rdCur TxnPhase.queued);
   decide
     (s.Awake Dom.upCtl ∧
       s.Awake Dom.upPhy ∧
         s.sf.txns = [t] ∧
           t.line = at_ ∧ (t.phase = TxnPhase.hostReq D2h.rdShared ∨ t.phase = TxnPhase.hostReq D2h.rdOwn ∧ g ≠ Grant.s))),
   (let s : State := st98;
   let line : BitVec 42 := line0;
   let la : Nat := hostLa line.toNat;
   let n : Nat := dcSlice s la;
   let at_ : Nat := hostLineOf la;
   let side : Bool := (s.pref n).side.any fun e ↦ decide (e.fst = la);
   decide
     (s.Awake Dom.upCtl ∧
       s.Awake Dom.upPhy ∧ s.homeReady n at_ = true ∧ s.dcHState la = 0 ∧ s.openTxn? at_ = none ∧ side = true)),
   (let s : State := st99;
   let line : BitVec 42 := line0;
   let la : Nat := hostLa line.toNat;
   let n : Nat := dcSlice s la;
   let at_ : Nat := hostLineOf la;
   decide (s.Awake Dom.upCtl ∧ s.Awake Dom.upPhy ∧ (∀ (x : Txn), x ∈ s.sf.txns → x.line ≠ at_) ∧ la ∈ (s.pref n).inFlight)),
   (let s : State := st100;
   let line : BitVec 42 := line0;
   let la : Nat := hostLa line.toNat;
   let at_ : Nat := hostLineOf la;
   let t : Txn := s.sf.txns.head?.getD (txn0 TxnKind.rdCur TxnPhase.queued);
   decide
     (s.Awake Dom.upCtl ∧
       s.Awake Dom.upPhy ∧
         List.find? (fun t ↦ decide (t.line = at_) && decide (t.phase = TxnPhase.hostReq D2h.rdCurr)) s.sf.txns = some t ∧
           ∀ (x : Txn), x ∈ s.sf.txns → x.line = at_ → x = t)),
   (let s : State := st102;
   let line : BitVec 42 := line0;
   let la : Nat := hostLa line.toNat;
   let at_ : Nat := hostLineOf la;
   let g : Grant := Grant.e;
   let t : Txn := s.sf.txns.head?.getD (txn0 TxnKind.rdCur TxnPhase.queued);
   decide
     (s.Awake Dom.upCtl ∧
       s.Awake Dom.upPhy ∧
         s.sf.txns = [t] ∧ t.line = at_ ∧ t.phase = TxnPhase.hostReq D2h.rdOwnNoData ∧ s.dcHState la ≠ 0 ∧ g ≠ Grant.s))].all id = true := by decide +kernel

theorem witness_HostCacheMessages_2 : [
   (let s : State := st103;
   let line : BitVec 42 := line0;
   let la : Nat := hostLa line.toNat;
   let at_ : Nat := hostLineOf la;
   let t : Txn := s.sf.txns.head?.getD (txn0 TxnKind.rdCur TxnPhase.queued);
   decide (s.Awake Dom.upCtl ∧ s.Awake Dom.upPhy ∧ s.sf.txns = [t] ∧ t.line = at_ ∧ t.phase = TxnPhase.writePull at_))].all id = true := by decide +kernel

theorem witness_DeviceCacheCommands : [
   (let s : State := on;
   decide (s.OpenReg Reg.SF_CTRL)),
   (let v : Word := 0;
   let s : State := on;
   decide (s.OpenReg Reg.SF_PRED ∧ s.Open (Dom.sf (bits v 19 16)))),
   (let code : Nat := 1;
   let v : Word := 1;
   let s : State := on;
   let t : State := State.storeReg Reg.DC_CMD Half.full v s;
   decide (s.OpenReg Reg.DC_CMD ∧ bits v 3 0 = code ∧ t.dc.cmd = 0 ∧ code = 1)),
   (let code : Nat := 1;
   let v : Word := 1;
   let s : State := sSect false;
   let t : State := State.storeReg Reg.DC_CMD Half.full v s;
   decide (s.OpenReg Reg.DC_CMD ∧ bits v 3 0 = code ∧ t.dc.cmd ≠ 0)),
   (let code : Nat := 2;
   let v : Word := 2;
   let s : State := on;
   let t : State := State.storeReg Reg.DC_CMD Half.full v s;
   decide (s.OpenReg Reg.DC_CMD ∧ bits v 3 0 = code ∧ t.dc.cmd = 0 ∧ code = 2)),
   (let code : Nat := 3;
   let v : Word := 3;
   let s : State := on;
   let t : State := State.storeReg Reg.DC_CMD Half.full v s;
   decide (s.OpenReg Reg.DC_CMD ∧ bits v 3 0 = code ∧ t.dc.cmd = 0 ∧ code = 3)),
   (let code : Nat := 4;
   let v : Word := 4;
   let s : State := on;
   let t : State := State.storeReg Reg.DC_CMD Half.full v s;
   decide (s.OpenReg Reg.DC_CMD ∧ bits v 3 0 = code ∧ t.dc.cmd = 0 ∧ code = 4)),
   (let s : State := on;
   decide (s.dcWaiting = false ∧ s.dcMore = false ∧ s.dc.cmd = 0)),
   (let s : State := sSect false;
   let pend : List Nat :=
     List.filter (fun n ↦ bit s.dc.cmdArg (32 + n) && decide (s.regBits (Reg.DC_SLICE_CFG + 8 * n) 0 0 ≠ s.dcMode n))
       (List.range 16);
   let left : Bool := List.any s.dc.lines fun e ↦ decide (e.fst / 65536 ∈ pend);
   decide (s.dcWaiting = false ∧ s.dcMore = false ∧ s.dc.cmd = 3 ∧ left = false))].all id = true := by decide +kernel

theorem witness_DeviceCacheCommands_2 : [
   (let s : State := sSect true;
   let pend : List Nat :=
     List.filter (fun n ↦ bit s.dc.cmdArg (32 + n) && decide (s.regBits (Reg.DC_SLICE_CFG + 8 * n) 0 0 ≠ s.dcMode n))
       (List.range 16);
   let left : Bool := List.any s.dc.lines fun e ↦ decide (e.fst / 65536 ∈ pend);
   decide (s.dcWaiting = false ∧ s.dcMore = false ∧ s.dc.cmd = 3 ∧ left = true)),
   (let s : State := st104;
   decide (s.dcWaiting = false ∧ s.dcMore = false ∧ s.dc.cmd ≠ 0 ∧ s.dc.cmd ≠ 3))].all id = true := by decide +kernel

theorem witness_DeviceCacheCommands_mem : let c : Half → Word → Instr := Instr.preloadLock;
   let code : Nat := 1;
   (c, code) ∈ [(Instr.preloadLock, 1), (Instr.unlock, 2), (Instr.flush, 3), (Instr.flushContext, 4)] := by simp

theorem witness_DeviceCacheCommands_mem2 : let c : Half → Word → Instr := Instr.unlock;
   let code : Nat := 2;
   (c, code) ∈ [(Instr.preloadLock, 1), (Instr.unlock, 2), (Instr.flush, 3), (Instr.flushContext, 4)] := by simp

theorem witness_DeviceCacheCommands_mem3 : let c : Half → Word → Instr := Instr.flush;
   let code : Nat := 3;
   (c, code) ∈ [(Instr.preloadLock, 1), (Instr.unlock, 2), (Instr.flush, 3), (Instr.flushContext, 4)] := by simp

theorem witness_DeviceCacheCommands_mem4 : let c : Half → Word → Instr := Instr.flushContext;
   let code : Nat := 4;
   (c, code) ∈ [(Instr.preloadLock, 1), (Instr.unlock, 2), (Instr.flush, 3), (Instr.flushContext, 4)] := by simp

theorem witness_PeerRequests : [
   (let m : IplPkt := pkt0;
   let s : State := on;
   let port : PlPort := s.plPort ↑m.port;
   let cost : Nat := 1 + m.payload.length;
   let room : IplOp → Nat := fun op ↦ port.grant.getD (State.plClass op) 0;
   let op : IplOp := IplOp.write;
   decide (s.Awake (Dom.plLogic ↑m.port) ∧ s.Awake (Dom.plIf ↑m.port) ∧ (s.plUp ↑m.port = false ∨ room op < cost))),
   (let m : IplPkt := pkt0;
   let s : State := sPl on;
   let port : PlPort := s.plPort ↑m.port;
   let node : Nat := m.src.toNat;
   let flow : Nat := m.flow.toNat;
   let cost : Nat := 1 + m.payload.length;
   let room : IplOp → Nat := fun op ↦ port.grant.getD (State.plClass op) 0;
   let up : IplOp → State := fun op ↦
     State.setPlPort ↑m.port
       { linkUp := port.linkUp, x8 := port.x8, high := port.high, training := port.training, retrain := port.retrain,
         ready := port.ready, fault := port.fault, replays := port.replays, fails := 0, credits := port.credits,
         held := port.held, grant := port.grant.set (State.plClass op) (room op - cost) }
       s;
   let op : IplOp := IplOp.write;
   decide
     (s.Awake (Dom.plLogic ↑m.port) ∧
       s.Awake (Dom.plIf ↑m.port) ∧
         s.plUp ↑m.port = true ∧ cost ≤ room op ∧ (up op).plBad op m = false ∧ (s.plRx node flow).expected = none)),
   (let m : IplPkt := pkt0;
   let s : State := sPl on;
   let port : PlPort := s.plPort ↑m.port;
   let cost : Nat := 1 + m.payload.length;
   let room : IplOp → Nat := fun op ↦ port.grant.getD (State.plClass op) 0;
   let up : IplOp → State := fun op ↦
     State.setPlPort ↑m.port
       { linkUp := port.linkUp, x8 := port.x8, high := port.high, training := port.training, retrain := port.retrain,
         ready := port.ready, fault := port.fault, replays := port.replays, fails := 0, credits := port.credits,
         held := port.held, grant := port.grant.set (State.plClass op) (room op - cost) }
       s;
   let op : IplOp := IplOp.read;
   decide
     (s.Awake (Dom.plLogic ↑m.port) ∧
       s.Awake (Dom.plIf ↑m.port) ∧ s.plUp ↑m.port = true ∧ cost ≤ room op ∧ (up op).plBad op m = true)),
   (let m : IplPkt := pkt0;
   let s : State := sPlRx (some 3) [] (sPl on);
   let port : PlPort := s.plPort ↑m.port;
   let node : Nat := m.src.toNat;
   let flow : Nat := m.flow.toNat;
   let seq : Nat := m.seq.toNat;
   let cost : Nat := 1 + m.payload.length;
   let room : IplOp → Nat := fun op ↦ port.grant.getD (State.plClass op) 0;
   let up : IplOp → State := fun op ↦
     State.setPlPort ↑m.port
       { linkUp := port.linkUp, x8 := port.x8, high := port.high, training := port.training, retrain := port.retrain,
         ready := port.ready, fault := port.fault, replays := port.replays, fails := 0, credits := port.credits,
         held := port.held, grant := port.grant.set (State.plClass op) (room op - cost) }
       s;
   let op : IplOp := IplOp.write;
   let e : Nat := 3;
   let win : Option Nat := s.plWindow op node m.addr.toNat m.len.toNat;
   let fault : Nat := if State.plMalformed op m = true then Ipl.MALFORMED else if win.isNone = true then Ipl.DENIED else 0;
   decide
     (s.Awake (Dom.plLogic ↑m.port) ∧
       s.Awake (Dom.plIf ↑m.port) ∧
         s.plUp ↑m.port = true ∧
           cost ≤ room op ∧
             (up op).plBad op m = false ∧ (s.plRx node flow).expected = some e ∧ seq = e ∧ fault = Ipl.DENIED)),
   (let m : IplPkt := pkt0;
   let s : State := sPlRx (some 3) [] (sPl on);
   let port : PlPort := s.plPort ↑m.port;
   let node : Nat := m.src.toNat;
   let flow : Nat := m.flow.toNat;
   let seq : Nat := m.seq.toNat;
   let cost : Nat := 1 + m.payload.length;
   let room : IplOp → Nat := fun op ↦ port.grant.getD (State.plClass op) 0;
   let up : IplOp → State := fun op ↦
     State.setPlPort ↑m.port
       { linkUp := port.linkUp, x8 := port.x8, high := port.high, training := port.training, retrain := port.retrain,
         ready := port.ready, fault := port.fault, replays := port.replays, fails := 0, credits := port.credits,
         held := port.held, grant := port.grant.set (State.plClass op) (room op - cost) }
       s;
   let op : IplOp := IplOp.atomic;
   let e : Nat := 3;
   let win : Option Nat := s.plWindow op node m.addr.toNat m.len.toNat;
   let fault : Nat := if State.plMalformed op m = true then Ipl.MALFORMED else if win.isNone = true then Ipl.DENIED else 0;
   decide
     (s.Awake (Dom.plLogic ↑m.port) ∧
       s.Awake (Dom.plIf ↑m.port) ∧
         s.plUp ↑m.port = true ∧
           cost ≤ room op ∧
             (up op).plBad op m = false ∧ (s.plRx node flow).expected = some e ∧ seq = e ∧ fault ≠ Ipl.DENIED)),
   (let m : IplPkt :=
     let __src : IplPkt := pkt0;
     { port := __src.port, dst := __src.dst, src := __src.src, flow := __src.flow, seq := __src.seq, cum := __src.cum,
       status := __src.status, subop := __src.subop, len := __src.len, addr := __src.addr, rsvd := __src.rsvd,
       poison := __src.poison, payload := [] };
   let s : State := sPl on;
   let port : PlPort := s.plPort ↑m.port;
   let cost : Nat := 1 + m.payload.length;
   let room : IplOp → Nat := fun op ↦ port.grant.getD (State.plClass op) 0;
   let up : IplOp → State := fun op ↦
     State.setPlPort ↑m.port
       { linkUp := port.linkUp, x8 := port.x8, high := port.high, training := port.training, retrain := port.retrain,
         ready := port.ready, fault := port.fault, replays := port.replays, fails := 0, credits := port.credits,
         held := port.held, grant := port.grant.set (State.plClass op) (room op - cost) }
       s;
   decide
     (s.Awake (Dom.plLogic ↑m.port) ∧
       s.Awake (Dom.plIf ↑m.port) ∧
         s.plUp ↑m.port = true ∧ cost ≤ room IplOp.sync ∧ (up IplOp.sync).plBad IplOp.sync m = false)),
   (let m : IplPkt :=
     let __src : IplPkt := pkt0;
     { port := __src.port, dst := __src.dst, src := __src.src, flow := __src.flow, seq := 2, cum := __src.cum,
       status := __src.status, subop := __src.subop, len := __src.len, addr := __src.addr, rsvd := __src.rsvd,
       poison := __src.poison, payload := [] };
   let s : State := sPlRx (some 3) [] (sPl on);
   let port : PlPort := s.plPort ↑m.port;
   let node : Nat := m.src.toNat;
   let flow : Nat := m.flow.toNat;
   let seq : Nat := m.seq.toNat;
   let cost : Nat := 1 + m.payload.length;
   let room : IplOp → Nat := fun op ↦ port.grant.getD (State.plClass op) 0;
   let up : IplOp → State := fun op ↦
     State.setPlPort ↑m.port
       { linkUp := port.linkUp, x8 := port.x8, high := port.high, training := port.training, retrain := port.retrain,
         ready := port.ready, fault := port.fault, replays := port.replays, fails := 0, credits := port.credits,
         held := port.held, grant := port.grant.set (State.plClass op) (room op - cost) }
       s;
   let left : IplOp → State := fun op ↦ State.plGive (↑m.port) (State.plClass op) cost (up op);
   let op : IplOp := IplOp.read;
   let e : Nat := 3;
   let d : State :=
     State.updPlRx node flow
       (fun r ↦
         { expected := r.expected, acc := r.acc, owed := r.owed, oldest := r.oldest, lastNak := r.lastNak, dup := true })
       (State.bump Reg.PL_STAT_DUP (left op));
   decide
     (s.Awake (Dom.plLogic ↑m.port) ∧
       s.Awake (Dom.plIf ↑m.port) ∧
         s.plUp ↑m.port = true ∧
           cost ≤ room op ∧
             (up op).plBad op m = false ∧
               (s.plRx node flow).expected = some e ∧
                 seq ≠ e ∧ (e + 65536 - 1 - seq) % 65536 < 32768 ∧ ((d.plRx node flow).acc.all fun x ↦ x.old) = true)),
   (let m : IplPkt :=
     let __src : IplPkt := pkt0;
     { port := __src.port, dst := __src.dst, src := __src.src, flow := __src.flow, seq := 2, cum := __src.cum,
       status := __src.status, subop := __src.subop, len := __src.len, addr := __src.addr, rsvd := __src.rsvd,
       poison := __src.poison, payload := [] };
   let s : State := st105;
   let port : PlPort := s.plPort ↑m.port;
   let node : Nat := m.src.toNat;
   let flow : Nat := m.flow.toNat;
   let seq : Nat := m.seq.toNat;
   let cost : Nat := 1 + m.payload.length;
   let room : IplOp → Nat := fun op ↦ port.grant.getD (State.plClass op) 0;
   let up : IplOp → State := fun op ↦
     State.setPlPort ↑m.port
       { linkUp := port.linkUp, x8 := port.x8, high := port.high, training := port.training, retrain := port.retrain,
         ready := port.ready, fault := port.fault, replays := port.replays, fails := 0, credits := port.credits,
         held := port.held, grant := port.grant.set (State.plClass op) (room op - cost) }
       s;
   let left : IplOp → State := fun op ↦ State.plGive (↑m.port) (State.plClass op) cost (up op);
   let op : IplOp := IplOp.read;
   let e : Nat := 3;
   let d : State :=
     State.updPlRx node flow
       (fun r ↦
         { expected := r.expected, acc := r.acc, owed := r.owed, oldest := r.oldest, lastNak := r.lastNak, dup := true })
       (State.bump Reg.PL_STAT_DUP (left op));
   decide
     (s.Awake (Dom.plLogic ↑m.port) ∧
       s.Awake (Dom.plIf ↑m.port) ∧
         s.plUp ↑m.port = true ∧
           cost ≤ room op ∧
             (up op).plBad op m = false ∧
               (s.plRx node flow).expected = some e ∧
                 seq ≠ e ∧ (e + 65536 - 1 - seq) % 65536 < 32768 ∧ ((d.plRx node flow).acc.all fun x ↦ x.old) = false)),
   (let m : IplPkt :=
     let __src : IplPkt := pkt0;
     { port := __src.port, dst := __src.dst, src := __src.src, flow := __src.flow, seq := 9, cum := __src.cum,
       status := __src.status, subop := __src.subop, len := __src.len, addr := __src.addr, rsvd := __src.rsvd,
       poison := __src.poison, payload := [] };
   let s : State := sPlRx (some 3) [] (sPl on);
   let port : PlPort := s.plPort ↑m.port;
   let node : Nat := m.src.toNat;
   let flow : Nat := m.flow.toNat;
   let seq : Nat := m.seq.toNat;
   let cost : Nat := 1 + m.payload.length;
   let room : IplOp → Nat := fun op ↦ port.grant.getD (State.plClass op) 0;
   let up : IplOp → State := fun op ↦
     State.setPlPort ↑m.port
       { linkUp := port.linkUp, x8 := port.x8, high := port.high, training := port.training, retrain := port.retrain,
         ready := port.ready, fault := port.fault, replays := port.replays, fails := 0, credits := port.credits,
         held := port.held, grant := port.grant.set (State.plClass op) (room op - cost) }
       s;
   let op : IplOp := IplOp.read;
   let e : Nat := 3;
   decide
     (s.Awake (Dom.plLogic ↑m.port) ∧
       s.Awake (Dom.plIf ↑m.port) ∧
         s.plUp ↑m.port = true ∧
           cost ≤ room op ∧
             (up op).plBad op m = false ∧
               (s.plRx node flow).expected = some e ∧ seq ≠ e ∧ 32768 ≤ (e + 65536 - 1 - seq) % 65536))].all id = true := by decide +kernel

theorem witness_PeerRequests_2 : [
   (let m : IplPkt := pkt0;
   let n : Nat := m.len.toNat;
   decide (n ≠ 4 ∧ n ≠ 8)),
   (let m : IplPkt := pkt0;
   let a : Nat := m.addr.toNat;
   let n : Nat := m.len.toNat;
   decide (m.cum = false ∧ m.status = 0 ∧ m.subop = 0 ∧ 0 < n ∧ n ≤ 1024 ∧ a / 1024 = (a + n - 1) / 1024)),
   (let m : IplPkt :=
     let __src : IplPkt := pkt0;
     { port := __src.port, dst := __src.dst, src := __src.src, flow := __src.flow, seq := __src.seq, cum := __src.cum,
       status := __src.status, subop := __src.subop, len := 2000, addr := __src.addr, rsvd := __src.rsvd,
       poison := __src.poison, payload := __src.payload };
   let a : Nat := m.addr.toNat;
   let n : Nat := m.len.toNat;
   let op : IplOp := IplOp.write;
   decide
     ((op = IplOp.write ∨ op = IplOp.read ∨ op = IplOp.reduceWrite) ∧ (n = 0 ∨ 1024 < n ∨ a / 1024 ≠ (a + n - 1) / 1024))),
   (let m : IplPkt :=
     let __src : IplPkt := pkt0;
     { port := __src.port, dst := __src.dst, src := __src.src, flow := __src.flow, seq := __src.seq, cum := __src.cum,
       status := __src.status, subop := __src.subop, len := __src.len, addr := 3, rsvd := __src.rsvd,
       poison := __src.poison, payload := __src.payload };
   let a : Nat := m.addr.toNat;
   let n : Nat := m.len.toNat;
   decide (a % max 1 n ≠ 0)),
   (let m : IplPkt :=
     let __src : IplPkt := pkt0;
     { port := __src.port, dst := __src.dst, src := __src.src, flow := __src.flow, seq := __src.seq, cum := __src.cum,
       status := __src.status, subop := 3, len := __src.len, addr := __src.addr, rsvd := __src.rsvd,
       poison := __src.poison, payload := __src.payload };
   decide (2 < m.subop.toNat)),
   (let a : PlAcc := acc0 IplOp.write;
   decide (a.done = none ∧ a.issued = false)),
   (let a : PlAcc :=
     let __src : PlAcc := acc0 IplOp.write;
     { seq := __src.seq, op := __src.op, subop := __src.subop, addr := __src.addr, len := __src.len,
       payload := __src.payload, fn := __src.fn, poison := __src.poison, fault := __src.fault, issued := __src.issued,
       done := some 0, old := __src.old, port := __src.port, freed := __src.freed };
   let st : Nat := 0;
   decide (a.done = some st ∧ st = 0 ∧ a.old = false ∧ (a.op = IplOp.write ∨ a.op = IplOp.reduceWrite))),
   (let a : PlAcc :=
     let __src : PlAcc := acc0 IplOp.write;
     { seq := __src.seq, op := __src.op, subop := __src.subop, addr := __src.addr, len := __src.len,
       payload := __src.payload, fn := __src.fn, poison := __src.poison, fault := __src.fault, issued := __src.issued,
       done := some 0, old := true, port := __src.port, freed := __src.freed };
   let st : Nat := 0;
   decide (a.done = some st ∧ st = 0 ∧ a.old = true ∧ (a.op = IplOp.write ∨ a.op = IplOp.reduceWrite))),
   (let a : PlAcc :=
     let __src : PlAcc := acc0 IplOp.read;
     { seq := __src.seq, op := __src.op, subop := __src.subop, addr := __src.addr, len := __src.len,
       payload := __src.payload, fn := __src.fn, poison := __src.poison, fault := __src.fault, issued := __src.issued,
       done := some 0, old := __src.old, port := __src.port, freed := __src.freed };
   let st : Nat := 0;
   decide (a.done = some st ∧ (a.op = IplOp.read ∨ a.op = IplOp.atomic)))].all id = true := by decide +kernel

theorem witness_PeerRequests_3 : [
   (let a : PlAcc :=
     let __src : PlAcc := acc0 IplOp.write;
     { seq := __src.seq, op := __src.op, subop := __src.subop, addr := __src.addr, len := __src.len,
       payload := __src.payload, fn := __src.fn, poison := __src.poison, fault := __src.fault, issued := __src.issued,
       done := some 3, old := __src.old, port := __src.port, freed := __src.freed };
   let st : Nat := 3;
   decide (a.done = some st ∧ st ≠ 0 ∧ (a.op = IplOp.write ∨ a.op = IplOp.reduceWrite)))].all id = true := by decide +kernel

theorem witness_PeerRequests_mem : let op : IplOp := IplOp.write;
   let c : IplPkt → Instr := Instr.iplWrite;
   (op, c) ∈
     [(IplOp.write, Instr.iplWrite), (IplOp.read, Instr.iplRead), (IplOp.atomic, Instr.iplAtomic),
       (IplOp.reduceWrite, Instr.iplReduceWrite)] := by simp

theorem witness_PeerRequests_mem2 : let op : IplOp := IplOp.read;
   let c : IplPkt → Instr := Instr.iplRead;
   (op, c) ∈
     [(IplOp.write, Instr.iplWrite), (IplOp.read, Instr.iplRead), (IplOp.atomic, Instr.iplAtomic),
       (IplOp.reduceWrite, Instr.iplReduceWrite)] := by simp

theorem witness_PeerRequests_mem3 : let op : IplOp := IplOp.atomic;
   let c : IplPkt → Instr := Instr.iplAtomic;
   (op, c) ∈
     [(IplOp.write, Instr.iplWrite), (IplOp.read, Instr.iplRead), (IplOp.atomic, Instr.iplAtomic),
       (IplOp.reduceWrite, Instr.iplReduceWrite)] := by simp

theorem witness_PeerResponses : [
   (let m : IplPkt :=
     let __src : IplPkt := pkt0;
     { port := __src.port, dst := __src.dst, src := __src.src, flow := __src.flow, seq := __src.seq, cum := true,
       status := __src.status, subop := __src.subop, len := __src.len, addr := __src.addr, rsvd := __src.rsvd,
       poison := __src.poison, payload := [] };
   let s : State := sPl on;
   let port : PlPort := s.plPort ↑m.port;
   let cost : Nat := 1 + m.payload.length;
   let room : IplOp → Nat := fun op ↦ port.grant.getD (State.plClass op) 0;
   let held : IplOp → State := fun op ↦
     State.setPlPort ↑m.port
       { linkUp := port.linkUp, x8 := port.x8, high := port.high, training := port.training, retrain := port.retrain,
         ready := port.ready, fault := port.fault, replays := port.replays, fails := 0, credits := port.credits,
         held := port.held, grant := port.grant.set (State.plClass op) (room op - cost) }
       s;
   let node : Nat := m.src.toNat;
   let flow : Nat := m.flow.toNat;
   let seq : Nat := m.seq.toNat;
   let tx : PlTx := s.plTx node flow;
   let done : List PlSent :=
     List.filter
       (fun x ↦
         decide (x.op = IplOp.write ∨ x.op = IplOp.reduceWrite ∨ x.op = IplOp.sync) &&
           decide ((seq + 65536 - x.seq) % 65536 < 32768))
       tx.unacked;
   decide
     (s.Awake (Dom.plLogic ↑m.port) ∧
       s.Awake (Dom.plIf ↑m.port) ∧
         s.plUp ↑m.port = true ∧
           cost ≤ room IplOp.cmp ∧ (held IplOp.cmp).plBad IplOp.cmp m = false ∧ m.cum = true ∧ done = [])),
   (let m : IplPkt :=
     let __src : IplPkt := pkt0;
     { port := __src.port, dst := __src.dst, src := __src.src, flow := __src.flow, seq := __src.seq, cum := true,
       status := __src.status, subop := __src.subop, len := __src.len, addr := __src.addr, rsvd := __src.rsvd,
       poison := __src.poison, payload := [] };
   let s : State := sPl on;
   let port : PlPort := s.plPort ↑m.port;
   let cost : Nat := 1 + m.payload.length;
   let room : IplOp → Nat := fun op ↦ port.grant.getD (State.plClass op) 0;
   let held : IplOp → State := fun op ↦
     State.setPlPort ↑m.port
       { linkUp := port.linkUp, x8 := port.x8, high := port.high, training := port.training, retrain := port.retrain,
         ready := port.ready, fault := port.fault, replays := port.replays, fails := 0, credits := port.credits,
         held := port.held, grant := port.grant.set (State.plClass op) (room op - cost) }
       s;
   decide
     (s.Awake (Dom.plLogic ↑m.port) ∧
       s.Awake (Dom.plIf ↑m.port) ∧
         s.plUp ↑m.port = true ∧
           cost ≤ room IplOp.nak ∧ (held IplOp.nak).plBad IplOp.nak m = false ∧ m.status.toNat ≠ Ipl.SYNC_NEEDED)),
   (let m : IplPkt :=
     let __src : IplPkt := pkt0;
     { port := __src.port, dst := __src.dst, src := __src.src, flow := __src.flow, seq := __src.seq, cum := true,
       status := __src.status, subop := __src.subop, len := __src.len, addr := __src.addr, rsvd := __src.rsvd,
       poison := __src.poison, payload := [] };
   let s : State := sPlTx [sent0 IplOp.write] (sPl on);
   let port : PlPort := s.plPort ↑m.port;
   let cost : Nat := 1 + m.payload.length;
   let room : IplOp → Nat := fun op ↦ port.grant.getD (State.plClass op) 0;
   let held : IplOp → State := fun op ↦
     State.setPlPort ↑m.port
       { linkUp := port.linkUp, x8 := port.x8, high := port.high, training := port.training, retrain := port.retrain,
         ready := port.ready, fault := port.fault, replays := port.replays, fails := 0, credits := port.credits,
         held := port.held, grant := port.grant.set (State.plClass op) (room op - cost) }
       s;
   let node : Nat := m.src.toNat;
   let flow : Nat := m.flow.toNat;
   let seq : Nat := m.seq.toNat;
   let tx : PlTx := s.plTx node flow;
   let done : List PlSent :=
     List.filter
       (fun x ↦
         decide (x.op = IplOp.write ∨ x.op = IplOp.reduceWrite ∨ x.op = IplOp.sync) &&
           decide ((seq + 65536 - x.seq) % 65536 < 32768))
       tx.unacked;
   decide
     (s.Awake (Dom.plLogic ↑m.port) ∧
       s.Awake (Dom.plIf ↑m.port) ∧
         s.plUp ↑m.port = true ∧
           cost ≤ room IplOp.cmp ∧ (held IplOp.cmp).plBad IplOp.cmp m = false ∧ m.cum = true ∧ done ≠ [])),
   (let m : IplPkt :=
     let __src : IplPkt := pkt0;
     { port := __src.port, dst := __src.dst, src := __src.src, flow := __src.flow, seq := __src.seq, cum := __src.cum,
       status := 8, subop := __src.subop, len := __src.len, addr := __src.addr, rsvd := __src.rsvd, poison := __src.poison,
       payload := [] };
   let s : State := sPl on;
   let port : PlPort := s.plPort ↑m.port;
   let cost : Nat := 1 + m.payload.length;
   let room : IplOp → Nat := fun op ↦ port.grant.getD (State.plClass op) 0;
   let held : IplOp → State := fun op ↦
     State.setPlPort ↑m.port
       { linkUp := port.linkUp, x8 := port.x8, high := port.high, training := port.training, retrain := port.retrain,
         ready := port.ready, fault := port.fault, replays := port.replays, fails := 0, credits := port.credits,
         held := port.held, grant := port.grant.set (State.plClass op) (room op - cost) }
       s;
   let node : Nat := m.src.toNat;
   let flow : Nat := m.flow.toNat;
   let seq : Nat := m.seq.toNat;
   let tx : PlTx := s.plTx node flow;
   let own : Option PlSent :=
     List.find?
       (fun x ↦ decide (x.seq = seq) && decide (x.op = IplOp.write ∨ x.op = IplOp.reduceWrite ∨ x.op = IplOp.sync))
       tx.unacked;
   decide
     (s.Awake (Dom.plLogic ↑m.port) ∧
       s.Awake (Dom.plIf ↑m.port) ∧
         s.plUp ↑m.port = true ∧
           cost ≤ room IplOp.cmp ∧ (held IplOp.cmp).plBad IplOp.cmp m = false ∧ m.cum = false ∧ own = none)),
   (let m : IplPkt :=
     let __src : IplPkt := pkt0;
     { port := __src.port, dst := __src.dst, src := __src.src, flow := __src.flow, seq := __src.seq, cum := __src.cum,
       status := 8, subop := __src.subop, len := __src.len, addr := __src.addr, rsvd := __src.rsvd, poison := __src.poison,
       payload := [] };
   let s : State := sPl on;
   let port : PlPort := s.plPort ↑m.port;
   let cost : Nat := 1 + m.payload.length;
   let room : IplOp → Nat := fun op ↦ port.grant.getD (State.plClass op) 0;
   let held : IplOp → State := fun op ↦
     State.setPlPort ↑m.port
       { linkUp := port.linkUp, x8 := port.x8, high := port.high, training := port.training, retrain := port.retrain,
         ready := port.ready, fault := port.fault, replays := port.replays, fails := 0, credits := port.credits,
         held := port.held, grant := port.grant.set (State.plClass op) (room op - cost) }
       s;
   decide
     (s.Awake (Dom.plLogic ↑m.port) ∧
       s.Awake (Dom.plIf ↑m.port) ∧
         s.plUp ↑m.port = true ∧
           cost ≤ room IplOp.nak ∧ (held IplOp.nak).plBad IplOp.nak m = false ∧ m.status.toNat = Ipl.SYNC_NEEDED)),
   (let m : IplPkt :=
     let __src : IplPkt := pkt0;
     { port := __src.port, dst := __src.dst, src := __src.src, flow := __src.flow, seq := __src.seq, cum := __src.cum,
       status := 8, subop := __src.subop, len := 0, addr := __src.addr, rsvd := __src.rsvd, poison := __src.poison,
       payload := [] };
   let s : State := sPl on;
   let port : PlPort := s.plPort ↑m.port;
   let cost : Nat := 1 + m.payload.length;
   let room : IplOp → Nat := fun op ↦ port.grant.getD (State.plClass op) 0;
   let held : IplOp → State := fun op ↦
     State.setPlPort ↑m.port
       { linkUp := port.linkUp, x8 := port.x8, high := port.high, training := port.training, retrain := port.retrain,
         ready := port.ready, fault := port.fault, replays := port.replays, fails := 0, credits := port.credits,
         held := port.held, grant := port.grant.set (State.plClass op) (room op - cost) }
       s;
   let node : Nat := m.src.toNat;
   let flow : Nat := m.flow.toNat;
   let seq : Nat := m.seq.toNat;
   let tx : PlTx := s.plTx node flow;
   let op : IplOp := IplOp.rdata;
   let want : IplOp := IplOp.read;
   decide
     (s.Awake (Dom.plLogic ↑m.port) ∧
       s.Awake (Dom.plIf ↑m.port) ∧
         s.plUp ↑m.port = true ∧
           cost ≤ room op ∧
             (held op).plBad op m = false ∧
               List.find? (fun x ↦ decide (x.seq = seq) && decide (x.op = want)) tx.unacked = none)),
   (let m : IplPkt :=
     let __src : IplPkt := pkt0;
     { port := __src.port, dst := __src.dst, src := __src.src, flow := __src.flow, seq := __src.seq, cum := __src.cum,
       status := 8, subop := __src.subop, len := 0, addr := __src.addr, rsvd := __src.rsvd, poison := __src.poison,
       payload := [] };
   let s : State := sPlTx [sent0 IplOp.read] (sPl on);
   let port : PlPort := s.plPort ↑m.port;
   let cost : Nat := 1 + m.payload.length;
   let room : IplOp → Nat := fun op ↦ port.grant.getD (State.plClass op) 0;
   let held : IplOp → State := fun op ↦
     State.setPlPort ↑m.port
       { linkUp := port.linkUp, x8 := port.x8, high := port.high, training := port.training, retrain := port.retrain,
         ready := port.ready, fault := port.fault, replays := port.replays, fails := 0, credits := port.credits,
         held := port.held, grant := port.grant.set (State.plClass op) (room op - cost) }
       s;
   let node : Nat := m.src.toNat;
   let flow : Nat := m.flow.toNat;
   let seq : Nat := m.seq.toNat;
   let tx : PlTx := s.plTx node flow;
   let op : IplOp := IplOp.rdata;
   let want : IplOp := IplOp.read;
   let x : PlSent := sent0 IplOp.read;
   decide
     (s.Awake (Dom.plLogic ↑m.port) ∧
       s.Awake (Dom.plIf ↑m.port) ∧
         s.plUp ↑m.port = true ∧
           cost ≤ room op ∧
             (held op).plBad op m = false ∧
               List.find? (fun x ↦ decide (x.seq = seq) && decide (x.op = want)) tx.unacked = some x ∧
                 m.status.toNat ≠ Ipl.OK ∧ m.status.toNat ≠ Ipl.POISON)),
   (let m : IplPkt :=
     let __src : IplPkt := pkt0;
     { port := __src.port, dst := __src.dst, src := __src.src, flow := __src.flow, seq := __src.seq, cum := __src.cum,
       status := __src.status, subop := __src.subop, len := __src.len, addr := __src.addr, rsvd := __src.rsvd,
       poison := __src.poison, payload := [] };
   let s : State := sPlTx [sent0 IplOp.write] (sPl on);
   let port : PlPort := s.plPort ↑m.port;
   let cost : Nat := 1 + m.payload.length;
   let room : IplOp → Nat := fun op ↦ port.grant.getD (State.plClass op) 0;
   let held : IplOp → State := fun op ↦
     State.setPlPort ↑m.port
       { linkUp := port.linkUp, x8 := port.x8, high := port.high, training := port.training, retrain := port.retrain,
         ready := port.ready, fault := port.fault, replays := port.replays, fails := 0, credits := port.credits,
         held := port.held, grant := port.grant.set (State.plClass op) (room op - cost) }
       s;
   let node : Nat := m.src.toNat;
   let flow : Nat := m.flow.toNat;
   let seq : Nat := m.seq.toNat;
   let tx : PlTx := s.plTx node flow;
   let own : Option PlSent :=
     List.find?
       (fun x ↦ decide (x.seq = seq) && decide (x.op = IplOp.write ∨ x.op = IplOp.reduceWrite ∨ x.op = IplOp.sync))
       tx.unacked;
   let x : PlSent := sent0 IplOp.write;
   decide
     (s.Awake (Dom.plLogic ↑m.port) ∧
       s.Awake (Dom.plIf ↑m.port) ∧
         s.plUp ↑m.port = true ∧
           cost ≤ room IplOp.cmp ∧
             (held IplOp.cmp).plBad IplOp.cmp m = false ∧
               m.cum = false ∧ own = some x ∧ x.op ≠ IplOp.sync ∧ m.status.toNat = Ipl.OK)),
   (let m : IplPkt :=
     let __src : IplPkt := pkt0;
     { port := __src.port, dst := __src.dst, src := __src.src, flow := __src.flow, seq := __src.seq, cum := __src.cum,
       status := 3, subop := __src.subop, len := __src.len, addr := __src.addr, rsvd := __src.rsvd, poison := __src.poison,
       payload := __src.payload };
   let s : State := sPlTx [sent0 IplOp.read] (sPl on);
   let port : PlPort := s.plPort ↑m.port;
   let cost : Nat := 1 + m.payload.length;
   let room : IplOp → Nat := fun op ↦ port.grant.getD (State.plClass op) 0;
   let held : IplOp → State := fun op ↦
     State.setPlPort ↑m.port
       { linkUp := port.linkUp, x8 := port.x8, high := port.high, training := port.training, retrain := port.retrain,
         ready := port.ready, fault := port.fault, replays := port.replays, fails := 0, credits := port.credits,
         held := port.held, grant := port.grant.set (State.plClass op) (room op - cost) }
       s;
   let node : Nat := m.src.toNat;
   let flow : Nat := m.flow.toNat;
   let seq : Nat := m.seq.toNat;
   let tx : PlTx := s.plTx node flow;
   let op : IplOp := IplOp.rdata;
   let want : IplOp := IplOp.read;
   let x : PlSent := sent0 IplOp.read;
   decide
     (s.Awake (Dom.plLogic ↑m.port) ∧
       s.Awake (Dom.plIf ↑m.port) ∧
         s.plUp ↑m.port = true ∧
           cost ≤ room op ∧
             (held op).plBad op m = false ∧
               List.find? (fun x ↦ decide (x.seq = seq) && decide (x.op = want)) tx.unacked = some x ∧
                 (m.status.toNat = Ipl.OK ∨ m.status.toNat = Ipl.POISON)))].all id = true := by decide +kernel

theorem witness_PeerResponses_2 : [
   (let m : IplPkt :=
     let __src : IplPkt := pkt0;
     { port := __src.port, dst := __src.dst, src := __src.src, flow := __src.flow, seq := __src.seq, cum := __src.cum,
       status := 5, subop := __src.subop, len := __src.len, addr := __src.addr, rsvd := __src.rsvd, poison := __src.poison,
       payload := [] };
   let s : State := st106;
   let port : PlPort := s.plPort ↑m.port;
   let cost : Nat := 1 + m.payload.length;
   let room : IplOp → Nat := fun op ↦ port.grant.getD (State.plClass op) 0;
   let held : IplOp → State := fun op ↦
     State.setPlPort ↑m.port
       { linkUp := port.linkUp, x8 := port.x8, high := port.high, training := port.training, retrain := port.retrain,
         ready := port.ready, fault := port.fault, replays := port.replays, fails := 0, credits := port.credits,
         held := port.held, grant := port.grant.set (State.plClass op) (room op - cost) }
       s;
   let node : Nat := m.src.toNat;
   let flow : Nat := m.flow.toNat;
   let seq : Nat := m.seq.toNat;
   let tx : PlTx := s.plTx node flow;
   let own : Option PlSent :=
     List.find?
       (fun x ↦ decide (x.seq = seq) && decide (x.op = IplOp.write ∨ x.op = IplOp.reduceWrite ∨ x.op = IplOp.sync))
       tx.unacked;
   let x : PlSent := sent0 IplOp.reduceWrite;
   decide
     (s.Awake (Dom.plLogic ↑m.port) ∧
       s.Awake (Dom.plIf ↑m.port) ∧
         s.plUp ↑m.port = true ∧
           cost ≤ room IplOp.cmp ∧
             (held IplOp.cmp).plBad IplOp.cmp m = false ∧
               m.cum = false ∧ own = some x ∧ x.op = IplOp.reduceWrite ∧ m.status.toNat = Ipl.REDO))].all id = true := by decide +kernel

theorem witness_PeerResponses_mem : let op : IplOp := IplOp.rdata;
   let c : IplPkt → Instr := Instr.iplRdata;
   let want : IplOp := IplOp.read;
   (op, c, want) ∈ [(IplOp.rdata, Instr.iplRdata, IplOp.read), (IplOp.atomicData, Instr.iplAtomicData, IplOp.atomic)] := by simp

theorem witness_PeerLinksAndTimers : [
   (let node : BitVec 8 := 1;
   let flow : BitVec 7 := 0;
   let s : State := st107;
   decide ((s.plRx node.toNat flow.toNat).owed = 0)),
   (let node : BitVec 8 := 1;
   let flow : BitVec 7 := 0;
   let s : State := st107;
   let tx : PlTx := s.plTx node.toNat flow.toNat;
   decide (tx.unacked = [])),
   (let node : BitVec 8 := 1;
   let flow : BitVec 7 := 0;
   let s : State := sPlRx (some 3) [] (sPl on);
   decide (0 < (s.plRx node.toNat flow.toNat).owed)),
   (let node : BitVec 8 := 1;
   let flow : BitVec 7 := 0;
   let s : State := sPlTx [sent0 IplOp.write] (sPl on);
   let tx : PlTx := s.plTx node.toNat flow.toNat;
   let limit : Nat := max 1 (s.regBits Reg.PL_TIMEOUT 47 40);
   decide (tx.unacked ≠ [] ∧ tx.expiries + 1 < limit)),
   (let node : BitVec 8 := 1;
   let flow : BitVec 7 := 0;
   let s : State := st109;
   let tx : PlTx := s.plTx node.toNat flow.toNat;
   let limit : Nat := max 1 (s.regBits Reg.PL_TIMEOUT 47 40);
   decide (tx.unacked ≠ [] ∧ limit ≤ tx.expiries + 1)),
   (let s : State := st107;
   decide (s.OpenReg Reg.PL_ROUTE)),
   (let h : Half := Half.full;
   let v : Word := 0;
   let s : State := st107;
   let t : State := State.storeReg Reg.PL_WINQ1 h v s;
   let q0 : Word := t.reg Reg.PL_WINQ0;
   let q1 : Word := t.reg Reg.PL_WINQ1;
   decide (s.OpenReg Reg.PL_WINQ1 ∧ (bit q1 63 = false ∨ State.winFits q0 q1 = true))),
   (let h : Half := Half.full;
   let v : Word := 9223372036854775808;
   let s : State := st107;
   let t : State := State.storeReg Reg.PL_WINQ1 h v s;
   let q0 : Word := t.reg Reg.PL_WINQ0;
   let q1 : Word := t.reg Reg.PL_WINQ1;
   decide (s.OpenReg Reg.PL_WINQ1 ∧ bit q1 63 = true ∧ State.winFits q0 q1 = false)),
   (let port : Fin 4 := 0;
   let s : State := st107;
   let p : PlPort := s.plPort ↑port;
   decide (p.linkUp = true ∧ p.held = []))].all id = true := by decide +kernel

theorem witness_PeerLinksAndTimers_2 : [
   (let port : Fin 4 := 0;
   let s : State := on;
   let p : PlPort := s.plPort ↑port;
   decide (p.linkUp = false)),
   (let s : State := st107;
   decide (s.OpenReg Reg.PL_CTRL)),
   (let p : Fin 4 := 0;
   let s : State := st107;
   let x : PlPort := s.plPort ↑p;
   decide (x.linkUp = true ∧ x.fails < 7)),
   (let p : Fin 4 := 0;
   let s : State := st107;
   let x : PlPort := s.plPort ↑p;
   decide (x.linkUp = true ∨ x.training = true)),
   (let p : Fin 4 := 0;
   let s : State := st107;
   let x : PlPort := s.plPort ↑p;
   let x8 : Bool := true;
   decide (s.laserOn ↑p = false ∨ x.ready = none ∨ x.training = false ∨ x8 = false ∧ s.regBit Reg.PL_CTRL (8 + ↑p) = false)),
   (let p : Fin 4 := 0;
   let s : State := st107;
   decide (s.laserOn ↑p = true ∧ s.boot.loaded = false)),
   (let p : Fin 4 := 0;
   let s : State := st107;
   let x : PlPort := s.plPort ↑p;
   let lane : BitVec 3 := 2;
   let used : Prop := x.linkUp = true ∧ (x.x8 = true ∨ lane.toNat / 4 = b2n x.high);
   decide ¬used),
   (let p : Fin 4 := 0;
   let s : State := on;
   let x : PlPort := s.plPort ↑p;
   decide (x.linkUp = false ∧ x.training = false)),
   (let p : Fin 4 := 0;
   let s : State := on;
   decide (s.laserOn ↑p = false))].all id = true := by decide +kernel

theorem witness_PeerLinksAndTimers_3 : [
   (let p : Fin 4 := 0;
   let s : State := sPl on;
   let x : PlPort := s.plPort ↑p;
   let lane : BitVec 3 := 2;
   let used : Prop := x.linkUp = true ∧ (x.x8 = true ∨ lane.toNat / 4 = b2n x.high);
   decide used),
   (let p : Fin 4 := 0;
   let s : State := st110;
   let x : PlPort := s.plPort ↑p;
   decide (x.linkUp = true ∧ 7 ≤ x.fails)),
   (let p : Fin 4 := 0;
   let s : State := st111;
   let x : PlPort := s.plPort ↑p;
   let x8 : Bool := true;
   decide (s.laserOn ↑p = true ∧ x.ready ≠ none ∧ x.training = true ∧ (x8 = true ∨ s.regBit Reg.PL_CTRL (8 + ↑p) = true))),
   (let p : Fin 4 := 0;
   let s : State := st113;
   decide (s.laserOn ↑p = true ∧ s.boot.loaded = true))].all id = true := by decide +kernel

theorem witness_ConfigurationRequests : [
   (let s : State := on;
   decide (s.boot.loaded = false)),
   (let fn : BitVec 8 := 0;
   let a : CfgAccess := CfgAccess.read;
   let s : State := sLoaded on;
   decide (s.boot.loaded = true ∧ fn.toNat ≤ s.up.vfOn ∧ a = CfgAccess.read)),
   (let fn : BitVec 8 := 0;
   let reg : BitVec 10 := 0;
   let a : CfgAccess := CfgAccess.write 15 7;
   let s : State := sLoaded on;
   let be : BitVec 4 := 15;
   let v : BitVec 32 := 7;
   decide
     (s.boot.loaded = true ∧
       fn.toNat ≤ s.up.vfOn ∧
         a = CfgAccess.write be v ∧ ¬4 * reg.toNat ∈ [4, 68, 88, 332, 176, 160, 680, 684, 688, 692, 840, 848])),
   (let fn : BitVec 8 := 1;
   let s : State := sLoaded on;
   decide (s.boot.loaded = true ∧ s.up.vfOn < fn.toNat))].all id = true := by decide +kernel

theorem witness_HostMemoryWindows : [
   (let s : State := on;
   let off : BitVec 32 := 0;
   let len : BitVec 13 := 8;
   let a : HdmAccess := HdmAccess.read;
   let da : Nat := s.regBits Reg.UP_BAR2_MAP 26 0 * pageBytes + off.toNat;
   let n : Nat := State.ioLen len.toNat a;
   decide
     (s.Awake Dom.upCtl ∧
       s.Awake Dom.upPhy ∧
         s.wholeSafe = false ∧
           s.mse 0 = true ∧ off.toNat + n ≤ 2 ^ s.bar2Shift ∧ s.ioHole da n = false ∧ a ≠ HdmAccess.cas128)),
   (let s : State := on;
   let off : BitVec 32 := 0;
   let len : BitVec 13 := 8;
   let a : HdmAccess := HdmAccess.cas128;
   let da : Nat := s.regBits Reg.UP_BAR2_MAP 26 0 * pageBytes + off.toNat;
   let n : Nat := State.ioLen len.toNat a;
   decide
     (s.Awake Dom.upCtl ∧
       s.Awake Dom.upPhy ∧
         (s.wholeSafe = true ∨
           s.mse 0 = false ∨ 2 ^ s.bar2Shift < off.toNat + n ∨ s.ioHole da n = true ∨ a = HdmAccess.cas128))),
   (let s : State := on;
   let h : Half := Half.full;
   let v : Word := 0;
   let base : Nat := bits (mergeHalf h (s.reg Reg.UP_BAR2_MAP) v) 26 0;
   decide
     (s.Awake Dom.upCtl ∧
       s.Awake Dom.upPhy ∧ s.OpenReg Reg.UP_BAR2_MAP ∧ State.oneRegion (base * pageBytes) (2 ^ s.bar2Shift) = true)),
   (let s : State := on;
   let h : Half := Half.full;
   let v : Word := 67108863;
   let base : Nat := bits (mergeHalf h (s.reg Reg.UP_BAR2_MAP) v) 26 0;
   decide
     (s.Awake Dom.upCtl ∧
       s.Awake Dom.upPhy ∧ s.OpenReg Reg.UP_BAR2_MAP ∧ State.oneRegion (base * pageBytes) (2 ^ s.bar2Shift) = false)),
   (let s : State := on;
   let n : Bool := false;
   let base : Word := 0;
   let size : Word := 268435456;
   let skip : Word := 0;
   let ways : BitVec 4 := 0;
   let h : Hdm := s.hdm n;
   let bad : Prop :=
     ways.toNat ≠ 0 ∨
       BitVec.toNat skip ≠ 0 ∨
         BitVec.toNat size = 0 ∨
           BitVec.toNat base % 2 ^ 28 ≠ 0 ∨
             BitVec.toNat size % 2 ^ 28 ≠ 0 ∨ State.oneRegion (s.hdmDev n) (BitVec.toNat size) = false;
   decide
     (s.Awake Dom.upCtl ∧
       s.Awake Dom.upPhy ∧ s.HostOpen 0 ∧ s.Open Dom.upCtl ∧ (h.committed = false ∨ h.lock = false) ∧ ¬bad)),
   (let s : State := on;
   let n : Bool := false;
   let base : Word := 0;
   let size : Word := 268435456;
   let skip : Word := 0;
   let ways : BitVec 4 := 1;
   let h : Hdm := s.hdm n;
   let bad : Prop :=
     ways.toNat ≠ 0 ∨
       BitVec.toNat skip ≠ 0 ∨
         BitVec.toNat size = 0 ∨
           BitVec.toNat base % 2 ^ 28 ≠ 0 ∨
             BitVec.toNat size % 2 ^ 28 ≠ 0 ∨ State.oneRegion (s.hdmDev n) (BitVec.toNat size) = false;
   decide
     (s.Awake Dom.upCtl ∧
       s.Awake Dom.upPhy ∧ s.HostOpen 0 ∧ s.Open Dom.upCtl ∧ (h.committed = false ∨ h.lock = false) ∧ bad)),
   (let s : State := on;
   let hpa : BitVec 52 := 0;
   decide (s.Awake Dom.upCtl ∧ s.Awake Dom.upPhy ∧ (s.wholeSafe = true ∨ s.hdmDecode hpa.toNat = none))),
   (let s : State := sHdm false on;
   let who : BitVec 16 := 0;
   let pasid : Option (BitVec 20) := none;
   let hpa : BitVec 52 := 0;
   let len : BitVec 13 := 8;
   let a : HdmAccess := HdmAccess.read;
   let n : Nat := State.ioLen len.toNat a;
   let posted : Bool := State.ioPosted a;
   let da : Nat := 0;
   let may : Bool → Prop := fun write ↦ s.regionPass who.toNat (Option.map (fun x ↦ x.toNat) pasid) da n write = true;
   let ok : Prop := (posted = true ∨ may false) ∧ (a = HdmAccess.read ∨ may true);
   decide (s.Awake Dom.upCtl ∧ s.Awake Dom.upPhy ∧ s.wholeSafe = false ∧ s.hdmDecode hpa.toNat = some da ∧ ¬ok)),
   (let s : State := sHdm true on;
   let n : Bool := false;
   let h : Hdm := s.hdm n;
   decide (s.Awake Dom.upCtl ∧ s.Awake Dom.upPhy ∧ s.HostOpen 0 ∧ s.Open Dom.upCtl ∧ h.committed = true ∧ h.lock = true))].all id = true := by decide +kernel

theorem witness_HostMemoryWindows_2 : [
   (let s : State := st115;
   let who : BitVec 16 := 0;
   let pasid : Option (BitVec 20) := none;
   let hpa : BitVec 52 := 0;
   let len : BitVec 13 := 8;
   let a : HdmAccess := HdmAccess.read;
   let n : Nat := State.ioLen len.toNat a;
   let posted : Bool := State.ioPosted a;
   let da : Nat := 0;
   let may : Bool → Prop := fun write ↦ s.regionPass who.toNat (Option.map (fun x ↦ x.toNat) pasid) da n write = true;
   let ok : Prop := (posted = true ∨ may false) ∧ (a = HdmAccess.read ∨ may true);
   decide
     (s.Awake Dom.upCtl ∧
       s.Awake Dom.upPhy ∧
         s.wholeSafe = false ∧ s.hdmDecode hpa.toNat = some da ∧ ok ∧ s.ioHole da n = false ∧ a ≠ HdmAccess.cas128)),
   (let s : State := st115;
   let who : BitVec 16 := 0;
   let pasid : Option (BitVec 20) := none;
   let hpa : BitVec 52 := 0;
   let len : BitVec 13 := 8;
   let a : HdmAccess := HdmAccess.cas128;
   let n : Nat := State.ioLen len.toNat a;
   let posted : Bool := State.ioPosted a;
   let da : Nat := 0;
   let may : Bool → Prop := fun write ↦ s.regionPass who.toNat (Option.map (fun x ↦ x.toNat) pasid) da n write = true;
   let ok : Prop := (posted = true ∨ may false) ∧ (a = HdmAccess.read ∨ may true);
   decide
     (s.Awake Dom.upCtl ∧
       s.Awake Dom.upPhy ∧
         s.wholeSafe = false ∧ s.hdmDecode hpa.toNat = some da ∧ ok ∧ (s.ioHole da n = true ∨ a = HdmAccess.cas128)))].all id = true := by decide +kernel

theorem witness_FunctionsQuiesce : [
   (let s : State := on;
   let c : BitVec 32 := s.cfgDw 0 840;
   decide (c.getLsbD 0 = false)),
   (let s : State := sCfg 0 840 1 on;
   let c : BitVec 32 := s.cfgDw 0 840;
   decide (c.getLsbD 0 = true ∧ s.up.vfOn = 0)),
   (let fn : BitVec 8 := 0;
   let s : State := on;
   decide (fn.toNat ≤ s.up.vfOn ∧ s.inD3 fn.toNat = false)),
   (let fn : BitVec 8 := 0;
   let s : State := on;
   decide (s.quiescingOf fn.toNat = none)),
   (let fn : BitVec 8 := 0;
   let s : State := sCfg 0 4 4 on;
   decide (fn.toNat ≤ s.up.vfOn ∧ s.bme fn.toNat = true)),
   (let fn : BitVec 8 := 0;
   let s : State := sQuies true [3] on;
   let x : Quiesce := { fn := 0, flr := true, since := 0, reads := [3], writes := [] };
   decide (s.quiescingOf fn.toNat = some x ∧ (x.reads ≠ [] ∨ x.writes.any s.accessOut = true))),
   (let fn : BitVec 8 := 0;
   let s : State := sQuies true [3] on;
   let x : Quiesce := { fn := 0, flr := true, since := 0, reads := [3], writes := [] };
   decide (s.quiescingOf fn.toNat = some x ∧ x.flr = true)),
   (let fn : BitVec 8 := 0;
   let s : State := sQuies false [] on;
   let x : Quiesce := { fn := 0, flr := false, since := 0, reads := [], writes := [] };
   decide
     (s.quiescingOf fn.toNat = some x ∧
       x.reads = [] ∧ x.writes.any s.accessOut = false ∧ s.fnQueues fn.toNat = [] ∧ s.qe.qcmdBusy = none)),
   (let fn : BitVec 8 := 0;
   let s : State := sQuies false [] on;
   let x : Quiesce := { fn := 0, flr := false, since := 0, reads := [], writes := [] };
   decide (s.quiescingOf fn.toNat = some x ∧ x.flr = false))].all id = true := by decide +kernel

theorem witness_FunctionsQuiesce_2 : [
   (let fn : BitVec 8 := 0;
   let s : State := sQuies true [] (sQ QState.draining);
   let x : Quiesce := { fn := 0, flr := true, since := 0, reads := [], writes := [] };
   let q : Nat := 0;
   decide
     (s.quiescingOf fn.toNat = some x ∧
       x.reads = [] ∧
         x.writes.any s.accessOut = false ∧
           s.fnQueues fn.toNat = [q] ∧ (s.queue q).st = QState.draining ∧ (s.qe.qcmdBusy = none ∨ s.qe.qcmdBusy = some q))),
   (let fn : BitVec 8 := 1;
   let s : State := on;
   decide (s.up.vfOn < fn.toNat)),
   (let fn : BitVec 8 := 1;
   let s : State := st117;
   decide (fn.toNat ≤ s.up.vfOn ∧ fn ≠ 0)),
   (let q : Nat := 0;
   let s : State := on;
   decide ((s.queue q).st = QState.disabled)),
   (let q : Nat := 0;
   let s : State := sQuies true [] (sQ QState.draining);
   decide (Map.rising s.qe.queues = true ∧ (s.queue q).st ≠ QState.disabled))].all id = true := by decide +kernel

theorem witness_ResetsTimersAndLink : [
   (let s : State := st118;
   let q : State := State.quiesceFns false s.usedFns s;
   let d : State :=
     State.modIdent
       (fun i ↦
         { keyState := i.keyState, puf := i.puf, d := i.d, pub := i.pub, helper := i.helper, chainOk := i.chainOk,
           entropyOk := i.entropyOk, entropyBad := i.entropyBad, draws := i.draws, refused := i.refused, stage := i.stage,
           sessions := i.sessions, nextSession := i.nextSession, keys := [], safe := i.safe })
       (State.resetPf true q).dropHostWaits.dropHostState;
   let r : State :=
     State.modUp
       (fun u ↦
         { cfgSpace := u.cfgSpace, msix := u.msix, intaLevel := u.intaLevel, hdm0 := Hdm.reset, hdm1 := Hdm.reset,
           attach := u.attach, token := u.token, staged := u.staged, attRefused := u.attRefused, fnRefused := u.fnRefused,
           quiescing := u.quiescing, vfOn := u.vfOn, linkUp := u.linkUp, speed := u.speed, width := u.width,
           flit := u.flit, cxl := u.cxl, slotPower := u.slotPower, lpm := u.lpm, bar2Busy := u.bar2Busy,
           bar2Drain := u.bar2Drain, bar2From := u.bar2From, bar2Refused := u.bar2Refused, trainedCfg := u.trainedCfg,
           hdmSize0 := u.hdmSize0, hdmSize1 := u.hdmSize1, abandoned := u.abandoned, perst := u.perst, reread := u.reread,
           ltr := 0, hdrLog := u.hdrLog, doe := u.doe, comp := Map.erase 528900 u.comp })
       (State.modFp
         (fun f ↦
           { nt := f.nt, rsv := [], reqs := f.reqs, dats := f.dats, ucs := f.ucs, fences := f.fences, ntLost := f.ntLost,
             snpCrd := f.snpCrd, reqCrd := f.reqCrd, evCrd := f.evCrd, datCrd := f.datCrd, snpWait := f.snpWait,
             crdOwed := f.crdOwed })
         d);
   let e : State :=
     State.modUp
       (fun u ↦
         { cfgSpace := u.cfgSpace, msix := u.msix, intaLevel := u.intaLevel, hdm0 := u.hdm0, hdm1 := u.hdm1,
           attach := u.attach, token := u.token, staged := u.staged, attRefused := u.attRefused, fnRefused := u.fnRefused,
           quiescing := u.quiescing, vfOn := u.vfOn, linkUp := false, speed := 0, width := 0, flit := false, cxl := false,
           slotPower := u.slotPower, lpm := 0, bar2Busy := u.bar2Busy, bar2Drain := u.bar2Drain, bar2From := u.bar2From,
           bar2Refused := u.bar2Refused, trainedCfg := u.trainedCfg, hdmSize0 := u.hdmSize0, hdmSize1 := u.hdmSize1,
           abandoned := u.abandoned, perst := u.perst, reread := u.reread, ltr := u.ltr, hdrLog := u.hdrLog, doe := u.doe,
           comp := u.comp })
       (State.raise Reg.UP Err.UP_DL_DOWN Capture.none r);
   decide (e.isFenced Dom.upCtl = false ∧ e.isFenced Dom.upPhy = false)),
   (let s : State := st118;
   let k : Nat := (Option.map (fun x ↦ x.fst) (List.head? s.sf.entries)).getD 0;
   let e : SfEntry := (Option.map (fun x ↦ x.snd) (List.head? s.sf.entries)).getD (sf0 SfSt.shared 31);
   decide
     (s.sf.txns = [] ∧
       s.sf.entries = [(k, e)] ∧
         s.sfFind (sfLine (k / 16 % 32768) e.tag) = some (k, e) ∧
           isHostLine (sfLine (k / 16 % 32768) e.tag) = false ∧
             (e.st = SfSt.hostx ∨ e.st = SfSt.shared ∧ e.multi = false ∧ e.host = true))),
   (let s : State := sHas 0 (sf0 SfSt.shared 31) on;
   let k : Nat := (Option.map (fun x ↦ x.fst) (List.head? s.sf.entries)).getD 0;
   let e : SfEntry := (Option.map (fun x ↦ x.snd) (List.head? s.sf.entries)).getD (sf0 SfSt.shared 31);
   decide
     (s.sf.txns = [] ∧
       s.sf.entries = [(k, e)] ∧
         s.sfFind (sfLine (k / 16 % 32768) e.tag) = some (k, e) ∧
           isHostLine (sfLine (k / 16 % 32768) e.tag) = false ∧ e.st ≠ SfSt.hostx ∧ (e.st ≠ SfSt.shared ∨ e.multi = true))),
   (let fn : BitVec 8 := 0;
   let vec : BitVec 11 := 0;
   let s : State := st118;
   let key : Nat := fn.toNat * 2048 + vec.toNat;
   let v : MsixVec := Map.getD MsixVec.reset key s.up.msix;
   decide
     (s.HostOpen fn.toNat ∧
       s.Open Dom.upCtl ∧ vec.toNat < s.vectorCount fn.toNat ∧ v.pending = false ∧ Map.rising s.up.msix = true)),
   (let fn : BitVec 8 := 0;
   let vec : BitVec 11 := 0;
   let s : State := st119;
   let key : Nat := fn.toNat * 2048 + vec.toNat;
   let v : MsixVec := Map.getD MsixVec.reset key s.up.msix;
   decide
     (s.HostOpen fn.toNat ∧
       s.Open Dom.upCtl ∧ vec.toNat < s.vectorCount fn.toNat ∧ v.pending = true ∧ Map.rising s.up.msix = true)),
   (let fn : BitVec 8 := 0;
   let vec : BitVec 11 := 2047;
   let s : State := st118;
   decide (s.HostOpen fn.toNat ∧ s.Open Dom.upCtl ∧ s.vectorCount fn.toNat ≤ vec.toNat)),
   (let s : State := st118;
   let l1 : Prop :=
     s.up.linkUp = true ∧
       s.up.lpm < 2 ∧ s.regBits Reg.UP_CTRL 31 16 ≠ 0 ∧ (s.cfgDw 0 96).getLsbD 1 = true ∧ s.upQuiet = true;
   decide ¬l1),
   (let s : State := st118;
   let l0s : Prop := s.up.linkUp = true ∧ s.up.flit = false ∧ s.up.lpm = 0 ∧ (s.cfgDw 0 96).getLsbD 0 = true;
   decide ¬l0s),
   (let s : State := st118;
   decide (s.up.lpm = 0))].all id = true := by decide +kernel

theorem witness_ResetsTimersAndLink_2 : [
   (let s : State := st123;
   let l1 : Prop :=
     s.up.linkUp = true ∧
       s.up.lpm < 2 ∧ s.regBits Reg.UP_CTRL 31 16 ≠ 0 ∧ (s.cfgDw 0 96).getLsbD 1 = true ∧ s.upQuiet = true;
   decide l1),
   (let s : State := st123;
   let l0s : Prop := s.up.linkUp = true ∧ s.up.flit = false ∧ s.up.lpm = 0 ∧ (s.cfgDw 0 96).getLsbD 0 = true;
   decide l0s),
   (let s : State := st125;
   decide (s.up.lpm ≠ 0)),
   (let s : State := st118;
   decide ((s.cfgDw 0 368).getLsbD 0 = false ∨ s.up.linkUp = false)),
   (let o : Word := 5;
   let s : State := sCfg 0 368 1 (sLink on);
   decide ((s.cfgDw 0 368).getLsbD 0 = true ∧ s.up.linkUp = true ∧ BitVec.msb o = false)),
   (let o : Word := 18446744073709551615;
   let s : State := sCfg 0 368 1 (sLink on);
   decide ((s.cfgDw 0 368).getLsbD 0 = true ∧ s.up.linkUp = true ∧ BitVec.msb o = true)),
   (let s : State := st118;
   decide (s.boot.loaded = false ∨ s.up.perst = false)),
   (let s : State := st124;
   decide
     (s.boot.loaded = true ∧
       s.up.perst = true ∧ s.isFenced Dom.upCtl = false ∧ s.isFenced Dom.upPhy = false ∧ s.up.reread = false)),
   (let id : Nat := 0;
   let s : State := st118;
   let given : Option (Nat × Nat) := List.find? (fun a ↦ decide (a.fst = id)) s.up.abandoned;
   decide (given = none ∧ (s.work? id = none ∨ s.workReads id = [])))].all id = true := by decide +kernel

theorem witness_ResetsTimersAndLink_3 : [
   (let id : Nat := 0;
   let s : State := st120;
   let given : Option (Nat × Nat) := List.find? (fun a ↦ decide (a.fst = id)) s.up.abandoned;
   let a : Nat × Nat := (0, 0);
   decide (given = some a)),
   (let id : Nat := 0;
   let s : State := st122;
   let given : Option (Nat × Nat) := List.find? (fun a ↦ decide (a.fst = id)) s.up.abandoned;
   let w : Work := wk (dsc 64) WorkPhase.running;
   let r : Waiter := Waiter.work 0;
   let rest : List Waiter := [];
   decide (given = none ∧ s.work? id = some w ∧ s.workReads id = r :: rest ∧ s.isQuiesced id = true)),
   (let id : Nat := 0;
   let s : State := st126;
   let given : Option (Nat × Nat) := List.find? (fun a ↦ decide (a.fst = id)) s.up.abandoned;
   let w : Work := wk (dsc 64) WorkPhase.running;
   let r : Waiter := Waiter.work 0;
   let rest : List Waiter := [];
   let h : Waiter × AtsKey := (Waiter.work 0, key0);
   decide
     (given = none ∧
       s.work? id = some w ∧
         s.workReads id = r :: rest ∧
           s.isQuiesced id = false ∧ List.find? (fun h ↦ decide (h.fst = r)) s.ch.hostReads = some h)),
   (let key : AtsKey := key0;
   let s : State := st118;
   decide ((s.ch.reqs.any fun r ↦ decide (r.key = key)) = false)),
   (let key : AtsKey := key0;
   let s : State := sAts;
   decide ((s.ch.reqs.any fun r ↦ decide (r.key = key)) = true)),
   (let q : BitVec 16 := 0;
   let s : State := st121;
   let h : Waiter × AtsKey := (Waiter.slot 0, key0);
   decide (List.find? (fun h ↦ decide (h.fst = Waiter.slot q.toNat)) s.ch.hostReads = some h))].all id = true := by decide +kernel

theorem witness_DriverAttachment : [
   (let s : State := st127;
   let fn : BitVec 8 := 0;
   decide (s.OpenReg Reg.UP_FN_CMD ∧ s.fnReady fn.toNat = true)),
   (let s : State := st127;
   decide (s.OpenReg Reg.UP_ATTACH ∧ s.ident.entropyBad = false ∧ s.up.attach = AttachSt.attached)),
   (let s : State := st127;
   decide (s.OpenReg Reg.UP_ATTACH ∧ s.up.attach ≠ AttachSt.parked)),
   (let s : State := st128;
   let fn : BitVec 8 := 0;
   decide (s.OpenReg Reg.UP_FN_CMD ∧ s.fnReady fn.toNat = false)),
   (let s : State := st128;
   decide (s.OpenReg Reg.UP_ATTACH ∧ s.up.attach = AttachSt.parked ∧ s.up.staged = s.up.token ∧ s.ident.entropyBad = true)),
   (let s : State := st128;
   decide (s.OpenReg Reg.UP_ATTACH ∧ s.up.attach ≠ AttachSt.attached)),
   (let s : State := on;
   decide (s.OpenReg Reg.UP_ATTACH ∧ s.ident.entropyBad = false ∧ s.up.attach = AttachSt.fresh)),
   (let s : State := sAtt AttachSt.parked 0 0 on;
   decide (s.OpenReg Reg.UP_ATTACH ∧ s.up.attach = AttachSt.parked ∧ s.up.staged = s.up.token ∧ s.ident.entropyBad = false)),
   (let s : State := sAtt AttachSt.parked 0 1 on;
   decide (s.OpenReg Reg.UP_ATTACH ∧ s.up.attach = AttachSt.parked ∧ s.up.staged ≠ s.up.token))].all id = true := by decide +kernel

theorem witness_SlotCommands : [
   (let p : Fin 8 := 0;
   let v : Word := 1;
   let s : State := sLoaded (sDn (dp DnSt.off) on);
   let w : State := State.storeReg (Reg.DN_PORT_CTRL + 8 * ↑p) Half.full v s;
   let t : State :=
     if w.attnInd ↑p ≠ s.attnInd ↑p ∧ (w.dnPort ↑p).button = none then State.emit (Msg.slotLed (↑p) (w.attnInd ↑p)) w
     else w;
   let d : DnPort := t.dnPort ↑p;
   decide
     (s.OpenReg (Reg.DN_PORT_CTRL + 8 * ↑p) ∧
       bits v 2 0 = 1 ∧ s.boot.loaded = true ∧ (d.st = DnSt.off ∨ d.st = DnSt.failed))),
   (let p : Fin 8 := 0;
   let v : Word := 1;
   let s : State := on;
   let w : State := State.storeReg (Reg.DN_PORT_CTRL + 8 * ↑p) Half.full v s;
   let t : State :=
     if w.attnInd ↑p ≠ s.attnInd ↑p ∧ (w.dnPort ↑p).button = none then State.emit (Msg.slotLed (↑p) (w.attnInd ↑p)) w
     else w;
   let d : DnPort := t.dnPort ↑p;
   decide
     (s.OpenReg (Reg.DN_PORT_CTRL + 8 * ↑p) ∧
       bits v 2 0 = 1 ∧ (s.boot.loaded = false ∨ d.st ≠ DnSt.off ∧ d.st ≠ DnSt.failed))),
   (let p : Fin 8 := 0;
   let v : Word := 2;
   let s : State := sLoaded (sDn (dp DnSt.off) on);
   let w : State := State.storeReg (Reg.DN_PORT_CTRL + 8 * ↑p) Half.full v s;
   let t : State :=
     if w.attnInd ↑p ≠ s.attnInd ↑p ∧ (w.dnPort ↑p).button = none then State.emit (Msg.slotLed (↑p) (w.attnInd ↑p)) w
     else w;
   let d : DnPort := t.dnPort ↑p;
   decide (s.OpenReg (Reg.DN_PORT_CTRL + 8 * ↑p) ∧ bits v 2 0 = 2 ∧ d.st ≠ DnSt.up)),
   (let p : Fin 8 := 0;
   let v : Word := 2;
   let s : State := sDn (dp DnSt.up) on;
   let w : State := State.storeReg (Reg.DN_PORT_CTRL + 8 * ↑p) Half.full v s;
   let t : State :=
     if w.attnInd ↑p ≠ s.attnInd ↑p ∧ (w.dnPort ↑p).button = none then State.emit (Msg.slotLed (↑p) (w.attnInd ↑p)) w
     else w;
   let d : DnPort := t.dnPort ↑p;
   decide (s.OpenReg (Reg.DN_PORT_CTRL + 8 * ↑p) ∧ bits v 2 0 = 2 ∧ d.st = DnSt.up)),
   (let p : Fin 8 := 0;
   let v : Word := 3;
   let s : State := sLoaded (sDn (dp DnSt.off) on);
   let w : State := State.storeReg (Reg.DN_PORT_CTRL + 8 * ↑p) Half.full v s;
   let t : State :=
     if w.attnInd ↑p ≠ s.attnInd ↑p ∧ (w.dnPort ↑p).button = none then State.emit (Msg.slotLed (↑p) (w.attnInd ↑p)) w
     else w;
   let d : DnPort := t.dnPort ↑p;
   decide (s.OpenReg (Reg.DN_PORT_CTRL + 8 * ↑p) ∧ bits v 2 0 = 3 ∧ (d.st = DnSt.failed ∨ d.st = DnSt.off))),
   (let p : Fin 8 := 0;
   let v : Word := 3;
   let s : State := on;
   let w : State := State.storeReg (Reg.DN_PORT_CTRL + 8 * ↑p) Half.full v s;
   let t : State :=
     if w.attnInd ↑p ≠ s.attnInd ↑p ∧ (w.dnPort ↑p).button = none then State.emit (Msg.slotLed (↑p) (w.attnInd ↑p)) w
     else w;
   let d : DnPort := t.dnPort ↑p;
   decide
     (s.OpenReg (Reg.DN_PORT_CTRL + 8 * ↑p) ∧ bits v 2 0 = 3 ∧ (d.st = DnSt.up ∨ d.st = DnSt.starting ∨ d.st = DnSt.empty))),
   (let p : Fin 8 := 0;
   let v : Word := 3;
   let s : State := sDn (dp DnSt.evacuating) on;
   let w : State := State.storeReg (Reg.DN_PORT_CTRL + 8 * ↑p) Half.full v s;
   let t : State :=
     if w.attnInd ↑p ≠ s.attnInd ↑p ∧ (w.dnPort ↑p).button = none then State.emit (Msg.slotLed (↑p) (w.attnInd ↑p)) w
     else w;
   let d : DnPort := t.dnPort ↑p;
   decide (s.OpenReg (Reg.DN_PORT_CTRL + 8 * ↑p) ∧ bits v 2 0 = 3 ∧ d.st = DnSt.evacuating ∧ d.evacDone = false)),
   (let p : Fin 8 := 0;
   let v : Word := 3;
   let s : State := st131;
   let w : State := State.storeReg (Reg.DN_PORT_CTRL + 8 * ↑p) Half.full v s;
   let t : State :=
     if w.attnInd ↑p ≠ s.attnInd ↑p ∧ (w.dnPort ↑p).button = none then State.emit (Msg.slotLed (↑p) (w.attnInd ↑p)) w
     else w;
   let d : DnPort := t.dnPort ↑p;
   decide (s.OpenReg (Reg.DN_PORT_CTRL + 8 * ↑p) ∧ bits v 2 0 = 3 ∧ d.st = DnSt.evacuating ∧ d.evacDone = true))].all id = true := by decide +kernel

theorem witness_BringUpSteps : [
   (let p : Fin 8 := 0;
   let s : State := on;
   let d : DnPort := s.dnPort ↑p;
   decide (d.st ≠ DnSt.starting)),
   (let p : Fin 8 := 0;
   let s : State := st132;
   let d : DnPort := s.dnPort ↑p;
   decide (d.st = DnSt.starting ∧ d.step = 1)),
   (let p : Fin 8 := 0;
   let s : State := st133;
   let d : DnPort := s.dnPort ↑p;
   decide (d.st = DnSt.starting ∧ d.step = 2)),
   (let p : Fin 8 := 0;
   let s : State := st134;
   let d : DnPort := s.dnPort ↑p;
   let x : ExpanderId := exp0 false true;
   decide (d.st = DnSt.starting ∧ (d.step = 3 ∨ d.step = 4) ∧ x.responds = false)),
   (let p : Fin 8 := 0;
   let s : State := st134;
   let d : DnPort := s.dnPort ↑p;
   let x : ExpanderId := exp0 true true;
   decide
     (d.st = DnSt.starting ∧
       (d.step = 3 ∨ d.step = 4) ∧ x.responds = true ∧ x.memCapable = true ∧ x.hdmCount ≠ 0 ∧ x.hdmDecoder = true)),
   (let p : Fin 8 := 0;
   let s : State := st134;
   let d : DnPort := s.dnPort ↑p;
   let x : ExpanderId := exp0 true false;
   decide
     (d.st = DnSt.starting ∧
       (d.step = 3 ∨ d.step = 4) ∧ x.responds = true ∧ (x.memCapable = false ∨ x.hdmCount = 0 ∨ x.hdmDecoder = false))),
   (let p : Fin 8 := 0;
   let s : State := st134;
   let d : DnPort := s.dnPort ↑p;
   decide (d.st = DnSt.starting ∧ d.step = 3)),
   (let p : Fin 8 := 0;
   let s : State := st135;
   let d : DnPort := s.dnPort ↑p;
   decide (d.st = DnSt.starting ∧ d.step = 4)),
   (let p : Fin 8 := 0;
   let s : State := st136;
   let d : DnPort := s.dnPort ↑p;
   let size : Word := 0;
   let c : Nat := min (2 ^ 39) (BitVec.toNat size / 2 ^ 28 * 2 ^ 28);
   decide (d.st = DnSt.starting ∧ d.step = 6 ∧ c = 0))].all id = true := by decide +kernel

theorem witness_BringUpSteps_2 : [
   (let p : Fin 8 := 0;
   let s : State := st136;
   let d : DnPort := s.dnPort ↑p;
   let size : Word := 536870912;
   let c : Nat := min (2 ^ 39) (BitVec.toNat size / 2 ^ 28 * 2 ^ 28);
   decide (d.st = DnSt.starting ∧ d.step = 6 ∧ c ≠ 0))].all id = true := by decide +kernel

theorem witness_SlotEvents : [
   (let p : Fin 8 := 0;
   let s : State := State.setReg Reg.DN_PORT_CTRL 0 on;
   let d : DnPort := s.dnPort ↑p;
   let present : Bool := false;
   decide (d.present = present)),
   (let p : Fin 8 := 0;
   let s : State := State.setReg Reg.DN_PORT_CTRL 0 on;
   let d : DnPort := s.dnPort ↑p;
   decide (d.st = DnSt.empty ∧ d.present = false)),
   (let p : Fin 8 := 0;
   let s : State := State.setReg Reg.DN_PORT_CTRL 0 on;
   let e : State := State.dnEvent (↑p) 1 s;
   decide (e.regBit (Reg.DN_PORT_CTRL + 8 * ↑p) 5 = false)),
   (let p : Fin 8 := 0;
   let s : State := State.setReg Reg.DN_PORT_CTRL 0 on;
   let d : DnPort := s.dnPort ↑p;
   decide (d.button = none)),
   (let p : Fin 8 := 0;
   let s : State := State.setReg Reg.DN_PORT_CTRL 0 on;
   let t : State := State.evacStep (↑p) s;
   let x : DnPort := t.dnPort ↑p;
   decide (x.st ≠ DnSt.evacuating ∨ x.evacDone = true ∨ t.evacOver ↑p = false)),
   (let p : Fin 8 := 0;
   let s : State := sDn (dp DnSt.off) on;
   let e : State := State.dnEvent (↑p) 1 s;
   let b : DnPort := e.dnPort ↑p;
   decide (e.regBit (Reg.DN_PORT_CTRL + 8 * ↑p) 5 = true ∧ (b.st = DnSt.up ∨ b.st = DnSt.off) ∧ b.button = none)),
   (let p : Fin 8 := 0;
   let s : State := sDn (dp DnSt.up) on;
   let d : DnPort := s.dnPort ↑p;
   let live : Prop := d.st = DnSt.up ∨ d.st = DnSt.evacuating;
   decide (live ∧ d.present = true)),
   (let p : Fin 8 := 0;
   let s : State := st132;
   let d : DnPort := s.dnPort ↑p;
   decide (d.st = DnSt.starting ∧ d.step < 3)),
   (let p : Fin 8 := 0;
   let s : State := st134;
   let d : DnPort := s.dnPort ↑p;
   decide (d.st = DnSt.starting ∧ 3 ≤ d.step))].all id = true := by decide +kernel

theorem witness_SlotEvents_2 : [
   (let p : Fin 8 := 0;
   let s : State := sDn (dp DnSt.evacuating) on;
   let t : State := State.evacStep (↑p) s;
   let x : DnPort := t.dnPort ↑p;
   decide (x.st = DnSt.evacuating ∧ x.evacDone = false ∧ t.evacOver ↑p = true)),
   (let p : Fin 8 := 0;
   let s : State := st137;
   let e : State := State.dnEvent (↑p) 1 s;
   let b : DnPort := e.dnPort ↑p;
   decide (e.regBit (Reg.DN_PORT_CTRL + 8 * ↑p) 5 = true ∧ (b.st = DnSt.up ∨ b.st = DnSt.off) ∧ b.button ≠ none)),
   (let p : Fin 8 := 0;
   let s : State := st137;
   let d : DnPort := s.dnPort ↑p;
   decide (d.button ≠ none ∧ d.st = DnSt.off)),
   (let p : Fin 8 := 0;
   let s : State := st139;
   let d : DnPort := s.dnPort ↑p;
   decide (d.button ≠ none ∧ d.st = DnSt.up))].all id = true := by decide +kernel

theorem witness_ExpanderAccesses : [
   (let p : Fin 8 := 0;
   let id : Nat := 5;
   let s : State := on;
   decide (s.dnReq? (↑p) id = none)),
   (let p : Fin 8 := 0;
   let id : Nat := 5;
   let s : State := st140;
   let r : DnReq :=
     let __src : DnReq := dnr true;
     { id := __src.id, port := __src.port, line := __src.line, write := __src.write, mask := __src.mask,
       data := __src.data, poison := __src.poison, for_ := DnFor.txnWrite 0 0, sent := __src.sent, held := __src.held };
   let sl : Nat := 0;
   let tag : Nat := 0;
   decide (s.dnReq? (↑p) id = some r ∧ r.held = false ∧ r.write = true ∧ r.for_ = DnFor.txnWrite sl tag)),
   (let p : Fin 8 := 0;
   let id : Nat := 5;
   let s : State := st140;
   let r : DnReq :=
     let __src : DnReq := dnr true;
     { id := __src.id, port := __src.port, line := __src.line, write := __src.write, mask := __src.mask,
       data := __src.data, poison := __src.poison, for_ := DnFor.txnWrite 0 0, sent := __src.sent, held := __src.held };
   let e : State := State.dnEndReq r (State.dnRaise Err.DN_CPL_TIMEOUT (↑p) (if r.write = true then 64 * r.line else 0) s);
   let n : Nat := (e.dnPort ↑p).toRow + 1;
   let u : State :=
     State.updDnPort (↑p)
       (fun d ↦
         { st := d.st, present := d.present, powered := d.powered, powerGood := d.powerGood, linkUp := d.linkUp,
           reason := d.reason, capacity := d.capacity, speed := d.speed, width := d.width, step := d.step,
           since := d.since, button := d.button, toRow := n, evacDone := d.evacDone, busy := d.busy, refused := d.refused,
           offAfter := d.offAfter, eqPending := d.eqPending, eqRedo := d.eqRedo, eqIn := d.eqIn, setup := d.setup })
       e;
   let drains : Prop :=
     (s.dnPort ↑p).st = DnSt.evacuating ∧ (s.dnPort ↑p).evacDone = true ∧ (s.dnPort ↑p).offAfter = true ∨
       (s.dnPort ↑p).eqRedo = true;
   decide (s.dnReq? (↑p) id = some r ∧ r.held = false ∧ ¬drains ∧ n < max 1 (u.regBits Reg.DN_CTRL 39 32))),
   (let p : Fin 8 := 0;
   let id : Nat := 5;
   let s : State := st141;
   let r : DnReq :=
     let __src : DnReq := dnr false;
     { id := __src.id, port := __src.port, line := __src.line, write := __src.write, mask := __src.mask,
       data := __src.data, poison := __src.poison, for_ := DnFor.txnRead 0 0, sent := __src.sent, held := __src.held };
   let sl : Nat := 0;
   let tag : Nat := 0;
   decide (s.dnReq? (↑p) id = some r ∧ r.held = false ∧ r.write = false ∧ r.for_ = DnFor.txnRead sl tag)),
   (let p : Fin 8 := 0;
   let id : Nat := 5;
   let s : State := st142;
   let r : DnReq := dnr true;
   let w : Waiter := Waiter.work 9;
   decide (s.dnReq? (↑p) id = some r ∧ r.held = false ∧ r.write = true ∧ r.for_ = DnFor.write w)),
   (let p : Fin 8 := 0;
   let id : Nat := 5;
   let s : State := st143;
   let r : DnReq := dnr true;
   let e : State := State.dnEndReq r (State.dnRaise Err.DN_CPL_TIMEOUT (↑p) (if r.write = true then 64 * r.line else 0) s);
   let n : Nat := (e.dnPort ↑p).toRow + 1;
   let u : State :=
     State.updDnPort (↑p)
       (fun d ↦
         { st := d.st, present := d.present, powered := d.powered, powerGood := d.powerGood, linkUp := d.linkUp,
           reason := d.reason, capacity := d.capacity, speed := d.speed, width := d.width, step := d.step,
           since := d.since, button := d.button, toRow := n, evacDone := d.evacDone, busy := d.busy, refused := d.refused,
           offAfter := d.offAfter, eqPending := d.eqPending, eqRedo := d.eqRedo, eqIn := d.eqIn, setup := d.setup })
       e;
   let drains : Prop :=
     (s.dnPort ↑p).st = DnSt.evacuating ∧ (s.dnPort ↑p).evacDone = true ∧ (s.dnPort ↑p).offAfter = true ∨
       (s.dnPort ↑p).eqRedo = true;
   decide (s.dnReq? (↑p) id = some r ∧ r.held = false ∧ ¬drains ∧ max 1 (u.regBits Reg.DN_CTRL 39 32) ≤ n)),
   (let p : Fin 8 := 0;
   let id : Nat := 5;
   let s : State := st145;
   let r : DnReq := dnr true;
   let drains : Prop :=
     (s.dnPort ↑p).st = DnSt.evacuating ∧ (s.dnPort ↑p).evacDone = true ∧ (s.dnPort ↑p).offAfter = true ∨
       (s.dnPort ↑p).eqRedo = true;
   decide (s.dnReq? (↑p) id = some r ∧ r.held = false ∧ drains)),
   (let h : Half := Half.full;
   let v : Word := 0;
   let s : State := st140;
   let t : State := State.storeReg Reg.DN_XACC_CMD h v s;
   let w : Word := t.reg Reg.DN_XACC_CMD;
   let port : Nat := bits w 61 59;
   let guarded : Prop := bit w 57 = true ∧ State.xaccGuarded port (bit w 58) (bit w 56) (bits w 47 0) = true;
   decide (s.OpenReg Reg.DN_XACC_CMD ∧ s.dn.xaccBusy = false ∧ (t.dnPort port).linkUp = true ∧ ¬guarded)),
   (let h : Half := Half.full;
   let v : Word := 0;
   let s : State := on;
   let t : State := State.storeReg Reg.DN_XACC_CMD h v s;
   let w : Word := t.reg Reg.DN_XACC_CMD;
   let port : Nat := bits w 61 59;
   decide (s.OpenReg Reg.DN_XACC_CMD ∧ s.dn.xaccBusy = false ∧ (t.dnPort port).linkUp = false))].all id = true := by decide +kernel

theorem witness_ExpanderAccesses_2 : [
   (let s : State := st146;
   decide (s.OpenReg Reg.DN_XACC_CMD ∧ s.dn.xaccBusy = true)),
   (let h : Half := Half.full;
   let v : Word := BitVec.ofNat 64 (2 ^ 57 + 2 ^ 56 + 2 ^ 58 + 16);
   let s : State := st140;
   let t : State := State.storeReg Reg.DN_XACC_CMD h v s;
   let w : Word := t.reg Reg.DN_XACC_CMD;
   let port : Nat := bits w 61 59;
   let guarded : Prop := bit w 57 = true ∧ State.xaccGuarded port (bit w 58) (bit w 56) (bits w 47 0) = true;
   decide (s.OpenReg Reg.DN_XACC_CMD ∧ s.dn.xaccBusy = false ∧ guarded)),
   (let ok : Bool := true;
   let s : State := st146;
   decide (s.dn.xaccBusy = true ∧ ok = true ∧ s.regBit Reg.DN_XACC_CMD 57 = false ∧ s.regBit Reg.DN_XACC_CMD 56 = true)),
   (let ok : Bool := true;
   let s : State := st147;
   decide (s.dn.xaccBusy = true ∧ ok = true ∧ s.regBit Reg.DN_XACC_CMD 57 = false ∧ s.regBit Reg.DN_XACC_CMD 56 = false)),
   (let ok : Bool := true;
   let s : State := st148;
   decide (s.dn.xaccBusy = true ∧ (ok = false ∨ s.regBit Reg.DN_XACC_CMD 57 = true))),
   (let p : Fin 8 := 0;
   let h : Half := Half.full;
   let v : Word := 0;
   let s : State := st140;
   let off : Nat := Reg.CH_T2_POOL + 8 * ↑p;
   let new : Word := s.merged off h v;
   let t : State := State.setReg off new s;
   let inside : Prop := t.frameAddr (↑p + 1) (bits new 63 32) - tier2Base ↑p ≤ (s.dnPort ↑p).capacity ∧ s.portUp ↑p = true;
   decide (s.OpenReg (Reg.CH_T2_POOL + 8 * ↑p) ∧ (bit new 31 = false ∨ inside ∧ bit (s.reg off) 31 = true))),
   (let p : Fin 8 := 0;
   let h : Half := Half.full;
   let v : Word := 2147483648;
   let s : State := st140;
   let off : Nat := Reg.CH_T2_POOL + 8 * ↑p;
   let new : Word := s.merged off h v;
   let t : State := State.setReg off new s;
   let inside : Prop := t.frameAddr (↑p + 1) (bits new 63 32) - tier2Base ↑p ≤ (s.dnPort ↑p).capacity ∧ s.portUp ↑p = true;
   decide (s.OpenReg (Reg.CH_T2_POOL + 8 * ↑p) ∧ bit new 31 = true ∧ bit (s.reg off) 31 = false ∧ inside)),
   (let p : Fin 8 := 0;
   let h : Half := Half.full;
   let v : Word := 2147483648;
   let s : State := on;
   let off : Nat := Reg.CH_T2_POOL + 8 * ↑p;
   let new : Word := s.merged off h v;
   let t : State := State.setReg off new s;
   let inside : Prop := t.frameAddr (↑p + 1) (bits new 63 32) - tier2Base ↑p ≤ (s.dnPort ↑p).capacity ∧ s.portUp ↑p = true;
   decide (s.OpenReg (Reg.CH_T2_POOL + 8 * ↑p) ∧ bit new 31 = true ∧ ¬inside)),
   (let p : Fin 8 := 0;
   let h : Half := Half.full;
   let v : Word := 0;
   let s : State := st140;
   let off : Nat := Reg.IB_T2_POOL + 8 * ↑p;
   let new : Word := s.merged off h v;
   let t : State := State.setReg off new s;
   let inside : Prop := t.ibAddr (↑p + 1) (bits new 63 32) - tier2Base ↑p ≤ (s.dnPort ↑p).capacity ∧ s.portUp ↑p = true;
   decide (s.OpenReg (Reg.IB_T2_POOL + 8 * ↑p) ∧ (bit new 31 = false ∨ inside ∧ bit (s.reg off) 31 = true)))].all id = true := by decide +kernel

theorem witness_ExpanderAccesses_3 : [
   (let p : Fin 8 := 0;
   let h : Half := Half.full;
   let v : Word := 2147483648;
   let s : State := st140;
   let off : Nat := Reg.IB_T2_POOL + 8 * ↑p;
   let new : Word := s.merged off h v;
   let t : State := State.setReg off new s;
   let inside : Prop := t.ibAddr (↑p + 1) (bits new 63 32) - tier2Base ↑p ≤ (s.dnPort ↑p).capacity ∧ s.portUp ↑p = true;
   decide (s.OpenReg (Reg.IB_T2_POOL + 8 * ↑p) ∧ bit new 31 = true ∧ inside ∧ bit (s.reg off) 31 = false)),
   (let p : Fin 8 := 0;
   let h : Half := Half.full;
   let v : Word := 2147483648;
   let s : State := on;
   let off : Nat := Reg.IB_T2_POOL + 8 * ↑p;
   let new : Word := s.merged off h v;
   let t : State := State.setReg off new s;
   let inside : Prop := t.ibAddr (↑p + 1) (bits new 63 32) - tier2Base ↑p ≤ (s.dnPort ↑p).capacity ∧ s.portUp ↑p = true;
   decide (s.OpenReg (Reg.IB_T2_POOL + 8 * ↑p) ∧ bit new 31 = true ∧ ¬inside))].all id = true := by decide +kernel

theorem witness_Equalisation : [
   (let i : Fin 9 := 8;
   let s : State := sEq (sDn (dp DnSt.up) on);
   decide (s.regBit Reg.DN_EQ_CTRL ↑i = false)),
   (let i : Fin 9 := 0;
   let m : BitVec 8 := 0;
   let lane : BitVec 4 := 2;
   let n : Nat := 0;
   let s : State := sEq (sDn (dp DnSt.up) on);
   let d : DnPort := s.dnPort ↑i;
   let t : State :=
     State.setEqLink (↑i)
       (have __src : EqLink := s.eqLink ↑i;
       { presets := __src.presets, margin := m.toNat, lane := lane.toNat, failedLast := __src.failedLast,
         redos := __src.redos, corrected := n, lastRedo := __src.lastRedo })
       s;
   let hard : Prop := m.toNat ≤ t.regBits Reg.DN_EQ_CTRL 27 24 ∨ 2 ^ t.regBits Reg.DN_EQ_CTRL 39 32 < n;
   decide
     (s.regBit Reg.DN_EQ_CTRL ↑i = true ∧
       ↑i ≠ 8 ∧ d.linkUp = true ∧ 5 ≤ d.speed ∧ d.eqRedo = false ∧ t.eqMayRedo ↑i = true ∧ hard)),
   (let i : Fin 9 := 0;
   let m : BitVec 8 := 3;
   let lane : BitVec 4 := 2;
   let n : Nat := 0;
   let s : State := sEq (sDn (dp DnSt.up) on);
   let d : DnPort := s.dnPort ↑i;
   let t : State :=
     State.setEqLink (↑i)
       (have __src : EqLink := s.eqLink ↑i;
       { presets := __src.presets, margin := m.toNat, lane := lane.toNat, failedLast := __src.failedLast,
         redos := __src.redos, corrected := n, lastRedo := __src.lastRedo })
       s;
   let hard : Prop := m.toNat ≤ t.regBits Reg.DN_EQ_CTRL 27 24 ∨ 2 ^ t.regBits Reg.DN_EQ_CTRL 39 32 < n;
   let soft : Prop := m.toNat ≤ t.regBits Reg.DN_EQ_CTRL 31 28;
   decide
     (s.regBit Reg.DN_EQ_CTRL ↑i = true ∧
       ↑i ≠ 8 ∧ d.linkUp = true ∧ 5 ≤ d.speed ∧ d.eqRedo = false ∧ t.eqMayRedo ↑i = true ∧ ¬hard ∧ soft)),
   (let i : Fin 9 := 0;
   let m : BitVec 8 := 9;
   let lane : BitVec 4 := 2;
   let n : Nat := 0;
   let s : State := sEq (sDn (dp DnSt.up) on);
   let d : DnPort := s.dnPort ↑i;
   let t : State :=
     State.setEqLink (↑i)
       (have __src : EqLink := s.eqLink ↑i;
       { presets := __src.presets, margin := m.toNat, lane := lane.toNat, failedLast := __src.failedLast,
         redos := __src.redos, corrected := n, lastRedo := __src.lastRedo })
       s;
   let hard : Prop := m.toNat ≤ t.regBits Reg.DN_EQ_CTRL 27 24 ∨ 2 ^ t.regBits Reg.DN_EQ_CTRL 39 32 < n;
   let soft : Prop := m.toNat ≤ t.regBits Reg.DN_EQ_CTRL 31 28;
   decide
     (s.regBit Reg.DN_EQ_CTRL ↑i = true ∧
       ↑i ≠ 8 ∧ d.linkUp = true ∧ 5 ≤ d.speed ∧ d.eqRedo = false ∧ t.eqMayRedo ↑i = true ∧ ¬hard ∧ ¬soft)),
   (let m : BitVec 8 := 0;
   let lane : BitVec 4 := 2;
   let n : Nat := 0;
   let s : State := st152;
   let t : State :=
     State.setEqLink 8
       (have __src : EqLink := s.eqLink 8;
       { presets := __src.presets, margin := m.toNat, lane := lane.toNat, failedLast := __src.failedLast,
         redos := __src.redos, corrected := n, lastRedo := __src.lastRedo })
       s;
   let hard : Prop := m.toNat ≤ t.regBits Reg.DN_EQ_CTRL 27 24 ∨ 2 ^ t.regBits Reg.DN_EQ_CTRL 39 32 < n;
   let asks : Prop := hard ∨ m.toNat ≤ t.regBits Reg.DN_EQ_CTRL 31 28 ∧ t.servingHold = false;
   decide (s.regBit Reg.DN_EQ_CTRL 8 = true ∧ s.up.linkUp = true ∧ s.up.lpm = 0 ∧ 5 ≤ s.up.speed ∧ asks)),
   (let m : BitVec 8 := 9;
   let lane : BitVec 4 := 2;
   let n : Nat := 0;
   let s : State := st152;
   let t : State :=
     State.setEqLink 8
       (have __src : EqLink := s.eqLink 8;
       { presets := __src.presets, margin := m.toNat, lane := lane.toNat, failedLast := __src.failedLast,
         redos := __src.redos, corrected := n, lastRedo := __src.lastRedo })
       s;
   let hard : Prop := m.toNat ≤ t.regBits Reg.DN_EQ_CTRL 27 24 ∨ 2 ^ t.regBits Reg.DN_EQ_CTRL 39 32 < n;
   let asks : Prop := hard ∨ m.toNat ≤ t.regBits Reg.DN_EQ_CTRL 31 28 ∧ t.servingHold = false;
   decide (s.regBit Reg.DN_EQ_CTRL 8 = true ∧ s.up.linkUp = true ∧ s.up.lpm = 0 ∧ 5 ≤ s.up.speed ∧ ¬asks)),
   (let p : Fin 8 := 0;
   let s : State := st152;
   let quiet : Prop :=
     (s.dnPort ↑p).eqPending = true ∧ (∀ (r : DnReq), r ∈ s.dn.reqs → r.port ≠ ↑p) ∧ s.eqMayRedo ↑p = true;
   decide ¬quiet),
   (let p : Fin 8 := 0;
   let s : State := st153;
   let quiet : Prop :=
     (s.dnPort ↑p).eqPending = true ∧ (∀ (r : DnReq), r ∈ s.dn.reqs → r.port ≠ ↑p) ∧ s.eqMayRedo ↑p = true;
   decide quiet),
   (let p : Fin 8 := 0;
   let s : State := st152;
   decide ((s.dnPort ↑p).eqIn = false))].all id = true := by decide +kernel

theorem witness_Equalisation_2 : [
   (let p : Fin 8 := 0;
   let best : Option (BitVec 2) := none;
   let s : State := st155;
   decide ((s.dnPort ↑p).eqIn = true ∧ best = none)),
   (let p : Fin 8 := 0;
   let best : Option (BitVec 2) := some 0;
   let s : State := st155;
   let t : State :=
     State.updDnPort (↑p)
       (fun d ↦
         { st := d.st, present := d.present, powered := d.powered, powerGood := d.powerGood, linkUp := d.linkUp,
           reason := d.reason, capacity := d.capacity, speed := d.speed, width := d.width, step := d.step,
           since := d.since, button := d.button, toRow := d.toRow, evacDone := d.evacDone, busy := d.busy,
           refused := d.refused, offAfter := d.offAfter, eqPending := d.eqPending, eqRedo := false, eqIn := false,
           setup := d.setup })
       s;
   let i : BitVec 2 := 0;
   let x : Nat × Nat := (4, 5);
   decide ((s.dnPort ↑p).eqIn = true ∧ best = some i ∧ (t.eqCands ↑p)[i.toNat]? = some x))].all id = true := by decide +kernel

theorem witness_PowerUpSteps : [
   (let s : State := st156;
   decide (s.boot.por = false ∧ s.boot.pufDone = false)),
   (let s : State := st156;
   decide (s.boot.por = false ∧ s.ck.pll = Pll.off)),
   (let s : State := st156;
   decide (s.boot.por = false ∧ s.boot.arrays = false)),
   (let s : State := on;
   decide (s.boot.por = true)),
   (let s : State := st157;
   decide (s.boot.por = false ∧ s.boot.arrays = true))].all id = true := by decide +kernel

theorem witness_ImageAndFlash : [
   (let s : State := on;
   decide (s.boot.por = true ∨ s.boot.readDone = true ∨ s.ck.pll ≠ Pll.locked)),
   (let s : State := sLock (sPor on);
   decide (s.boot.por = false ∧ s.boot.readDone = false ∧ s.ck.pll = Pll.locked)),
   (let s : State := on;
   decide (s.boot.por = true ∨ s.boot.arrays = false ∨ s.boot.readDone = false ∨ s.boot.applied = true)),
   (let s : State :=
     State.modBoot
       (fun b ↦
         { por := false, pufDone := b.pufDone, arrays := true, readDone := true, applied := b.applied,
           keyDone := b.keyDone, loaded := b.loaded, flash := b.flash, mode := b.mode, erase64 := b.erase64,
           copy := b.copy, lock := b.lock, ids := b.ids, eq := b.eq, cdat := b.cdat, chain := b.chain, helper := b.helper,
           cmd := b.cmd, refused := b.refused, failed := b.failed })
       on;
   decide (s.boot.por = false ∧ s.boot.arrays = true ∧ s.boot.readDone = true ∧ s.boot.applied = false ∧ s.selectCopy = 0)),
   (let s : State :=
     State.modBoot
       (fun b ↦
         { por := false, pufDone := b.pufDone, arrays := true, readDone := true, applied := b.applied,
           keyDone := b.keyDone, loaded := b.loaded, flash := b.flash, mode := b.mode, erase64 := b.erase64,
           copy := b.copy, lock := b.lock, ids := b.ids, eq := b.eq, cdat := b.cdat, chain := b.chain, helper := b.helper,
           cmd := b.cmd, refused := b.refused, failed := b.failed })
       (sCopyA on);
   decide (s.boot.por = false ∧ s.boot.arrays = true ∧ s.boot.readDone = true ∧ s.boot.applied = false ∧ s.selectCopy ≠ 0)),
   (let s : State := on;
   let a : Word := s.reg Reg.CFG_COPY_A;
   let b : Word := s.reg Reg.CFG_COPY_B;
   decide (bits a 3 0 ≠ 1 ∧ bits b 3 0 ≠ 1)),
   (let s : State :=
     State.modBoot
       (fun b ↦
         { por := false, pufDone := b.pufDone, arrays := true, readDone := true, applied := b.applied,
           keyDone := b.keyDone, loaded := b.loaded, flash := b.flash, mode := b.mode, erase64 := b.erase64,
           copy := b.copy, lock := b.lock, ids := b.ids, eq := b.eq, cdat := b.cdat, chain := b.chain, helper := b.helper,
           cmd := b.cmd, refused := b.refused, failed := b.failed })
       (sCopyA on);
   let a : Word := s.reg Reg.CFG_COPY_A;
   let b : Word := s.reg Reg.CFG_COPY_B;
   decide (bits a 3 0 = 1 ∧ bits b 3 0 ≠ 1)),
   (let s : State := State.setReg Reg.CFG_COPY_B 1 on;
   let a : Word := s.reg Reg.CFG_COPY_A;
   let b : Word := s.reg Reg.CFG_COPY_B;
   decide (bits a 3 0 ≠ 1 ∧ bits b 3 0 = 1)),
   (let s : State := sCopyA (State.setReg Reg.CFG_COPY_B 1 on);
   let a : Word := s.reg Reg.CFG_COPY_A;
   let b : Word := s.reg Reg.CFG_COPY_B;
   decide (bits a 3 0 = 1 ∧ bits b 3 0 = 1))].all id = true := by decide +kernel

theorem witness_ImageAndFlash_2 : [
   (let s : State := on;
   let b : Boot := s.boot;
   let ready : Prop :=
     b.por = false ∧
       b.loaded = false ∧ b.pufDone = true ∧ b.arrays = true ∧ b.applied = true ∧ b.keyDone = true ∧ s.ck.pll = Pll.locked;
   decide ¬ready),
   (let s : State := sSteps on;
   let b : Boot := s.boot;
   let ready : Prop :=
     b.por = false ∧
       b.loaded = false ∧ b.pufDone = true ∧ b.arrays = true ∧ b.applied = true ∧ b.keyDone = true ∧ s.ck.pll = Pll.locked;
   decide ready),
   (let s : State := on;
   decide (s.OpenReg Reg.CFG_LOCK)),
   (let code : Nat := 1;
   let v : Word := 4295032832;
   let s : State := on;
   let t : State := State.storeReg Reg.CFG_FLASH_CMD Half.full v s;
   let a : Nat := t.regBits Reg.CFG_FLASH_CMD 21 0;
   decide (s.OpenReg Reg.CFG_FLASH_CMD ∧ bits v 34 32 = code ∧ t.flashRefused code a = false)),
   (let code : Nat := 1;
   let v : Word := 4295032832;
   let s : State := sFlash 1 on;
   let t : State := State.storeReg Reg.CFG_FLASH_CMD Half.full v s;
   let a : Nat := t.regBits Reg.CFG_FLASH_CMD 21 0;
   decide (s.OpenReg Reg.CFG_FLASH_CMD ∧ bits v 34 32 = code ∧ t.flashRefused code a = true)),
   (let s : State := on;
   decide (s.boot.cmd = none)),
   (let s : State := sFlash 1 on;
   let c : FlashCmd := s.boot.cmd.getD { cmd := 1, addr := 0, data := [] };
   decide (s.boot.cmd = some c ∧ c.cmd = 1)),
   (let s : State := sFlash 2 on;
   let c : FlashCmd := s.boot.cmd.getD { cmd := 1, addr := 0, data := [] };
   decide (s.boot.cmd = some c ∧ c.cmd = 2)),
   (let s : State := sFlash 2 on;
   let c : FlashCmd := s.boot.cmd.getD { cmd := 1, addr := 0, data := [] };
   decide (s.boot.cmd = some c ∧ (c.cmd = 2 ∨ c.cmd = 3)))].all id = true := by decide +kernel

theorem witness_ImageAndFlash_3 : [
   (let s : State := sFlash 3 on;
   let c : FlashCmd := s.boot.cmd.getD { cmd := 1, addr := 0, data := [] };
   decide (s.boot.cmd = some c ∧ c.cmd = 3))].all id = true := by decide +kernel

theorem witness_ImageAndFlash_mem : let c : Half → Word → Instr := Instr.flashRead;
   let code : Nat := 1;
   (c, code) ∈ [(Instr.flashRead, 1), (Instr.flashProgram, 2), (Instr.flashErase, 3)] := by simp

theorem witness_IdentityKey : [
   (let s : State := st164;
   decide
     (s.boot.por = false ∧ s.boot.applied = true ∧ s.boot.pufDone = true ∧ s.boot.keyDone = false ∧ s.boot.helper = [])),
   (let s : State := st165;
   decide
     (s.boot.por = false ∧ s.boot.applied = true ∧ s.boot.pufDone = true ∧ s.boot.keyDone = false ∧ s.boot.helper ≠ [])),
   (let s : State := on;
   decide (s.OpenReg Reg.ID_CMD ∧ s.ident.puf = none)),
   (let s : State := st166;
   let resp : List Byte := [1];
   decide
     (s.OpenReg Reg.ID_CMD ∧
       s.ident.puf = some resp ∧
         s.ident.keyState = 0 ∧ s.locked = false ∧ s.ident.entropyBad = false ∧ s.ident.safe = false)),
   (let s : State := st167;
   decide
     (s.OpenReg Reg.ID_CMD ∧ (s.ident.keyState ≠ 0 ∨ s.locked = true ∨ s.ident.entropyBad = true ∨ s.ident.safe = true)))].all id = true := by decide +kernel

theorem witness_SecurityMessages : [
   (let s : State := on;
   decide (s.boot.loaded = false)),
   (let s : State := sSpdm 0 on;
   decide (s.boot.loaded = true ∧ s.ident.stage = 0)),
   (let s : State := sSpdm 0 on;
   decide (s.boot.loaded = true ∧ s.ident.stage < 2)),
   (let s : State := sSpdm 0 on;
   decide (s.boot.loaded = true ∧ s.ident.stage < 3)),
   (let s : State := sSpdm 1 on;
   decide (s.boot.loaded = true ∧ s.ident.stage ≠ 0)),
   (let s : State := sSpdm 2 on;
   decide (s.boot.loaded = true ∧ 2 ≤ s.ident.stage)),
   (let s : State := sSpdm 3 on;
   decide (s.boot.loaded = true ∧ s.ident.stage = 3 ∧ s.ident.chainOk = false)),
   (let s : State := sSpdm 3 on;
   let i : BitVec 8 := 5;
   decide (s.boot.loaded = true ∧ s.ident.stage = 3 ∧ 3 < i.toNat ∧ i.toNat ≠ 255)),
   (let s : State := sSpdm 3 on;
   let i : Nat := 1;
   decide (s.boot.loaded = true ∧ s.ident.stage = 3 ∧ i ∈ [1, 2, 3]))].all id = true := by decide +kernel

theorem witness_SecurityMessages_2 : [
   (let s : State := sSpdm 3 on;
   decide (s.boot.loaded = true ∧ s.ident.stage = 3 ∧ s.ident.sessions = [])),
   (let s : State := sSpdm 3 on;
   let n : BitVec 32 := 1;
   decide
     (s.boot.loaded = true ∧ s.ident.stage = 3 ∧ (s.ident.sessions.any fun x ↦ decide (x.id = n.toNat) && x.open_) = false)),
   (let s : State := sKeyOk (sSpdm 3 on);
   let off : BitVec 16 := 0;
   let c : List Byte := s.spdmChain;
   decide (s.boot.loaded = true ∧ s.ident.stage = 3 ∧ s.ident.chainOk = true ∧ off.toNat < c.length)),
   (let s : State := sKeyOk (sSpdm 3 on);
   let off : BitVec 16 := 52;
   let c : List Byte := s.spdmChain;
   decide (s.boot.loaded = true ∧ s.ident.stage = 3 ∧ s.ident.chainOk = true ∧ c.length ≤ off.toNat)),
   (let s : State := sKeyOk (sSpdm 3 on);
   let e : List Byte := pt;
   decide
     (s.boot.loaded = true ∧
       s.ident.stage = 3 ∧
         s.ident.chainOk = true ∧
           s.keyUsable = true ∧ s.ident.entropyBad = false ∧ s.ident.sessions.length < 4 ∧ P384.onCurve e = true)),
   (let s : State := st168;
   let n : BitVec 32 := 1;
   let x : Session := { id := 1, open_ := false };
   decide (s.boot.loaded = true ∧ s.ident.stage = 3 ∧ s.ident.sessions = [x] ∧ x.id = n.toNat ∧ x.open_ = false)),
   (let s : State := st170;
   let e : List Byte := pt;
   decide
     (s.boot.loaded = true ∧
       s.ident.stage = 3 ∧
         s.ident.chainOk = true ∧
           s.keyUsable = true ∧ s.ident.entropyBad = false ∧ 4 ≤ s.ident.sessions.length ∧ P384.onCurve e = true)),
   (let s : State := st169;
   let n : BitVec 32 := 1;
   let st : BitVec 8 := 0;
   decide
     (s.boot.loaded = true ∧
       s.ident.stage = 3 ∧ (s.ident.sessions.any fun x ↦ decide (x.id = n.toNat) && x.open_) = true ∧ st.toNat ≤ 2)),
   (let s : State := st169;
   let n : BitVec 32 := 1;
   let st : BitVec 8 := 3;
   decide
     (s.boot.loaded = true ∧
       s.ident.stage = 3 ∧ (s.ident.sessions.any fun x ↦ decide (x.id = n.toNat) && x.open_) = true ∧ 2 < st.toNat))].all id = true := by decide +kernel

theorem witness_ClocksAndRails : [
   (let s : State := sAvfs 0 on;
   decide (s.ck.pll ≠ Pll.locked)),
   (let s : State := sAvfs 0 on;
   decide (s.ck.pll ≠ Pll.relocking)),
   (let s : State := st171;
   decide (s.ck.pll = Pll.relocking)),
   (let s : State := st171;
   decide (s.clocksStopped = true)),
   (let s : State := sPll Pll.locked on;
   decide (s.ck.pll = Pll.locked)),
   (let s : State := sAvfs 0 on;
   decide (s.OpenReg Reg.CK_LEVEL)),
   (let rail : BitVec 2 := 0;
   let s : State := sAvfs 0 on;
   let v : Vreg := s.vregOf rail.toNat;
   decide (v.req = false)),
   (let rail : BitVec 2 := 0;
   let s : State := sAvfs 0 on;
   let v : Vreg := s.vregOf rail.toNat;
   decide (v.ack = false)),
   (let rail : BitVec 2 := 0;
   let s : State := st172;
   let v : Vreg := s.vregOf rail.toNat;
   let m : LevelMove := { source := 1, target := 0, asked := true };
   decide (v.req = true ∧ s.moveOf rail.toNat = some m ∧ m.asked = true))].all id = true := by decide +kernel

theorem witness_ClocksAndRails_2 : [
   (let rail : BitVec 2 := 0;
   let s : State := st173;
   let v : Vreg := s.vregOf rail.toNat;
   let m : LevelMove := { source := 1, target := 0, asked := false };
   decide (v.req = true ∧ s.moveOf rail.toNat = some m ∧ m.asked = false)),
   (let rail : BitVec 2 := 0;
   let s : State := sVreg 0 true false on;
   let v : Vreg := s.vregOf rail.toNat;
   decide (v.req = true ∧ s.moveOf rail.toNat = none)),
   (let rail : BitVec 2 := 0;
   let s : State := sVreg 0 false true on;
   let v : Vreg := s.vregOf rail.toNat;
   decide (v.ack = true)),
   (let s : State := State.setReg Reg.CK_CTRL 0 on;
   decide (s.regBit Reg.CK_CTRL 0 = false ∨ s.powerHeld = true)),
   (let l : List Slack := [];
   let s : State := sAvfs 0 on;
   let d : Nat := 48;
   let mine : List Nat := List.map (fun x ↦ x.slack.toNat) (List.filter (fun x ↦ decide (↑x.domain = d)) l);
   let rail : Nat := State.railOf d;
   let moves : Prop := mine ≠ [] ∧ (s.dom d).st = PmSt.active ∧ s.moveOf rail = none;
   let level : Nat := 1;
   decide
     (s.clocksStopped = false ∧
       s.regBit Reg.CK_CTRL 0 = true ∧ s.powerHeld = false ∧ d < 95 ∧ (¬moves ∨ level ≠ s.levelOf rail))),
   (let l : List Slack := [{ domain := 48, slack := 16 }, { domain := 48, slack := 48 }];
   let s : State := sAvfs 0 on;
   let d : Nat := 48;
   let mine : List Nat := List.map (fun x ↦ x.slack.toNat) (List.filter (fun x ↦ decide (↑x.domain = d)) l);
   let rail : Nat := State.railOf d;
   let moves : Prop := mine ≠ [] ∧ (s.dom d).st = PmSt.active ∧ s.moveOf rail = none;
   let low : Nat := List.foldl min 255 mine;
   decide
     (s.clocksStopped = false ∧
       s.regBit Reg.CK_CTRL 0 = true ∧ s.powerHeld = false ∧ d < 95 ∧ moves ∧ low < s.regBits Reg.CK_AVFS_CFG 39 32)),
   (let l : List Slack := [{ domain := 48, slack := 16 }, { domain := 48, slack := 48 }];
   let s : State := on;
   let d : Nat := 48;
   let mine : List Nat := List.map (fun x ↦ x.slack.toNat) (List.filter (fun x ↦ decide (↑x.domain = d)) l);
   let rail : Nat := State.railOf d;
   let moves : Prop := mine ≠ [] ∧ (s.dom d).st = PmSt.active ∧ s.moveOf rail = none;
   let low : Nat := List.foldl min 255 mine;
   decide
     (s.clocksStopped = false ∧
       s.regBit Reg.CK_CTRL 0 = true ∧
         s.powerHeld = false ∧
           d < 95 ∧ moves ∧ s.regBits Reg.CK_AVFS_CFG 39 32 ≤ low ∧ low ≤ s.regBits Reg.CK_AVFS_CFG 47 40)),
   (let l : List Slack := [{ domain := 48, slack := 16 }, { domain := 48, slack := 48 }];
   let s : State := st176;
   let d : Nat := 48;
   let mine : List Nat := List.map (fun x ↦ x.slack.toNat) (List.filter (fun x ↦ decide (↑x.domain = d)) l);
   let rail : Nat := State.railOf d;
   let moves : Prop := mine ≠ [] ∧ (s.dom d).st = PmSt.active ∧ s.moveOf rail = none;
   let low : Nat := List.foldl min 255 mine;
   let v : Nat := s.trimOf d (s.levelOf rail);
   let top : Nat := min 20 (s.regBits Reg.CK_AVFS_CFG 55 48);
   decide
     (s.clocksStopped = false ∧
       s.regBit Reg.CK_CTRL 0 = true ∧
         s.powerHeld = false ∧
           d < 95 ∧ moves ∧ s.regBits Reg.CK_AVFS_CFG 39 32 ≤ low ∧ s.regBits Reg.CK_AVFS_CFG 47 40 < low ∧ top ≤ v)),
   (let l : List Slack := [{ domain := 48, slack := 144 }];
   let s : State := on;
   let d : Nat := 48;
   let mine : List Nat := List.map (fun x ↦ x.slack.toNat) (List.filter (fun x ↦ decide (↑x.domain = d)) l);
   let rail : Nat := State.railOf d;
   let moves : Prop := mine ≠ [] ∧ (s.dom d).st = PmSt.active ∧ s.moveOf rail = none;
   let low : Nat := List.foldl min 255 mine;
   let v : Nat := s.trimOf d (s.levelOf rail);
   let top : Nat := min 20 (s.regBits Reg.CK_AVFS_CFG 55 48);
   decide
     (s.clocksStopped = false ∧
       s.regBit Reg.CK_CTRL 0 = true ∧
         s.powerHeld = false ∧
           d < 95 ∧ moves ∧ s.regBits Reg.CK_AVFS_CFG 39 32 ≤ low ∧ s.regBits Reg.CK_AVFS_CFG 47 40 < low ∧ v < top))].all id = true := by decide +kernel

theorem witness_ClocksAndRails_3 : [
   (let d : Fin 96 := 48;
   let x : BitVec 8 := 16;
   let s : State := sAvfs 0 on;
   let rail : Nat := State.railOf ↑d;
   let l : Nat := s.levelOf rail;
   decide
     (s.clocksStopped = false ∧
       x.toNat < s.regBits Reg.CK_AVFS_CFG 31 24 ∧ rail ≠ 3 ∧ (¬↑d ∈ s.ck.stretched ∨ s.railTrim rail l ≠ 0))),
   (let d : Fin 96 := 48;
   let x : BitVec 8 := 16;
   let s : State := st171;
   let rail : Nat := State.railOf ↑d;
   decide (s.regBits Reg.CK_AVFS_CFG 31 24 ≤ x.toNat ∨ rail = 3)),
   (let d : Fin 96 := 48;
   let x : BitVec 8 := 16;
   let s : State := st177;
   let rail : Nat := State.railOf ↑d;
   let l : Nat := s.levelOf rail;
   decide
     (s.clocksStopped = false ∧
       x.toNat < s.regBits Reg.CK_AVFS_CFG 31 24 ∧ rail ≠ 3 ∧ ↑d ∈ s.ck.stretched ∧ s.railTrim rail l = 0))].all id = true := by decide +kernel

theorem witness_DomainEntries : [
   (let d : Fin 96 := 32;
   let s : State := st179;
   let x : PmDom := s.dom d.val;
   let c : Instr := Instr.idleTimerExpiry d;
   let a : PmSt := PmSt.active;
   let b : PmSt := PmSt.idle;
   let timer : Nat := 5;
   let may : Prop :=
     x.st = a ∧
       x.entering = none ∧
         x.waking = false ∧
           s.isFenced d.val = false ∧
             timer ≠ 0 ∧
               s.boot.loaded = true ∧
                 s.clocksStopped = false ∧ s.powerHeld = false ∧ State.depth b ≤ s.floorOf d.val ∧ s.domBusy d.val = false;
   decide
     ((c, a, b, timer) ∈
         [(Instr.idleTimerExpiry d, PmSt.active, PmSt.idle, s.regBits (Reg.PM_DOM_CFG + 8 * d.val) 7 0),
           (Instr.napTimerExpiry d, PmSt.idle, PmSt.nap, s.regBits (Reg.PM_DOM_CFG + 8 * d.val) 31 16),
           (Instr.offTimerExpiry d, PmSt.nap, PmSt.off, s.regBits (Reg.PM_DOM_CFG + 8 * d.val) 47 32)] ∧
       may ∧ s.refuser d.val ≠ 0)),
   (let d : Fin 96 := 32;
   let s : State := st179;
   let x : PmDom := s.dom d.val;
   let c : Instr := Instr.napTimerExpiry d;
   let a : PmSt := PmSt.idle;
   let b : PmSt := PmSt.nap;
   let timer : Nat := 5;
   let may : Prop :=
     x.st = a ∧
       x.entering = none ∧
         x.waking = false ∧
           s.isFenced d.val = false ∧
             timer ≠ 0 ∧
               s.boot.loaded = true ∧
                 s.clocksStopped = false ∧ s.powerHeld = false ∧ State.depth b ≤ s.floorOf d.val ∧ s.domBusy d.val = false;
   decide
     ((c, a, b, timer) ∈
         [(Instr.idleTimerExpiry d, PmSt.active, PmSt.idle, s.regBits (Reg.PM_DOM_CFG + 8 * d.val) 7 0),
           (Instr.napTimerExpiry d, PmSt.idle, PmSt.nap, s.regBits (Reg.PM_DOM_CFG + 8 * d.val) 31 16),
           (Instr.offTimerExpiry d, PmSt.nap, PmSt.off, s.regBits (Reg.PM_DOM_CFG + 8 * d.val) 47 32)] ∧
       ¬may)),
   (let d : Fin 96 := 32;
   let s : State := st179;
   let x : PmDom := s.dom d.val;
   decide (x.entering = none)),
   (let d : Fin 96 := 32;
   let s : State := sPm 32 (sLoaded on);
   let x : PmDom := s.dom d.val;
   let c : Instr := Instr.idleTimerExpiry d;
   let a : PmSt := PmSt.active;
   let b : PmSt := PmSt.idle;
   let timer : Nat := 5;
   let may : Prop :=
     x.st = a ∧
       x.entering = none ∧
         x.waking = false ∧
           s.isFenced d.val = false ∧
             timer ≠ 0 ∧
               s.boot.loaded = true ∧
                 s.clocksStopped = false ∧ s.powerHeld = false ∧ State.depth b ≤ s.floorOf d.val ∧ s.domBusy d.val = false;
   decide
     ((c, a, b, timer) ∈
         [(Instr.idleTimerExpiry d, PmSt.active, PmSt.idle, s.regBits (Reg.PM_DOM_CFG + 8 * d.val) 7 0),
           (Instr.napTimerExpiry d, PmSt.idle, PmSt.nap, s.regBits (Reg.PM_DOM_CFG + 8 * d.val) 31 16),
           (Instr.offTimerExpiry d, PmSt.nap, PmSt.off, s.regBits (Reg.PM_DOM_CFG + 8 * d.val) 47 32)] ∧
       may ∧ s.refuser d.val = 0 ∧ s.levelSource d.val = false)),
   (let d : Fin 96 := 32;
   let s : State := st185;
   let x : PmDom := s.dom d.val;
   let t : PmSt := PmSt.off;
   let r : Nat := s.quiesceRefuser d.val;
   decide (x.entering = some t ∧ r = 0 ∧ (t ≠ PmSt.off ∨ d.val < 78 ∨ 82 ≤ d.val ∨ d.val - 78 ∈ s.pm.saved))),
   (let d : Fin 96 := 48;
   let s : State := st181;
   let x : PmDom := s.dom d.val;
   let c : Instr := Instr.idleTimerExpiry d;
   let a : PmSt := PmSt.active;
   let b : PmSt := PmSt.idle;
   let timer : Nat := 5;
   let may : Prop :=
     x.st = a ∧
       x.entering = none ∧
         x.waking = false ∧
           s.isFenced d.val = false ∧
             timer ≠ 0 ∧
               s.boot.loaded = true ∧
                 s.clocksStopped = false ∧ s.powerHeld = false ∧ State.depth b ≤ s.floorOf d.val ∧ s.domBusy d.val = false;
   decide
     ((c, a, b, timer) ∈
         [(Instr.idleTimerExpiry d, PmSt.active, PmSt.idle, s.regBits (Reg.PM_DOM_CFG + 8 * d.val) 7 0),
           (Instr.napTimerExpiry d, PmSt.idle, PmSt.nap, s.regBits (Reg.PM_DOM_CFG + 8 * d.val) 31 16),
           (Instr.offTimerExpiry d, PmSt.nap, PmSt.off, s.regBits (Reg.PM_DOM_CFG + 8 * d.val) 47 32)] ∧
       may ∧ s.refuser d.val = 0 ∧ s.levelSource d.val = true)),
   (let d : Fin 96 := 48;
   let s : State := st186;
   let x : PmDom := s.dom d.val;
   let t : PmSt := PmSt.nap;
   let r : Nat := s.quiesceRefuser d.val;
   decide (x.entering = some t ∧ r ≠ 0)),
   (let d : Fin 96 := 78;
   let s : State := st179;
   let x : PmDom := s.dom d.val;
   let bank : BitVec 2 := 0;
   decide (d.val = Dom.bank bank.toNat ∧ x.entering ≠ some PmSt.off)),
   (let d : Fin 96 := 78;
   let s : State := st184;
   let x : PmDom := s.dom d.val;
   let t : PmSt := PmSt.off;
   let r : Nat := s.quiesceRefuser d.val;
   decide (x.entering = some t ∧ r = 0 ∧ t = PmSt.off ∧ 78 ≤ d.val ∧ d.val < 82 ∧ ¬d.val - 78 ∈ s.pm.saved))].all id = true := by decide +kernel

theorem witness_DomainEntries_2 : [
   (let d : Fin 96 := 78;
   let s : State := st184;
   let x : PmDom := s.dom d.val;
   let bank : BitVec 2 := 0;
   decide (d.val = Dom.bank bank.toNat ∧ x.entering = some PmSt.off))].all id = true := by decide +kernel

theorem witness_DomainWakes : [
   (let d : Fin 96 := 48;
   let s : State := on;
   let x : PmDom := s.dom d.val;
   let holds : WakeSource → Bool := fun w ↦
     match w with
     | WakeSource.crossing => s.crossingHeld d.val
     | WakeSource.floor => decide (s.floorOf d.val < State.depth x.st ∨ ∃ t, t ∈ x.entering ∧ s.floorOf d.val < State.depth t)
     | WakeSource.portEvent => decide (60 ≤ d.val ∧ d.val < 68 ∧ s.reg (Reg.DN_PORT_EVENT + 8 * (d.val - 60)) ≠ 0)
     | WakeSource.timer => true;
   let w : WakeSource := WakeSource.crossing;
   decide (holds w = false)),
   (let d : Fin 96 := 48;
   let s : State := on;
   let x : PmDom := s.dom d.val;
   let holds : WakeSource → Bool := fun w ↦
     match w with
     | WakeSource.crossing => s.crossingHeld d.val
     | WakeSource.floor => decide (s.floorOf d.val < State.depth x.st ∨ ∃ t, t ∈ x.entering ∧ s.floorOf d.val < State.depth t)
     | WakeSource.portEvent => decide (60 ≤ d.val ∧ d.val < 68 ∧ s.reg (Reg.DN_PORT_EVENT + 8 * (d.val - 60)) ≠ 0)
     | WakeSource.timer => true;
   let w : WakeSource := WakeSource.timer;
   let final : Bool := true;
   decide (holds w = true ∧ (final = false ∨ x.entering = none))),
   (let d : Fin 96 := 48;
   let s : State := on;
   let x : PmDom := s.dom d.val;
   decide (d.val ≠ 95 ∧ s.isFenced d.val = false ∧ x.entering = none ∧ x.st = PmSt.active)),
   (let s : State := on;
   let i : Fin 8 := 0;
   let cfg : Nat := Reg.PM_WAKE_IN + 8 * ↑i;
   decide (s.regBit cfg 8 = false)),
   (let d : Fin 96 := 48;
   let s : State := on;
   let x : PmDom := s.dom d.val;
   decide (Map.rising s.pm.doms = true ∧ x.entering = none)),
   (let d : Fin 96 := 48;
   let s : State := on;
   decide (s.OpenReg (Reg.PM_DOM_STAT + 8 * d.val))),
   (let d : Fin 96 := 48;
   let s : State := sDom 48 (dom0 PmSt.nap) on;
   let x : PmDom := s.dom d.val;
   decide (d.val ≠ 95 ∧ s.isFenced d.val = false ∧ x.entering = none ∧ x.st ≠ PmSt.active ∧ x.waking = false)),
   (let d : Fin 96 := 48;
   let s : State := st190;
   let x : PmDom := s.dom d.val;
   let holds : WakeSource → Bool := fun w ↦
     match w with
     | WakeSource.crossing => s.crossingHeld d.val
     | WakeSource.floor => decide (s.floorOf d.val < State.depth x.st ∨ ∃ t, t ∈ x.entering ∧ s.floorOf d.val < State.depth t)
     | WakeSource.portEvent => decide (60 ≤ d.val ∧ d.val < 68 ∧ s.reg (Reg.DN_PORT_EVENT + 8 * (d.val - 60)) ≠ 0)
     | WakeSource.timer => true;
   let w : WakeSource := WakeSource.timer;
   let final : Bool := true;
   decide (holds w = true ∧ final = true ∧ x.entering ≠ none ∧ w = WakeSource.timer)),
   (let d : Fin 96 := 48;
   let s : State := st190;
   let x : PmDom := s.dom d.val;
   decide (d.val ≠ 95 ∧ s.isFenced d.val = false ∧ x.entering ≠ none ∧ x.st ≠ PmSt.active ∧ x.waking = false))].all id = true := by decide +kernel

theorem witness_DomainWakes_2 : [
   (let d : Fin 96 := 48;
   let s : State := st190;
   let x : PmDom := s.dom d.val;
   decide (Map.rising s.pm.doms = true ∧ x.entering ≠ none)),
   (let d : Fin 96 := 48;
   let s : State := st191;
   let x : PmDom := s.dom d.val;
   let holds : WakeSource → Bool := fun w ↦
     match w with
     | WakeSource.crossing => s.crossingHeld d.val
     | WakeSource.floor => decide (s.floorOf d.val < State.depth x.st ∨ ∃ t, t ∈ x.entering ∧ s.floorOf d.val < State.depth t)
     | WakeSource.portEvent => decide (60 ≤ d.val ∧ d.val < 68 ∧ s.reg (Reg.DN_PORT_EVENT + 8 * (d.val - 60)) ≠ 0)
     | WakeSource.timer => true;
   let w : WakeSource := WakeSource.crossing;
   let final : Bool := true;
   decide (holds w = true ∧ final = true ∧ x.entering ≠ none ∧ w ≠ WakeSource.timer)),
   (let d : Fin 96 := 48;
   let s : State := st194;
   let x : PmDom := s.dom d.val;
   decide (d.val ≠ 95 ∧ s.isFenced d.val = false ∧ x.entering ≠ none ∧ x.st = PmSt.active)),
   (let d : Fin 96 := 48;
   let s : State := State.setReg Reg.PM_WAKE_IN 304 on;
   let x : PmDom := s.dom d.val;
   let i : Fin 8 := 0;
   let final : Bool := true;
   let cfg : Nat := Reg.PM_WAKE_IN + 8 * ↑i;
   let seen : Prop := s.regBit cfg 7 = false ∨ ¬↑i ∈ s.pm.inputs;
   decide (s.regBit cfg 8 = true ∧ s.regBits cfg 6 0 = d.val ∧ seen ∧ (final = false ∨ x.entering = none))),
   (let d : Fin 96 := 48;
   let s : State := st195;
   let x : PmDom := s.dom d.val;
   let i : Fin 8 := 0;
   let final : Bool := true;
   let cfg : Nat := Reg.PM_WAKE_IN + 8 * ↑i;
   let seen : Prop := s.regBit cfg 7 = false ∨ ¬↑i ∈ s.pm.inputs;
   decide (s.regBit cfg 8 = true ∧ s.regBits cfg 6 0 = d.val ∧ (¬seen ∨ final = true ∧ x.entering ≠ none))),
   (let d : Fin 96 := 48;
   let s : State := st189;
   let x : PmDom := s.dom d.val;
   decide (x.waking = true ∧ x.retried = false)),
   (let d : Fin 96 := 48;
   let s : State := st192;
   let x : PmDom := s.dom d.val;
   decide (x.waking = true ∧ x.retried = true))].all id = true := by decide +kernel

theorem witness_ErrorEvents : [
   (let e : ErrEvent := ev0 11 0;
   let s : State := on;
   let b : Nat := ↑e.blk;
   let i : Nat := e.bit.toNat;
   decide (bit (errMask ↑e.blk) i = true ∧ ↑e.blk ∈ [11, 12, 13, 14, 16, 17] ∧ s.severity b i ≠ 3)),
   (let e : ErrEvent := ev0 12 63;
   let i : Nat := e.bit.toNat;
   decide (bit (errMask ↑e.blk) i = false)),
   (let e : ErrEvent := ev0 12 0;
   let s : State := st198;
   let b : Nat := ↑e.blk;
   let i : Nat := e.bit.toNat;
   decide
     (bit (errMask ↑e.blk) i = true ∧
       ↑e.blk ∈ [11, 12, 13, 14, 16, 17] ∧ s.severity b i = 3 ∧ State.errDomain (↑e.blk) e.unit.toNat i = none)),
   (let e : ErrEvent := ev0 1 (BitVec.ofNat 6 Err.GZ_BUF_UNCORR);
   let s : State := on;
   let b : Nat := ↑e.blk;
   let i : Nat := e.bit.toNat;
   let m : State := State.raise b i (State.captureOf e) (State.injected b i s);
   let r : State :=
     if b = 13 ∧ i = Err.CK_XING_OVERRUN then
       State.setReg Reg.CK_XING_OVERRUN (setBit (m.reg Reg.CK_XING_OVERRUN) (e.unit.toNat % 3) true) m
     else m;
   let d : Nat := Dom.gazelle (e.unit.toNat % 8);
   let u : State := State.gzFault (e.unit.toNat % 8) r;
   decide
     (bit (errMask ↑e.blk) i = true ∧
       ↑e.blk = 1 ∧
         i = Err.GZ_BUF_UNCORR ∧
           r.severity b i = s.severity b i ∧ (s.severity b i = 1 ∨ s.severity b i = 2) ∧ Map.find? d u.strikes = none)),
   (let e : ErrEvent := ev0 1 (BitVec.ofNat 6 Err.GZ_BUF_UNCORR);
   let s : State := st196;
   let b : Nat := ↑e.blk;
   let i : Nat := e.bit.toNat;
   let m : State := State.raise b i (State.captureOf e) (State.injected b i s);
   let r : State :=
     if b = 13 ∧ i = Err.CK_XING_OVERRUN then
       State.setReg Reg.CK_XING_OVERRUN (setBit (m.reg Reg.CK_XING_OVERRUN) (e.unit.toNat % 3) true) m
     else m;
   let d : Nat := Dom.gazelle (e.unit.toNat % 8);
   let u : State := State.gzFault (e.unit.toNat % 8) r;
   let x : Nat × Nat × Nat := (1, 1, 0);
   decide
     (bit (errMask ↑e.blk) i = true ∧
       ↑e.blk = 1 ∧
         i = Err.GZ_BUF_UNCORR ∧
           r.severity b i = s.severity b i ∧ (s.severity b i = 1 ∨ s.severity b i = 2) ∧ Map.find? d u.strikes = some x)),
   (let e : ErrEvent := ev0 16 0;
   let s : State := st197;
   let b : Nat := ↑e.blk;
   let i : Nat := e.bit.toNat;
   let d : Nat := Dom.recorder;
   decide
     (bit (errMask ↑e.blk) i = true ∧
       ↑e.blk ∈ [11, 12, 13, 14, 16, 17] ∧ s.severity b i = 3 ∧ State.errDomain (↑e.blk) e.unit.toNat i = some d))].all id = true := by decide +kernel

theorem witness_FencesAndSafeStates : [
   (let h : Half := Half.full;
   let v : Word := 12289;
   let c : Instr := Instr.pmFence h v;
   let s : State := on;
   let t : State := State.storeReg Reg.PM_FENCE_CMD h v s;
   let d : Nat := t.regBits Reg.PM_FENCE_CMD 14 8;
   let cmd : Nat := bits (halfValue h v) 1 0;
   decide (c ∈ [Instr.pmFence h v, Instr.crossingRelease h v] ∧ s.OpenReg Reg.PM_FENCE_CMD ∧ cmd = 1 ∧ d < 95)),
   (let h : Half := Half.full;
   let v : Word := 24321;
   let c : Instr := Instr.pmFence h v;
   let s : State := on;
   let t : State := State.storeReg Reg.PM_FENCE_CMD h v s;
   let d : Nat := t.regBits Reg.PM_FENCE_CMD 14 8;
   let cmd : Nat := bits (halfValue h v) 1 0;
   decide
     (c ∈ [Instr.pmFence h v, Instr.crossingRelease h v] ∧
       s.OpenReg Reg.PM_FENCE_CMD ∧ (cmd = 1 ∧ 95 ≤ d ∨ cmd = 2 ∧ (95 ≤ d ∨ t.isFenced d = false)))),
   (let h : Half := Half.full;
   let v : Word := 12290;
   let c : Instr := Instr.pmFence h v;
   let s : State :=
     let __src : State := on;
     { pending := __src.pending, now := __src.now, slew := __src.slew, freeCtr := __src.freeCtr, regs := __src.regs,
       mem := __src.mem, poison := __src.poison, hostMem := __src.hostMem, hostPoison := __src.hostPoison,
       hostRefused := __src.hostRefused, hostDead := __src.hostDead, out := __src.out, fenced := [48],
       released := __src.released, fenceReq := __src.fenceReq, strikes := __src.strikes, fatal := __src.fatal,
       wake := __src.wake, qe := __src.qe, ch := __src.ch, sf := __src.sf, dc := __src.dc, fp := __src.fp, up := __src.up,
       dn := __src.dn, pl := __src.pl, rb := __src.rb, gz := __src.gz, ck := __src.ck, pm := __src.pm, rp := __src.rp,
       ib := __src.ib, bt := __src.bt, boot := __src.boot, ident := __src.ident };
   let t : State := State.storeReg Reg.PM_FENCE_CMD h v s;
   let d : Nat := t.regBits Reg.PM_FENCE_CMD 14 8;
   let cmd : Nat := bits (halfValue h v) 1 0;
   decide
     (c ∈ [Instr.pmFence h v, Instr.crossingRelease h v] ∧
       s.OpenReg Reg.PM_FENCE_CMD ∧ cmd = 2 ∧ d < 95 ∧ t.isFenced d = true)),
   (let h : Half := Half.full;
   let v : Word := 0;
   let c : Instr := Instr.pmFence h v;
   let s : State := on;
   let cmd : Nat := bits (halfValue h v) 1 0;
   decide (c ∈ [Instr.pmFence h v, Instr.crossingRelease h v] ∧ s.OpenReg Reg.PM_FENCE_CMD ∧ (cmd = 0 ∨ cmd = 3))),
   (let b : Fin 18 := 0;
   decide (↑b ∈ [0, 5, 6, 17])),
   (let b : Fin 18 := 15;
   decide (↑b = 15)),
   (let b : Fin 18 := 11;
   decide (↑b = 11 ∨ ↑b = 12)),
   (let b : Fin 18 := 13;
   decide (↑b = 13 ∨ ↑b = 14)),
   (let b : Fin 18 := 16;
   decide (↑b = 16))].all id = true := by decide +kernel

theorem witness_FencesAndSafeStates_2 : [
   (let b : Fin 18 := 2;
   decide (↑b = 2 ∨ ↑b = 4)),
   (let b : Fin 18 := 7;
   decide (↑b = 7)),
   (let b : Fin 18 := 1;
   decide (↑b = 1)),
   (let b : Fin 18 := 3;
   decide (↑b = 3)),
   (let b : Fin 18 := 8;
   decide (↑b = 8 ∨ ↑b = 10)),
   (let b : Fin 18 := 9;
   decide (↑b = 9)),
   (let b : Fin 18 := 0;
   let h : Half := Half.full;
   let v : Word := 12289;
   let s : State := on;
   decide (s.OpenReg (Reg.errInject ↑b) ∧ bit (halfValue h v) 63 = false)),
   (let b : Fin 18 := 0;
   let h : Half := Half.full;
   let v : Word := 9223372036854775808;
   let s : State := on;
   decide (s.OpenReg (Reg.errInject ↑b) ∧ bit (halfValue h v) 63 = true))].all id = true := by decide +kernel

theorem witness_ContextCommands : [
   (let h : Half := Half.full;
   let v : Word := 1;
   let s : State := on;
   let cmd : Nat := bits (halfValue h v) 2 0;
   let u : State := State.storeReg Reg.RB_CMD h v s;
   let c : Nat := u.regBits Reg.RB_SEL 11 0;
   let x : Ctx := u.ctxOf c;
   decide (s.OpenReg Reg.RB_CMD ∧ s.rb.busy = false ∧ s.rb.safe = false ∧ cmd = 1 ∧ x.st ≠ CtxSt.free)),
   (let h : Half := Half.full;
   let v : Word := 1;
   let s : State := sCtx CtxSt.free on;
   let cmd : Nat := bits (halfValue h v) 2 0;
   let u : State := State.storeReg Reg.RB_CMD h v s;
   let c : Nat := u.regBits Reg.RB_SEL 11 0;
   let x : Ctx := u.ctxOf c;
   decide (s.OpenReg Reg.RB_CMD ∧ s.rb.busy = false ∧ s.rb.safe = false ∧ cmd = 1 ∧ x.st = CtxSt.free)),
   (let h : Half := Half.full;
   let v : Word := 1;
   let s : State := st213;
   let cmd : Nat := bits (halfValue h v) 2 0;
   let plain : List Instr := [Instr.bind h v, Instr.quiesce h v];
   let k : Instr := Instr.bind h v;
   decide (s.OpenReg Reg.RB_CMD ∧ s.rb.busy = true ∧ cmd ≠ 0 ∧ k ∈ plain)),
   (let h : Half := Half.full;
   let v : Word := 1;
   let s : State := st213;
   let cmd : Nat := bits (halfValue h v) 2 0;
   let ended : List Instr := [Instr.contextResume h v, Instr.rebind h v];
   let k : Instr := Instr.contextResume h v;
   decide (s.OpenReg Reg.RB_CMD ∧ s.rb.busy = true ∧ cmd ≠ 0 ∧ k ∈ ended)),
   (let h : Half := Half.full;
   let v : Word := 2;
   let s : State := on;
   let cmd : Nat := bits (halfValue h v) 2 0;
   let u : State := State.storeReg Reg.RB_CMD h v s;
   let c : Nat := u.regBits Reg.RB_SEL 11 0;
   let x : Ctx := u.ctxOf c;
   decide (s.OpenReg Reg.RB_CMD ∧ s.rb.busy = false ∧ s.rb.safe = false ∧ cmd = 2 ∧ x.st = CtxSt.bound)),
   (let h : Half := Half.full;
   let v : Word := 2;
   let s : State := sCtx CtxSt.free on;
   let cmd : Nat := bits (halfValue h v) 2 0;
   let u : State := State.storeReg Reg.RB_CMD h v s;
   let c : Nat := u.regBits Reg.RB_SEL 11 0;
   let x : Ctx := u.ctxOf c;
   decide (s.OpenReg Reg.RB_CMD ∧ s.rb.busy = false ∧ s.rb.safe = false ∧ cmd = 2 ∧ x.st ≠ CtxSt.bound)),
   (let h : Half := Half.full;
   let v : Word := 3;
   let s : State := on;
   let cmd : Nat := bits (halfValue h v) 2 0;
   let u : State := State.storeReg Reg.RB_CMD h v s;
   let c : Nat := u.regBits Reg.RB_SEL 11 0;
   let x : Ctx := u.ctxOf c;
   decide
     (s.OpenReg Reg.RB_CMD ∧ s.rb.busy = false ∧ s.rb.safe = false ∧ cmd = 3 ∧ (x.st = CtxSt.free ∨ x.st = CtxSt.bound))),
   (let h : Half := Half.full;
   let v : Word := 3;
   let s : State := sCtx CtxSt.quiescing on;
   let cmd : Nat := bits (halfValue h v) 2 0;
   let u : State := State.storeReg Reg.RB_CMD h v s;
   let c : Nat := u.regBits Reg.RB_SEL 11 0;
   let x : Ctx := u.ctxOf c;
   let t : State :=
     State.modRb
       (fun r ↦
         { ctxs := r.ctxs, busy := r.busy, refused := false, reason := 0, cmd := cmd, cmdCtx := c,
           addr := BitVec.toNat (u.reg Reg.RB_CKPT_ADDR), image := r.image, issued := r.issued, drain := r.drain,
           safe := r.safe })
       u;
   decide
     (s.OpenReg Reg.RB_CMD ∧
       s.rb.busy = false ∧
         s.rb.safe = false ∧ cmd = 3 ∧ (x.st = CtxSt.quiescing ∨ x.st = CtxSt.quiesced) ∧ t.ctxQueues c = [])),
   (let h : Half := Half.full;
   let v : Word := 3;
   let s : State := st207;
   let cmd : Nat := bits (halfValue h v) 2 0;
   let u : State := State.storeReg Reg.RB_CMD h v s;
   let c : Nat := u.regBits Reg.RB_SEL 11 0;
   let x : Ctx := u.ctxOf c;
   let t : State :=
     State.modRb
       (fun r ↦
         { ctxs := r.ctxs, busy := r.busy, refused := false, reason := 0, cmd := cmd, cmdCtx := c,
           addr := BitVec.toNat (u.reg Reg.RB_CKPT_ADDR), image := r.image, issued := r.issued, drain := r.drain,
           safe := r.safe })
       u;
   let q : Nat := 0;
   decide
     (s.OpenReg Reg.RB_CMD ∧
       s.rb.busy = false ∧
         s.rb.safe = false ∧
           cmd = 3 ∧
             (x.st = CtxSt.quiescing ∨ x.st = CtxSt.quiesced) ∧
               t.ctxQueues c = [(q, t.queue q)] ∧ (t.queue q).st = QState.idle ∧ (t.queue q).sqTail ≠ (t.queue q).sqHead))].all id = true := by decide +kernel

theorem witness_ContextCommands_2 : [
   (let h : Half := Half.full;
   let v : Word := 3;
   let s : State := st208;
   let cmd : Nat := bits (halfValue h v) 2 0;
   let u : State := State.storeReg Reg.RB_CMD h v s;
   let c : Nat := u.regBits Reg.RB_SEL 11 0;
   let x : Ctx := u.ctxOf c;
   let t : State :=
     State.modRb
       (fun r ↦
         { ctxs := r.ctxs, busy := r.busy, refused := false, reason := 0, cmd := cmd, cmdCtx := c,
           addr := BitVec.toNat (u.reg Reg.RB_CKPT_ADDR), image := r.image, issued := r.issued, drain := r.drain,
           safe := r.safe })
       u;
   let q : Nat := 0;
   decide
     (s.OpenReg Reg.RB_CMD ∧
       s.rb.busy = false ∧
         s.rb.safe = false ∧
           cmd = 3 ∧
             (x.st = CtxSt.quiescing ∨ x.st = CtxSt.quiesced) ∧
               t.ctxQueues c = [(q, t.queue q)] ∧ (t.queue q).st = QState.fetching ∧ (t.queue q).head.isSome = true)),
   (let h : Half := Half.full;
   let v : Word := 6;
   let s : State := on;
   let cmd : Nat := bits (halfValue h v) 2 0;
   let u : State := State.storeReg Reg.RB_CMD h v s;
   let c : Nat := u.regBits Reg.RB_SEL 11 0;
   let x : Ctx := u.ctxOf c;
   decide (s.OpenReg Reg.RB_CMD ∧ s.rb.busy = false ∧ s.rb.safe = false ∧ cmd = 6 ∧ x.st ≠ CtxSt.quiesced)),
   (let h : Half := Half.full;
   let v : Word := 6;
   let s : State := sCtx CtxSt.quiesced on;
   let cmd : Nat := bits (halfValue h v) 2 0;
   let u : State := State.storeReg Reg.RB_CMD h v s;
   let c : Nat := u.regBits Reg.RB_SEL 11 0;
   let fn : Nat := u.regBits Reg.RB_CMD 15 8;
   let x : Ctx := u.ctxOf c;
   let t : State :=
     State.modRb
       (fun r ↦
         { ctxs := r.ctxs, busy := r.busy, refused := false, reason := 0, cmd := cmd, cmdCtx := c,
           addr := BitVec.toNat (u.reg Reg.RB_CKPT_ADDR), image := r.image, issued := r.issued, drain := r.drain,
           safe := r.safe })
       u;
   decide
     (s.OpenReg Reg.RB_CMD ∧
       s.rb.busy = false ∧
         s.rb.safe = false ∧
           cmd = 6 ∧
             x.st = CtxSt.quiesced ∧
               t.ctxServing c = false ∧
                 t.pageShared c = false ∧ t.vectorBad fn (List.map (fun x ↦ x.snd) (t.ctxQueues c)) = false)),
   (let h : Half := Half.full;
   let v : Word := 6;
   let s : State := st210;
   let cmd : Nat := bits (halfValue h v) 2 0;
   let u : State := State.storeReg Reg.RB_CMD h v s;
   let c : Nat := u.regBits Reg.RB_SEL 11 0;
   let x : Ctx := u.ctxOf c;
   let t : State :=
     State.modRb
       (fun r ↦
         { ctxs := r.ctxs, busy := r.busy, refused := false, reason := 0, cmd := cmd, cmdCtx := c,
           addr := BitVec.toNat (u.reg Reg.RB_CKPT_ADDR), image := r.image, issued := r.issued, drain := r.drain,
           safe := r.safe })
       u;
   decide
     (s.OpenReg Reg.RB_CMD ∧
       s.rb.busy = false ∧ s.rb.safe = false ∧ cmd = 6 ∧ x.st = CtxSt.quiesced ∧ t.ctxServing c = true)),
   (let h : Half := Half.full;
   let v : Word := 6;
   let s : State := st211;
   let cmd : Nat := bits (halfValue h v) 2 0;
   let u : State := State.storeReg Reg.RB_CMD h v s;
   let c : Nat := u.regBits Reg.RB_SEL 11 0;
   let x : Ctx := u.ctxOf c;
   let t : State :=
     State.modRb
       (fun r ↦
         { ctxs := r.ctxs, busy := r.busy, refused := false, reason := 0, cmd := cmd, cmdCtx := c,
           addr := BitVec.toNat (u.reg Reg.RB_CKPT_ADDR), image := r.image, issued := r.issued, drain := r.drain,
           safe := r.safe })
       u;
   decide
     (s.OpenReg Reg.RB_CMD ∧
       s.rb.busy = false ∧
         s.rb.safe = false ∧ cmd = 6 ∧ x.st = CtxSt.quiesced ∧ t.ctxServing c = false ∧ t.pageShared c = true)),
   (let h : Half := Half.full;
   let v : Word := 6;
   let s : State := st212;
   let cmd : Nat := bits (halfValue h v) 2 0;
   let u : State := State.storeReg Reg.RB_CMD h v s;
   let c : Nat := u.regBits Reg.RB_SEL 11 0;
   let fn : Nat := u.regBits Reg.RB_CMD 15 8;
   let x : Ctx := u.ctxOf c;
   let t : State :=
     State.modRb
       (fun r ↦
         { ctxs := r.ctxs, busy := r.busy, refused := false, reason := 0, cmd := cmd, cmdCtx := c,
           addr := BitVec.toNat (u.reg Reg.RB_CKPT_ADDR), image := r.image, issued := r.issued, drain := r.drain,
           safe := r.safe })
       u;
   decide
     (s.OpenReg Reg.RB_CMD ∧
       s.rb.busy = false ∧
         s.rb.safe = false ∧
           cmd = 6 ∧
             x.st = CtxSt.quiesced ∧
               t.ctxServing c = false ∧
                 t.pageShared c = false ∧ t.vectorBad fn (List.map (fun x ↦ x.snd) (t.ctxQueues c)) = true)),
   (let s : State := sCtx CtxSt.quiescing on;
   let c : Nat := 5;
   let x : Ctx := ctx0 CtxSt.quiescing;
   decide (List.filter (fun e ↦ decide (e.snd.st = CtxSt.quiescing)) s.rb.ctxs = [(c, x)] ∧ s.ctxQuiet c = true)),
   (let s : State := st209;
   let c : Nat := 5;
   let x : Ctx := ctx0 CtxSt.quiescing;
   decide (List.filter (fun e ↦ decide (e.snd.st = CtxSt.quiescing)) s.rb.ctxs = [(c, x)] ∧ s.ctxQuiet c = false)),
   (let s : State := on;
   let c : Nat := s.regBits Reg.RB_SEL 11 0;
   let x : Ctx := s.ctxOf c;
   decide (s.OpenReg Reg.RB_CTX ∧ (x.st = CtxSt.bound ∨ x.st = CtxSt.quiescing)))].all id = true := by decide +kernel

theorem witness_ContextCommands_3 : [
   (let s : State := sCtx CtxSt.free on;
   let c : Nat := s.regBits Reg.RB_SEL 11 0;
   let x : Ctx := s.ctxOf c;
   decide (s.OpenReg Reg.RB_CTX ∧ x.st = CtxSt.free)),
   (let s : State := sCtx CtxSt.quiesced on;
   let c : Nat := s.regBits Reg.RB_SEL 11 0;
   let x : Ctx := s.ctxOf c;
   decide (s.OpenReg Reg.RB_CTX ∧ x.st = CtxSt.quiesced)),
   (let h : Half := Half.full;
   let v : Word := 4;
   let s : State := on;
   let cmd : Nat := bits (halfValue h v) 2 0;
   let u : State := State.storeReg Reg.RB_CMD h v s;
   let c : Nat := u.regBits Reg.RB_SEL 11 0;
   let x : Ctx := u.ctxOf c;
   decide (s.OpenReg Reg.RB_CMD ∧ s.rb.busy = false ∧ s.rb.safe = false ∧ cmd = 4 ∧ x.st ≠ CtxSt.quiesced)),
   (let h : Half := Half.full;
   let v : Word := 4;
   let s : State := sCtx CtxSt.quiesced on;
   let cmd : Nat := bits (halfValue h v) 2 0;
   let u : State := State.storeReg Reg.RB_CMD h v s;
   let c : Nat := u.regBits Reg.RB_SEL 11 0;
   let x : Ctx := u.ctxOf c;
   let t : State :=
     State.modRb
       (fun r ↦
         { ctxs := r.ctxs, busy := r.busy, refused := false, reason := 0, cmd := cmd, cmdCtx := c,
           addr := BitVec.toNat (u.reg Reg.RB_CKPT_ADDR), image := r.image, issued := r.issued, drain := r.drain,
           safe := r.safe })
       u;
   decide
     (s.OpenReg Reg.RB_CMD ∧
       s.rb.busy = false ∧ s.rb.safe = false ∧ cmd = 4 ∧ x.st = CtxSt.quiesced ∧ t.ctxRequests c = [])),
   (let h : Half := Half.full;
   let v : Word := 4;
   let s : State := st216;
   let cmd : Nat := bits (halfValue h v) 2 0;
   let u : State := State.storeReg Reg.RB_CMD h v s;
   let c : Nat := u.regBits Reg.RB_SEL 11 0;
   let x : Ctx := u.ctxOf c;
   let t : State :=
     State.modRb
       (fun r ↦
         { ctxs := r.ctxs, busy := r.busy, refused := false, reason := 0, cmd := cmd, cmdCtx := c,
           addr := BitVec.toNat (u.reg Reg.RB_CKPT_ADDR), image := r.image, issued := r.issued, drain := r.drain,
           safe := r.safe })
       u;
   decide
     (s.OpenReg Reg.RB_CMD ∧
       s.rb.busy = false ∧ s.rb.safe = false ∧ cmd = 4 ∧ x.st = CtxSt.quiesced ∧ t.ctxRequests c ≠ [])),
   (let h : Half := Half.full;
   let v : Word := 5;
   let s : State := on;
   let cmd : Nat := bits (halfValue h v) 2 0;
   let u : State := State.storeReg Reg.RB_CMD h v s;
   let c : Nat := u.regBits Reg.RB_SEL 11 0;
   let x : Ctx := u.ctxOf c;
   decide (s.OpenReg Reg.RB_CMD ∧ s.rb.busy = false ∧ s.rb.safe = false ∧ cmd = 5 ∧ x.st ≠ CtxSt.free)),
   (let h : Half := Half.full;
   let v : Word := 5;
   let s : State := sCtx CtxSt.free on;
   let cmd : Nat := bits (halfValue h v) 2 0;
   let u : State := State.storeReg Reg.RB_CMD h v s;
   let c : Nat := u.regBits Reg.RB_SEL 11 0;
   let x : Ctx := u.ctxOf c;
   decide (s.OpenReg Reg.RB_CMD ∧ s.rb.busy = false ∧ s.rb.safe = false ∧ cmd = 5 ∧ x.st = CtxSt.free)),
   (let h : Half := Half.full;
   let v : Word := 7;
   let s : State := on;
   let cmd : Nat := bits (halfValue h v) 2 0;
   let u : State := State.storeReg Reg.RB_CMD h v s;
   let c : Nat := u.regBits Reg.RB_SEL 11 0;
   let x : Ctx := u.ctxOf c;
   decide (s.OpenReg Reg.RB_CMD ∧ s.rb.busy = false ∧ s.rb.safe = false ∧ cmd = 7 ∧ x.st ≠ CtxSt.quiesced)),
   (let h : Half := Half.full;
   let v : Word := 7;
   let s : State := sCtx CtxSt.quiesced on;
   let cmd : Nat := bits (halfValue h v) 2 0;
   let u : State := State.storeReg Reg.RB_CMD h v s;
   let c : Nat := u.regBits Reg.RB_SEL 11 0;
   let x : Ctx := u.ctxOf c;
   let t : State :=
     State.modRb
       (fun r ↦
         { ctxs := r.ctxs, busy := r.busy, refused := false, reason := 0, cmd := cmd, cmdCtx := c,
           addr := BitVec.toNat (u.reg Reg.RB_CKPT_ADDR), image := r.image, issued := r.issued, drain := r.drain,
           safe := r.safe })
       u;
   decide
     (s.OpenReg Reg.RB_CMD ∧
       s.rb.busy = false ∧
         s.rb.safe = false ∧ cmd = 7 ∧ x.st = CtxSt.quiesced ∧ t.ctxServing c = false ∧ t.ctxRequests c = []))].all id = true := by decide +kernel

theorem witness_ContextCommands_4 : [
   (let h : Half := Half.full;
   let v : Word := 7;
   let s : State := st210;
   let cmd : Nat := bits (halfValue h v) 2 0;
   let u : State := State.storeReg Reg.RB_CMD h v s;
   let c : Nat := u.regBits Reg.RB_SEL 11 0;
   let x : Ctx := u.ctxOf c;
   let t : State :=
     State.modRb
       (fun r ↦
         { ctxs := r.ctxs, busy := r.busy, refused := false, reason := 0, cmd := cmd, cmdCtx := c,
           addr := BitVec.toNat (u.reg Reg.RB_CKPT_ADDR), image := r.image, issued := r.issued, drain := r.drain,
           safe := r.safe })
       u;
   decide
     (s.OpenReg Reg.RB_CMD ∧
       s.rb.busy = false ∧ s.rb.safe = false ∧ cmd = 7 ∧ x.st = CtxSt.quiesced ∧ t.ctxServing c = true)),
   (let h : Half := Half.full;
   let v : Word := 7;
   let s : State := st216;
   let cmd : Nat := bits (halfValue h v) 2 0;
   let u : State := State.storeReg Reg.RB_CMD h v s;
   let c : Nat := u.regBits Reg.RB_SEL 11 0;
   let x : Ctx := u.ctxOf c;
   let t : State :=
     State.modRb
       (fun r ↦
         { ctxs := r.ctxs, busy := r.busy, refused := false, reason := 0, cmd := cmd, cmdCtx := c,
           addr := BitVec.toNat (u.reg Reg.RB_CKPT_ADDR), image := r.image, issued := r.issued, drain := r.drain,
           safe := r.safe })
       u;
   decide
     (s.OpenReg Reg.RB_CMD ∧
       s.rb.busy = false ∧
         s.rb.safe = false ∧ cmd = 7 ∧ x.st = CtxSt.quiesced ∧ t.ctxServing c = false ∧ t.ctxRequests c ≠ [])),
   (let ok : Bool := true;
   let s : State := sRb 4 (sCtx CtxSt.quiesced on);
   decide
     (s.rb.busy = true ∧
       s.rb.cmd = 4 ∧
         s.rb.issued = true ∧ (s.postedOf Waiter.ckpt).fst = 0 ∧ ok = true ∧ (s.postedOf Waiter.ckpt).snd = none)),
   (let ok : Bool := true;
   let s : State := st218;
   decide
     (s.rb.busy = true ∧
       s.rb.cmd = 4 ∧
         s.rb.issued = true ∧ (s.postedOf Waiter.ckpt).fst = 0 ∧ (ok = false ∨ (s.postedOf Waiter.ckpt).snd ≠ none))),
   (let s : State := st219;
   let passed : Bool :=
     match s.rb.drain with
     | some x => (x.fst.all fun w ↦ !s.underWay w) || decide (x.snd ≤ s.now)
     | none => s.ch.ios.all fun r ↦ !s.underWay (Waiter.io r.id);
   decide
     (s.rb.busy = true ∧
       s.rb.cmd = 7 ∧
         (∀ (e : Nat × DcLine), e ∈ s.dc.lines → s.dcCtx e.fst = s.rb.cmdCtx → e.snd.hstate = 0) ∧ passed = false)),
   (let s : State := sRb 7 (sCtx CtxSt.quiesced on);
   let passed : Bool :=
     match s.rb.drain with
     | some x => (x.fst.all fun w ↦ !s.underWay w) || decide (x.snd ≤ s.now)
     | none => s.ch.ios.all fun r ↦ !s.underWay (Waiter.io r.id);
   decide
     (s.rb.busy = true ∧
       s.rb.cmd = 7 ∧
         (∀ (e : Nat × DcLine), e ∈ s.dc.lines → s.dcCtx e.fst = s.rb.cmdCtx → e.snd.hstate = 0) ∧ passed = true)),
   (let s : State := st220;
   decide (s.rb.busy = true ∧ s.rb.cmd = 7 ∧ ∃ e, e ∈ s.dc.lines ∧ s.dcCtx e.fst = s.rb.cmdCtx ∧ e.snd.hstate ≠ 0))].all id = true := by decide +kernel

theorem witness_RecordAndReplay : [
   (let c : Instr := Instr.record Half.full 1;
   let h : Half := Half.full;
   let v : Word := 1;
   let s : State := on;
   let t : State := State.storeReg Reg.RP_CTRL h v s;
   let old : Nat := s.regBits Reg.RP_CTRL 1 0 % 3;
   let new : Nat := t.regBits Reg.RP_CTRL 1 0 % 3;
   let u : State :=
     if t.rp.replaying = true then State.replayStop 4 none t
     else
       State.modRp
         (fun r ↦
           { fifo := [], lost := r.lost, seq := r.seq, recording := false, replaying := r.replaying, ending := r.ending,
             full := r.full, wraps := r.wraps, head := r.head, cursor := r.cursor, since := r.since, forced := r.forced,
             seen := r.seen, expect := r.expect, writes := r.writes, last := r.last, differed := r.differed })
         t;
   decide
     (c ∈ [Instr.record h v, Instr.replay h v, Instr.modeOff h v] ∧
       s.OpenReg Reg.RP_CTRL ∧ old ≠ new ∧ new = 1 ∧ u.ringUsable = false)),
   (let c : Instr := Instr.record Half.full 1;
   let h : Half := Half.full;
   let v : Word := 1;
   let s : State := State.setReg Reg.RP_CTRL 1 on;
   let t : State := State.storeReg Reg.RP_CTRL h v s;
   let old : Nat := s.regBits Reg.RP_CTRL 1 0 % 3;
   let new : Nat := t.regBits Reg.RP_CTRL 1 0 % 3;
   decide (c ∈ [Instr.record h v, Instr.replay h v, Instr.modeOff h v] ∧ s.OpenReg Reg.RP_CTRL ∧ old = new)),
   (let c : Instr := Instr.record Half.full 1;
   let h : Half := Half.full;
   let v : Word := 1;
   let s : State := st199;
   let t : State := State.storeReg Reg.RP_CTRL h v s;
   let old : Nat := s.regBits Reg.RP_CTRL 1 0 % 3;
   let new : Nat := t.regBits Reg.RP_CTRL 1 0 % 3;
   let u : State :=
     if t.rp.replaying = true then State.replayStop 4 none t
     else
       State.modRp
         (fun r ↦
           { fifo := [], lost := r.lost, seq := r.seq, recording := false, replaying := r.replaying, ending := r.ending,
             full := r.full, wraps := r.wraps, head := r.head, cursor := r.cursor, since := r.since, forced := r.forced,
             seen := r.seen, expect := r.expect, writes := r.writes, last := r.last, differed := r.differed })
         t;
   decide
     (c ∈ [Instr.record h v, Instr.replay h v, Instr.modeOff h v] ∧
       s.OpenReg Reg.RP_CTRL ∧ old ≠ new ∧ new = 1 ∧ u.ringUsable = true ∧ u.isFenced Dom.recorder = false)),
   (let c : Instr := Instr.replay Half.full 2;
   let h : Half := Half.full;
   let v : Word := 2;
   let s : State := on;
   let t : State := State.storeReg Reg.RP_CTRL h v s;
   let old : Nat := s.regBits Reg.RP_CTRL 1 0 % 3;
   let new : Nat := t.regBits Reg.RP_CTRL 1 0 % 3;
   let u : State :=
     if t.rp.replaying = true then State.replayStop 4 none t
     else
       State.modRp
         (fun r ↦
           { fifo := [], lost := r.lost, seq := r.seq, recording := false, replaying := r.replaying, ending := r.ending,
             full := r.full, wraps := r.wraps, head := r.head, cursor := r.cursor, since := r.since, forced := r.forced,
             seen := r.seen, expect := r.expect, writes := r.writes, last := r.last, differed := r.differed })
         t;
   decide
     (c ∈ [Instr.record h v, Instr.replay h v, Instr.modeOff h v] ∧
       s.OpenReg Reg.RP_CTRL ∧ old ≠ new ∧ new = 2 ∧ u.isFenced Dom.recorder = false)),
   (let c : Instr := Instr.modeOff Half.full 0;
   let h : Half := Half.full;
   let v : Word := 0;
   let s : State := State.setReg Reg.RP_CTRL 1 on;
   let t : State := State.storeReg Reg.RP_CTRL h v s;
   let old : Nat := s.regBits Reg.RP_CTRL 1 0 % 3;
   let new : Nat := t.regBits Reg.RP_CTRL 1 0 % 3;
   decide (c ∈ [Instr.record h v, Instr.replay h v, Instr.modeOff h v] ∧ s.OpenReg Reg.RP_CTRL ∧ old ≠ new ∧ new = 0)),
   (let s : State := on;
   decide (s.rp.fifo = [])),
   (let s : State := sRecord 0 [rpe 1] on;
   let e : RpEvent := rpe 1;
   let rest : List RpEvent := [];
   decide (s.rp.fifo = e :: rest ∧ s.rp.recording = true ∧ s.rp.lost = 0)),
   (let s : State := sRecord 2 [rpe 1] on;
   let e : RpEvent := rpe 1;
   let rest : List RpEvent := [];
   decide (s.rp.fifo = e :: rest ∧ s.rp.recording = true ∧ s.rp.lost ≠ 0)),
   (let s : State := st206;
   let e : RpEvent := rpe 1;
   let rest : List RpEvent := [];
   decide (s.rp.fifo = e :: rest ∧ s.rp.recording = false))].all id = true := by decide +kernel

theorem witness_RecordAndReplay_2 : [
   (let s : State := on;
   decide (s.rp.replaying = false)),
   (let s : State := sRing [] on;
   decide (s.rp.replaying = true ∧ s.rp.since = none)),
   (let s : State := st201;
   decide (s.rp.replaying = true ∧ s.rp.since ≠ none ∧ s.forcedOut = false)),
   (let s : State := st202;
   decide (s.rp.replaying = true ∧ s.rp.since ≠ none ∧ s.forcedOut = true))].all id = true := by decide +kernel

/-! ### Witnesses written by hand -/

theorem test_wf_error : (Instr.errorDetected (ev0 0 48)).wf = false := by decide

/-- A command that waits and is well formed. -/
theorem witness_WaitingCommandsStayWellFormed : ({ State.reset with pending := [.inval, .qcfgWrite 0 .low 5] } : State).pendingWf = true := by decide

theorem witness_MemoryIsLeftAlone : Instr.inval.wf = true ∧ ∃ t, exec .inval State.reset = .next t := ⟨by decide, _, rfl⟩

theorem witness_FloatFormatsRoundTrip : FFmt.fp16 ∈ [FFmt.fp32, .bf16, .fp16, .e4m3, .e5m2, .e3m2, .e2m3, .e2m1] ∧
    (∀ d, RMode.stochastic 7 = .stochastic d → d < 2 ^ 32) ∧ 0x3C00 < 2 ^ (1 + FFmt.fp16.eb + FFmt.fp16.mb) ∧
    (FFmt.fp16.decode 0x3C00).isFin = true := by
  refine ⟨by decide, fun d h => ?_, by decide, by decide⟩
  cases h; decide

theorem witness_QuietNans : FFmt.e5m2 ∈ [FFmt.fp32, .bf16, .fp16, .e4m3, .e5m2] ∧ 0xFD < 2 ^ (1 + FFmt.e5m2.eb + FFmt.e5m2.mb) ∧
    (FFmt.e5m2.decode 0xFD).isNan = true := by decide

theorem witness_CompressionIsLossless : (4 : Nat) ≤ 4 ∧ (List.replicate 4096 (0 : Byte)).length = 4096 := ⟨by decide, List.length_replicate⟩

/-- Bytes that rise leave exponents that no group packs into a whole block. -/
theorem witness_RawBlocks :
    let bs := (List.range 4096).map fun i => BitVec.ofNat 8 (i * 37)
    let es := (Yxp.blockElems 2 bs).map (Yxp.expOf 2)
    let fields := (List.range (Yxp.groups 2)).flatMap fun g => Yxp.groupFields ((es.drop (32 * g)).take 32)
    bs.length = 4096 ∧ 64 * 64 < 8 + Yxp.planeBytes 2 + ceilDiv (Yxp.streamBits fields) 8 := by decide +kernel

/-- A step of every domain rule starts from a legal state: reset's. -/
theorem witness_DomainsStayLegal : State.reset.DomainsLegal := by
  refine ⟨rfl, fun d => ⟨fun t h => ?_, fun h => ?_, ?_, ?_⟩, rfl, rfl, rfl⟩
  · simp [State.dom, State.reset, Pm.reset, Map.getD, PmDom.reset, Map.find?] at h
  · simp [State.isFenced, State.reset] at h
  · simp [State.dom, State.reset, Pm.reset, Map.getD, PmDom.reset, Map.find?]
  · simp [State.dom, State.reset, Pm.reset, Map.getD, PmDom.reset, Map.find?]

/-- What the record at the cursor is: the case of RecordAndReplay that a state falls under. -/
def recordCase (s : State) : Option Nat :=
  if s.rp.replaying = true ∧ s.forcedOut = false then
    match ((s.recordAt s.rp.cursor).exec s).1 with
    | .ok (e, _, _) => some e.type
    | .error .wait => some 100
    | .error (.fail _) => some 101
  else none

/-- The ring lies on a downstream port, whose answer a read waits for. -/
def sRingFar : State :=
  ((((sDn { dp .up with capacity := 2 ^ 39 } State.reset).setReg Reg.RP_RING_BASE 0x10000000000).setReg Reg.RP_RING_SIZE 1).setReg Reg.CH_T2_POOL 0).modRp
    fun r => { r with replaying := true, cursor := 4096 }

theorem witness_RecordAndReplay_records : recordCase (sRing [(0x201008, 0x0F)] State.reset) = some 0x0F ∧
    recordCase (sRing [(0x201008, 0x03)] State.reset) = some 3 ∧ recordCase (sRing [(0x201008, 0x10)] State.reset) = some 0x10 ∧
    recordCase ((sRing [] State.reset).setReg Reg.RP_RING_BASE 0x400000000000) = some 101 ∧ recordCase sRingFar = some 100 := by decide +kernel

end Sys2Proof.Tests
end

/-! ## Commands and their statements: every command answers and keeps the queue, and a meaning gives its statement -/

namespace Sys2Proof.Machine

open State

/-! ### Every command answers, and keeps the queue -/

@[simp] theorem State.whenClocked_keep_pending (s u : State) : (s.whenClocked (s.keep u)).pending = s.pending := by
  unfold State.whenClocked; split <;> rfl

@[simp] theorem State.whenClocked_done_pending (s u : State) : (s.whenClocked (s.done u)).pending = s.pending :=
  State.whenClocked_keep_pending s (State.settle 64 u)

/-- Every arm of `exec` ends in `keep` or `done` of the state it started from, some behind `whenClocked`. -/
theorem exec_keeps_queue (c : Instr) (s : State) : ∃ t, exec c s = .next t ∧ t.pending = s.pending := by
  cases c <;> exact ⟨_, rfl, by simp only [keep_pending, done_pending, whenClocked_keep_pending, whenClocked_done_pending]⟩

@[simp] theorem State.nanosecond_pending (s : State) : s.nanosecond.pending = s.pending := by
  unfold State.nanosecond; split
  · rfl
  · split <;> rfl

/-- What every step of a fold leaves alone, the fold leaves alone. -/
theorem foldl_keeps {σ α β : Type} (p : σ → β) (f : σ → α → σ) (h : ∀ s a, p (f s a) = p s) (l : List α) (s : σ) :
    p (l.foldl f s) = p s := by
  induction l generalizing s with
  | nil => rfl
  | cons a l ih => exact (ih (f s a)).trans (h s a)

@[simp] theorem State.tick_pending (s : State) : s.tick.pending = s.pending := by
  unfold State.tick; split
  · exact nanosecond_pending s
  · exact foldl_keeps State.pending _ (fun s _ => nanosecond_pending s) _ s

/-- A step answers, and takes the front command off the queue and nothing else. -/
theorem step_takes_front (s : State) : ∃ t, step s = .next t ∧ t.pending = s.pending.tail := by
  unfold step
  split
  next h => exact ⟨_, rfl, by simp [h]⟩
  next c rest h =>
    obtain ⟨t, ht, hp⟩ := exec_keeps_queue c { s with pending := rest }
    exact ⟨t, ht, by simp [hp, h]⟩

/-- A step that answers is the first of a run. -/
theorem run_succ_of_next (M : Host.Core) {k : Nat} {s u : M.State} (h : M.step s = .next u) : M.run (k + 1) s = M.run k u := by
  rw [Host.Core.run, h]

/-- After `k` steps the first `k` commands are gone. -/
theorem run_takes_front (k : Nat) (s : State) :
    ∃ t : State, Host.Core.run Sys2Proof.core k s = .next t ∧ t.pending = s.pending.drop k := by
  induction k generalizing s with
  | zero => exact ⟨s, rfl, rfl⟩
  | succ k ih =>
    obtain ⟨u, hu, hp⟩ := step_takes_front s
    obtain ⟨t, ht, hq⟩ := ih u
    exact ⟨t, (run_succ_of_next Sys2Proof.core hu).trans ht, by rw [hq, hp, List.drop_tail]⟩

/-! ### How a command's meaning gives its statement -/

/-- A command whose meaning keeps `t`, with `t` worked out. -/
theorem Nexts.of_keep {c : Instr} {s t u : State} (h : exec c s = .next (s.keep t)) (ht : s.keep t = u) : Nexts c s u :=
  fun _ => ht ▸ h

/-- A command that settles after `t`, with `t` worked out. -/
theorem Ends.of_done {c : Instr} {s t u : State} (h : exec c s = .next (s.done t)) (ht : t = u) : Ends c s u :=
  Ends.of_exec (ht ▸ h)

/-- The same where the divided clocks drive the command. -/
theorem Ends.of_clocked {c : Instr} {s t u : State} (h : exec c s = .next (s.whenClocked (s.done t))) (ht : t = u) : Ends c s u :=
  fun hs => Ends.of_exec (by rw [h, whenClocked_running hs, ht]) hs

namespace State

/-! ### Crossings and the host's writes -/

/-- An access bound for a domain that sleeps waits in its crossing. -/
theorem crossE_asleep {s : State} {d : Nat} (c : Instr) (r f : State → State) (hc : s.clocksStopped = false) (hf : s.isFenced d = false)
    (hd : s.domReady d = false) : s.crossE d c r f = s.park d c := by simp [crossE, hc, hf, hd]

/-- Open crossings let an access through at once. -/
theorem crossAll_open {s : State} {ds : List Nat} (c : Instr) (r f : State → State) (h : ∀ d ∈ ds, s.Open d) :
    crossAll ds c r f s = f s := by
  induction ds with
  | nil => rfl
  | cons d ds ih =>
    obtain ⟨hd, hds⟩ := List.forall_mem_cons.1 h
    exact (crossE_open c r (crossAll ds c r f) hd.1 hd.2).trans (ih hds)

theorem hostPosted_behind {s : State} {fn : Nat} (c : Instr) (f : State → State) (hm : s.mse fn = true) (hw : s.wholeSafe = false)
    (ha : s.hostAhead = true) : s.hostPosted fn c f = s.park ioWait c := by simp [hostPosted, hm, hw, ha]

theorem hostPosted_open {s : State} {fn : Nat} (c : Instr) (f : State → State) (h : s.HostOpen fn) : s.hostPosted fn c f = f s := by
  obtain ⟨hm, hw, ha⟩ := h
  simp [hostPosted, hm, hw, ha]

theorem OpenReg.crossings {s : State} {off : Nat} (h : s.OpenReg off) : ∀ d ∈ s.regDomain off, s.Open d :=
  fun d hd => of_decide_eq_true (List.all_eq_true.1 h.2 d hd)

/-- A write of a register that is taken at once. -/
theorem barWrite_open {s : State} {off : Nat} (c : Instr) (f : State → State) (h : s.OpenReg off) : s.barWrite off c f = f s :=
  (hostPosted_open c _ h.1).trans (crossAll_open c _ f (OpenReg.crossings h))

/-- A register access waits for the unit that holds the register. -/
theorem crossReg_asleep {s : State} {off d : Nat} (c : Instr) (f : State → State) (hu : s.Open Dom.upCtl) (hx : s.unitDomain off = some d)
    (hd : s.domReady d = false) (hf : s.isFenced d = false) : crossReg off c f s = s.park d c := by
  simp only [crossReg, regDomain, hx, Option.toList_some, crossAll, List.foldr]
  exact (crossE_open c _ _ hu.1 hu.2).trans (crossE_asleep c _ f hu.1 hf hd)

/-! ### The part of BAR0 that an access names (R13) -/

/-- The part `h` of the register at `x` lies at offset `a` and has `n` bytes. -/
def RegPlace (n a x : Nat) (h : Half) : Prop :=
  (n = 8 ∧ a % 8 = 0 ∧ x = a ∧ h = .full) ∨ (n = 4 ∧ a % 8 = 0 ∧ x = a ∧ h = .low) ∨ (n = 4 ∧ a % 8 = 4 ∧ x + 4 = a ∧ h = .high)

theorem bar0Target_refused {s : State} {a n : Nat}
    (h : s.mse 0 = false ∨ s.wholeSafe = true ∨ 0x1200000 ≤ a ∨ ¬(n = 8 ∧ a % 8 = 0 ∨ n = 4 ∧ a % 4 = 0)) : s.bar0Target a n = none := by
  unfold bar0Target
  split
  · rfl
  next hg =>
    simp only [Bool.or_eq_true, Bool.not_eq_true', decide_eq_true_eq, not_or] at hg
    obtain ⟨⟨hm, hw⟩, hr⟩ := hg
    have hn : ¬(n = 8 ∧ a % 8 = 0 ∨ n = 4 ∧ a % 4 = 0) := ((h.resolve_left hm).resolve_left hw).resolve_left hr
    rw [if_neg (by omega), if_neg (by omega), if_neg (by omega)]

theorem bar0Target_place {s : State} {a n x : Nat} {h : Half} (hm : s.mse 0 = true) (hw : s.wholeSafe = false) (hr : a < 0x1200000)
    (hp : RegPlace n a x h) : s.bar0Target a n = some (x, h) := by
  have hr' : ¬ 0x1200000 ≤ a := by omega
  rcases hp with ⟨rfl, ha, rfl, rfl⟩ | ⟨rfl, ha, rfl, rfl⟩ | ⟨rfl, ha, rfl, rfl⟩
  · simp [bar0Target, hm, hw, hr', ha]
  · simp [bar0Target, hm, hw, hr', ha]
  · simp [bar0Target, hm, hw, hr', ha]

end State

end Sys2Proof.Machine

/-! ## The order of the queue (O2, O3) -/

namespace Sys2Proof.Machine

/-- Settles O2, by induction on the number of steps. -/
theorem commandsInOrder : Obligations.CommandsInOrder := run_takes_front

/-- Settles O3: the queue after a step is its tail. -/
theorem waitingCommandsStayWellFormed : Obligations.WaitingCommandsStayWellFormed := by
  intro s hs
  obtain ⟨t, ht, hp⟩ := step_takes_front s
  refine ⟨t, ht, ?_, hp⟩
  simp only [State.pendingWf, List.all_eq_true] at hs ⊢
  intro c hc
  exact hs c (List.mem_of_mem_tail (hp ▸ hc))

end Sys2Proof.Machine

/-! ## Register writes (O5) -/

namespace Sys2Proof.Machine

open State

namespace State

/-! ### REGISTER_WRITE -/

variable {c : Instr} {s : State} {a n : Nat} {v : Word}

theorem registerWriteOp_pf_refused
    (h : s.mse 0 = false ∨ s.wholeSafe = true ∨ 0x1200000 ≤ a ∨ ¬(n = 8 ∧ a % 8 = 0 ∨ n = 4 ∧ a % 4 = 0)) :
    s.registerWriteOp c 0 a n v = s.unsupported true := by
  simp only [registerWriteOp, ne_eq, not_true, if_false, bar0Target_refused h]

/-- A write of the PF that names part of a register goes there behind the host's earlier writes. -/
theorem registerWriteOp_pf {x : Nat} {h : Half} (hm : s.mse 0 = true) (hw : s.wholeSafe = false) (hr : a < 0x1200000) (hp : RegPlace n a x h) :
    s.registerWriteOp c 0 a n v = s.barWrite x c (crossAll (predDomain x h v) c (unsupported true) (writeReg x h v)) := by
  simp only [registerWriteOp, ne_eq, not_true, if_false, bar0Target_place hm hw hr hp]

/-- The guard of a VF's write turns away what names no part of its BAR0. -/
theorem vfGuard_iff (fn : Nat) :
    (!s.fnPresent fn || decide (s.vfBarSize 16384 ≤ a) || !(decide (n = 8 ∧ a % 8 = 0) || decide (n = 4 ∧ a % 4 = 0))) = true ↔
      s.fnPresent fn = false ∨ s.vfBarSize 16384 ≤ a ∨ ¬(n = 8 ∧ a % 8 = 0 ∨ n = 4 ∧ a % 4 = 0) := by
  simp only [Bool.or_eq_true, Bool.not_eq_true', Bool.or_eq_false_iff, decide_eq_true_eq, decide_eq_false_iff_not, not_or, or_assoc]

theorem vfBarWrite_refused {fn : Nat} (h : s.fnPresent fn = false ∨ s.vfBarSize 16384 ≤ a ∨ ¬(n = 8 ∧ a % 8 = 0 ∨ n = 4 ∧ a % 4 = 0)) :
    s.vfBarWrite c fn a n v = s.unsupported true := if_pos ((vfGuard_iff fn).2 h)

/-- A write of a VF that is taken at once reaches its MSI-X table, or nothing (R301). -/
theorem vfBarWrite_open {fn : Nat} (hf : s.fnPresent fn = true) (ha : a < s.vfBarSize 16384) (hn : n = 8 ∧ a % 8 = 0 ∨ n = 4 ∧ a % 4 = 0)
    (hh : s.HostOpen fn) (hu : s.Open Dom.upCtl) :
    s.vfBarWrite c fn a n v =
      if a < 0x400 then s.msixWrite fn (a / 8 * 8) (if n = 8 then .full else if a % 8 = 0 then .low else .high) v else s := by
  have hg : ¬(s.fnPresent fn = false ∨ s.vfBarSize 16384 ≤ a ∨ ¬(n = 8 ∧ a % 8 = 0 ∨ n = 4 ∧ a % 4 = 0)) := by
    rintro (h | h | h)
    · exact Bool.false_ne_true (h.symm.trans hf)
    · exact Nat.not_le.2 ha h
    · exact h hn
  refine (if_neg (mt (vfGuard_iff fn).1 hg)).trans ?_
  exact (hostPosted_open c _ hh).trans (crossAll_open c _ _ (by simpa using hu))

/-! ### What a plain write leaves (R10 to R13) -/

theorem bit_and (x y : Word) (i : Nat) : bit (x &&& y) i = (bit x i && bit y i) := BitVec.getLsbD_and

theorem bit_or (x y : Word) (i : Nat) : bit (x ||| y) i = (bit x i || bit y i) := BitVec.getLsbD_or

theorem bit_not (x : Word) {i : Nat} (hi : i < 64) : bit (~~~ x) i = !bit x i := by
  simp only [bit]
  exact (BitVec.getLsbD_not (x := x) (i := i)).trans (by simp [hi, BitVec.getLsbD])

/-- A bit of a register that stores what is written to it, while configuration is as locked as it is (R10, R11). -/
def storesBit (s : State) (r : RegInfo) (i : Nat) : Bool := bit r.rw i || (bit r.rwl i && !s.locked)

/-- A plain write, bit by bit. -/
theorem bit_merged {off : Nat} {r : RegInfo} (h : Half) {i : Nat} (hr : regInfo? off = some r) (hi : i < 64) :
    bit (s.merged off h v) i =
      ((bif s.storesBit r i && bit (halfMask h) i then bit (halfValue h v) i else bit (s.reg off) i) &&
        !(bit r.w1c i && bit (halfValue h v) i && bit (halfMask h) i) || (bit r.w1s i && bit (halfValue h v) i && bit (halfMask h) i)) := by
  have hst : bit (if s.locked then r.rw else r.rw ||| r.rwl) i = s.storesBit r i := by
    cases hl : s.locked <;> simp [storesBit, bit_or, hl]
  simp only [merged, hr, bit_or, bit_and, bit_not _ hi, hst]
  cases s.storesBit r i && bit (halfMask h) i <;> simp

end State

/-- A size of REGISTER_WRITE as a number of bytes. -/
theorem size_toNat_iff (size : BitVec 7) {n : Nat} (hn : n < 2 ^ 7) : size.toNat = n ↔ size = BitVec.ofNat 7 n := by
  rw [← BitVec.toNat_inj, BitVec.toNat_ofNat, Nat.mod_eq_of_lt hn]

/-- REGISTER_WRITE of the PF (R10, R13, R25, R259). -/
theorem registerWrite_pf (off : BitVec 26) (size : BitVec 7) (v : Word) (s : State) {x : Nat} {h : Half} (hm : s.mse 0 = true)
    (hw : s.wholeSafe = false) (hr : off.toNat < 0x1200000) (hp : RegPlace size.toNat off.toNat x h) :
    let c : Instr := .registerWrite ⟨0, off⟩ size v
    (s.OpenReg x → (∀ d ∈ predDomain x h v, s.Open d) → Ends c s (s.writeReg x h v)) ∧
    (∀ d, s.hostAhead = false → s.Open Dom.upCtl → s.unitDomain x = some d → s.domReady d = false → s.isFenced d = false →
      Ends c s (s.park d c)) ∧
    (s.hostAhead = true → Ends c s (s.park ioWait c)) := by
  intro c
  have hop := registerWriteOp_pf (c := c) (v := v) hm hw hr hp
  refine ⟨fun ho hd => Ends.of_done rfl ?_, fun d ha hu hx hd hf => Ends.of_done rfl ?_, fun ha => Ends.of_done rfl ?_⟩
  · exact hop.trans ((barWrite_open c _ ho).trans (crossAll_open c _ _ hd))
  · exact hop.trans ((hostPosted_open c _ ⟨hm, hw, ha⟩).trans (crossReg_asleep c _ hu hx hd hf))
  · exact hop.trans (hostPosted_behind c _ hm hw ha)

/-- REGISTER_WRITE of a VF (R301, R302). -/
theorem registerWrite_vf {fn : BitVec 8} (hfn : fn ≠ 0) (off : BitVec 26) (size : BitVec 7) (v : Word) (s : State) :
    exec (.registerWrite ⟨fn, off⟩ size v) s =
      .next (s.done (s.vfBarWrite (.registerWrite ⟨fn, off⟩ size v) fn.toNat off.toNat size.toNat v)) := by
  have hn : fn.toNat ≠ 0 := fun h => hfn (BitVec.eq_of_toNat_eq h)
  exact congrArg (fun t => Host.Outcome.next (s.done t)) (if_pos hn)

/-- Settles O5: the accesses of the PF, those of a VF, and the bits of a plain write. -/
theorem registerWrites : Obligations.RegisterWrites := by
  refine ⟨fun fn off size v s => ?_, fun off r h v s i hr hs hi => ?_⟩
  · have h8 : size.toNat = 8 ↔ size = 8 := size_toNat_iff size (by decide)
    have h4 : size.toNat = 4 ↔ size = 4 := size_toNat_iff size (by decide)
    refine ⟨?_, fun hfn => ⟨fun h => ?_, fun hf ha hn hh hu => ⟨fun hlow => ?_, fun hhigh => ?_⟩⟩⟩
    · rintro rfl
      refine ⟨fun h => Ends.of_done rfl (registerWriteOp_pf_refused (by rwa [h8, h4])), fun hm hw hr h x hp => ?_⟩
      exact registerWrite_pf off size v s hm hw hr (by rwa [RegPlace, h8, h4])
    · exact Ends.of_done (registerWrite_vf hfn off size v s) (vfBarWrite_refused (by rwa [h8, h4]))
    · refine Ends.of_done (registerWrite_vf hfn off size v s) ((vfBarWrite_open hf ha (by rwa [h8, h4]) hh hu).trans ?_)
      simp only [if_pos hlow, h8]
    · refine Ends.of_done (registerWrite_vf hfn off size v s) ((vfBarWrite_open hf ha (by rwa [h8, h4]) hh hu).trans ?_)
      exact if_neg (Nat.not_lt.2 hhigh)
  · have hnew : (s.storeReg off h v).reg off = s.merged off h v := reg_setReg_same off _ hs
    have hbit := bit_merged (s := s) (v := v) h hr hi
    refine ⟨fun hw => ?_, fun hw hc ht => ?_, fun hw hst hc ht => ?_, fun hw hst hc ht => ?_, fun o ho => reg_setReg_other ho _ hs⟩
    · simp [hnew, hbit, hw]
    · simp [hnew, hbit, hw, hc, ht, storesBit, cond_eq_ite]
    · simp [hnew, hbit, hw, hc, ht, storesBit, hst]
    · simp [hnew, hbit, hw, hc, ht, storesBit, hst]

end Sys2Proof.Machine

/-! ## The image and the flash (O50) -/

namespace Sys2Proof.Machine

open State

namespace State

/-! ### Reading, selecting and applying the image -/

theorem flashLoadRead_skipped {r o : Bool} {x : FlashReads} {s : State}
    (h : s.boot.por = true ∨ s.boot.readDone = true ∨ s.ck.pll ≠ .locked) : s.flashLoadRead r o x = s :=
  if_pos (by simpa [or_assoc] using h)

theorem imageApplyOp_skipped {s : State}
    (h : s.boot.por = true ∨ s.boot.arrays = false ∨ s.boot.readDone = false ∨ s.boot.applied = true) : s.imageApplyOp = s :=
  if_pos (by simpa [or_assoc] using h)

/-- Step 5 of power-up takes the copy that R348 selects, or the fallback. -/
theorem imageApplyOp_due {s : State} (hp : s.boot.por = false) (ha : s.boot.arrays = true) (hr : s.boot.readDone = true)
    (hd : s.boot.applied = false) :
    s.imageApplyOp =
      let t := s.modBoot fun b => { b with applied := true, copy := s.selectCopy }
      if s.selectCopy = 0 then t.applyFallback else t.applyCopy s.selectCopy :=
  if_neg (by simp [hp, ha, hr, hd])

/-- All the steps before step 7 of power-up are over (R340). -/
def ConfigReady (s : State) : Prop :=
  s.boot.por = false ∧ s.boot.loaded = false ∧ s.boot.pufDone = true ∧ s.boot.arrays = true ∧ s.boot.applied = true ∧ s.boot.keyDone = true ∧
    s.ck.pll = .locked

/-- The guard of step 7 lets through exactly what is ready. -/
theorem configGuard_iff (s : State) :
    (s.boot.por || s.boot.loaded || !s.boot.pufDone || !s.boot.arrays || !s.boot.applied || !s.boot.keyDone || decide (s.ck.pll ≠ .locked)) = false ↔
      s.ConfigReady := by
  simp only [ConfigReady, Bool.or_eq_false_iff, Bool.not_eq_false', decide_eq_false_iff_not, ne_eq, Decidable.not_not, and_assoc]

theorem configCompleteOp_skipped {s : State} (h : ¬ s.ConfigReady) : s.configCompleteOp = s :=
  if_pos (eq_true_of_ne_false (mt (configGuard_iff s).1 h))

/-! ### Flash commands -/

section
variable {s : State} {v : Word} {code : Nat} (h : bits v 34 32 = code) (h1 : 1 ≤ code) (h3 : code ≤ 3)
include h h1 h3

theorem flashCmdWrite_refused :
    let t := s.storeReg Reg.CFG_FLASH_CMD .full v
    t.flashRefused code (t.regBits Reg.CFG_FLASH_CMD 21 0) = true →
    s.flashCmdWrite .full v = t.modBoot fun b => { b with refused := true } := by
  have hg : ¬(bits v 34 32 = 0 ∨ 3 < bits v 34 32) := by omega
  subst h
  exact fun hr => (if_neg hg).trans (if_pos hr)

/-- A command that is not refused starts with the address, and for PROGRAM the data, that the registers then hold (R352). -/
theorem flashCmdWrite_started :
    let t := s.storeReg Reg.CFG_FLASH_CMD .full v
    let a := t.regBits Reg.CFG_FLASH_CMD 21 0
    let data := if code = 2 then (List.range 8).flatMap fun k => leBytes 8 (t.reg (Reg.CFG_FLASH_DATA + 8 * k)).toNat else []
    t.flashRefused code a = false →
    s.flashCmdWrite .full v =
      (t.modBoot fun b => { b with refused := false, failed := false, cmd := some { cmd := code, addr := a, data := data } }).emit
        (.flash code a data) := by
  have hg : ¬(bits v 34 32 = 0 ∨ 3 < bits v 34 32) := by omega
  subst h
  exact fun hr => (if_neg hg).trans (if_neg (Bool.eq_false_iff.1 hr))

end

/-- A flash command that ends is in progress no more. -/
def flashIdle (failed : Bool) (s : State) : State := s.modBoot fun b => { b with cmd := none, failed := failed }

theorem flashDone_idle (ok : Bool) {s : State} (h : s.boot.cmd = none) : s.flashDone ok = s := by
  rw [flashDone, h]

section
variable {s : State} {c : FlashCmd} (h : s.boot.cmd = some c)
include h

theorem flashDone_read (hc : c.cmd = 1) :
    s.flashDone true = (List.range 8).foldl
      (fun s k => s.setReg (Reg.CFG_FLASH_DATA + 8 * k) (w64 (leNat (s.flashBytes (c.addr + 8 * k) 8)))) (s.flashIdle false) := by
  simp only [flashDone, h, hc]
  rfl

theorem flashDone_program (hc : c.cmd = 2) : s.flashDone true = (s.flashIdle false).flashPut c.addr c.data := by
  simp only [flashDone, h, hc]
  rfl

theorem flashDone_erase (hc : c.cmd = 3) :
    s.flashDone true = (s.flashIdle false).modBoot fun b => { b with flash := Mem.clear c.addr 65536 b.flash } := by
  simp only [flashDone, h, hc]
  rfl

/-- A failed PROGRAM or ERASE leaves free values where it was to write (log entry 6). -/
theorem flashDone_write_failed (hc : c.cmd ≠ 1) :
    s.flashDone false = (flashScramble c.addr (if c.cmd = 2 then 1 else 1024) (s.flashIdle true)).raise Reg.CFG Err.CFG_FLASH_CMD
      { Capture.none with access := 1 } := by
  simp only [flashDone, h, hc]
  rfl

theorem flashDone_read_failed (hc : c.cmd = 1) :
    s.flashDone false = (s.flashIdle true).raise Reg.CFG Err.CFG_FLASH_CMD { Capture.none with access := 0 } := by
  simp only [flashDone, h, hc]
  rfl

end

end State

/-- Settles O50: the load, the choice and the application of the image, step 7, the lock, and the flash commands. -/
theorem imageAndFlash : Obligations.ImageAndFlash := by
  refine ⟨⟨fun r o e ra rb s => ⟨fun h => ?_, fun hp hr hl => ?_⟩, fun s => ⟨fun h => ?_, fun hp ha hr hd => ⟨fun hc => ?_, fun hc => ?_⟩⟩,
    fun s => ?_, fun s => ⟨fun h => ?_, fun h => ?_⟩, fun s h => ?_⟩, ?_, ?_, ?_⟩
  · exact Nexts.of_keep rfl (congrArg s.keep (flashLoadRead_skipped h))
  · exact Nexts.of_keep rfl (congrArg s.keep (if_neg (by simp [hp, hr, hl])))
  · exact Nexts.of_keep rfl (congrArg s.keep (imageApplyOp_skipped h))
  · exact Nexts.of_keep rfl (congrArg s.keep ((imageApplyOp_due hp ha hr hd).trans (if_pos hc)))
  · exact Nexts.of_keep rfl (congrArg s.keep ((imageApplyOp_due hp ha hr hd).trans (if_neg hc)))
  · refine ⟨fun ha hb => ?_, fun ha hb => ?_, fun ha hb => ?_, fun ha hb => ?_⟩ <;> simp [selectCopy, ha, hb]
  · exact Nexts.of_keep rfl (congrArg s.keep (configCompleteOp_skipped h))
  · exact Nexts.of_keep rfl (congrArg s.keep (if_neg (Bool.eq_false_iff.1 ((configGuard_iff s).2 h))))
  · exact Nexts.of_keep rfl (congrArg s.keep (barWrite_open _ _ h))
  · intro c code hmem v s ho hcode
    have hc : exec (c .full v) s = .next (s.keep (s.flashCmd (c .full v) .full v)) ∧ 1 ≤ code ∧ code ≤ 3 := by
      simp only [List.mem_cons, Prod.mk.injEq, List.not_mem_nil, or_false] at hmem
      rcases hmem with ⟨rfl, rfl⟩ | ⟨rfl, rfl⟩ | ⟨rfl, rfl⟩ <;> exact ⟨rfl, by decide⟩
    obtain ⟨hx, h1, h3⟩ := hc
    have hw := barWrite_open (c .full v) (flashCmdWrite .full v) ho
    exact ⟨fun hr => Nexts.of_keep hx (congrArg s.keep (hw.trans (flashCmdWrite_refused hcode h1 h3 hr))),
      fun hr => Nexts.of_keep hx (congrArg s.keep (hw.trans (flashCmdWrite_started hcode h1 h3 hr)))⟩
  · exact fun ok s h => Nexts.of_keep rfl (congrArg s.keep (flashDone_idle ok h))
  · intro s c h
    refine ⟨fun hc => Nexts.of_keep rfl ?_, fun hc => Nexts.of_keep rfl ?_, fun hc => Nexts.of_keep rfl ?_, fun hc => Nexts.of_keep rfl ?_,
      fun hc => Nexts.of_keep rfl ?_⟩
    · refine (congrArg s.keep (flashDone_read h hc)).trans (keep_of_pending ?_)
      exact (foldl_keeps State.pending _ (fun t k => setReg_pending _ _ t) _ _).trans rfl
    · exact congrArg s.keep (flashDone_program h hc)
    · exact congrArg s.keep (flashDone_erase h hc)
    · exact congrArg s.keep (flashDone_write_failed h (by omega))
    · exact congrArg s.keep (flashDone_read_failed h hc)

end Sys2Proof.Machine

/-! ## Wakes of power domains (O55) -/

namespace Sys2Proof.Machine

open State

namespace State

/-! ### Wake sources -/

/-- The source `w` holds for domain `d` (R374 Table 7). -/
def wakeHolds (d : Nat) (w : WakeSource) (s : State) : Bool :=
  match w with
  | .crossing => s.crossingHeld d
  | .floor => decide (s.floorOf d < depth (s.dom d).st ∨ ∃ t ∈ (s.dom d).entering, s.floorOf d < depth t)
  | .portEvent => decide (60 ≤ d ∧ d < 68 ∧ s.reg (Reg.DN_PORT_EVENT + 8 * (d - 60)) ≠ 0)
  | .timer => true

/-- DOMAIN_WAKE by whether its source holds. -/
theorem domainWakeOp_eq (d : Nat) (w : WakeSource) (final : Bool) (s : State) :
    s.domainWakeOp d w final =
      if !s.wakeHolds d w then s
      else if final && (s.dom d).entering.isSome then (if w = .timer then s.setDom d { s.dom d with timer := true } else s)
      else s.wakeDom d := by
  cases w with
  | crossing => rfl
  | timer => rfl
  | floor =>
    simp only [domainWakeOp, wakeHolds, updDom]
    cases (s.dom d).entering <;> simp
  | portEvent => simp [domainWakeOp, wakeHolds, or_assoc]

section
variable {d : Nat} {s : State}

theorem domainWakeOp_idle {w : WakeSource} (final : Bool) (h : s.wakeHolds d w = false) : s.domainWakeOp d w final = s := by
  rw [domainWakeOp_eq, h]; rfl

theorem domainWakeOp_seen {w : WakeSource} {final : Bool} (h : s.wakeHolds d w = true) (hf : final = false ∨ (s.dom d).entering = none) :
    s.domainWakeOp d w final = s.wakeDom d := by
  rw [domainWakeOp_eq, h]
  rcases hf with hf | hf <;> simp [hf]

/-- In the final window of an entry nothing aborts it (R376). -/
theorem domainWakeOp_final {w : WakeSource} (h : s.wakeHolds d w = true) (he : (s.dom d).entering ≠ none) :
    s.domainWakeOp d w true = if w = .timer then s.setDom d { s.dom d with timer := true } else s := by
  rw [domainWakeOp_eq, h, Option.isSome_iff_ne_none.2 he]; rfl

/-! ### What a wake source does to a domain that answers to it -/

variable (hd : d ≠ 95) (hf : s.isFenced d = false)
include hd hf

theorem wakeDom_eq :
    s.wakeDom d =
      if (s.dom d).entering.isSome then (if (s.dom d).st = .active ∨ (s.dom d).waking then s.abortEntry d else (s.abortEntry d).startWake d)
      else if (s.dom d).st = .active ∨ (s.dom d).waking then s else s.startWake d :=
  if_neg (by simp [hd, hf])

theorem wakeDom_sleeping (he : (s.dom d).entering = none) (hs : (s.dom d).st ≠ .active) (hw : (s.dom d).waking = false) :
    s.wakeDom d = s.startWake d := by simp [wakeDom_eq hd hf, he, hs, hw]

theorem wakeDom_entering_active (he : (s.dom d).entering ≠ none) (hs : (s.dom d).st = .active) : s.wakeDom d = s.abortEntry d := by
  simp [wakeDom_eq hd hf, Option.isSome_iff_ne_none.2 he, hs]

theorem wakeDom_entering_asleep (he : (s.dom d).entering ≠ none) (hs : (s.dom d).st ≠ .active) (hw : (s.dom d).waking = false) :
    s.wakeDom d = (s.abortEntry d).startWake d := by
  simp [wakeDom_eq hd hf, Option.isSome_iff_ne_none.2 he, hs, hw]

theorem wakeDom_awake (he : (s.dom d).entering = none) (hs : (s.dom d).st = .active) : s.wakeDom d = s := by
  simp [wakeDom_eq hd hf, he, hs]

end

/-! ### The end of a wake -/

theorem sendCrd_pm (port : Nat) (m : Msg) (s : State) : (s.sendCrd port m).pm = s.pm := by
  unfold sendCrd; split <;> rfl

/-- The credits of a Fabric Port are not the power domains'. -/
@[simp] theorem portInit_pm (port : Nat) (s : State) : (s.portInit port).pm = s.pm :=
  foldl_keeps State.pm _ (fun t _ => sendCrd_pm port _ t) _ _

theorem dom_congr {s t : State} (h : t.pm = s.pm) (d : Nat) : t.dom d = s.dom d := by simp [dom, h]

/-- A wake that ends takes what waited for the domain, oldest first (R383). -/
theorem wakeOver_waking {d : Nat} {s : State} (h : (s.dom d).waking = true) :
    let port := if (s.dom d).st = .off ∧ 32 ≤ d ∧ d < 48 then s.portInit (d - 32) else s
    let up := (port.setDom d { s.dom d with st := .active, waking := false, retried := false, timer := false }).domainAssist d
    let free := up.modPm fun p => { p with saved := p.saved.filter fun b => !decide (Dom.bank b = d) }
    s.wakeOver d = (s.pm.waits.filter fun w => decide (w.dom = d)).foldl (fun t w => t.redoParked w)
      (free.modPm fun p => { p with waits := p.waits.filter fun w => !decide (w.dom = d) }) := by
  intro port up free
  have hport : port.pm = s.pm := by
    simp only [port]; split
    · exact portInit_pm _ s
    · rfl
  have hdone : s.wakeDone d = free := by
    simp only [free, up, ← dom_congr hport d]
    rfl
  have hwaits : free.pm.waits = s.pm.waits :=
    (congrArg Pm.waits hport : port.pm.waits = s.pm.waits)
  rw [wakeOver, if_pos h, hdone, redoWaits, takeWaits, hwaits]

/-! ### Wake inputs -/

/-- The wake inputs that are high once input `i` has the level `level`. -/
def setInput (i : Nat) (level : Bool) (s : State) : State :=
  s.modPm fun p => { p with inputs := if level then addNew i p.inputs else p.inputs.filter (· ≠ i) }

theorem wakeInput_low (i : Nat) (final : Bool) (s : State) : s.wakeInput i false final = s.setInput i false :=
  if_neg (by simp)

/-- A high input wakes its domain where it is enabled and seen: at its level, or in edge mode when it rises, but not in the final window of an
entry (R375, R376). Its configuration and the domains are as they were. -/
theorem wakeInput_high (i : Nat) (final : Bool) (s : State) :
    let cfg := Reg.PM_WAKE_IN + 8 * i
    let d := s.regBits cfg 6 0
    s.wakeInput i true final =
      if s.regBit cfg 8 = true ∧ (s.regBit cfg 7 = false ∨ i ∉ s.pm.inputs) ∧ d < 96 ∧ (final = false ∨ (s.dom d).entering = none) then
        (s.setInput i true).wakeDom d
      else s.setInput i true := by
  intro cfg d
  have hguard : s.wakeInput i true final =
      if (s.regBit cfg 8 && (if s.regBit cfg 7 then true && !decide (i ∈ s.pm.inputs) else true) && decide (d < 96) &&
        !(final && (s.dom d).entering.isSome)) = true then (s.setInput i true).wakeDom d else s.setInput i true := rfl
  rw [hguard]
  refine ite_congr (propext ?_) (fun _ => rfl) (fun _ => rfl)
  cases s.regBit cfg 7 <;> simp [and_assoc]

/-! ### Debug holds and status reads -/

/-- A debug hold that goes refuses nothing. -/
theorem dbgHoldOp_release (d : Nat) (s : State) : s.dbgHoldOp d false = s.setDom d { s.dom d with dbgHold := false } := by
  simp only [dbgHoldOp, Bool.false_and, Bool.false_eq_true, if_false]
  rfl

/-- A debug hold that comes refuses the entry in progress with code 4 (R377). -/
theorem dbgHoldOp_held {d : Nat} {s : State} (h : Map.rising s.pm.doms = true) :
    let held := s.setDom d { s.dom d with dbgHold := true }
    s.dbgHoldOp d true = if (s.dom d).entering.isSome then held.refuseEntry d 4 else held := by
  intro held
  have he : (held.dom d).entering = (s.dom d).entering := by rw [dom_setDom_same d _ h]
  have hguard : s.dbgHoldOp d true = if (held.dom d).entering.isSome then held.refuseEntry d 4 else held := rfl
  rw [hguard, he]

/-- The registers PM_DOM_STATd (Table 23), of which the two counts are RC. -/
theorem regInfo?_domStat (d : Fin 96) :
    regInfo? (Reg.PM_DOM_STAT + 8 * d.val) = some ⟨Reg.PM_DOM_STAT, 96, 0, 0, 0, 0, 0, 0xffffffff00000000⟩ := by
  revert d; decide

/-- Window PM_ but for its command register holds views of the domains' statuses only. -/
theorem viewChip_pm (s : State) {o : Nat} (h : o ≠ 0x110) :
    s.viewChip 14 o = if 0x2000 ≤ o ∧ o < 0x2300 then some (s.domStat ((o - 0x2000) / 8)) else none := by
  simp only [viewChip]

theorem readReg_domStat (d : Fin 96) (s : State) : s.readReg (Reg.PM_DOM_STAT + 8 * d.val) = s.domStat d.val := by
  have hb : (Reg.PM_DOM_STAT + 8 * d.val) / 0x100000 = 14 := by simp only [Reg.PM_DOM_STAT]; omega
  have ho : (Reg.PM_DOM_STAT + 8 * d.val) % 0x100000 = 0x2000 + 8 * d.val := by simp only [Reg.PM_DOM_STAT]; omega
  have hv : s.viewChip 14 (0x2000 + 8 * d.val) = some (s.domStat d.val) := by
    rw [viewChip_pm s (by omega), if_pos (by omega), Nat.add_sub_cancel_left, Nat.mul_div_cancel_left _ (by decide)]
  simp [readReg, hb, ho, hv]

/-- A read of PM_DOM_STATd clears its two counts (R10). -/
theorem readClears_domStat (d : Fin 96) (s : State) :
    s.readClears (Reg.PM_DOM_STAT + 8 * d.val) .full = s.setDom d.val { s.dom d.val with refused := 0, aborted := 0 } := by
  have hd : (Reg.PM_DOM_STAT + 8 * d.val - Reg.PM_DOM_STAT) / 8 = d.val := by omega
  simp only [readClears, regInfo?_domStat, hd]
  rfl

/-- A read of the host that is taken at once (R25, R259). -/
theorem registerRead_open {c : Instr} {s : State} {off : Nat} (ho : s.OpenReg off) (hr : off < 0x1200000) (ha : off % 8 = 0) :
    registerRead c off 8 s = (.value (s.readReg off), s.readClears off .full) := by
  obtain ⟨hm, hw, hp⟩ := ho.1
  have hready : (s.regDomain off).find? (fun d => !s.domReady d) = none :=
    List.find?_eq_none.2 fun d hd => by simp [(OpenReg.crossings ho d hd).2]
  have hclk : s.clocksStopped = false := (OpenReg.crossings ho Dom.upCtl (List.mem_cons_self ..)).1
  simp only [registerRead, bar0Target_place hm hw hr (.inl ⟨rfl, ha, rfl, rfl⟩), hp, hclk, hready, Bool.false_eq_true, if_false]

theorem domStatRead_open {d : Fin 96} {s : State} (ho : s.OpenReg (Reg.PM_DOM_STAT + 8 * d.val)) :
    s.domStatRead d =
      (s.setDom d.val { s.dom d.val with refused := 0, aborted := 0 }).emit (.cpl (leBytes 8 (s.domStat d.val).toNat) false) := by
  have hr : registerRead (.domStatRead d) (Reg.PM_DOM_STAT + 8 * d.val) 8 s = _ :=
    registerRead_open ho (by simp only [Reg.PM_DOM_STAT]; omega) (by simp only [Reg.PM_DOM_STAT]; omega)
  rw [domStatRead, hr, readReg_domStat, readClears_domStat]

/-! ### Wakes that do not end in time (R378) -/

section
variable {d : Nat} {s : State}

theorem wakeTimeoutOp_idle (h : (s.dom d).waking = false) : s.wakeTimeoutOp d = s := if_pos (by simp [h])

theorem wakeTimeoutOp_first (h : (s.dom d).waking = true) (hr : (s.dom d).retried = false) :
    s.wakeTimeoutOp d =
      (s.setDom d { s.dom d with retried := true }).raise Reg.PM Err.PM_WAKE_RETRY { Capture.none with index := d } :=
  (if_neg (by simp [h])).trans (if_pos (by simp [hr]))

theorem wakeTimeoutOp_second (h : (s.dom d).waking = true) (hr : (s.dom d).retried = true) :
    s.wakeTimeoutOp d = (s.raise Reg.PM Err.PM_WAKE_FAIL { Capture.none with index := d }).askFence d :=
  (if_neg (by simp [h])).trans (if_neg (by simp [hr]))

end

theorem mem_fenceReq_askFence (d : Nat) (s : State) : d ∈ (s.askFence d).fenceReq := by
  simp only [askFence, addNew]
  split
  · assumption
  · simp

end State

/-- DOMAIN_WAKE by its source and the window it comes in (R374, R376). -/
theorem domainWake_ends (d : Fin 96) (s : State) (w : WakeSource) (final : Bool) :
    (s.wakeHolds d.val w = false → Ends (.domainWake d ⟨w, final⟩) s s) ∧
    (s.wakeHolds d.val w = true → final = false ∨ (s.dom d.val).entering = none → Ends (.domainWake d ⟨w, final⟩) s (s.wakeDom d.val)) ∧
    (s.wakeHolds d.val w = true → final = true → (s.dom d.val).entering ≠ none →
      (w ≠ .timer → Ends (.domainWake d ⟨w, final⟩) s s) ∧
      (w = .timer → Ends (.domainWake d ⟨w, final⟩) s (s.setDom d.val { s.dom d.val with timer := true }))) := by
  refine ⟨fun h => Ends.of_clocked rfl (domainWakeOp_idle final h), fun h hf => Ends.of_clocked rfl (domainWakeOp_seen h hf), ?_⟩
  rintro h rfl he
  exact ⟨fun hw => Ends.of_clocked rfl ((domainWakeOp_final h he).trans (if_neg hw)),
    fun hw => Ends.of_clocked rfl ((domainWakeOp_final h he).trans (if_pos hw))⟩

/-- PM_WAKE_INPUT (R375). -/
theorem pmWakeInput_nexts (d : Fin 96) (s : State) (i : Fin 8) (final : Bool) :
    let cfg := Reg.PM_WAKE_IN + 8 * i.val
    let only := s.setInput i.val true
    (s.regBit cfg 8 = false → Nexts (.pmWakeInput i ⟨true, final⟩) s only) ∧
    (s.regBit cfg 8 = true → s.regBits cfg 6 0 = d.val →
      let seen := s.regBit cfg 7 = false ∨ i.val ∉ s.pm.inputs
      (seen → final = false ∨ (s.dom d.val).entering = none → Nexts (.pmWakeInput i ⟨true, final⟩) s (s.keep (only.wakeDom d.val))) ∧
      (¬ seen ∨ (final = true ∧ (s.dom d.val).entering ≠ none) → Nexts (.pmWakeInput i ⟨true, final⟩) s only)) ∧
    Nexts (.pmWakeInput i ⟨false, final⟩) s (s.setInput i.val false) := by
  intro cfg only
  have hop := wakeInput_high i.val final s
  refine ⟨fun he => Nexts.of_keep rfl ?_, fun he hd => ⟨fun hs hf => Nexts.of_keep rfl ?_, fun hn => Nexts.of_keep rfl ?_⟩, ?_⟩
  · exact congrArg s.keep (hop.trans (if_neg fun h => Bool.false_ne_true (he.symm.trans h.1)))
  · exact congrArg s.keep ((hop.trans (if_pos ⟨he, hs, lt_of_eq_of_lt hd d.isLt, hd ▸ hf⟩)).trans (by rw [hd]))
  · refine congrArg s.keep (hop.trans (if_neg ?_))
    rintro ⟨-, hs, -, hf⟩
    rcases hn with hn | ⟨hn, he⟩
    · exact hn hs
    · rcases hf with hf | hf
      · exact absurd (hn.symm.trans hf) (by decide)
      · exact he (hd ▸ hf)
  · exact Nexts.of_keep rfl (congrArg s.keep (wakeInput_low i.val final s))

/-- Settles O55: wake sources, the end of a wake, wake inputs, debug holds, status reads and the timeout of a wake. -/
theorem domainWakes : Obligations.DomainWakes := by
  refine ⟨fun d s => ⟨domainWake_ends d s, fun hd hf => ?_, fun hw => ?_, fun hw => ?_, pmWakeInput_nexts d s, ?_, fun hr => ?_, fun ho => ?_⟩,
    fun d s => ⟨fun hw => ?_, fun hw hr => ?_, fun hw hr => ⟨?_, mem_fenceReq_askFence d.val _⟩⟩⟩
  · exact ⟨wakeDom_sleeping hd hf, wakeDom_entering_active hd hf, wakeDom_entering_asleep hd hf, wakeDom_awake hd hf⟩
  · exact Ends.of_clocked rfl (if_neg (by simp [hw]))
  · exact Ends.of_clocked rfl (wakeOver_waking hw)
  · exact Nexts.of_keep rfl (congrArg s.keep (dbgHoldOp_release d.val s))
  · have hop := dbgHoldOp_held (d := d.val) hr
    exact ⟨fun he => Nexts.of_keep rfl (congrArg s.keep (hop.trans (if_neg (by simp [he])))),
      fun he => Nexts.of_keep rfl (congrArg s.keep (hop.trans (if_pos (Option.isSome_iff_ne_none.2 he))))⟩
  · exact Nexts.of_keep rfl (congrArg s.keep (domStatRead_open ho))
  · exact Ends.of_clocked rfl (wakeTimeoutOp_idle hw)
  · exact Ends.of_clocked rfl (wakeTimeoutOp_first hw hr)
  · exact Ends.of_clocked rfl (wakeTimeoutOp_second hw hr)

end Sys2Proof.Machine

/-! ## Commands that find Ibex ready, and the outcomes of engine operations -/

namespace Sys2Proof.Machine

open State

/-! ### Engine operations -/

/-- What an operation leaves is known once its answer, its failure and its wait are. -/
theorem State.eq_after {α : Type} {x : Except Stop α × State} {ok : α → State → State} {fail : Nat → State → State} {u : State}
    (hok : ∀ a t, x = (.ok a, t) → u = ok a t) (hfail : ∀ st t, x = (.error (.fail st), t) → u = fail st t)
    (hwait : ∀ t, x = (.error .wait, t) → u = t) : u = After x ok fail := by
  obtain ⟨(st | _) | a, t⟩ := x
  · exact hfail st t rfl
  · exact hwait t rfl
  · exact hok a t rfl

/-! ### A command that finds Ibex ready -/

/-- A command of the batcher finds an awake Ibex without a poisoned line as it is. -/
theorem State.inIbex_ready (f : State → State) {s : State} (h : s.IbexReady) : s.inIbex f = f s := by
  obtain ⟨⟨hst, he⟩, hp⟩ := h
  have hf : s.findTableErrors = s := if_pos (by simpa [or_comm] using hp)
  rw [inIbex, atIbex, touch_awake hst he, hf, ite_self]

/-- A command that the divided clocks drive, with what it keeps worked out. -/
theorem Nexts.of_clocked {c : Instr} {s t u : State} (h : exec c s = .next (s.whenClocked (s.keep t))) (ht : s.keep t = u) : Nexts c s u :=
  fun hs => by rw [h, whenClocked_running hs, ht]

/-- A command of the batcher that finds Ibex ready, with what it does worked out. -/
theorem Ends.of_inIbex {c : Instr} {s u : State} {f : State → State} (h : exec c s = .next (s.whenClocked (s.done (s.inIbex f))))
    (hs : s.IbexReady) (hf : f s = u) : Ends c s u :=
  Ends.of_clocked h ((inIbex_ready f hs).trans hf)

end Sys2Proof.Machine

/-! ## A step and the timestamp (O1) -/

namespace Sys2Proof.Machine

namespace State

/-! ### Nanoseconds in a row -/

/-- Two nanoseconds of a backward correction advance the timestamp once (R314). -/
theorem nanosecond_nanosecond_of_slew {s : State} (h : 2 ≤ s.slew) :
    s.nanosecond.nanosecond = { s with slew := s.slew - 2, now := s.now + 1 } := by
  have h0 : s.slew ≠ 0 := by omega
  have h1 : s.slew - 1 ≠ 0 := by omega
  rcases Nat.mod_two_eq_zero_or_one s.slew with he | ho
  · have h2 : (s.slew - 1) % 2 = 1 := by omega
    simp [nanosecond, h0, h1, he, h2, Nat.sub_sub]
  · have h2 : (s.slew - 1) % 2 = 0 := by omega
    simp [nanosecond, h0, h1, ho, h2, Nat.sub_sub]

/-- The nanoseconds of a cycle of the timestamp's clock, one after the other. -/
def nanoseconds (n : Nat) (s : State) : State := (List.range n).foldl (fun s _ => s.nanosecond) s

theorem nanoseconds_succ (n : Nat) (s : State) : s.nanoseconds (n + 1) = (s.nanoseconds n).nanosecond := by
  rw [nanoseconds, List.range_succ, List.foldl_append]
  rfl

theorem nanoseconds_straight (n : Nat) {s : State} (h : s.slew = 0) : s.nanoseconds n = { s with now := s.now + n } := by
  induction n with
  | zero => rfl
  | succ n ih => rw [nanoseconds_succ, ih, nanosecond, if_pos h, Nat.add_assoc]

theorem nanoseconds_slewing (k : Nat) {s : State} (h : 2 * k ≤ s.slew) :
    s.nanoseconds (2 * k) = { s with slew := s.slew - 2 * k, now := s.now + k } := by
  induction k with
  | zero => rfl
  | succ k ih =>
    have hs : 2 ≤ s.slew - 2 * k := by omega
    rw [Nat.mul_succ, nanoseconds_succ, nanoseconds_succ, ih (by omega), nanosecond_nanosecond_of_slew hs]
    simp only [Nat.sub_sub, Nat.add_assoc]

theorem tick_locked {s : State} (h : s.ck.pll = .locked) : s.tick = s.nanosecond := if_pos h

/-- A cycle of refclk/4 is 40 nanoseconds (R363). -/
theorem tick_unlocked {s : State} (h : s.ck.pll ≠ .locked) : s.tick = s.nanoseconds 40 := if_neg h

end State

open State

theorem step_of_empty {s : State} (h : s.pending = []) : step s = .next s.tick := by rw [step, h]

theorem step_of_front {c : Instr} {rest : List Instr} {s : State} (h : s.pending = c :: rest) :
    step s = exec c { s with pending := rest } := by rw [step, h]

/-- Settles O1: the command in front runs, every command keeps the queue, and an empty queue lets a cycle pass. -/
theorem stepTakesTheFront : Obligations.StepTakesTheFront := by
  refine ⟨fun c rest s h => step_of_front h, exec_keeps_queue, fun s h => ?_⟩
  rw [step_of_empty h]
  refine ⟨fun hl => ?_, fun hl => ?_⟩
  · rw [tick_locked hl]
    refine ⟨fun h0 => congrArg _ (if_pos h0), fun h0 he => congrArg _ ((if_neg h0).trans (if_pos he)), fun ho => congrArg _ ?_⟩
    exact (if_neg (by omega)).trans (if_neg (by omega))
  · rw [tick_unlocked hl]
    exact ⟨fun h0 => congrArg _ (nanoseconds_straight 40 h0), fun h40 => congrArg _ (nanoseconds_slewing 20 h40)⟩

end Sys2Proof.Machine

/-! ## Token records and the ends of requests (O23) -/

namespace Sys2Proof.Machine

open State

namespace State

/-! ### Token records (R153, R155) -/

/-- The bytes of a record that carry its phase are written, and it is done once all its writes are performed. -/
def writeFlag (r : Nat) (b : BReq) (t : TokRec) (s : State) : State :=
  After ((engWrite (reqWho b (.token r)) (recordAddr b t + 8) (leBytes 8 (leNat ((t.bytes.drop 8).take 8) + b2n b.phase * 2 ^ 63))).exec s)
    (fun _ u => if (u.postedOf (.token r)).1 = 0 then u.recordDone r b t else u.setBReq r { b with stage := 2 })
    (fun st u => u.recordFailed r st)

/-- The other bytes of a record are written, and those that carry its phase once they are performed. -/
def writeBody (r : Nat) (b : BReq) (t : TokRec) (s : State) : State :=
  After ((do engWrite (reqWho b (.token r)) (recordAddr b t) (t.bytes.take 8)
             engWrite (reqWho b (.token r)) (recordAddr b t + 16) (t.bytes.drop 16) : M Unit).exec s)
    (fun _ u =>
      let v := u.setBReq r { b with stage := 1 }
      if (v.postedOf (.token r)).1 = 0 then v.writeFlag r b t else v)
    (fun st u => u.recordFailed r st)

section
variable {r : Nat} {s : State} {b : BReq} {t : TokRec} {rest : List TokRec} (hb : s.bReq? r = some b) (hr : b.recs = t :: rest)
include hb hr

theorem tokenWrite_outstanding (hn : (s.postedOf (.token r)).1 ≠ 0) : s.tokenWrite r = s := by
  simp [tokenWrite, hb, hr, hn]

variable (hp : b.parked = false) (hc : b.closing = none) (hf : ringFull b = false)
include hp hc hf

theorem tokenWrite_failed {st : Nat} (hn : s.postedOf (.token r) = (0, some st)) : s.tokenWrite r = s.recordFailed r st := by
  simp [tokenWrite, hb, hr, hp, hc, hf, hn]

/-- A record whose earlier writes are performed goes on with its stage. -/
theorem tokenWrite_performed (hn : s.postedOf (.token r) = (0, none)) :
    s.tokenWrite r = if b.stage = 2 then s.recordDone r b t else if b.stage = 1 then s.writeFlag r b t else s.writeBody r b t := by
  -- With the request taken apart, its guards hold by computation and no update of a field is rewritten.
  cases b
  cases hr
  cases hp
  cases hc
  simp only [tokenWrite, hb, hf, hn]
  refine (if_neg (by decide)).trans (ite_congr rfl (fun _ => rfl) fun _ => ite_congr rfl (fun _ => ?flag) fun _ => ?body)
  case flag => exact eq_after (fun _ _ h => by rw [h]) (fun _ _ h => by rw [h]) (fun _ h => by rw [h])
  case body =>
    refine eq_after (fun _ u h => ?_) (fun _ _ h => by rw [h]) (fun _ h => by rw [h])
    rw [h]
    refine ite_congr rfl (fun _ => ?_) (fun _ => rfl)
    exact eq_after (fun _ _ h => by rw [h]) (fun _ _ h => by rw [h]) (fun _ h => by rw [h])

end

/-! ### The head word of a ring (R31, R154) -/

/-- What the end of a read of a ring's head word leaves: a failed one closes the request (log entry 62). -/
def headOutcome (r : Nat) (b : BReq) : Except Stop (List Byte) × State → State
  | (.error .wait, s) => s.setBReq r { b with reading := true }
  | (.error (.fail st), s) => ((s.forget (.head r)).setBReq r { b with reading := false }).closeNow r st
  | (.ok bs, s) =>
    let b' : BReq := { b with lastHead := leNat (bs.take 4), reading := false }
    let u := (s.forget (.head r)).setBReq r b'
    if ringFull b' = false then u.setBReq r { b' with pollDue := none }
    else
      let c : BReq := { b' with pollDue := some (u.now + 1000 * max 1 (u.regBits Reg.BT_CTRL 63 48)) }
      let y := u.setBReq r c
      if (y.rState r = RUNNING ∨ y.rState r = WAITING) ∧ needHead c = true then
        ((y.leaveRunning r HELD).bump Reg.BT_STAT_HELD).dueClose r
      else y

section
variable {r : Nat} {s : State} {b : BReq} (hb : s.bReq? r = some b)
include hb

theorem headRead_reading (hp : b.parked = false) (hc : b.closing = none) (hr : b.reading = true) :
    s.headRead r = headOutcome r b ((engRead (reqWho b (.head r)) b.headAddr 8).exec s) := by
  simp only [headRead, hb]
  refine (if_neg (by simp [hp, hc, hr])).trans ?_
  rcases (engRead (reqWho b (.head r)) b.headAddr 8).exec s with ⟨(st | _) | bs, t⟩
  · rfl
  · rfl
  · exact ite_congr (by simp) (fun _ => rfl) (fun _ => rfl)

theorem pollExpiry_held (hs : s.rState r = HELD) (hd : b.pollDue ≠ none) (hp : b.parked = false) :
    s.pollExpiry r = s.setBReq r { b with reading := true } := by
  simp only [pollExpiry, hb]
  exact if_pos ⟨hs, Option.isSome_iff_ne_none.2 hd, by simp [hp]⟩

end

/-! ### The ends of requests (R133, R142, R143, R164, R316) -/

/-- A request whose completion has been given leaves Ibex and the batcher. -/
def closeOut (r : Nat) (s : State) : State :=
  (((if s.inStep r = true then s.unpinRequest r else s).ibClose r).modBt fun t => { t with reqs := Map.erase r t.reqs }).wakeOpen

/-- The end of a request is recorded. -/
def closeEvent (r st : Nat) (b : BReq) (s : State) : State := s.rpEvent 0x0A 0 r (w64 st ||| fld b.lastEnd 8) (w64 b.total) none

/-- The completion entry of a request whose OPEN_REQUEST is gone. -/
def detachedEntry (b : BReq) (status : Nat) : CqEntry :=
  { status := status, slot := none, cmdId := dCmdId b.desc, result := openResult b, irq := dIrq b.desc, detached := true }

section
variable {r : Nat} {s : State} {b : BReq} (hb : s.bReq? r = some b)
include hb

theorem requestClose_attached {st id : Nat} (hc : b.closing = some st) (hw : b.work = some id) :
    s.requestClose r = ((s.closeEvent r st b).endWork id st (openResult b)).closeOut r := by
  simp only [requestClose, hb, hc, hw]
  rfl

theorem requestClose_detached {st : Nat} (hc : b.closing = some st) (hw : b.work = none) :
    let x := (s.closeEvent r st b).signalAt b.desc b.ctx (some b.q) st b.noSig
    s.requestClose r =
      (if (x.2.queue b.q).st = .disabled ∨ (dQuiet b.desc = true ∧ x.1 = 0) then x.2
       else x.2.deferEntry b.q (detachedEntry b x.1)).closeOut r := by
  simp only [requestClose, hb, hc, hw]
  rfl

theorem deadline_passes (hd : b.deadline ≠ 0) (hr : s.rp.replaying = false) :
    s.deadline r = s.endRequest r St.DEADLINE_EXCEEDED := by
  simp only [deadline, hb]
  exact if_neg (by simp [hd, hr])

theorem dueClose_ending {st : Nat} (he : b.ending = some st) (hst : st ≠ St.DEADLINE_EXCEEDED) : s.dueClose r = s.beginClose r st := by
  simp only [dueClose, hb, he]
  exact if_neg fun h => hst h.1

end

/-- A request that is to end carries the first status with which it was to. -/
def markEnding (r st : Nat) (s : State) : State := s.updBReq r fun b => { b with ending := b.ending.orElse fun _ => some st }

theorem endRequest_eq (r st : Nat) (s : State) :
    let u := s.markEnding r st
    s.endRequest r st =
      if !(u.inStep r && decide (u.rState r = RUNNING)) then u.dueClose r
      else if decide ((u.bReq? r).bind (·.ending) = some St.DEADLINE_EXCEEDED) && u.rowsStuck then (u.leaveStep r).dueClose r
      else u := rfl

section
variable {r st : Nat} {s : State}

theorem endRequest_out_of_step (h : (s.markEnding r st).inStep r = false ∨ (s.markEnding r st).rState r ≠ RUNNING) :
    s.endRequest r st = (s.markEnding r st).dueClose r := by
  rw [endRequest_eq, if_pos]
  rcases h with h | h <;> simp [h]

/-- A request that runs in a step waits for its row there, as long as a Springbok is left to sample it (R143, R161). -/
theorem endRequest_in_step (hi : (s.markEnding r st).inStep r = true) (hr : (s.markEnding r st).rState r = RUNNING)
    (hs : (s.markEnding r st).rowsStuck = false) : s.endRequest r st = s.markEnding r st := by
  rw [endRequest_eq, if_neg (by simp [hi, hr]), if_neg (by simp [hs])]

end

end State

/-- Settles O23: the stages of a token record, the head word and its poll, and the ends of requests. -/
theorem tokensAndCloses : Obligations.TokensAndCloses := by
  refine ⟨⟨fun r s b t rest hs hb hr hp hc hf => ?_, fun r s b hs hb hp hc hr => ?_, fun r s b hs hb hh hd hp => ?_⟩,
    fun r s b st hs hb hc => ⟨fun id hw => ?_, fun hw => ⟨fun hq => ?_, fun hq hn => ?_⟩⟩, fun r s b hs hb hd hr => ?_,
    fun r st s => ⟨endRequest_out_of_step, endRequest_in_step⟩, fun r st s b hb he hst => dueClose_ending hb he hst⟩
  · refine ⟨fun hn => Ends.of_inIbex rfl hs (tokenWrite_outstanding hb hr hn),
      fun st hn => Ends.of_inIbex rfl hs (tokenWrite_failed hb hr hp hc hf hn), fun hn => ?_⟩
    have hw := tokenWrite_performed hb hr hp hc hf hn
    refine ⟨fun h0 => Ends.of_inIbex rfl hs (hw.trans ?_), fun h1 => Ends.of_inIbex rfl hs (hw.trans ?_),
      fun h2 => Ends.of_inIbex rfl hs (hw.trans (if_pos h2))⟩
    · exact (if_neg (by omega)).trans (if_neg (by omega))
    · exact (if_neg (by omega)).trans (if_pos h1)
  · exact Ends.of_inIbex rfl hs (headRead_reading hb hp hc hr)
  · exact Nexts.of_clocked rfl (congrArg s.keep ((inIbex_ready _ hs).trans (pollExpiry_held hb hh hd hp)))
  · exact Ends.of_inIbex rfl hs (requestClose_attached hb hc hw)
  · exact Ends.of_inIbex rfl hs ((requestClose_detached hb hc hw).trans (congrArg (closeOut r.toNat) (if_pos hq)))
  · refine Ends.of_inIbex rfl hs ((requestClose_detached hb hc hw).trans (congrArg (closeOut r.toNat) (if_neg ?_)))
    exact not_or.2 ⟨hq, fun h => hn.elim (fun h0 => Bool.false_ne_true (h0.symm.trans h.1)) fun h0 => h0 h.2⟩
  · exact Ends.of_inIbex rfl hs (deadline_passes hb hd hr)

end Sys2Proof.Machine

/-! ## Codes of the float formats (O14, O15) -/

namespace Sys2Proof.Machine

/-! ### Exact values (R79, R88, R89) -/

/-- The fraction of ±m × 2^e, as numerator and denominator. -/
def dyadicParts (m : Nat) (e : Int) : Nat × Nat := (m * 2 ^ e.toNat, 2 ^ (-e).toNat)

theorem Num.dyadic_eq (neg : Bool) (m : Nat) (e : Int) :
    Num.dyadic neg m e = .fin neg (dyadicParts m e).1 (dyadicParts m e).2 := by
  unfold Num.dyadic dyadicParts
  split
  next h =>
    have h0 : e.toNat = 0 := by omega
    have h1 : (-e).toNat = e.natAbs := by omega
    rw [h0, h1, Nat.pow_zero, Nat.mul_one]
  next h =>
    have h0 : (-e).toNat = 0 := by omega
    rw [h0, Nat.pow_zero]

/-- A quotient without remainder is rounded nowhere, in no mode. -/
theorem roundInt_exact {rm : RMode} (hrm : ∀ d, rm = .stochastic d → d < 2 ^ 32) (k : Nat) {d : Nat} (hd : 0 < d) :
    roundInt rm (k * d) d = k := by
  have hq : k * d / d = k := Nat.mul_div_cancel k hd
  have hr : k * d % d = 0 := Nat.mul_mod_left k d
  cases rm with
  | even => simp only [roundInt, hq, hr]; exact if_neg (by omega)
  | zero => exact hq
  | stochastic draw =>
    have hdraw : draw < 2 ^ 32 := hrm draw rfl
    simp only [roundInt, hq, hr, Nat.zero_mul, Nat.zero_div, Nat.zero_add]
    exact if_neg (by omega)

theorem ilog_two_pow {n : Nat} (hn : n ≠ 0) (b : Nat) : ilog n (2 ^ b) = (Nat.log2 n : Int) - b := by
  have hlog : 2 ^ Nat.log2 n ≤ n := Nat.log2_self_le hn
  have hge : (if (Nat.log2 n : Int) - b < 0 then decide (2 ^ b ≤ n * 2 ^ ((Nat.log2 n : Int) - b).natAbs)
      else decide (2 ^ b * 2 ^ ((Nat.log2 n : Int) - b).toNat ≤ n)) = true := by
    split
    next h =>
      have hb : b = Nat.log2 n + ((Nat.log2 n : Int) - b).natAbs := by omega
      exact decide_eq_true (calc
        2 ^ b = 2 ^ Nat.log2 n * 2 ^ ((Nat.log2 n : Int) - b).natAbs := by rw [← Nat.pow_add, ← hb]
        _ ≤ _ := Nat.mul_le_mul_right _ hlog)
    next h =>
      have hb : b + ((Nat.log2 n : Int) - b).toNat = Nat.log2 n := by omega
      exact decide_eq_true (by rw [← Nat.pow_add, hb]; exact hlog)
  simp only [ilog, Nat.log2_two_pow]
  exact if_pos hge

theorem mul_two_pow_ne_zero {m : Nat} (hm : m ≠ 0) (a : Nat) : m * 2 ^ a ≠ 0 := Nat.mul_ne_zero hm (Nat.ne_of_gt (Nat.two_pow_pos a))

theorem log2_mul_two_pow {m : Nat} (hm : m ≠ 0) (a : Nat) : Nat.log2 (m * 2 ^ a) = Nat.log2 m + a := by
  rw [Nat.log2_eq_iff (mul_two_pow_ne_zero hm a), Nat.add_right_comm, Nat.pow_add, Nat.pow_add]
  exact ⟨Nat.mul_le_mul_right _ (Nat.log2_self_le hm), Nat.mul_lt_mul_of_pos_right Nat.lt_log2_self (Nat.two_pow_pos a)⟩

theorem ilog_dyadic {m : Nat} (hm : m ≠ 0) (e : Int) :
    ilog (dyadicParts m e).1 (dyadicParts m e).2 = (Nat.log2 m : Int) + e := by
  rw [dyadicParts, ilog_two_pow (mul_two_pow_ne_zero hm _), log2_mul_two_pow hm]
  omega

/-! ### Codes of a float format (R78, R79, R81) -/

namespace FFmt

variable {f : FFmt} {rm : RMode} {c : Nat}

/-- A code is its sign bit above its magnitude code. -/
theorem sign_add_magnitude (hc : c < 2 ^ (1 + f.eb + f.mb)) : f.sign (c.testBit (f.eb + f.mb)) + c % 2 ^ (f.eb + f.mb) = c := by
  rw [Nat.add_assoc, Nat.pow_add] at hc
  have hlt : c / 2 ^ (f.eb + f.mb) < 2 := (Nat.div_lt_iff_lt_mul (Nat.two_pow_pos _)).2 hc
  have hdiv : 2 ^ (f.eb + f.mb) * (c / 2 ^ (f.eb + f.mb)) + c % 2 ^ (f.eb + f.mb) = c := Nat.div_add_mod _ _
  rw [sign, Nat.testBit_eq_decide_div_mod_eq]
  rcases Nat.lt_succ_iff_lt_or_eq.1 hlt with h | h
  · rw [Nat.lt_one_iff.1 h] at hdiv ⊢
    simpa using hdiv
  · rw [h] at hdiv ⊢
    simpa using hdiv

/-- A value whose last place is the format's at its magnitude has its own significand as its last digits. -/
theorem roundCode_dyadic (hrm : ∀ d, rm = .stochastic d → d < 2 ^ 32) {m : Nat} (hm : m ≠ 0) {e : Int}
    (he : max ((Nat.log2 m : Int) + e) (1 - (f.bias : Int)) = e + f.mb) :
    f.roundCode rm (dyadicParts m e).1 (dyadicParts m e).2 = (e + f.mb + f.bias - 1).toNat * 2 ^ f.mb + m := by
  have hn : (dyadicParts m e).1 ≠ 0 := mul_two_pow_ne_zero hm _
  have hqe : e + f.mb - f.mb = e := by omega
  simp only [roundCode, if_neg hn, ilog_dyadic hm, he, hqe]
  congr 1
  split
  next h =>
    have h0 : e.toNat = 0 := by omega
    have h1 : (-e).toNat = e.natAbs := by omega
    simp only [dyadicParts, h0, h1, Nat.pow_zero, Nat.mul_one]
    exact roundInt_exact hrm m (Nat.two_pow_pos _)
  next h =>
    have h0 : (-e).toNat = 0 := by omega
    simp only [dyadicParts, h0, Nat.pow_zero, Nat.one_mul]
    exact roundInt_exact hrm m (Nat.two_pow_pos _)

/-- A subnormal value's code is its significand. -/
theorem roundCode_subnormal (hrm : ∀ d, rm = .stochastic d → d < 2 ^ 32) {m : Nat} (hm : m < 2 ^ f.mb) :
    let p := dyadicParts m (1 - (f.bias : Int) - f.mb)
    f.roundCode rm p.1 p.2 = m := by
  rcases Nat.eq_zero_or_pos m with rfl | hpos
  · simp [roundCode, dyadicParts]
  · have hne : m ≠ 0 := Nat.ne_of_gt hpos
    have hlog : Nat.log2 m < f.mb := (Nat.log2_lt hne).2 hm
    have h := roundCode_dyadic (f := f) hrm hne (e := 1 - (f.bias : Int) - f.mb) (by omega)
    have h0 : (1 - (f.bias : Int) - f.mb + f.mb + f.bias - 1).toNat = 0 := by omega
    simpa only [h0, Nat.zero_mul, Nat.zero_add] using h

theorem roundCode_normal (hrm : ∀ d, rm = .stochastic d → d < 2 ^ 32) {ef mf : Nat} (hef : ef ≠ 0) (hmf : mf < 2 ^ f.mb) :
    let p := dyadicParts (2 ^ f.mb + mf) ((ef : Int) - f.bias - f.mb)
    f.roundCode rm p.1 p.2 = ef * 2 ^ f.mb + mf := by
  have hm : 2 ^ f.mb + mf ≠ 0 := Nat.ne_of_gt (Nat.add_pos_left (Nat.two_pow_pos _) mf)
  have hlog : Nat.log2 (2 ^ f.mb + mf) = f.mb := by
    rw [Nat.log2_eq_iff hm, Nat.pow_succ]
    omega
  have h := roundCode_dyadic (f := f) hrm hm (e := (ef : Int) - f.bias - f.mb) (by omega)
  have h0 : ((ef : Int) - f.bias - f.mb + f.mb + f.bias - 1).toNat = ef - 1 := by omega
  obtain ⟨k, rfl⟩ := Nat.exists_eq_succ_of_ne_zero hef
  rw [h0, Nat.succ_sub_one, ← Nat.add_assoc, ← Nat.succ_mul] at h
  exact h

/-- The significand and exponent of a magnitude code. -/
def parts (f : FFmt) (x : Nat) : Nat × Int :=
  if x / 2 ^ f.mb = 0 then (x % 2 ^ f.mb, 1 - (f.bias : Int) - f.mb)
  else (2 ^ f.mb + x % 2 ^ f.mb, ((x / 2 ^ f.mb : Nat) : Int) - f.bias - f.mb)

/-- The code of a magnitude code's value is that code. -/
theorem roundCode_parts (hrm : ∀ d, rm = .stochastic d → d < 2 ^ 32) (x : Nat) :
    f.roundCode rm (dyadicParts (f.parts x).1 (f.parts x).2).1 (dyadicParts (f.parts x).1 (f.parts x).2).2 = x := by
  have hmf : x % 2 ^ f.mb < 2 ^ f.mb := Nat.mod_lt _ (Nat.two_pow_pos _)
  have hx : x / 2 ^ f.mb * 2 ^ f.mb + x % 2 ^ f.mb = x := Nat.div_add_mod' _ _
  unfold parts
  split
  next h =>
    have h0 : x % 2 ^ f.mb = x := by rw [h] at hx; omega
    exact (roundCode_subnormal hrm hmf).trans h0
  next h => exact (roundCode_normal hrm h hmf).trans hx

/-- What a code is: an infinity or a NaN in the format's top codes, and a value of magnitude up to the largest elsewhere. -/
theorem decode_cases (f : FFmt) (c : Nat) :
    let neg := c.testBit (f.eb + f.mb)
    let x := c % 2 ^ (f.eb + f.mb)
    f.decode c = .inf neg ∨ f.decode c = .nan neg ∨
      (f.decode c = .dyadic neg (f.parts x).1 (f.parts x).2 ∧ x ≤ f.maxCode) := by
  intro neg x
  have hx : x < 2 ^ (f.eb + f.mb) := Nat.mod_lt _ (Nat.two_pow_pos _)
  simp only [decode]
  split
  next h =>
    split
    · exact .inl rfl
    · exact .inr (.inl rfl)
  next hinf =>
    split
    · exact .inr (.inl rfl)
    next htop =>
      refine .inr (.inr ⟨?_, ?_⟩)
      · unfold parts; split <;> rfl
      · simp only [Bool.and_eq_true, decide_eq_true_eq, not_and] at hinf htop
        unfold maxCode
        split
        next hi =>
          have hne : x / 2 ^ f.mb ≠ 2 ^ f.eb - 1 := hinf hi
          have hlt : x / 2 ^ f.mb < 2 ^ f.eb := by
            rwa [Nat.div_lt_iff_lt_mul (Nat.two_pow_pos _), ← Nat.pow_add]
          have : x < (2 ^ f.eb - 1) * 2 ^ f.mb := (Nat.div_lt_iff_lt_mul (Nat.two_pow_pos _)).1 (by omega)
          omega
        next hi =>
          split
          next ht => have : x ≠ 2 ^ (f.eb + f.mb) - 1 := htop ht; omega
          · omega

/-- A finite code survives decoding and encoding (R78, R79, R81, R88). -/
theorem encode_decode (hrm : ∀ d, rm = .stochastic d → d < 2 ^ 32) (sat : Bool) (hc : c < 2 ^ (1 + f.eb + f.mb))
    (hfin : (f.decode c).isFin = true) : f.encode rm sat (f.decode c) = (c, false) := by
  rcases f.decode_cases c with h | h | ⟨h, hmax⟩
  · simp [h, Num.isFin] at hfin
  · simp [h, Num.isFin] at hfin
  · rw [h, Num.dyadic_eq]
    simp only [encode, roundCode_parts hrm, if_pos hmax, sign_add_magnitude hc]

theorem encode_nan (f : FFmt) (rm : RMode) (sat neg : Bool) : (f.encode rm sat (.nan neg)).1 = f.sign neg + f.nanCode := rfl

/-- A NaN code keeps its sign alone. -/
theorem decode_nan (hc : c < 2 ^ (1 + f.eb + f.mb)) (hnan : (f.decode c).isNan = true) :
    f.decode c = .nan (decide (2 ^ (f.eb + f.mb) ≤ c)) := by
  have hneg : c.testBit (f.eb + f.mb) = decide (2 ^ (f.eb + f.mb) ≤ c) := by
    have h := sign_add_magnitude hc
    have hx : c % 2 ^ (f.eb + f.mb) < 2 ^ (f.eb + f.mb) := Nat.mod_lt _ (Nat.two_pow_pos _)
    cases hb : c.testBit (f.eb + f.mb) <;> simp only [hb, sign, if_true, Bool.false_eq_true, if_false] at h <;> simp <;> omega
  rw [← hneg]
  rcases f.decode_cases c with h | h | ⟨h, -⟩
  · simp [h, Num.isNan] at hnan
  · exact h
  · simp [h, Num.dyadic_eq, Num.isNan] at hnan

end FFmt

/-- Settles O14: the code of every finite value is the one it came from. -/
theorem floatFormatsRoundTrip : Obligations.FloatFormatsRoundTrip := fun _ _ sat _ _ hrm hc hfin => FFmt.encode_decode hrm sat hc hfin

/-- Settles O15: a decoded NaN carries its sign alone, and each format encodes it as its quiet NaN. -/
theorem quietNans : Obligations.QuietNans := by
  intro f c rm sat _ hc hnan
  rw [FFmt.decode_nan hc hnan]
  simp only [FFmt.encode_nan]
  by_cases h : 2 ^ (f.eb + f.mb) ≤ c
  · simp only [h, decide_true, if_true]; decide
  · simp only [h, decide_false, if_false]; decide

end Sys2Proof.Machine

/-! ## Blocks of the YXP code (O16, O17) -/

namespace Sys2Proof.Machine

/-! ### Slices of a number -/

namespace Yxp

theorem shiftRight_add_mul (a b w : Nat) (h : a < 2 ^ w) : (a + 2 ^ w * b) >>> w = b := by
  rw [Nat.shiftRight_eq_div_pow, Nat.add_mul_div_left _ _ (Nat.two_pow_pos w), Nat.div_eq_of_lt h, Nat.zero_add]

@[simp] theorem streamBits_nil : streamBits [] = 0 := rfl

theorem streamBits_eq_sum (fs : List (Nat × Nat)) : streamBits fs = (fs.map (·.2)).sum := by
  simp only [streamBits, sumOf, List.sum_eq_foldl, List.foldl_map]

@[simp] theorem streamBits_cons (x : Nat × Nat) (fs : List (Nat × Nat)) : streamBits (x :: fs) = x.2 + streamBits fs := by
  simp only [streamBits_eq_sum, List.map_cons, List.sum_cons]

@[simp] theorem streamBits_append (fs gs : List (Nat × Nat)) : streamBits (fs ++ gs) = streamBits fs + streamBits gs := by
  simp only [streamBits_eq_sum, List.map_append, List.sum_append]

theorem streamBits_map {α : Type} (f : α → Nat) (w : Nat) (l : List α) : streamBits (l.map fun a => (f a, w)) = w * l.length := by
  induction l with
  | nil => rfl
  | cons a l ih => simp only [List.map_cons, streamBits_cons, ih, List.length_cons, Nat.mul_succ, Nat.add_comm]

theorem streamNat_lt (fs : List (Nat × Nat)) : streamNat fs < 2 ^ streamBits fs := by
  induction fs with
  | nil => decide
  | cons x fs ih =>
    calc streamNat (x :: fs) < 2 ^ x.2 + 2 ^ x.2 * streamNat fs := Nat.add_lt_add_right (Nat.mod_lt _ (Nat.two_pow_pos _)) _
      _ = 2 ^ x.2 * (streamNat fs + 1) := by rw [Nat.mul_add_one, Nat.add_comm]
      _ ≤ 2 ^ x.2 * 2 ^ streamBits fs := Nat.mul_le_mul_left _ ih
      _ = 2 ^ streamBits (x :: fs) := by rw [streamBits_cons, Nat.pow_add]

theorem streamNat_append (fs gs : List (Nat × Nat)) : streamNat (fs ++ gs) = streamNat fs + 2 ^ streamBits fs * streamNat gs := by
  induction fs with
  | nil => simp [streamNat]
  | cons x fs ih => simp only [List.cons_append, streamNat, ih, streamBits_cons, Nat.pow_add, Nat.mul_add, Nat.mul_assoc, Nat.add_assoc]

/-- Past the fields in front stand the fields behind them. -/
theorem stream_skip {v off : Nat} {fs gs : List (Nat × Nat)} (h : v >>> off = streamNat (fs ++ gs)) :
    v >>> (off + streamBits fs) = streamNat gs := by
  rw [Nat.shiftRight_add, h, streamNat_append, shiftRight_add_mul _ _ _ (streamNat_lt fs)]

theorem stream_tail {v off x w : Nat} {fs : List (Nat × Nat)} (h : v >>> off = streamNat ((x, w) :: fs)) :
    v >>> (off + w) = streamNat fs := by simpa using stream_skip (fs := [(x, w)]) h

/-- The field in front is read at the place where the fields begin. -/
theorem take_front {v off x w : Nat} {fs : List (Nat × Nat)} (h : v >>> off = streamNat ((x, w) :: fs)) : take v off w = x % 2 ^ w := by
  rw [take, h, streamNat, Nat.add_mul_mod_self_left, Nat.mod_mod]

/-- A field among fields of one width. -/
theorem take_streamNat_map (f : Nat → Nat) (w : Nat) {l : List Nat} {i : Nat} (hi : i < l.length) :
    take (streamNat (l.map fun a => (f a, w))) (w * i) w = f l[i] % 2 ^ w := by
  have hsplit : l = l.take i ++ l[i] :: l.drop (i + 1) := by rw [List.getElem_cons_drop, List.take_append_drop]
  have hbits : streamBits ((l.take i).map fun a => (f a, w)) = w * i := by
    rw [streamBits_map, List.length_take, Nat.min_eq_left (Nat.le_of_lt hi)]
  have h : streamNat (l.map fun a => (f a, w)) >>> 0 =
      streamNat (((l.take i).map fun a => (f a, w)) ++ (f l[i], w) :: (l.drop (i + 1)).map fun a => (f a, w)) := by
    rw [Nat.shiftRight_zero]
    exact congrArg streamNat ((congrArg (List.map fun a => (f a, w)) hsplit).trans List.map_append)
  have hskip := stream_skip h
  rw [hbits, Nat.zero_add] at hskip
  exact take_front hskip

/-- The slices of a number, one behind the other, are the number again. -/
theorem streamNat_slices (w n v : Nat) : streamNat ((List.range n).map fun i => (v >>> (w * i), w)) = v % 2 ^ (w * n) := by
  induction n generalizing v with
  | zero => simp [streamNat, Nat.mod_one]
  | succ n ih =>
    have hshift (i : Nat) : v >>> (w * (i + 1)) = (v >>> w) >>> (w * i) := by rw [← Nat.shiftRight_add, Nat.mul_succ, Nat.add_comm]
    rw [List.range_succ_eq_map, List.map_cons, List.map_map]
    simp only [Function.comp_def, Nat.succ_eq_add_one, hshift, streamNat, ih, Nat.mul_zero, Nat.shiftRight_zero]
    rw [Nat.mul_succ, Nat.add_comm (w * n), Nat.pow_add, Nat.mod_mul, Nat.shiftRight_eq_div_pow]

end Yxp

/-! ### Bytes and numbers (R8) -/

@[simp] theorem length_leBytes (n v : Nat) : (leBytes n v).length = n := by simp [leBytes]

theorem leBytes_succ (n v : Nat) : leBytes (n + 1) v = BitVec.ofNat 8 v :: leBytes n (v >>> 8) := by
  simp only [leBytes, List.range_succ_eq_map, List.map_cons, List.map_map, Function.comp_def, Nat.mul_zero, Nat.shiftRight_zero,
    ← Nat.shiftRight_add, Nat.mul_succ, Nat.succ_eq_add_one, Nat.add_comm 8]

theorem leNat_leBytes (n v : Nat) : leNat (leBytes n v) = v % 2 ^ (8 * n) := by
  induction n generalizing v with
  | zero => simp [leBytes, leNat, Nat.mod_one]
  | succ n ih =>
    rw [leBytes_succ, leNat, ih, BitVec.toNat_ofNat, Nat.mul_succ, Nat.add_comm (8 * n), Nat.pow_add, Nat.mod_mul, Nat.shiftRight_eq_div_pow]

theorem leNat_leBytes_of_lt {n v : Nat} (h : v < 2 ^ (8 * n)) : leNat (leBytes n v) = v := by rw [leNat_leBytes, Nat.mod_eq_of_lt h]

theorem leBytes_leNat (bs : List Byte) : leBytes bs.length (leNat bs) = bs := by
  induction bs with
  | nil => rfl
  | cons b bs ih =>
    have hhead : BitVec.ofNat 8 (b.toNat + 256 * leNat bs) = b := BitVec.eq_of_toNat_eq (by simp [Nat.add_mul_mod_self_left, Nat.mod_eq_of_lt b.isLt])
    have htail : (b.toNat + 2 ^ 8 * leNat bs) >>> 8 = leNat bs := Yxp.shiftRight_add_mul _ _ _ b.isLt
    rw [List.length_cons, leBytes_succ, leNat, hhead]
    exact congrArg (b :: ·) ((congrArg (leBytes bs.length) htail).trans ih)

theorem leNat_append_zeros (bs : List Byte) (n : Nat) : leNat (bs ++ List.replicate n 0) = leNat bs := by
  induction bs with
  | nil =>
    induction n with
    | zero => rfl
    | succ n ih =>
      have hn : leNat (List.replicate n (0 : Byte)) = 0 := ih
      show 0 + 256 * leNat (List.replicate n (0 : Byte)) = 0
      rw [hn]
  | cons b bs ih => rw [List.cons_append, leNat, leNat, ih]

theorem leNat_lt (bs : List Byte) : leNat bs < 2 ^ (8 * bs.length) := by
  have h := leNat_leBytes bs.length (leNat bs)
  rw [leBytes_leNat] at h
  exact h ▸ Nat.mod_lt _ (Nat.two_pow_pos _)

theorem le_mul_ceilDiv (a : Nat) {b : Nat} (hb : 0 < b) : a ≤ b * ceilDiv a b := by
  have h := Nat.lt_mul_div_succ (a + b - 1) hb
  unfold ceilDiv
  rw [Nat.mul_succ] at h
  omega

namespace Yxp

/-! ### The element types (R101) -/

/-- How the fields of an element type fill its elements, the elements a block, and the signs and mantissas their plane. -/
structure Layout (ety : Nat) : Prop where
  elemBits : manBits ety + expBits ety + 1 = 8 * elemBytes ety
  expBits_le : expBits ety ≤ 8
  elems_eq : elems ety = 32 * groups ety
  block : elemBytes ety * elems ety = 4096
  plane : (manBits ety + 1) * elems ety = 8 * planeBytes ety

theorem layout_of_le {ety : Nat} (h : ety ≤ 4) : Layout ety := by
  obtain rfl | rfl | rfl | rfl | rfl : ety = 0 ∨ ety = 1 ∨ ety = 2 ∨ ety = 3 ∨ ety = 4 := by omega
  all_goals exact ⟨by decide, by decide, by decide, by decide, by decide⟩

/-! ### Elements and their parts (R102) -/

theorem smOf_lt (ety c : Nat) : smOf ety c < 2 ^ (manBits ety + 1) := by
  have hm : c % 2 ^ manBits ety < 2 ^ manBits ety := Nat.mod_lt _ (Nat.two_pow_pos _)
  unfold smOf
  rw [Nat.pow_succ]
  rcases Nat.mod_two_eq_zero_or_one (c >>> (manBits ety + expBits ety)) with h | h <;> rw [h] <;> omega

theorem expOf_lt (ety c : Nat) : expOf ety c < 2 ^ expBits ety := Nat.mod_lt _ (Nat.two_pow_pos _)

/-- The parts of an element are the element. -/
theorem elemOfParts_parts {ety c : Nat} (hc : c < 2 ^ (manBits ety + expBits ety + 1)) : elemOfParts ety (expOf ety c) (smOf ety c) = c := by
  have hm : c % 2 ^ manBits ety < 2 ^ manBits ety := Nat.mod_lt _ (Nat.two_pow_pos _)
  have hsign : c / 2 ^ (manBits ety + expBits ety) % 2 = c / 2 ^ (manBits ety + expBits ety) :=
    Nat.mod_eq_of_lt ((Nat.div_lt_iff_lt_mul (Nat.two_pow_pos _)).2 (by rwa [Nat.pow_succ, Nat.mul_comm] at hc))
  have hman : smOf ety c % 2 ^ manBits ety = c % 2 ^ manBits ety := by rw [smOf, Nat.add_mul_mod_self_right, Nat.mod_mod]
  have hhigh : smOf ety c / 2 ^ manBits ety = c / 2 ^ (manBits ety + expBits ety) := by
    rw [smOf, Nat.add_mul_div_right _ _ (Nat.two_pow_pos _), Nat.div_eq_of_lt hm, Nat.zero_add, Nat.shiftRight_eq_div_pow, hsign]
  have hlow : c % 2 ^ (manBits ety + expBits ety) = c % 2 ^ manBits ety + 2 ^ manBits ety * expOf ety c := by
    rw [Nat.pow_add, Nat.mod_mul, expOf, Nat.shiftRight_eq_div_pow]
  rw [elemOfParts, hman, hhigh, Nat.mul_comm (expOf ety c), ← hlow]
  exact Nat.mod_add_div' c _

theorem length_blockElems (ety : Nat) (bs : List Byte) : (blockElems ety bs).length = elems ety := by simp [blockElems]

theorem getElem_blockElems {ety i : Nat} (bs : List Byte) (hi : i < (blockElems ety bs).length) :
    (blockElems ety bs)[i] = leNat bs >>> (8 * elemBytes ety * i) % 2 ^ (8 * elemBytes ety) := by simp [blockElems]

/-- The elements put together again, each in its place, are the stream of their slices. -/
theorem foldr_slices (w : Nat) (f : Nat → Nat) (v : Nat) (l : List Nat) (h : ∀ i ∈ l, f i = v >>> (w * i) % 2 ^ w) :
    l.foldr (fun i acc => f i + acc * 2 ^ w) 0 = streamNat (l.map fun i => (v >>> (w * i), w)) := by
  induction l with
  | nil => rfl
  | cons i l ih =>
    obtain ⟨hi, hl⟩ := List.forall_mem_cons.1 h
    rw [List.foldr_cons, ih hl, hi, List.map_cons, streamNat, Nat.mul_comm (2 ^ w)]

/-! ### Groups (R102) -/

theorem groupOf_zflag (es : List Nat) : (groupOf es).zflag = es.any (· = 0) := by
  simp only [groupOf]
  split <;> rfl

theorem groupOf_dead {es : List Nat} (h : es.filter (· ≠ 0) = []) :
    groupOf es = { zflag := es.any (· = 0), base := 0, width := 0 } := by simp only [groupOf, h]

theorem groupOf_live {es rest : List Nat} {a : Nat} (h : es.filter (· ≠ 0) = a :: rest) :
    let lo := rest.foldl min a
    let hi := rest.foldl max a
    groupOf es = { zflag := es.any (· = 0), base := lo, width := if hi = lo then 0 else Nat.log2 (hi - lo) + 1 } := by simp only [groupOf, h]

theorem foldl_min_le {a e : Nat} {rest : List Nat} (h : e ∈ a :: rest) : rest.foldl min a ≤ e :=
  (List.le_min?_iff (xs := a :: rest) rfl).1 (Nat.le_refl _) e h

theorem le_foldl_max {a e : Nat} {rest : List Nat} (h : e ∈ a :: rest) : e ≤ rest.foldl max a :=
  (List.max?_le_iff (xs := a :: rest) rfl).1 (Nat.le_refl _) e h

/-- The base lies below every exponent but 0, and the offsets fit the width. -/
theorem groupOf_fits {es : List Nat} {e : Nat} (he : e ∈ es) (h0 : e ≠ 0) :
    (groupOf es).base ≤ e ∧ e - (groupOf es).base < 2 ^ (groupOf es).width := by
  have hmem : e ∈ es.filter (· ≠ 0) := List.mem_filter.2 ⟨he, decide_eq_true h0⟩
  rcases hl : es.filter (· ≠ 0) with _ | ⟨a, rest⟩
  · rw [hl] at hmem; cases hmem
  · rw [hl] at hmem
    rw [groupOf_live hl]
    have hhi := le_foldl_max hmem
    refine ⟨foldl_min_le hmem, ?_⟩
    dsimp only
    split
    · simp only [Nat.pow_zero]; omega
    · exact Nat.lt_of_le_of_lt (Nat.sub_le_sub_right hhi _) Nat.lt_log2_self

/-- The base and the width of a group need no more bits than its exponents. -/
theorem groupOf_bounds {es : List Nat} {b : Nat} (h : ∀ e ∈ es, e < 2 ^ b) : (groupOf es).base < 2 ^ b ∧ (groupOf es).width ≤ b := by
  rcases hl : es.filter (· ≠ 0) with _ | ⟨a, rest⟩
  · rw [groupOf_dead hl]
    exact ⟨Nat.two_pow_pos b, Nat.zero_le _⟩
  · have hlive : ∀ e ∈ a :: rest, e < 2 ^ b := fun e he => h e ((List.mem_filter.1 (hl ▸ he)).1)
    have hhi : rest.foldl max a < 2 ^ b := hlive _ (List.max?_mem (xs := a :: rest) rfl)
    have hle : rest.foldl min a ≤ rest.foldl max a := Nat.le_trans (foldl_min_le List.mem_cons_self) (le_foldl_max List.mem_cons_self)
    rw [groupOf_live hl]
    refine ⟨Nat.lt_of_le_of_lt hle hhi, ?_⟩
    dsimp only
    split
    · exact Nat.zero_le _
    · exact (Nat.log2_lt (by omega)).2 (by omega)

/-- The mask of the first `n` indices that satisfy `p`. -/
def maskOf (p : Nat → Bool) (n : Nat) : Nat := (List.range n).foldl (fun m i => if p i then m + 2 ^ i else m) 0

theorem maskOf_succ (p : Nat → Bool) (n : Nat) : maskOf p (n + 1) = if p n then maskOf p n + 2 ^ n else maskOf p n := by
  rw [maskOf, List.range_succ, List.foldl_append]
  rfl

theorem maskOf_lt (p : Nat → Bool) (n : Nat) : maskOf p n < 2 ^ n := by
  induction n with
  | zero => exact Nat.one_pos
  | succ n ih => rw [maskOf_succ, Nat.pow_succ]; split <;> omega

theorem testBit_maskOf (p : Nat → Bool) (n i : Nat) : (maskOf p n).testBit i = (decide (i < n) && p i) := by
  induction n with
  | zero => simp [maskOf]
  | succ n ih =>
    have hn : (maskOf p n).testBit n = false := Nat.testBit_lt_two_pow (maskOf_lt p n)
    rw [maskOf_succ]
    rcases Nat.lt_trichotomy i n with h | rfl | h
    · have : i < n + 1 := by omega
      split <;> simp [Nat.add_comm, Nat.testBit_two_pow_add_gt h, ih, h, this]
    · cases p i <;> simp [Nat.add_comm, Nat.testBit_two_pow_add_eq, hn]
    · have hlt : (if p n = true then maskOf p n + 2 ^ n else maskOf p n) < 2 ^ i := by
        rw [← maskOf_succ]
        exact Nat.lt_of_lt_of_le (maskOf_lt p (n + 1)) (Nat.pow_le_pow_right (by omega) h)
      have : ¬ i < n + 1 := by omega
      simp [Nat.testBit_lt_two_pow hlt, this]

/-- The mask of a group's zeros. -/
def zeroMask (es : List Nat) : Nat := maskOf (fun i => decide (es.getD i 0 = 0)) es.length

/-- The header word of a group. -/
def groupWord (g : Group) : Nat := g.base + g.width * 2 ^ 8 + b2n g.zflag * 2 ^ 12

/-- The offsets of a group's exponents other than 0. -/
def offsets (g : Group) (es : List Nat) : List (Nat × Nat) := (es.filter (· ≠ 0)).map fun e => (e - g.base, g.width)

/-- The fields of a group: only exponents other than 0 have an offset, whether there is a mask or not. -/
theorem groupFields_eq (es : List Nat) :
    groupFields es = (groupWord (groupOf es), 16) :: ((if (groupOf es).zflag then [(zeroMask es, 32)] else []) ++ offsets (groupOf es) es) := by
  have hfilter : (es.filter fun e => !(groupOf es).zflag || decide (e ≠ 0)) = es.filter (· ≠ 0) := by
    refine List.filter_congr fun e he => ?_
    rw [groupOf_zflag]
    by_cases h0 : e = 0
    · have : es.any (· = 0) = true := List.any_eq_true.2 ⟨e, he, decide_eq_true h0⟩
      simp [this]
    · simp [h0]
  simp only [groupFields, hfilter, zeroMask, maskOf, decide_eq_true_eq]
  rfl

/-- One element of a group read from the exponent plane `v`. -/
def readElem (ety v base width mask : Nat) (acc : Option (List Nat × Nat)) (j : Nat) : Option (List Nat × Nat) :=
  match acc with
  | none => none
  | some (es, o) =>
    if mask.testBit j then some (es ++ [0], o)
    else if 2 ^ expBits ety ≤ base + take v o width then none else some (es ++ [base + take v o width], o + width)

/-- The elements of a group are read behind its word and mask. -/
theorem decodeGroup_eq (ety v off : Nat) :
    let h := take v off 16
    let zflag := (h >>> 12) % 2 = 1
    decodeGroup ety v off =
      if expBits ety < (h >>> 8) % 16 then none
      else (List.range 32).foldl (readElem ety v (h % 256) ((h >>> 8) % 16) (if zflag then take v (off + 16) 32 else 0))
        (some ([], off + 16 + if zflag then 32 else 0)) := rfl

theorem groupWord_fields {g : Group} (hb : g.base < 256) (hw : g.width < 16) :
    groupWord g < 2 ^ 16 ∧ groupWord g % 256 = g.base ∧ (groupWord g >>> 8) % 16 = g.width ∧
      ((groupWord g >>> 12) % 2 = 1 ↔ g.zflag = true) := by
  simp only [groupWord, Nat.shiftRight_eq_div_pow]
  cases g.zflag <;> simp only [b2n, if_true, Bool.false_eq_true, if_false, iff_true, iff_false] <;> omega

/-- Reading the elements of a group gives them back. -/
theorem foldl_readElem {ety v mask : Nat} {g : Group} {es : List Nat} (hexp : ∀ e ∈ es, e < 2 ^ expBits ety)
    (hfit : ∀ e ∈ es, e ≠ 0 → g.base ≤ e ∧ e - g.base < 2 ^ g.width) {j off : Nat} (acc : List Nat) {rest : List (Nat × Nat)}
    (hmask : ∀ i, (hi : i < es.length) → mask.testBit (j + i) = decide (es[i] = 0)) (hv : v >>> off = streamNat (offsets g es ++ rest)) :
    (List.range' j es.length).foldl (readElem ety v g.base g.width mask) (some (acc, off)) =
      some (acc ++ es, off + streamBits (offsets g es)) := by
  induction es generalizing j off acc with
  | nil => simp [offsets]
  | cons e es ih =>
    obtain ⟨he, hes⟩ := List.forall_mem_cons.1 hexp
    obtain ⟨hfe, hfes⟩ := List.forall_mem_cons.1 hfit
    have hm0 : mask.testBit j = decide (e = 0) := hmask 0 (by simp)
    have hms : ∀ i, (hi : i < es.length) → mask.testBit (j + 1 + i) = decide (es[i] = 0) := fun i hi => by
      rw [Nat.add_assoc, Nat.add_comm 1]
      exact hmask (i + 1) (by simpa using hi)
    rw [List.length_cons, List.range'_succ, List.foldl_cons]
    by_cases h0 : e = 0
    · have hoff : offsets g (e :: es) = offsets g es := by simp [offsets, h0]
      rw [hoff] at hv ⊢
      have hread : readElem ety v g.base g.width mask (some (acc, off)) j = some (acc ++ [0], off) := by simp [readElem, hm0, h0]
      rw [hread, ih hes hfes _ hms hv, List.append_assoc, h0, List.singleton_append]
    · obtain ⟨hle, hlt⟩ := hfe h0
      have hoff : offsets g (e :: es) = [(e - g.base, g.width)] ++ offsets g es := by simp [offsets, h0]
      rw [hoff, List.append_assoc] at hv
      have htake : g.base + take v off g.width = e := by rw [take_front hv, Nat.mod_eq_of_lt hlt]; omega
      have hread : readElem ety v g.base g.width mask (some (acc, off)) j = some (acc ++ [e], off + g.width) := by
        simp [readElem, hm0, h0, htake, Nat.not_le.2 he]
      rw [hread, ih hes hfes _ hms (stream_tail hv), hoff]
      simp [Nat.add_assoc]

theorem testBit_zeroMask {es : List Nat} {i : Nat} (hi : i < es.length) : (zeroMask es).testBit i = decide (es[i] = 0) := by
  rw [zeroMask, testBit_maskOf]
  simp [hi]

/-- A group without ZFLAG has no zeros to mark. -/
theorem testBit_noMask {es : List Nat} (hz : (groupOf es).zflag = false) {i : Nat} (hi : i < es.length) :
    (0 : Nat).testBit i = decide (es[i] = 0) := by
  rw [groupOf_zflag] at hz
  have hne := List.any_eq_false.1 hz es[i] (List.getElem_mem hi)
  rw [Nat.zero_testBit]
  exact (decide_eq_false (by simpa using hne)).symm

section
variable {ety v off : Nat} {es : List Nat} (hlen : es.length = 32) (hexp : ∀ e ∈ es, e < 2 ^ expBits ety) {rest : List (Nat × Nat)}
include hlen hexp

/-- The offsets of a group of 32 are read back under a mask of its zeros. -/
theorem readElems_offsets {mask : Nat} (hmask : ∀ {i}, (hi : i < es.length) → mask.testBit i = decide (es[i] = 0))
    (hv : v >>> off = streamNat (offsets (groupOf es) es ++ rest)) :
    (List.range 32).foldl (readElem ety v (groupOf es).base (groupOf es).width mask) (some ([], off)) =
      some (es, off + streamBits (offsets (groupOf es) es)) := by
  have h := foldl_readElem hexp (fun _ => groupOf_fits) (j := 0) [] (fun i hi => by rw [Nat.zero_add]; exact hmask hi) hv
  rwa [hlen, ← List.range_eq_range', List.nil_append] at h

/-- A group of 32 decodes to itself, and its code ends where its fields do. -/
theorem decodeGroup_groupFields (hety : expBits ety ≤ 8) (hv : v >>> off = streamNat (groupFields es ++ rest)) :
    decodeGroup ety v off = some (es, off + streamBits (groupFields es)) := by
  obtain ⟨hbase, hwidth⟩ := groupOf_bounds hexp
  have hb : (groupOf es).base < 256 := Nat.lt_of_lt_of_le hbase (Nat.pow_le_pow_right (by decide : 0 < 2) hety)
  obtain ⟨hword, hwb, hww, hwz⟩ := groupWord_fields hb (Nat.lt_of_le_of_lt hwidth (by omega : expBits ety < 16))
  rw [groupFields_eq] at hv ⊢
  have hh : take v off 16 = groupWord (groupOf es) := (take_front hv).trans (Nat.mod_eq_of_lt hword)
  have hnext := stream_tail hv
  rw [decodeGroup_eq, hh, hwb, hww, if_neg (by omega)]
  simp only [hwz]
  cases hz : (groupOf es).zflag with
  | true =>
    rw [hz, if_pos rfl] at hnext
    have hlt : zeroMask es < 2 ^ 32 := hlen ▸ maskOf_lt _ es.length
    have htake : take v (off + 16) 32 = zeroMask es := (take_front hnext).trans (Nat.mod_eq_of_lt hlt)
    rw [if_pos rfl, if_pos rfl, htake, readElems_offsets hlen hexp testBit_zeroMask (stream_tail hnext)]
    simp only [streamBits_cons, if_true, List.singleton_append, Nat.add_assoc]
  | false =>
    rw [hz, if_neg Bool.false_ne_true] at hnext
    rw [if_neg Bool.false_ne_true, if_neg Bool.false_ne_true, Nat.add_zero, readElems_offsets hlen hexp (testBit_noMask hz) hnext]
    simp [Nat.add_assoc]

end

/-- Groups in a row decode to their elements. -/
theorem decodeGroups_groupFields {ety v : Nat} (hety : expBits ety ≤ 8) {gs : List (List Nat)} (hlen : ∀ es ∈ gs, es.length = 32)
    (hexp : ∀ es ∈ gs, ∀ e ∈ es, e < 2 ^ expBits ety) {off : Nat} (hv : v >>> off = streamNat (gs.flatMap groupFields)) :
    decodeGroups ety v gs.length off = some (gs.flatten, off + streamBits (gs.flatMap groupFields)) := by
  induction gs generalizing off with
  | nil => rfl
  | cons es gs ih =>
    obtain ⟨hl, hls⟩ := List.forall_mem_cons.1 hlen
    obtain ⟨he, hes⟩ := List.forall_mem_cons.1 hexp
    rw [List.flatMap_cons] at hv ⊢
    simp only [List.length_cons, decodeGroups, decodeGroup_groupFields hl he hety hv, ih hls hes (stream_skip hv), List.flatten_cons,
      streamBits_append, Nat.add_assoc]

/-- The slices of 32 are the list. -/
theorem flatten_slices (es : List Nat) (n : Nat) : ((List.range n).map fun g => (es.drop (32 * g)).take 32).flatten = es.take (32 * n) := by
  induction n with
  | zero => simp
  | succ n ih => rw [List.range_succ, List.map_append, List.flatten_append, ih, Nat.mul_succ, List.take_add]; simp

/-! ### Headers (R101, R105) -/

/-- A header's fields read back. -/
theorem header_fields {x ety r n : Nat} (hx : x < 65536) (he : ety < 8) (hr : r < 2) (hn : n < 128) :
    header x ety r n < 2 ^ 64 ∧ header x ety r n >>> 48 = 0xA5C3 ∧ (header x ety r n >>> 32) % 65536 = 0 ∧
      (header x ety r n >>> 16) % 65536 = x ∧ (header x ety r n >>> 11) % 32 = 0 ∧ (header x ety r n >>> 8) % 8 = ety ∧
      (header x ety r n >>> 7) % 2 = r ∧ header x ety r n % 128 = n := by
  simp only [header, Nat.mod_eq_of_lt hx, Nat.mod_eq_of_lt he, Nat.mod_eq_of_lt hr, Nat.mod_eq_of_lt hn, Nat.shiftRight_eq_div_pow]
  omega

theorem checkHeader_header {x ety r n left : Nat} (hx : x < 65536) (he : ety < 8) (hr : r < 2) (hn : 0 < n ∧ n ≤ 65)
    (hraw : r = 1 → n = 65 ∧ x = 0) (hcoded : r = 0 → n ≠ 65) (hleft : 64 * n ≤ left) :
    checkHeader ety left (header x ety r n) = .inl (64 * n) := by
  obtain ⟨-, hmagic, hres, hexp, hres', hety, hr', hlines⟩ := header_fields hx he hr (by omega : n < 128)
  simp only [checkHeader, hmagic, hres, hexp, hres', hety, hr', hlines]
  rw [if_neg (by simp), if_neg (by omega), if_neg (by omega), if_neg (by simp), if_neg (by omega)]

/-! ### A block and its code (R102, R103) -/

def exponents (ety : Nat) (bs : List Byte) : List Nat := (blockElems ety bs).map (expOf ety)

/-- The exponents in groups of 32. -/
def expGroups (ety : Nat) (bs : List Byte) : List (List Nat) :=
  (List.range (groups ety)).map fun g => ((exponents ety bs).drop (32 * g)).take 32

/-- The fields of the exponent plane. -/
def expFields (ety : Nat) (bs : List Byte) : List (Nat × Nat) :=
  (List.range (groups ety)).flatMap fun g => groupFields (((exponents ety bs).drop (32 * g)).take 32)

/-- The fields of the plane of signs and mantissas. -/
def planeFields (ety : Nat) (bs : List Byte) : List (Nat × Nat) := (blockElems ety bs).map fun c => (smOf ety c, manBits ety + 1)

def expBytes (ety : Nat) (bs : List Byte) : Nat := ceilDiv (streamBits (expFields ety bs)) 8

/-- The bytes of a block's code, before it is filled up to whole lines. -/
def codedBytes (ety : Nat) (bs : List Byte) : Nat := 8 + planeBytes ety + expBytes ety bs

def codedLines (ety : Nat) (bs : List Byte) : Nat := ceilDiv (codedBytes ety bs) 64

section
variable {ety : Nat} {bs : List Byte}

theorem codedLines_le_iff : codedLines ety bs ≤ 64 ↔ codedBytes ety bs ≤ 64 * 64 := by
  unfold codedLines ceilDiv
  omega

theorem encodeBlock_raw (h : 64 * 64 < codedBytes ety bs) :
    encodeBlock ety bs = leBytes 8 (header 0 ety 1 65) ++ bs ++ List.replicate 56 0 :=
  if_pos (Nat.not_le.1 (mt codedLines_le_iff.1 (Nat.not_le.2 h)))

theorem encodeBlock_coded (h : codedBytes ety bs ≤ 64 * 64) :
    encodeBlock ety bs = leBytes 8 (header (expBytes ety bs) ety 0 (codedLines ety bs)) ++ leBytes (planeBytes ety) (streamNat (planeFields ety bs)) ++
      leBytes (expBytes ety bs) (streamNat (expFields ety bs)) ++ List.replicate (64 * codedLines ety bs - codedBytes ety bs) 0 :=
  if_neg (Nat.not_lt.2 (codedLines_le_iff.2 h))

theorem expBytes_lt (h : codedBytes ety bs ≤ 64 * 64) : expBytes ety bs < 65536 := by
  unfold codedBytes at h
  omega

theorem codedBytes_le_lines : codedBytes ety bs ≤ 64 * codedLines ety bs := le_mul_ceilDiv _ (by decide)

theorem length_encodeBlock_raw (hbs : bs.length = 4096) (h : 64 * 64 < codedBytes ety bs) : (encodeBlock ety bs).length = 64 * 65 := by
  simp [encodeBlock_raw h, hbs]

theorem length_encodeBlock_coded (h : codedBytes ety bs ≤ 64 * 64) : (encodeBlock ety bs).length = 64 * codedLines ety bs := by
  have hle := codedBytes_le_lines (ety := ety) (bs := bs)
  simp only [encodeBlock_coded h, List.length_append, length_leBytes, List.length_replicate]
  unfold codedBytes at hle ⊢
  omega

/-! ### Decoding (R105) -/

theorem leNat_take_leBytes {n v : Nat} (hv : v < 2 ^ (8 * n)) (rest : List Byte) : leNat ((leBytes n v ++ rest).take n) = v := by
  rw [List.take_left' (length_leBytes n v), leNat_leBytes_of_lt hv]

theorem drop_leBytes (n v : Nat) (rest : List Byte) : (leBytes n v ++ rest).drop n = rest := List.drop_left' (length_leBytes n v)

theorem decodeBlock_raw {h : Nat} (hlt : h < 2 ^ 64) (hraw : (h >>> 7) % 2 = 1) (hbs : bs.length = 4096) (rest : List Byte) :
    decodeBlock ety (leBytes 8 h ++ (bs ++ rest)) = .ok (64 * (h % 128)) bs := by
  simp only [decodeBlock, leNat_take_leBytes (n := 8) hlt, hraw, if_true, drop_leBytes]
  rw [List.take_left' hbs]

/-- A block whose groups decode and whose code has the length that its header gives is put together from its two planes. -/
theorem decodeBlock_planes {h plane off : Nat} {es : List Nat} {rest : List Byte} (hlt : h < 2 ^ 64) (hraw : (h >>> 7) % 2 = 0)
    (hplane : plane < 2 ^ (8 * planeBytes ety)) (hg : decodeGroups ety (leNat rest) (groups ety) 0 = some (es, off))
    (hoff : ceilDiv off 8 = (h >>> 16) % 65536) (hsize : 8 + planeBytes ety + (h >>> 16) % 65536 ≤ 64 * (h % 128)) :
    decodeBlock ety (leBytes 8 h ++ (leBytes (planeBytes ety) plane ++ rest)) = .ok (64 * (h % 128)) (leBytes 4096
      ((List.range (elems ety)).foldr (fun i acc =>
        elemOfParts ety (es.getD i 0) (take plane ((manBits ety + 1) * i) (manBits ety + 1)) + acc * 2 ^ (8 * elemBytes ety)) 0)) := by
  simp only [decodeBlock, leNat_take_leBytes (n := 8) hlt, hraw, drop_leBytes, ← List.drop_drop, leNat_take_leBytes hplane, hg, hoff]
  rw [if_neg (by decide), if_neg (by omega)]

theorem length_exponents : (exponents ety bs).length = elems ety := by simp [exponents, length_blockElems]

theorem planeFields_lt (hl : Layout ety) : streamNat (planeFields ety bs) < 2 ^ (8 * planeBytes ety) := by
  have h := streamNat_lt (planeFields ety bs)
  rwa [planeFields, streamBits_map, length_blockElems, hl.plane] at h

theorem expFields_lt : streamNat (expFields ety bs) < 2 ^ (8 * expBytes ety bs) :=
  Nat.lt_of_lt_of_le (streamNat_lt _) (Nat.pow_le_pow_right (by decide) (le_mul_ceilDiv _ (by decide)))

theorem expFields_eq : expFields ety bs = (expGroups ety bs).flatMap groupFields := (List.flatMap_map _ _ _).symm

theorem length_of_mem_expGroups (hl : Layout ety) : ∀ es ∈ expGroups ety bs, es.length = 32 := by
  intro es hes
  obtain ⟨g, hg, rfl⟩ := List.mem_map.1 hes
  have := List.mem_range.1 hg
  rw [List.length_take, List.length_drop, length_exponents, hl.elems_eq]
  omega

theorem lt_of_mem_expGroups : ∀ es ∈ expGroups ety bs, ∀ e ∈ es, e < 2 ^ expBits ety := by
  intro es hes e he
  obtain ⟨g, -, rfl⟩ := List.mem_map.1 hes
  obtain ⟨c, -, rfl⟩ := List.mem_map.1 (List.mem_of_mem_drop (List.mem_of_mem_take he))
  exact expOf_lt ety c

theorem flatten_expGroups (hl : Layout ety) : (expGroups ety bs).flatten = exponents ety bs := by
  rw [expGroups, flatten_slices, ← hl.elems_eq, ← length_exponents, List.take_length]

/-- The exponent plane decodes to the exponents. -/
theorem decodeGroups_expFields (hl : Layout ety) :
    decodeGroups ety (streamNat (expFields ety bs)) (groups ety) 0 = some (exponents ety bs, streamBits (expFields ety bs)) := by
  have hlen : (expGroups ety bs).length = groups ety := by simp [expGroups]
  have hv : streamNat (expFields ety bs) >>> 0 = streamNat ((expGroups ety bs).flatMap groupFields) := by rw [Nat.shiftRight_zero, expFields_eq]
  have h := decodeGroups_groupFields hl.expBits_le (length_of_mem_expGroups hl) lt_of_mem_expGroups hv
  rwa [← expFields_eq, flatten_expGroups hl, hlen, Nat.zero_add] at h

/-- The exponents and the plane of a block give its bytes as a number. -/
theorem blockOfPlanes (hl : Layout ety) (hbs : bs.length = 4096) :
    (List.range (elems ety)).foldr (fun i acc => elemOfParts ety ((exponents ety bs).getD i 0)
      (take (streamNat (planeFields ety bs)) ((manBits ety + 1) * i) (manBits ety + 1)) + acc * 2 ^ (8 * elemBytes ety)) 0 = leNat bs := by
  have helem (i : Nat) (hi : i ∈ List.range (elems ety)) : elemOfParts ety ((exponents ety bs).getD i 0)
      (take (streamNat (planeFields ety bs)) ((manBits ety + 1) * i) (manBits ety + 1)) =
        leNat bs >>> (8 * elemBytes ety * i) % 2 ^ (8 * elemBytes ety) := by
    have hi : i < (blockElems ety bs).length := length_blockElems ety bs ▸ List.mem_range.1 hi
    have hlt : (blockElems ety bs)[i] < 2 ^ (manBits ety + expBits ety + 1) := by
      rw [getElem_blockElems bs hi, hl.elemBits]
      exact Nat.mod_lt _ (Nat.two_pow_pos _)
    have he : (exponents ety bs).getD i 0 = expOf ety (blockElems ety bs)[i] := by simp [exponents, hi]
    rw [he, planeFields, take_streamNat_map _ _ hi, Nat.mod_eq_of_lt (smOf_lt ety _), elemOfParts_parts hlt, getElem_blockElems bs hi]
  have hlt : leNat bs < 2 ^ (8 * elemBytes ety * elems ety) := by
    rw [Nat.mul_assoc, hl.block, ← hbs]
    exact leNat_lt bs
  rw [foldr_slices (8 * elemBytes ety) _ (leNat bs) _ helem, streamNat_slices, Nat.mod_eq_of_lt hlt]

/-- The code of a block and what R105 finds in it. -/
theorem decodeBlock_encodeBlock (hety : ety ≤ 4) (hbs : bs.length = 4096) :
    decodeBlock ety (encodeBlock ety bs) = .ok (encodeBlock ety bs).length bs := by
  have hl := layout_of_le hety
  rcases Nat.lt_or_ge (64 * 64) (codedBytes ety bs) with hraw | hcoded
  · obtain ⟨hlt, -, -, -, -, -, hr, hn⟩ := header_fields (x := 0) (ety := ety) (r := 1) (n := 65) (by decide) (by omega) (by decide) (by decide)
    rw [length_encodeBlock_raw hbs hraw, encodeBlock_raw hraw, List.append_assoc, decodeBlock_raw hlt hr hbs, hn]
  · have hlines := codedLines_le_iff.2 hcoded
    have hx := expBytes_lt hcoded
    obtain ⟨hlt, -, -, hexp, -, -, hr, hn⟩ :=
      header_fields (ety := ety) (r := 0) (n := codedLines ety bs) hx (by omega) (by decide) (by omega)
    have hv : leNat (leBytes (expBytes ety bs) (streamNat (expFields ety bs)) ++
        List.replicate (64 * codedLines ety bs - codedBytes ety bs) 0) = streamNat (expFields ety bs) := by
      rw [leNat_append_zeros, leNat_leBytes_of_lt expFields_lt]
    have hblock := decodeBlock_planes hlt hr (planeFields_lt (bs := bs) hl) (hv ▸ decodeGroups_expFields hl) (by rw [hexp]; rfl) (by rw [hexp, hn]; exact codedBytes_le_lines)
    rw [blockOfPlanes hl hbs, ← hbs, leBytes_leNat, hn] at hblock
    rw [length_encodeBlock_coded hcoded, encodeBlock_coded hcoded, List.append_assoc, List.append_assoc, hblock]

theorem checkHeader_encodeBlock (hety : ety ≤ 4) (hbs : bs.length = 4096) :
    checkHeader ety (encodeBlock ety bs).length (leNat ((encodeBlock ety bs).take 8)) = .inl (encodeBlock ety bs).length := by
  rcases Nat.lt_or_ge (64 * 64) (codedBytes ety bs) with hraw | hcoded
  · have hlt := (header_fields (x := 0) (ety := ety) (r := 1) (n := 65) (by decide) (by omega) (by decide) (by decide)).1
    rw [length_encodeBlock_raw hbs hraw, encodeBlock_raw hraw, List.append_assoc, leNat_take_leBytes (n := 8) hlt]
    exact checkHeader_header (by decide) (by omega) (by decide) (by decide) (by decide) (by decide) (Nat.le_refl _)
  · have hlines := codedLines_le_iff.2 hcoded
    have hsize : 8 + planeBytes ety + expBytes ety bs ≤ 64 * codedLines ety bs := codedBytes_le_lines
    have hx := expBytes_lt hcoded
    have hlt := (header_fields (ety := ety) (r := 0) (n := codedLines ety bs) hx (by omega) (by decide) (by omega)).1
    rw [length_encodeBlock_coded hcoded, encodeBlock_coded hcoded, List.append_assoc, List.append_assoc, leNat_take_leBytes (n := 8) hlt]
    exact checkHeader_header hx (by omega) (by decide) (by omega) (by omega) (by omega) (Nat.le_refl _)

end

end Yxp

/-- Settles O16: the stream of a block's groups decodes group by group to the exponents, and the two planes to its bytes. -/
theorem compressionIsLossless : Obligations.CompressionIsLossless := fun _ _ hety hbs =>
  ⟨Yxp.decodeBlock_encodeBlock hety hbs, Yxp.checkHeader_encodeBlock hety hbs⟩

/-- Settles O17: past 64 lines the block is its header and its bytes, and up to there its code has whole lines. -/
theorem rawBlocks : Obligations.RawBlocks := by
  intro ety bs hety hbs
  refine ⟨fun h => ?_, ?_⟩
  · have hheader : Yxp.header 0 ety 1 65 = 0xA5C3 * 2 ^ 48 + 0 * 2 ^ 16 + ety * 2 ^ 8 + 1 * 2 ^ 7 + 65 := by
      simp only [Yxp.header, Nat.mod_eq_of_lt (by omega : ety < 8)]
    exact hheader ▸ Yxp.encodeBlock_raw h
  · rcases Nat.lt_or_ge (64 * 64) (Yxp.codedBytes ety bs) with hraw | hcoded
    · exact Nat.le_of_eq (Yxp.length_encodeBlock_raw hbs hraw)
    · rw [Yxp.length_encodeBlock_coded hcoded]
      have := Yxp.codedLines_le_iff.2 hcoded
      omega

end Sys2Proof.Machine

/-! ## The Gazelles' commands (O18) -/

namespace Sys2Proof.Machine

open State

/-! ### Engine operations, one after the other -/

section
variable {α : Type} {x : Except Stop α × State} {ok : α → State → State} {fail : Nat → State → State} {t u : State}

theorem After.eq_of_ok {a : α} (h : x = (.ok a, t)) (hu : u = ok a t) : u = After x ok fail := by rw [h, hu]; rfl

theorem After.eq_of_fail {st : Nat} (h : x = (.error (.fail st), t)) (hu : u = fail st t) : u = After x ok fail := by rw [h, hu]; rfl

theorem After.eq_of_wait (h : x = (.error .wait, t)) : t = After x ok fail := by rw [h]; rfl

end

theorem After.of_pure {α : Type} (a : α) (ok : α → State → State) (fail : Nat → State → State) (s : State) :
    After ((pure a : M α).exec s) ok fail = ok a s := rfl

theorem After.of_failM {α : Type} (st : Nat) (ok : α → State → State) (fail : Nat → State → State) (s : State) :
    After ((failM st : M α).exec s) ok fail = fail st s := rfl

/-- What follows an operation of two parts follows the second part, begun with the answer of the first. -/
theorem After.of_bind {α β : Type} (x : M α) (f : α → M β) (ok : β → State → State) (fail : Nat → State → State) (s : State) :
    After ((x >>= f).exec s) ok fail = After (x.exec s) (fun a t => After ((f a).exec t) ok fail) fail := by
  have hbind : (x >>= f).exec s = ExceptT.bindCont f (x.exec s).1 (x.exec s).2 := rfl
  rw [hbind]
  rcases x.exec s with ⟨(st | _) | a, t⟩ <;> rfl

namespace State

/-! ### Started work (R43, R92, R98, R104, R105) -/

theorem startWork_headFor {q op : Nat} {s : State} {h : Head} (hh : s.headFor q op = some h) (f : Work → State → State) :
    s.startWork op f q = f (s.newWork q h .running 0) (s.takeHead q h .running 0) := by
  simp only [startWork, startHead, hh, Option.map_some]

theorem opcode_of_headFor {q op : Nat} {s : State} {h : Head} (hh : s.headFor q op = some h) : dOpcode h.desc = op := by
  simp only [headFor] at hh
  split at hh
  next x _ =>
    split at hh
    next hg =>
      simp only [Bool.and_eq_true, decide_eq_true_eq] at hg
      obtain ⟨⟨⟨-, hop⟩, -⟩, -⟩ := hg
      cases hh
      exact hop
    · cases hh
  · cases hh

theorem runGz_new {w : Work} (hw : w.count = 0) (t : State) :
    t.runGz w = After ((gzResolve (t.workWho w) w.desc).exec t)
      (fun _ u => u.setWork { w with count := 1, acc := u.pieceElems, total := ceilDiv (gzOp w.desc).count u.pieceElems, next := 0 })
      (fun st u => u.endWork w.id st 0) := by
  simp only [runGz]
  rw [if_neg (by simp [hw])]
  exact eq_after (fun _ _ h => by rw [h]) (fun _ _ h => by rw [h]) (fun _ h => by rw [h])

/-- The end of a work of YXP: it gives up its Gazelle. -/
def endYxp (w : Work) (st : Nat) (r : Word) (s : State) : State := ((s.dropGot (.work w.id)).gzRelease (.work w.id)).endWork w.id st r

/-- What a work of YXP runs. -/
def yxpOp (w : Work) : Who → Work → M Word := if dOpcode w.desc = 0x12 then runYxpCompress else runYxpDecompress

theorem runYxp_eq (w : Work) (t : State) :
    t.runYxp w = After ((yxpOp w (t.workWho w) w).exec t) (fun r u => u.endYxp w St.SUCCESS r)
      (fun st u => u.endYxp w st (w64 ((u.work? w.id).getD w).acc)) := by
  have hop : yxpOp w (t.workWho w) w =
      if decide (dOpcode w.desc = 0x12) = true then runYxpCompress (t.workWho w) w else runYxpDecompress (t.workWho w) w := by
    unfold yxpOp
    split
    next h => exact (if_pos (decide_eq_true h)).symm
    next h => exact (if_neg (by simpa using h)).symm
  simp only [runYxp, ← hop]
  exact eq_after (fun _ _ h => by rw [h]; rfl) (fun _ _ h => by rw [h]; rfl) (fun _ h => by rw [h])

/-! ### Whose turn it is (R32, R95, R97) -/

theorem gzNext_pieces_only {u : Nat} {s : State} (hi : s.gzIdle u = true) (hu : s.gzUsable u = true) (hr : s.gz.rws = [])
    (hw : s.gz.unitWait = []) : s.gzNext u = (s.nextPiece u).map fun p => (2, .piece p) := by
  have hf : s.isFenced (Dom.gazelle u) = false := by
    simp only [gzUsable, Bool.and_eq_true, Bool.not_eq_true'] at hu
    exact hu.2
  have hrw : s.nextRw u = none := by simp [nextRw, hr]
  have huse (c : Nat) : s.nextUse u c = none := by simp [nextUse, hw]
  have hjobs : s.gzJobs u = ((s.nextPiece u).map fun p => (2, GzJob.piece p)).toList := by
    simp only [gzJobs, hrw, huse, hu]
    cases s.nextPiece u <;> rfl
  simp only [gzNext, hi, hf, hjobs]
  cases s.nextPiece u <;> simp

/-! ### Dispatchers' accesses (R95, R99, R161) -/

theorem isFenced_of_ready {s : State} {d : Nat} (h : s.domReady d = true) : s.isFenced d = false := by
  simp only [domReady, Bool.and_eq_true, Bool.not_eq_true'] at h
  exact h.2

theorem crossOnce_open {s : State} {d : Nat} {c : Instr} (f : State → State) (ho : s.Open d) (hw : ∀ x ∈ s.pm.waits, x.cmd ≠ c) :
    s.crossOnce d c f = f s := by
  have hany : s.pm.waits.any (fun w => decide (w.cmd = c)) = false := List.any_eq_false.2 fun x hx => by simpa using hw x hx
  rw [crossOnce, isFenced_of_ready ho.2, hany]
  exact cross_open c f ho.1 ho.2

/-- A piece as it begins in Gazelle `u`. -/
def startedPiece (u : Nat) (p : GzPiece) : GzPiece := { p with unit := u, runs := p.runs + 1, out := none, ending := false, issued := false }

section
variable {u : Fin 8} {s : State} {c : Nat} {p : GzPiece} (ho : s.Open (Dom.gazelle u.val)) (hw : ∀ x ∈ s.pm.waits, x.cmd ≠ .pieceDispatch u)
  (hn : s.gzNext u.val = some (c, .piece p))
include ho hw hn

theorem pieceDispatchOp_open : s.pieceDispatchOp u = s.dispatchPiece u.val := by
  have hp : s.pieceFor u.val = true := by simp only [pieceFor, hn]
  rw [pieceDispatchOp, if_pos hp, crossOnce_open _ ho hw]

theorem pieceDispatchOp_first (hr : p.runs = 0) :
    s.pieceDispatchOp u =
      ((s.gzGranted u.val c).modGz fun g => { g with running := g.running ++ [startedPiece u.val p] }).setWorkNext p.work (p.idx + 1) := by
  rw [pieceDispatchOp_open ho hw hn]
  simp only [dispatchPiece, hn, hr, decide_true, if_true]
  rw [← hr]
  rfl

theorem pieceDispatchOp_again (hr : p.runs ≠ 0) :
    s.pieceDispatchOp u =
      (s.gzGranted u.val c).modGz fun g => { g with redo := g.redo.erase p, running := g.running ++ [startedPiece u.val p] } := by
  rw [pieceDispatchOp_open ho hw hn]
  simp only [dispatchPiece, hn, hr, decide_false, Bool.false_eq_true, if_false]
  rfl

end

/-! ### The end of a piece (R95, R96) -/

/-- The piece that Gazelle `u` holds becomes `x`. -/
def putPiece (u : Nat) (x : GzPiece) (s : State) : State :=
  s.modGz fun g => { g with running := updateWhere (fun y => decide (y.unit = u)) (fun _ => x) g.running }

/-- A Gazelle that holds no piece any more has completed one without a unit fault. -/
def cleanUnit (u : Nat) (s : State) : State := if s.gz.running.any (fun x => decide (x.unit = u)) = true then s else s.opClean (Dom.gazelle u)

/-- What the elements of a piece become, unless they have been computed before. -/
def computePiece (k : Who) (p : GzPiece) (w : Work) : M GzOut :=
  match p.out with
  | some r => pure r
  | none => do
    let g ← gzResolve k w.desc
    pieceCompute k w.desc g (p.idx * w.acc) (min w.acc ((gzOp w.desc).count - p.idx * w.acc))

/-- What a piece has computed is written, and the piece ends once its writes are performed. -/
def writePiece (u : Nat) (k : Who) (p : GzPiece) (w : Work) (r : GzOut) (s : State) : State :=
  After ((do let g ← gzResolve k w.desc; pieceWrite k w.desc g (p.idx * w.acc) r : M Unit).exec (s.putPiece u { p with out := some r }))
    (fun _ t => (t.putPiece u { p with out := some r, issued := true }).closePiece { p with out := some r, issued := true } w)
    (fun st t => t.pieceFailed { p with out := some r } w st)

section
variable {u : Nat} {s : State} {p : GzPiece} {w : Work} (hp : (s.gz.running.find? fun x => decide (x.unit = u)) = some p)
include hp

theorem pieceEnd_running : s.pieceEnd u = (s.completePiece u).cleanUnit u := by
  have hbusy : s.gz.running.any (fun x => decide (x.unit = u)) = true := by
    rw [← List.isSome_find?, hp, Option.isSome_some]
  simp only [pieceEnd, cleanUnit, hbusy, Bool.true_and]
  cases (s.completePiece u).gz.running.any fun x => decide (x.unit = u) <;> rfl

variable (hw : s.work? p.work = some w)
include hw

theorem completePiece_issued (hi : p.issued = true) :
    s.completePiece u = (s.putPiece u { p with ending := true }).closePiece { p with ending := true } w := by
  simp only [completePiece, hp, hw, hi, if_true]
  rfl

theorem completePiece_running (hi : p.issued = false) :
    s.completePiece u = After ((computePiece (s.pieceWho w p.idx) p w).exec (s.putPiece u { p with ending := true }))
      (writePiece u (s.pieceWho w p.idx) { p with ending := true } w) (fun st t => t.pieceFailed { p with ending := true } w st) := by
  simp only [completePiece, hp, hw, hi, Bool.false_eq_true, if_false]
  split
  next h => exact After.eq_of_wait h
  next h => exact After.eq_of_fail h rfl
  next h =>
    refine After.eq_of_ok h ?_
    split
    next h => exact After.eq_of_wait h
    next h => exact After.eq_of_fail h rfl
    next h => exact After.eq_of_ok h rfl

theorem completePiece_computed (hi : p.issued = false) {r : GzOut} (hr : p.out = some r) :
    s.completePiece u = writePiece u (s.pieceWho w p.idx) { p with ending := true } w r (s.putPiece u { p with ending := true }) := by
  rw [completePiece_running hp hw hi]
  simp only [computePiece, hr]
  exact After.of_pure r _ _ _

theorem completePiece_new (hi : p.issued = false) (hr : p.out = none) :
    s.completePiece u = After ((do
        let g ← gzResolve (s.pieceWho w p.idx) w.desc
        pieceCompute (s.pieceWho w p.idx) w.desc g (p.idx * w.acc) (min w.acc ((gzOp w.desc).count - p.idx * w.acc)) : M GzOut).exec
          (s.putPiece u { p with ending := true }))
      (writePiece u (s.pieceWho w p.idx) { p with ending := true } w) (fun st t => t.pieceFailed { p with ending := true } w st) := by
  rw [completePiece_running hp hw hi]
  simp only [computePiece, hr]

end

section
variable {p : GzPiece} {w : Work} {r : GzOut} {t : State}

theorem closePiece_performed (hr : p.out = some r) (hn : t.postedOf (.piece p.work p.idx) = (0, none)) :
    t.closePiece p w = t.pieceResult p w 0 r.amax r.clamped := by simp only [closePiece, hn, hr]

theorem closePiece_failed {st : Nat} (hn : t.postedOf (.piece p.work p.idx) = (0, some st)) :
    t.closePiece p w = t.pieceFailed p w st := by simp only [closePiece, hn]

theorem closePiece_outstanding (hn : (t.postedOf (.piece p.work p.idx)).1 ≠ 0) : t.closePiece p w = t := by
  unfold closePiece
  split
  next h => exact absurd (congrArg Prod.fst h) hn
  next h _ => exact absurd (congrArg Prod.fst h) hn
  · rfl

end

/-! ### Reduce-writes (R97, R99) -/

section
variable {u : Fin 8} {s : State} {r : RedWrite} (ho : s.Open (Dom.gazelle u.val)) (hw : ∀ x ∈ s.pm.waits, x.cmd ≠ .reduceWriteApply u)
include ho hw

theorem reduceWriteApplyOp_begun (hb : (s.gz.rws.find? fun x => decide (x.unit = u.val ∧ x.done = none) && x.begun) = some r) :
    s.reduceWriteApplyOp u = s.stepRw r := by
  have hany : (s.gz.rws.any fun x => decide (x.unit = u.val ∧ x.done = none) && x.begun) = true := by
    rw [← List.isSome_find?, hb, Option.isSome_some]
  have hf : s.rwFor u.val = true := by rw [rwFor, hany, Bool.true_or]
  rw [reduceWriteApplyOp, if_pos hf, crossOnce_open _ ho hw]
  simp only [applyRw, hb]

/-- A reduce-write as Gazelle `u` begins it. -/
def begunRw (u : Nat) (r : RedWrite) : RedWrite := { r with unit := u, begun := true, runs := r.runs + 1 }

theorem reduceWriteApplyOp_next {c : Nat} (hb : (s.gz.rws.find? fun x => decide (x.unit = u.val ∧ x.done = none) && x.begun) = none)
    (hn : s.gzNext u.val = some (c, .reduceWrite)) (hr : s.nextRw u.val = some r) :
    s.reduceWriteApplyOp u = ((s.gzGranted u.val c).modGz fun g =>
      { g with rws := updateWhere (fun x => decide (x.id = r.id)) (fun _ => begunRw u.val r) g.rws }).stepRw (begunRw u.val r) := by
  have hf : s.rwFor u.val = true := by simp only [rwFor, hn, Bool.or_true]
  rw [reduceWriteApplyOp, if_pos hf, crossOnce_open _ ho hw]
  simp only [applyRw, hb, hn, hr]
  rfl

end

/-- A reduce-write changed in its list. -/
def updRw (r : RedWrite) (f : RedWrite → RedWrite) (s : State) : State :=
  s.modGz fun g => { g with rws := updateWhere (fun x => decide (x.id = r.id)) f g.rws }

/-- A reduce-write ends, and its sender's answer is owed. -/
def endRw (r : RedWrite) (st : Nat) (s : State) : State :=
  (((s.updRw r fun x => { x with done := some st }).forget (.reduceWrite r.id)).opClean (Dom.gazelle r.unit)).wakeUp (.peer r.node r.flow r.seq)

/-- A reduce-write ends once its write is performed. -/
def closeRw (r : RedWrite) (s : State) : State :=
  if (s.postedOf (.reduceWrite r.id)).1 = 0 then s.endRw r ((s.postedOf (.reduceWrite r.id)).2.getD 0) else s

/-- The values that a reduce-write's bytes hold. -/
def rwValues (r : RedWrite) (bs : List Byte) : List Num :=
  gzDecode r.fmt 32 false (.fin false 1 1) (r.data.length * 8 / elemBits r.fmt) bs [] []

/-- The FP32 sums of what a reduce-write carries and what its destination holds. -/
def rwSum (r : RedWrite) (old : List Byte) : List Byte :=
  (gzEncode r.fmt 32 false false (.fin false 1 1) (fun _ => .even)
    ((List.range (r.data.length * 8 / elemBits r.fmt)).map fun i => sum32 [(rwValues r old).getD i .zero, (rwValues r r.data).getD i .zero])).1

/-- The bytes of a reduce-write's sums, unless they have been computed before. -/
def computeRw (r : RedWrite) : M (List Byte) :=
  match r.out with
  | some bs => pure bs
  | none => do
    let old ← deviceRead (.reduceWrite r.id) r.addr r.data.length
    if old.2 then failM St.DATA_ERROR else pure (rwSum r old.1)

/-- The sums go out, and the reduce-write ends once they are performed. -/
def writeRw (r : RedWrite) (bs : List Byte) (s : State) : State :=
  After ((deviceWrite (.reduceWrite r.id) r.addr bs r.poison 0).exec (s.updRw r fun x => { x with out := some bs }))
    (fun _ v => (v.updRw r fun x => { x with issued := true }).closeRw r) (endRw r)

section
variable {r : RedWrite} {t : State}

theorem stepRw_issued (hi : r.issued = true) : t.stepRw r = t.closeRw r := by
  simp only [stepRw, hi, if_true]
  rfl

theorem stepRw_running (hi : r.issued = false) : t.stepRw r = After ((computeRw r).exec t) (writeRw r) (endRw r) := by
  simp only [stepRw, hi, Bool.false_eq_true, if_false]
  split
  next h => exact After.eq_of_wait h
  next h => exact After.eq_of_fail h rfl
  next h =>
    refine After.eq_of_ok h ?_
    split
    next h => exact After.eq_of_wait h
    next h => exact After.eq_of_fail h rfl
    next h => exact After.eq_of_ok h rfl

theorem stepRw_computed (hi : r.issued = false) {bs : List Byte} (hr : r.out = some bs) : t.stepRw r = t.writeRw r bs := by
  rw [stepRw_running hi]
  simp only [computeRw, hr]
  exact After.of_pure bs _ _ _

theorem stepRw_new (hi : r.issued = false) (hr : r.out = none) :
    t.stepRw r = After ((deviceRead (.reduceWrite r.id) r.addr r.data.length).exec t)
      (fun old v => if old.2 = true then v.endRw r St.DATA_ERROR else v.stepRw { r with out := some (rwSum r old.1) }) (endRw r) := by
  rw [stepRw_running hi]
  simp only [computeRw, hr, After.of_bind]
  congr 1
  funext old v
  split
  · exact After.of_failM _ _ _ _
  · exact (After.of_pure _ _ _ _).trans (stepRw_computed (r := { r with out := some (rwSum r old.1) }) hi rfl).symm

end

end State

/-! ### The commands -/

theorem exec_convertOrReduce {op : Nat} {c : BitVec 16 → Instr} (hc : (op, c) ∈ [((0x10 : Nat), Instr.convert), (0x11, Instr.reduce)])
    (q : BitVec 16) (s : State) : exec (c q) s = .next (s.whenClocked (s.done (s.startWork op runGz q.toNat))) := by
  simp only [List.mem_cons, List.not_mem_nil, or_false, Prod.mk.injEq] at hc
  rcases hc with ⟨rfl, rfl⟩ | ⟨rfl, rfl⟩ <;> rfl

theorem exec_yxp {op : Nat} {c : BitVec 16 → Instr} {f : Who → Work → M Word}
    (hc : (op, c, f) ∈ [((0x12 : Nat), Instr.yxpCompress, runYxpCompress), (0x13, Instr.yxpDecompress, runYxpDecompress)])
    (q : BitVec 16) (s : State) : exec (c q) s = .next (s.whenClocked (s.done (s.startWork op runYxp q.toNat))) := by
  simp only [List.mem_cons, List.not_mem_nil, or_false, Prod.mk.injEq] at hc
  rcases hc with ⟨rfl, rfl, rfl⟩ | ⟨rfl, rfl, rfl⟩ <;> rfl

theorem yxpOp_of_opcode {op : Nat} {c : BitVec 16 → Instr} {f : Who → Work → M Word} {w : Work}
    (hc : (op, c, f) ∈ [((0x12 : Nat), Instr.yxpCompress, runYxpCompress), (0x13, Instr.yxpDecompress, runYxpDecompress)])
    (hop : dOpcode w.desc = op) : yxpOp w = f := by
  simp only [List.mem_cons, List.not_mem_nil, or_false, Prod.mk.injEq] at hc
  rcases hc with ⟨rfl, rfl, rfl⟩ | ⟨rfl, rfl, rfl⟩ <;> simp [yxpOp, hop]

/-- Settles O18: started work, pieces and reduce-writes. -/
theorem gazelleOperations : Obligations.GazelleOperations := by
  refine ⟨⟨fun op c hc q s h hh => ?_, fun op c f hc q s h hh => ?_⟩, fun u s => gzNext_pieces_only,
    fun u s c p ho hw hn => ⟨fun hr => ?_, fun hr => ?_⟩, fun u s p w hp hw => ⟨fun hi => ?_, fun r hi hr => ?_, fun hi hr => ?_⟩,
    fun p w r t hr => ⟨closePiece_performed hr, fun st => closePiece_failed, closePiece_outstanding⟩,
    fun u s r ho hw => ⟨fun hb => ?_, fun c hb hn hr => ?_⟩,
    fun r t => ⟨stepRw_issued, fun bs hi hr => stepRw_computed hi hr, fun hi hr => stepRw_new hi hr⟩⟩
  · exact Ends.of_clocked (exec_convertOrReduce hc q s) ((startWork_headFor hh _).trans (runGz_new rfl _))
  · refine Ends.of_clocked (exec_yxp hc q s) ((startWork_headFor hh _).trans ?_)
    rw [runYxp_eq, yxpOp_of_opcode hc (opcode_of_headFor hh)]
    rfl
  · exact Nexts.of_keep rfl (congrArg s.keep (pieceDispatchOp_first ho hw hn hr))
  · exact Nexts.of_keep rfl (congrArg s.keep (pieceDispatchOp_again ho hw hn hr))
  · exact Ends.of_clocked rfl ((pieceEnd_running hp).trans (congrArg (cleanUnit u.val) (completePiece_issued hp hw hi)))
  · exact Ends.of_clocked rfl ((pieceEnd_running hp).trans (congrArg (cleanUnit u.val) (completePiece_computed hp hw hi hr)))
  · exact Ends.of_clocked rfl ((pieceEnd_running hp).trans (congrArg (cleanUnit u.val) (completePiece_new hp hw hi hr)))
  · exact Ends.of_done rfl (reduceWriteApplyOp_begun ho hw hb)
  · exact Ends.of_done rfl (reduceWriteApplyOp_next ho hw hb hn hr)

end Sys2Proof.Machine

/-! ## Counterexamples: Ibex commands while the clocks stand (O19), and advice on a lost page (O27) -/

namespace Sys2Proof.Machine

open State

namespace State

/-! ### Ibex asleep during a relock -/

/-- During a relock of the PLL Ibex is in service and its domain sleeps. -/
def ibexAsleepInRelock : State :=
  ((reset.modIb fun i => { i with active := true }).setDom Dom.ibex { PmDom.reset with st := .idle }).modCk fun c => { c with pll := .relocking }

/-- The wake of the Ibex domain changes this state. -/
theorem touch_ibexAsleepInRelock : ibexAsleepInRelock.touch Dom.ibex ≠ ibexAsleepInRelock := fun h =>
  absurd (congrArg (fun s => (s.dom Dom.ibex).st) h) (by decide)

/-! ### PIN_T1 of a lost page where no pin is free -/

/-- An ADVISE of one byte at ADDR 0 with ACTION PIN_T1, granted. -/
def pinOneByte : Head :=
  { desc := BitVec.ofNat _ (2 ^ 320 + 0x121), slot := 0, preset := none, noSig := false, waited := true, granted := true }

/-- Placed memory of one page, which is LOST and not pinned (its map entry lies at 0), PIN_MAX 0, segment 0 of context 0 leading there, and
`pinOneByte` the head of queue 0. -/
def lostPageUnderPin : State :=
  { (((reset.setReg Reg.CH_CTRL 1).setReg Reg.CH_PLACE_PAGES 1).modCh fun c =>
      { c with segs := [(0, { q0 := w64 placedBase, q1 := fld 1 63 ||| fld 3 60 ||| 1, q2 := 0 })] }).setQueue 0
        { Queue.reset with st := .fetching, sqHead := 1, sqTail := 3, head := some pinOneByte, reserved := 1 } with
    mem := [(4, 0x80)] }

/-- The status with which work 0 has ended, if it has. -/
def firstStatus (s : State) : Option Nat := ((s.work? 0).filter fun w => decide (w.phase = .ended)).map (·.status)

end State

/-- The same after a command. -/
def statusAfter (r : Result) : Option Nat :=
  match r with
  | .next s => s.firstStatus
  | _ => none

/-- The page may not be pinned: it would be one pin more than PIN_MAX, lost or not (R196, log entry 110). -/
theorem exec_advise_lostPageUnderPin : statusAfter (exec (.advise 0) lostPageUnderPin) = some St.PIN_LIMIT := by decide +kernel

theorem exec_stepBuild_stopped {s : State} (h : s.clocksStopped = true) : exec .stepBuild s = .next s :=
  congrArg Host.Outcome.next (whenClocked_stopped h _)

/-- Refutes O19: while the divided clocks stand, a command of Ibex does nothing (R363, log entry 114), and so does not wake the Ibex domain
either; STEP_BUILD leaves the sleeping Ibex of `ibexAsleepInRelock` as it is. -/
theorem not_ibexPages : ¬ Obligations.IbexPages := by
  unfold Obligations.IbexPages
  intro ⟨⟨_, _, _, _, _, hwake⟩, _⟩
  have h := hwake .stepBuild ibexAsleepInRelock (.inr (.inl rfl)) (.inr rfl) (by decide)
  rw [exec_stepBuild_stopped (by decide), exec_stepBuild_stopped (by decide)] at h
  exact touch_ibexAsleepInRelock (Host.Outcome.next.inj h).symm

/-- Refutes O27: the statement leaves lost pages out of the pins that a PIN_T1 would add, and PIN_MAX counts them. With PIN_MAX 0 the ADVISE
of `lostPageUnderPin` ends with PIN_LIMIT, where the statement has it pin the page and succeed. -/
theorem not_movesAndAdvice : ¬ Obligations.MovesAndAdvice := by
  unfold Obligations.MovesAndAdvice
  intro ⟨_, hadvise⟩
  obtain ⟨-, -, hpages⟩ := hadvise 0 lostPageUnderPin pinOneByte (by decide +kernel)
  obtain ⟨hexec, -⟩ := hpages (by decide +kernel) (by decide +kernel) (by decide)
  have hsucceeds : statusAfter (exec (.advise 0) lostPageUnderPin) = some St.SUCCESS := by
    rw [hexec]
    decide +kernel
  exact absurd (exec_advise_lostPageUnderPin.symm.trans hsucceeds) (by decide)

end Sys2Proof.Machine

/-! ## Building a step (O21) -/

namespace Sys2Proof.Machine

open State

namespace State

/-! ### What a build places, and how a step begins (R159, R160) -/

/-- A request is in decode: its last token is not yet in its history. -/
def decodes (s : State) (r : Nat) : Bool := match s.bReq? r with | some b => b.last.isSome | none => false

/-- The RUNNING requests in the order in which a build places them (R159 steps 2 and 3): by age, those in decode before those in prefill. -/
def placeOrder (s : State) : List Nat :=
  let running := s.byAge.filter fun r => decide (s.rState r = RUNNING)
  running.filter s.decodes ++ running.filter fun r => !s.decodes r

/-- What the build of step `num` places outside a replay: the RUNNING requests, and then those it admits (R159 steps 2 to 4). -/
def buildPlaces (num : Nat) (s : State) : Build × State :=
  let x := s.placeOrder.foldl (fun (x : Build × State) r => x.2.place r none x.1) ({ ents := [], left := s.srvTokens }, s)
  x.2.admitAll num none x.2.byAge [] x.1

/-- Step `num` begins with its entries: their pages are pinned, its list is written and its STEP rung (R160). -/
def beginStep (num : Nat) (ents : List StepEnt) (s : State) : State :=
  let p := ents.foldl (fun s e => s.pinRequest e.r) s
  let l := ents.zipIdx.foldl (fun s e => s.share .step (s.listAddr num e.2) (s.entBytes e.1)) p
  let m := l.modBt fun t => { t with step := some { num := num, ents := ents, desc := l.stepDesc num ents, rung := false,
                                                     retried := false, done := false, rows := [] } }
  (m.rpEvent 0x09 0 ents.length (w64 num) (w64 (sumOf (·.ntok) ents)) none).ringStep

/-- What a build makes outside a replay of a state in which every request that is due has closed, and every one with a lost page is back in
the waiting list. -/
def buildFrom (c : State) : State :=
  let num := (c.reg Reg.BT_STEP).toNat + 1
  let y := c.buildPlaces num
  let ents := numberRows y.1.ents
  let u := y.2.modRp Rp.stepTaken
  (((if ents = [] then u else u.beginStep num ents).reclaim).fetchAhead).wakeOpen

section
variable {s : State}

theorem stepBuild_idle (h : s.bt.serving = false ∨ s.bt.step ≠ none ∨ s.ib.active = false ∨ s.isFenced Dom.ibex = true) :
    s.stepBuild = s := by
  rw [stepBuild, if_pos]
  simp only [Bool.or_eq_true, Bool.not_eq_true', Option.isSome_iff_ne_none]
  rcases h with h | h | h | h <;> simp [h]

theorem stepBuild_serving (hr : s.rp.replaying = false) (hv : s.bt.serving = true) (hn : s.bt.step = none) (ha : s.ib.active = true)
    (hf : s.isFenced Dom.ibex = false) : s.stepBuild = s.closeDue.shelveLost.buildFrom := by
  rw [stepBuild, hr, if_neg (by simp [hv, hn, ha, hf]), if_neg Bool.false_ne_true]
  -- The closed-up state stays opaque: nothing is to be computed of it, least of all the step's number.
  generalize s.closeDue.shelveLost = c
  rfl

end

end State

/-- Settles O21: an idle batcher, and the places and the ring of a step. -/
theorem stepsAreBuilt : Obligations.StepsAreBuilt := by
  refine fun s hs hr => ⟨fun h => Ends.of_inIbex rfl hs (stepBuild_idle h), fun hv hn ha hf => ?_⟩
  intro c
  have hbuild : s.stepBuild = c.buildFrom := stepBuild_serving hr hv hn ha hf
  -- The statement holds of `c` whatever state it is.
  clear_value c
  exact Ends.of_inIbex rfl hs hbuild

end Sys2Proof.Machine

/-! ## Rows and SAMPLEs in the Springboks (O22) -/

namespace Sys2Proof.Machine

open State

namespace State

/-! ### What a free Springbok takes (R157, R161) -/

/-- Springbok `u` takes a row of the step; `rest` are the rows that stay, and `n` the rows taken since the last SAMPLE. -/
def takeRow (u row : Nat) (rest : List Nat) (n : Nat) (s : State) : State :=
  (s.modBt fun t => { t with step := t.step.map (fun p => { p with rows := rest }), turn := n }).setSbUnit u
    { s.sbUnit u with first := some (.serve row) }

/-- Springbok `u` takes the SAMPLE of work `w`; `ws` are those that stay. -/
def takeSample (u w : Nat) (ws : List Nat) (s : State) : State :=
  (s.setSbUnit u { s.sbUnit u with first := some (.sample w) }).modBt fun t => { t with samples := ws, turn := 0 }

theorem rowHandoutOp_open {u : Fin 4} {s : State} (ho : s.Open (Dom.springbok u.val)) (hw : ∀ x ∈ s.pm.waits, x.cmd ≠ .rowHandout u)
    (hr : s.rowFor u.val = true) : s.rowHandoutOp u = s.rowHandout u.val := by
  rw [rowHandoutOp, if_pos hr, crossOnce_open _ ho hw]

/-- The guard of ROW_HANDOUT lets a free, enabled, unfenced Springbok through. -/
theorem handoutGuard_free {u : Nat} {s : State} (hu : (s.sbUnit u).first = none) (he : s.regBit Reg.SB_CTRL u = true)
    (hf : s.isFenced (Dom.springbok u) = false) :
    ¬((s.sbUnit u).first.isSome || !s.regBit Reg.SB_CTRL u || s.isFenced (Dom.springbok u)) = true := by simp [hu, he, hf]

section
variable {u : Fin 4} {s : State} (ho : s.Open (Dom.springbok u.val)) (hu : (s.sbUnit u.val).first = none)
  (he : s.regBit Reg.SB_CTRL u.val = true) (hw : ∀ x ∈ s.pm.waits, x.cmd ≠ .rowHandout u)
include ho hu he hw

theorem rowHandoutOp_sample_alone {w : Nat} {ws : List Nat} (hn : s.bt.step = none) (hs : s.bt.samples = w :: ws) :
    s.rowHandoutOp u = s.takeSample u.val w ws := by
  rw [rowHandoutOp_open ho hw (by simp [rowFor, hu, he, hs]), rowHandout, if_neg (handoutGuard_free hu he (isFenced_of_ready ho.2))]
  simp only [hn, hs]
  rfl

variable {t : Step} {row : Nat} {rest : List Nat} (ht : s.bt.step = some t) (hd : t.done = true) (hr : t.rows = row :: rest)
include ht hd hr

/-- A row of the step goes before a SAMPLE, but for one that has let seven rows pass. -/
theorem rowHandoutOp_rows : s.rowHandoutOp u =
    match s.bt.samples with
    | [] => s.takeRow u.val row rest 0
    | w :: ws => if 7 ≤ s.bt.turn then s.takeSample u.val w ws else s.takeRow u.val row rest (s.bt.turn + 1) := by
  rw [rowHandoutOp_open ho hw (by simp [rowFor, hu, he, ht, hd, hr]), rowHandout, if_neg (handoutGuard_free hu he (isFenced_of_ready ho.2))]
  simp only [ht, hd, if_true, hr]
  cases hs : s.bt.samples with
  | nil => rfl
  | cons w ws =>
    by_cases h7 : 7 ≤ s.bt.turn
    · simp only [h7, if_true]
      rfl
    · simp only [h7, if_false]
      rfl

end

theorem firstPassEnd_free {u : Nat} {s : State} {j : RowJob} (h1 : (s.sbUnit u).first = some j) (h2 : (s.sbUnit u).second = none) :
    s.firstPassEnd u = s.setSbUnit u { first := none, second := some j } := by simp [firstPassEnd, h1, h2]

/-! ### The end of a second pass (R146, R156) -/

/-- The second pass of Springbok `u` is free, and what it has read is forgotten. -/
def freeSecond (u : Nat) (s : State) : State := (s.setSbUnit u { s.sbUnit u with second := none }).forget (.row u)

/-- A Springbok whose second pass is free has completed one without a unit fault. -/
def cleanSb (u : Nat) (s : State) : State := if (s.sbUnit u).second = none then s.opClean (Dom.springbok u) else s

theorem rowEnd_busy {u : Nat} {s : State} {j : RowJob} (hj : (s.sbUnit u).second = some j) :
    s.rowEnd u = (s.rowSampled u).cleanSb u := by
  simp only [rowEnd, cleanSb, hj, Option.isSome_some, Bool.true_and, Option.isNone_iff_eq_none]

/-- The row of SAMPLE `id` has been sampled: its record goes out to the address that `x` holds (R153, R156). -/
def sampleResult (id : Nat) (w : Work) (x : Sb.Row × Word) (k : Option Sb.Pick) (s : State) : State :=
  let t := (s.bump Reg.SB_STAT_ROWS).bumpBy (countOf Sb.nonFinite x.1.logits) Reg.SB_STAT_NONFINITE
  match k with
  | none => t.endWork id Sv.NO_CANDIDATE 0
  | some k =>
    let t := t.rpEvent 0x0B 1 w.q (w64 x.1.p.seed) (w64 k.token ||| fld x.1.pos 32) none
    let w' := { w with count := 1, pages := (Sb.record k true 0 t.fresh.1.toNat x.1.pos).map (·.toNat), next := x.2.toNat,
                       acc := k.token % 2 ^ 32 + k.lp % 2 ^ 32 * 2 ^ 32 }
    (t.fresh.2.setWork w').sampleOut w'

section
variable {u : Nat} {s : State}

theorem rowSampled_serve {row : Nat} {t : Step} {e : StepEnt} {b : BReq} (hj : (s.sbUnit u).second = some (.serve row))
    (ht : s.bt.step = some t) (he : (t.ents.find? fun e => e.sample && decide (e.row = row)) = some e) (hb : s.bReq? e.r = some b)
    (hq : b.seq = e.seq) :
    s.rowSampled u = After ((serveRow u row e.r b).exec s)
      (fun data t => match t.drawRow e.r false data with
        | none => t
        | some (k, t) => (t.freeSecond u).rowResult e.r b data k)
      (fun st t => ((t.freeSecond u).settleEnt e.r).endRequest e.r st) := by
  simp only [rowSampled, hj, ht, Option.bind_some, he, hb, Option.filter_some, hq, decide_true, if_true]
  refine eq_after (fun data v h => ?_) (fun _ _ h => by rw [h]; rfl) (fun _ h => by rw [h])
  rw [h]
  rfl

theorem rowSampled_sample {id : Nat} {w : Work} (hj : (s.sbUnit u).second = some (.sample id)) (hw : s.work? id = some w)
    (hp : w.phase = .running) :
    s.rowSampled u = After ((sampleRow (s.workWho w) w).exec s)
      (fun x t => match t.drawRow w.q true x.1 with
        | none => t
        | some (k, t) => ((t.freeSecond u).forgetReads (.work id)).sampleResult id w x k)
      (fun st t => (t.freeSecond u).endWork id st 0) := by
  simp only [rowSampled, hj, hw]
  refine (if_neg (not_not_intro hp)).trans ?_
  refine eq_after (fun x v h => ?_) (fun _ _ h => by rw [h]; rfl) (fun _ h => by rw [h])
  rw [h]
  rfl

end

/-- A draw that no replay forces has the seed and the position of the row itself (R151, R419). -/
theorem drawRow_own_seed {src : Nat} {b : Bool} {data : Sb.Row} {t : State} (hr : t.rp.replaying = false) (hf : t.forcedSeed src b = none) :
    t.drawRow src b data = some (Sb.sample data data.p.seed data.pos, t) := by
  simp only [drawRow, hf, hr, Bool.false_eq_true, if_false]

end State

/-- Settles O22: what a free Springbok takes, the ends of its two passes, and the draw. -/
theorem rowsAreSampled : Obligations.RowsAreSampled := by
  refine ⟨fun u s t row rest ho hu he hw ht hd hr => ?_,
    fun u s w ws ho hu he hw hn hs => Nexts.of_keep rfl (congrArg s.keep (rowHandoutOp_sample_alone ho hu he hw hn hs)),
    fun u s j h1 h2 => Nexts.of_clocked rfl (congrArg s.keep (firstPassEnd_free h1 h2)),
    fun u s hi => ⟨fun row t e b hj ht he hb hq => ?_, fun id w hj hw hp => ?_⟩, fun _ _ _ _ => drawRow_own_seed⟩
  · have hop := rowHandoutOp_rows ho hu he hw ht hd hr
    refine ⟨fun hs => ?_, fun hs h7 => ?_, fun w ws hs h7 => ?_⟩
    · rw [hs] at hop
      exact Nexts.of_keep rfl (congrArg s.keep hop)
    · obtain ⟨w, ws, hs⟩ := List.exists_cons_of_ne_nil hs
      simp only [hs, if_neg (Nat.not_le.2 h7)] at hop
      exact Nexts.of_keep rfl (congrArg s.keep hop)
    · simp only [hs, if_pos h7] at hop
      exact Nexts.of_keep rfl (congrArg s.keep hop)
  · exact Ends.of_inIbex rfl hi ((rowEnd_busy hj).trans (congrArg (cleanSb u.val) (rowSampled_serve hj ht he hb hq)))
  · exact Ends.of_inIbex rfl hi ((rowEnd_busy hj).trans (congrArg (cleanSb u.val) (rowSampled_sample hj hw hp)))

end Sys2Proof.Machine

/-! ## Segment and region tables (O24) -/

namespace Sys2Proof.Machine

open State

namespace State

/-! ### Commits (R175, R198) -/

section
variable {s : State}

theorem segCommit_refused (h : segRefused (s.staged Reg.CH_SEGQ) = true) :
    s.segCommit = s.modCh fun c => { c with cmdRefused := true } := if_pos h

theorem segCommit_stored (h : segRefused (s.staged Reg.CH_SEGQ) = false) :
    s.segCommit = (s.committed (s.ctxAccesses (s.regBits Reg.CH_SEL 27 16)) 100000).modCh fun c => { c with
      segs := Map.put { q0 := 0, q1 := 0, q2 := 0 } (s.regBits Reg.CH_SEL 27 16 * 16 + s.regBits Reg.CH_SEL 3 0) (s.staged Reg.CH_SEGQ)
        c.segs } := if_neg (Bool.eq_false_iff.1 h)

theorem regionCommit_refused (h : regionRefused (s.staged Reg.CH_REGIONQ) = true) :
    s.regionCommit = s.modCh fun c => { c with cmdRefused := true } := if_pos h

theorem regionCommit_stored (h : regionRefused (s.staged Reg.CH_REGIONQ) = false) :
    s.regionCommit = (s.committed (s.ch.ios.map fun r => Waiter.io r.id) 10000).modCh fun c => { c with
      regions := Map.put { q0 := 0, q1 := 0, q2 := 0 } (s.regBits Reg.CH_SEL 41 32) (s.staged Reg.CH_REGIONQ) c.regions } :=
  if_neg (Bool.eq_false_iff.1 h)

end

/-- What R175 refuses: a reserved bit, or in a VALID entry a range that is no whole pages or leaves its target. -/
theorem segRefused_iff (g : Qw3) :
    segRefused g = true ↔ bits g.q1 53 44 ≠ 0 ∨ bits g.q2 63 52 ≠ 0 ∨ bits g.q2 43 20 ≠ 0 ∨ segValid g = true ∧
      (segLen g = 0 ∨ segLen g % 4096 ≠ 0 ∨ g.q0.toNat % 4096 ≠ 0 ∨ segTarget g = 1 ∧ tier1Size < g.q0.toNat + segLen g ∨
        segTarget g = 3 ∧ (g.q0.toNat < placedBase ∨ placedEnd < g.q0.toNat + segLen g)) := by
  simp only [segRefused, Bool.or_eq_true, Bool.and_eq_true, Bool.not_eq_true', Bool.and_eq_false_iff, decide_eq_true_eq,
    decide_eq_false_iff_not, Nat.not_le, or_assoc]

/-! ### The drains of commits (R175, R198, R282, R303) -/

/-- The drain of the accesses `l` is over at `limit` at the latest. -/
def DrainOver (l : List Waiter) (limit : Nat) (s : State) : Prop := (∀ w ∈ l, s.underWay w = false) ∨ limit ≤ s.now

theorem drainOver_iff {l : List Waiter} {limit : Nat} {s : State} :
    ((l.all fun w => !s.underWay w) = true ∨ limit ≤ s.now) ↔ DrainOver l limit s := by
  simp only [DrainOver, List.all_eq_true, Bool.not_eq_true']

section
variable {s : State}

theorem drainEnd_chCmd_over (h : DrainOver s.ch.drain s.ch.drainBy s) :
    s.drainEnd .chCmd = s.modCh fun c => { c with cmdBusy := false, drain := [] } := if_pos (drainOver_iff.2 h)

theorem drainEnd_chCmd_busy (h : ¬ DrainOver s.ch.drain s.ch.drainBy s) : s.drainEnd .chCmd = s := if_neg (mt drainOver_iff.1 h)

theorem drainEnd_bar2_over (h : DrainOver s.up.bar2Drain (s.up.bar2From + 10000) s) :
    s.drainEnd .bar2 = s.modUp fun u => { u with bar2Busy := false, bar2Drain := [] } := if_pos (drainOver_iff.2 h)

theorem drainEnd_bar2_busy (h : ¬ DrainOver s.up.bar2Drain (s.up.bar2From + 10000) s) : s.drainEnd .bar2 = s :=
  if_neg (mt drainOver_iff.1 h)

theorem drainEnd_window_over (h : s.winDrained = true) : s.drainEnd .window = s.modPl fun p => { p with winBusy := false } := if_pos h

theorem drainEnd_window_busy (h : s.winDrained = false) : s.drainEnd .window = s := if_neg (Bool.eq_false_iff.1 h)

end

end State

/-- A register write of a commit that is taken at once, with what it does worked out. -/
theorem Nexts.of_barWrite {c d : Instr} {s u : State} {off : Nat} {f : State → State} (h : exec c s = .next (s.keep (s.barWrite off d f)))
    (ho : s.OpenReg off) (hf : s.keep (f s) = u) : Nexts c s u :=
  Nexts.of_keep h ((congrArg s.keep (barWrite_open d f ho)).trans hf)

/-- Settles O24: what a commit stores or refuses, what R175 refuses, and the ends of drains. -/
theorem segmentsAndRegions : Obligations.SegmentsAndRegions := by
  refine ⟨fun s ho => ⟨fun h => ?_, fun h => ?_, fun h => ?_, fun h => ?_⟩, fun g => ?_,
    fun s => ⟨⟨fun h => ?_, fun h => ?_⟩, ⟨fun h => ?_, fun h => ?_⟩, fun h => ?_, fun h => ?_⟩⟩
  · exact Nexts.of_barWrite rfl ho (congrArg s.keep (segCommit_refused h))
  · exact Nexts.of_barWrite rfl ho (congrArg s.keep (segCommit_stored h))
  · exact Nexts.of_barWrite rfl ho (congrArg s.keep (regionCommit_refused h))
  · exact Nexts.of_barWrite rfl ho (congrArg s.keep (regionCommit_stored h))
  · have refused := (segRefused_iff g).2
    refine ⟨fun h => refused (.inl h), fun hv h => ?_, fun hv ht h => ?_, fun hv ht h => ?_, fun h1 h2 h3 hv => ?_⟩
    · exact refused (.inr (.inr (.inr ⟨hv, h.imp_right (Or.imp_right .inl)⟩)))
    · exact refused (.inr (.inr (.inr ⟨hv, .inr (.inr (.inr (.inl ⟨ht, h⟩)))⟩)))
    · exact refused (.inr (.inr (.inr ⟨hv, .inr (.inr (.inr (.inr ⟨ht, h⟩)))⟩)))
    · exact Bool.eq_false_iff.2 (mt (segRefused_iff g).1 (by simp [h1, h2, h3, hv]))
  · exact Nexts.of_clocked rfl (congrArg s.keep (drainEnd_chCmd_over h))
  · exact Nexts.of_clocked rfl (congrArg s.keep (drainEnd_chCmd_busy h))
  · exact Nexts.of_clocked rfl (congrArg s.keep (drainEnd_bar2_over h))
  · exact Nexts.of_clocked rfl (congrArg s.keep (drainEnd_bar2_busy h))
  · exact Nexts.of_clocked rfl (congrArg s.keep (drainEnd_window_over h))
  · exact Nexts.of_clocked rfl (congrArg s.keep (drainEnd_window_busy h))

end Sys2Proof.Machine

/-! ## Invalidations (O25) -/

namespace Sys2Proof.Machine

namespace State

/-- Work 0 reads host page 1 through a copy of 2 MiB from address 0 (R176). -/
def readThroughLargeCopy : State :=
  reset.modCh fun c => { c with
    copies := [{ fn := 0, pasid := none, base := 0, log2 := 21, target := 0, read := true, write := true }],
    hostReads := [(.work 0, { fn := 0, pasid := none, page := 1 })] }

end State

/-- The invalidations that wait for reads after a command. -/
def waitingInvals (r : Result) : List Inval :=
  match r with
  | .next s => s.ch.invals
  | _ => []

/-- An invalidation of page 0 removes the copy, and so waits for the read of page 1 that used it (R178). -/
theorem exec_atsInvalidate_readThroughLargeCopy :
    waitingInvals (exec (.atsInvalidate 0 none 0 12) State.readThroughLargeCopy) = [{ fn := 0, since := 0, who := [.work 0] }] := by
  decide +kernel

/-- Refutes O25: an invalidation waits for every read that used a copy it removes (R178), and the statement for those alone whose page lies
in its range. In `readThroughLargeCopy` it has the invalidation of page 0 complete at once, where it waits for the read of page 1. -/
theorem not_translationAndPageRequests : ¬ Obligations.TranslationAndPageRequests := by
  unfold Obligations.TranslationAndPageRequests
  intro ⟨⟨_, _, hinval, _⟩, _⟩
  obtain ⟨hfree, -⟩ := hinval 0 none 0 12 State.readThroughLargeCopy
  obtain ⟨-, hcalm⟩ := hfree (by decide) (by decide)
  have hdone : waitingInvals (exec (.atsInvalidate 0 none 0 12) State.readThroughLargeCopy) = [] := by
    rw [hcalm (by decide)]
    rfl
  exact absurd (exec_atsInvalidate_readThroughLargeCopy.symm.trans hdone) (by decide)

end Sys2Proof.Machine

/-! ## Placed memory (O26) -/

namespace Sys2Proof.Machine

/-- A key that no entry has is not listed. -/
theorem Map.find?_eq_none {α : Type} {k : Nat} {m : NMap α} (h : ∀ e ∈ m, e.1 ≠ k) : find? k m = none := by
  induction m with
  | nil => rfl
  | cons e m ih =>
    obtain ⟨hk, hm⟩ := List.forall_mem_cons.1 h
    rw [find?, if_neg hk, ih hm, ite_self]

/-- A cleared range reads as zeros, whatever the memory's form. -/
theorem Mem.read_clear (a n : Nat) (m : List Host.Cell) : read (clear a n m) a n = List.replicate n 0 := by
  refine List.eq_replicate_iff.2 ⟨by simp [read], fun b hb => ?_⟩
  obtain ⟨i, hi, rfl⟩ := List.mem_map.1 hb
  have hkeys : ∀ e ∈ clear a n m, e.1 ≠ a + i := by
    intro e he
    have hout : e.1 < a ∨ a + n ≤ e.1 := by simpa using (List.mem_filter.1 he).2
    have := List.mem_range.1 hi
    omega
  rw [byte, Map.getD, Map.find?_eq_none hkeys, Option.getD_none]

namespace State

/-! ### Zeroing of frames (R185) -/

theorem readBytes_clearFrame (pool f : Nat) (s : State) :
    (s.clearFrame pool f).readBytes (s.frameAddr pool f) (frameSize pool) = List.replicate (frameSize pool) 0 := Mem.read_clear _ _ _

theorem poison_clearFrame {pool f l : Nat} {s : State} (h : l ∈ (s.clearFrame pool f).poison) :
    l < s.frameAddr pool f / 64 ∨ (s.frameAddr pool f + frameSize pool) / 64 ≤ l := by
  simpa using (List.mem_filter.1 h).2

theorem frameZeroed_dirty {pool f : Nat} {s : State} (h : f ∈ s.dirtyFrames pool) :
    s.frameZeroed pool f =
      (s.ch.frameWait.foldl (fun t w => t.wakeUp w)
        ((s.modCh fun c => { c with dirty := Map.put [] pool ((Map.getD [] pool c.dirty).filter (· ≠ f)) c.dirty,
                                    frameWait := [] }).clearFrame pool f)).wakeUp .recorder := if_pos h

theorem frameZeroed_clean {pool f : Nat} {s : State} (h : f ∉ s.dirtyFrames pool) : s.frameZeroed pool f = s := if_neg h

/-! ### Sweeps (R186, R187) -/

@[simp] theorem tableWrite_ch (a : Nat) (bs : List Byte) (s : State) : (s.tableWrite a bs).ch = s.ch := by
  simp only [tableWrite]
  split <;> rfl

/-- A page's entry after a sweep: its HEAT is halved and its age advanced. -/
def cooled (e : Word) : Word := setBits (setBits e 55 48 (pHeat e / 2)) 47 40 (min 255 (pAge e + 1))

/-- The entries of the pages that a sweep evaluates are cooled. -/
def coolPages (pages : List (Nat × Word)) (s : State) : State := pages.foldl (fun s p => s.setMapEntry p.1 (cooled p.2)) s

theorem coolPages_ch (pages : List (Nat × Word)) (s : State) : (s.coolPages pages).ch = s.ch :=
  foldl_keeps State.ch _ (fun _ _ => tableWrite_ch _ _ _) pages s

theorem sweep_idle {s : State} (h : s.ch.active = false ∨ s.isFenced Dom.chamois = true) : s.sweep = s := if_pos (by simpa using h)

/-- While the quiet time of power-up runs, a sweep queues no moves (R360). -/
theorem sweep_quiet {s : State} (ha : s.ch.active = true) (hf : s.isFenced Dom.chamois = false) (hq : s.ch.quiet = true) :
    s.sweep = s.coolPages ((List.range s.placePages).map fun p => (p, s.mapEntry p)) := by
  rw [sweep, if_neg (by simp [ha, hf])]
  have hquiet (pages : List (Nat × Word)) : (s.coolPages pages).ch.quiet = true := by rw [coolPages_ch, hq]
  exact if_pos (by simp only [Bool.or_eq_true]; exact .inl (.inl (hquiet _)))

end State

open State

/-- Settles O26: the zeroing of a frame, the sweep during the quiet time, and that time's end. -/
theorem placementUpkeep : Obligations.PlacementUpkeep := by
  refine ⟨fun pool f s h => ?_, fun pool f s => ⟨readBytes_clearFrame pool f s, fun l => poison_clearFrame⟩, fun pool f s h => ?_,
    fun s h => ?_, fun s ha hf hq => ?_, fun s hl ha => ?_, fun s h => ?_⟩
  · exact Ends.of_clocked rfl (frameZeroed_dirty h)
  · exact Ends.of_clocked rfl (frameZeroed_clean h)
  · exact Nexts.of_clocked rfl (congrArg s.keep (sweep_idle h))
  · exact Nexts.of_clocked rfl (congrArg s.keep (sweep_quiet ha hf hq))
  · exact Nexts.of_clocked rfl (congrArg s.keep (if_pos (by rw [hl, ha]; rfl)))
  · exact Nexts.of_clocked rfl (congrArg s.keep (if_neg (by rcases h with h | h <;> simp [h])))

end Sys2Proof.Machine

/-! ## BAR2, HDM decoders and CXL.io requests (O40) -/

namespace Sys2Proof.Machine

open State

/-- A message that finds the divided clocks running, with what it does worked out. -/
theorem Ends.of_message {c d : Instr} {s u : State} {f : State → State} (h : exec c s = .next (s.done (s.clocked d f))) (hf : f s = u) :
    Ends c s u := fun hs => Ends.of_exec (by rw [h, clocked_running hs, hf]) hs

namespace State

section
variable {s : State}

/-! ### Memory requests of the host (R302, R399) -/

theorem memoryRequest_safe {posted : Bool} {f : State → State} (h : s.wholeSafe = true) : s.memoryRequest posted f = s.unsupported posted :=
  if_pos h

/-- A request that finds the upstream port awake leaves it as it is. -/
theorem memoryRequest_awake {posted : Bool} {f : State → State} (h : s.wholeSafe = false) (hc : s.Awake Dom.upCtl) (hp : s.Awake Dom.upPhy) :
    s.memoryRequest posted f = f s := by
  rw [memoryRequest, if_neg (Bool.eq_false_iff.1 h), touch_awake hc.1 hc.2, touch_awake hp.1 hp.2]

/-! ### BAR2 (R303) -/

/-- The device address that an offset of BAR2 reaches. -/
def bar2Addr (s : State) (off : Nat) : Nat := s.regBits Reg.UP_BAR2_MAP 26 0 * pageBytes + off

section
variable {off len : Nat} {a : HdmAccess}

/-- A request that BAR2 does not serve: memory space is disabled, it passes the window's end, it meets a hole, or is a 128-bit CAS. -/
def Bar2Unserved (s : State) (off len : Nat) (a : HdmAccess) : Prop :=
  s.mse 0 = false ∨ 2 ^ s.bar2Shift < off + ioLen len a ∨ s.ioHole (s.bar2Addr off) (ioLen len a) = true ∨ a = .cas128

theorem bar2Guard_iff :
    (!s.mse 0 || decide (2 ^ s.bar2Shift < off + ioLen len a) || s.ioHole (s.bar2Addr off) (ioLen len a) || decide (a = .cas128)) = true ↔
      s.Bar2Unserved off len a := by
  simp only [Bar2Unserved, Bool.or_eq_true, Bool.not_eq_true', decide_eq_true_eq, or_assoc]

theorem bar2Op_unserved (h : s.Bar2Unserved off len a) : s.bar2Op off len a = s.unsupported (ioPosted a) := if_pos (bar2Guard_iff.2 h)

theorem bar2Op_served (h : ¬ s.Bar2Unserved off len a) : s.bar2Op off len a = s.addIo (s.bar2Addr off) (ioLen len a) a true :=
  if_neg (mt bar2Guard_iff.1 h)

end

section
variable {h : Half} {v : Word}

theorem bar2MapOp_moved (hr : oneRegion (bits (mergeHalf h (s.reg Reg.UP_BAR2_MAP) v) 26 0 * pageBytes) (2 ^ s.bar2Shift) = true) :
    s.bar2MapOp h v = (s.setReg Reg.UP_BAR2_MAP (w64 (bits (mergeHalf h (s.reg Reg.UP_BAR2_MAP) v) 26 0))).modUp fun u => { u with
      bar2Refused := false, bar2Busy := true, bar2Drain := ((s.ch.ios.filter (·.bar2)).map fun r => Waiter.io r.id) ++ u.bar2Drain,
      bar2From := s.now } := if_pos hr

theorem bar2MapOp_refused (hr : oneRegion (bits (mergeHalf h (s.reg Reg.UP_BAR2_MAP) v) 26 0 * pageBytes) (2 ^ s.bar2Shift) = false) :
    s.bar2MapOp h v = s.modUp fun u => { u with bar2Refused := true } := if_neg (Bool.eq_false_iff.1 hr)

end

/-! ### HDM decoders (R305) -/

section
variable {n : Bool} {base size skip ways : Nat} {lock : Bool}

theorem hdmCommitOp_locked (hc : (s.hdm n).committed = true) (hl : (s.hdm n).lock = true) : s.hdmCommitOp n base size skip ways lock = s :=
  if_pos ⟨hc, hl⟩

/-- What R305 refuses to commit: interleaving, a skip, or a range that is no whole granules or leaves its region. -/
def HdmRefused (s : State) (n : Bool) (base size skip ways : Nat) : Prop :=
  ways ≠ 0 ∨ skip ≠ 0 ∨ size = 0 ∨ base % 2 ^ 28 ≠ 0 ∨ size % 2 ^ 28 ≠ 0 ∨ oneRegion (s.hdmDev n) size = false

theorem hdmGuard_iff :
    (ways ≠ 0 ∨ skip ≠ 0 ∨ size = 0 ∨ base % 2 ^ 28 ≠ 0 ∨ size % 2 ^ 28 ≠ 0 ∨ (!oneRegion (s.hdmDev n) size) = true) ↔
      s.HdmRefused n base size skip ways := by
  simp only [HdmRefused, Bool.not_eq_true']

variable (hu : (s.hdm n).committed = false ∨ (s.hdm n).lock = false)
include hu

theorem hdm_not_locked : ¬((s.hdm n).committed = true ∧ (s.hdm n).lock = true) := by
  rcases hu with h | h <;> simp [h]

theorem hdmCommitOp_refused (h : s.HdmRefused n base size skip ways) :
    s.hdmCommitOp n base size skip ways lock =
      s.setHdm n { s.hdm n with base := base, size := size, committed := false, lock := false, err := true, skip := skip, ways := ways } :=
  (if_neg (hdm_not_locked hu)).trans (if_pos (hdmGuard_iff.2 h))

theorem hdmCommitOp_committed (h : ¬ s.HdmRefused n base size skip ways) :
    s.hdmCommitOp n base size skip ways lock =
      s.setHdm n { base := base, size := size, committed := true, lock := lock, err := false, skip := 0, ways := 0 } :=
  (if_neg (hdm_not_locked hu)).trans (if_neg (mt hdmGuard_iff.1 h))

end

/-! ### CXL.io requests into the HDM range (R197) -/

section
variable {requester hpa len : Nat} {pasid : Option Nat} {a : HdmAccess}

/-- The requester's regions permit a request at `da`: a read unless it is a write, and a write unless it is a read. -/
def IoPermitted (s : State) (requester : Nat) (pasid : Option Nat) (da len : Nat) (a : HdmAccess) : Prop :=
  (ioPosted a = true ∨ s.regionPass requester pasid da (ioLen len a) false = true) ∧
    (a = .read ∨ s.regionPass requester pasid da (ioLen len a) true = true)

theorem ioGuard_iff {da : Nat} :
    (!((ioPosted a || s.regionPass requester pasid da (ioLen len a) false) &&
        (decide (a = .read) || s.regionPass requester pasid da (ioLen len a) true))) = true ↔
      ¬ s.IoPermitted requester pasid da len a := by
  simp only [IoPermitted, Bool.not_eq_true', ← Bool.not_eq_true, Bool.and_eq_true, Bool.or_eq_true, decide_eq_true_eq]

theorem hdmIoOp_unmapped (h : s.hdmDecode hpa = none) : s.hdmIoOp requester pasid hpa len a = s.unsupported (ioPosted a) := by
  simp only [hdmIoOp, h]

/-- A request that a decoder maps. -/
theorem hdmIoOp_mapped {da : Nat} (h : s.hdmDecode hpa = some da) :
    (¬ s.IoPermitted requester pasid da len a → s.hdmIoOp requester pasid hpa len a =
      (s.raise Reg.CH Err.CH_REGION_DENIED { Capture.none with
        addr := w64 da, space := 1, access := b2n (ioPosted a), cls := 6, index := requester }).unsupported (ioPosted a)) ∧
    (s.IoPermitted requester pasid da len a → s.hdmIoOp requester pasid hpa len a =
      if s.ioHole da (ioLen len a) = true ∨ a = .cas128 then s.unsupported (ioPosted a) else s.addIo da (ioLen len a) a false) := by
  simp only [hdmIoOp, h]
  exact ⟨fun hp => if_pos (ioGuard_iff.2 hp), fun hp => if_neg fun hg => ioGuard_iff.1 hg hp⟩

end

end

end State

section
variable {s : State} (hc : s.Awake Dom.upCtl) (hp : s.Awake Dom.upPhy)
include hc hp

/-- BAR2_ACCESS (R303, R310, R399). -/
theorem bar2Access_ends (off : BitVec 32) (len : BitVec 13) (a : HdmAccess) :
    (s.wholeSafe = true ∨ s.Bar2Unserved off.toNat len.toNat a → Ends (.bar2Access off len a) s (s.unsupported (ioPosted a))) ∧
    (s.wholeSafe = false → ¬ s.Bar2Unserved off.toNat len.toNat a →
      Ends (.bar2Access off len a) s (s.addIo (s.bar2Addr off.toNat) (ioLen len.toNat a) a true)) := by
  refine ⟨fun h => Ends.of_message rfl ?_, fun hw h => Ends.of_message rfl ((memoryRequest_awake hw hc hp).trans (bar2Op_served h))⟩
  rcases Bool.eq_false_or_eq_true s.wholeSafe with hw | hw
  · exact memoryRequest_safe hw
  · exact (memoryRequest_awake hw hc hp).trans (bar2Op_unserved (h.resolve_left (Bool.eq_false_iff.1 hw)))

/-- HDM_IO_REQUEST that is safe to take is what `hdmIoOp` does (R197, R399). -/
theorem hdmIoRequest_ends (who : BitVec 16) (pasid : Option (BitVec 20)) (hpa : BitVec 52) (len : BitVec 13) (a : HdmAccess) {u : State}
    (hw : s.wholeSafe = false) (hu : s.hdmIoOp who.toNat (pasid.map (·.toNat)) hpa.toNat len.toNat a = u) :
    Ends (.hdmIoRequest who pasid hpa len a) s u := Ends.of_message rfl ((memoryRequest_awake hw hc hp).trans hu)

end

/-- Settles O40: BAR2's requests and window, the commit of a decoder, and requests into the HDM range. -/
theorem hostMemoryWindows : Obligations.HostMemoryWindows := by
  refine fun s hc hp => ⟨fun off len a => ?_, fun h v ho => ⟨fun hr => ?_, fun hr => ?_⟩,
    fun n base size skip ways lock hh hu => ?_, fun who pasid hpa len a => ⟨fun h => ?_, fun da hw hd => ?_⟩⟩
  · obtain ⟨hunserved, hserved⟩ := bar2Access_ends hc hp off len a
    refine ⟨hunserved, fun hw hm hn ho ha => hserved hw ?_⟩
    rintro (h | h | h | h)
    · exact Bool.false_ne_true (h.symm.trans hm)
    · exact Nat.not_lt.2 hn h
    · exact Bool.false_ne_true (ho.symm.trans h)
    · exact ha h
  · exact Nexts.of_barWrite rfl ho (congrArg s.keep (bar2MapOp_moved hr))
  · exact Nexts.of_barWrite rfl ho (congrArg s.keep (bar2MapOp_refused hr))
  · have hcmd : s.hdmCommitCmd n base size skip ways lock = s.hdmCommitOp n base.toNat size.toNat skip.toNat ways.toNat lock :=
      (hostPosted_open _ _ hh).trans (cross_open _ _ hu.1 hu.2)
    exact ⟨fun hcm hl => Ends.of_done rfl (hcmd.trans (hdmCommitOp_locked hcm hl)),
      fun hn hb => Ends.of_done rfl (hcmd.trans (hdmCommitOp_refused hn hb)),
      fun hn hb => Ends.of_done rfl (hcmd.trans (hdmCommitOp_committed hn hb))⟩
  · rcases Bool.eq_false_or_eq_true s.wholeSafe with hw | hw
    · exact Ends.of_message rfl (memoryRequest_safe hw)
    · exact hdmIoRequest_ends hc hp who pasid hpa len a hw (hdmIoOp_unmapped (h.resolve_left (Bool.eq_false_iff.1 hw)))
  · have hends := fun u => hdmIoRequest_ends hc hp who pasid hpa len a (u := u) hw
    obtain ⟨hdenied, hpermitted⟩ := hdmIoOp_mapped (requester := who.toNat) (pasid := pasid.map (·.toNat)) (len := len.toNat) (a := a) hd
    refine ⟨fun hn => hends _ (hdenied hn), fun hok hh => hends _ ((hpermitted hok).trans (if_pos hh)), fun hok hh ha => ?_⟩
    refine hends _ ((hpermitted hok).trans (if_neg ?_))
    exact not_or.2 ⟨Bool.eq_false_iff.1 hh, ha⟩

end Sys2Proof.Machine

/-! ## Answers to snoops (O30) -/

namespace Sys2Proof.Machine

namespace State

/-! ### The answers of Table 4 (R207, R218) -/

/-- An answer that passes its crossing, from an agent that its port takes. -/
theorem rspOp_open {x : Answer} {c : Instr} {m : Rsp} {s : State} (ho : s.Open (Dom.sf m.port.val))
    (hp : s.portTakes m.port.val m.agent.toNat = true) :
    s.rspOp x c m = s.snoopAnswer (m.homeTag.toNat / 256) (m.homeTag.toNat % 256) m.agent.toNat x := by
  rw [rspOp, cross_open c _ ho.1 ho.2, hp]
  rfl

/-- A transaction without an answer of agent `a`. -/
def answeredBy (t : Txn) (a : Nat) : Txn := { t with snoops := t.snoops.filter (· ≠ a) }

section
variable {s : State} {slice tag a : Nat} {x : Answer}

theorem snoopAnswer_no_txn (h : s.txnAt slice tag = none) : s.snoopAnswer slice tag a x = s.protocolErr 0 := by
  simp only [snoopAnswer, h]

variable {t : Txn} (ht : s.txnAt slice tag = some t)
include ht

/-- An answer that the agent does not owe. -/
theorem snoopAnswer_not_owed (h : a ∉ t.snoops ∨ t.phase ≠ .snooping ∨ s.snoopOf t a = none) :
    s.snoopAnswer slice tag a x = s.protocolErr t.line := by
  cases hk : s.snoopOf t a with
  | none => simp only [snoopAnswer, ht, hk]
  | some k =>
    have hrefused : a ∉ t.snoops ∨ t.phase ≠ .snooping ∨ (!x.fits k) = true :=
      h.imp_right (Or.imp_right fun hn => absurd (hk.symm.trans hn) (Option.some_ne_none k))
    simp only [snoopAnswer, ht, hk, if_pos hrefused]

variable {k : Snoop} (hk : s.snoopOf t a = some k)
include hk

/-- An answer that Table 4 does not give its snoop. -/
theorem snoopAnswer_unfit (hf : x.fits k = false) : s.snoopAnswer slice tag a x = s.protocolErr t.line := by
  simp [snoopAnswer, ht, hk, hf]

variable (hf : x.fits k = true) (ha : a ∈ t.snoops) (hp : t.phase = .snooping)
include hf ha hp

theorem snoopAnswer_kept (hx : x = .s) : s.snoopAnswer slice tag a x = s.checkAnswers (answeredBy t a) := by
  subst hx
  simp [snoopAnswer, ht, hk, hf, ha, hp, answeredBy]

/-- RSP_I of the holder whose data the snoop asked for waits for its eviction notice (R218, log entry 23). -/
theorem snoopAnswer_early (hx : x = .i) (hi : k ≠ .inv) (hh : s.isHolder t.line a = true) (he : t.evicted = false) :
    s.snoopAnswer slice tag a x = s.setTxn { answeredBy t a with early := some a, since := s.now } := by
  subst hx
  simp [snoopAnswer, ht, hk, hf, ha, hp, hi, hh, he, answeredBy]

theorem snoopAnswer_invalid (hx : x = .i) (h : k = .inv ∨ s.isHolder t.line a = false) :
    s.snoopAnswer slice tag a x = s.checkAnswers (answeredBy t a) := by
  subst hx
  rcases h with rfl | h
  · simp [snoopAnswer, ht, hk, hf, ha, hp, answeredBy]
  · simp [snoopAnswer, ht, hk, hf, ha, hp, h, answeredBy]

variable (hd : t.data = none) (he : t.evicted = false)
include hd he

theorem snoopAnswer_wb (hx : x = .iWb) : s.snoopAnswer slice tag a x = s.checkAnswers { answeredBy t a with needDat := true } := by
  subst hx
  simp [snoopAnswer, ht, hk, hf, ha, hp, hd, he, answeredBy]

variable (hn : t.direct = false)
include hn

theorem snoopAnswer_fwd (hx : x = .fwdS ∨ x = .fwdI ∨ x = .fwdV) :
    s.snoopAnswer slice tag a x = s.checkAnswers { answeredBy t a with fwd := true, needDat := true } := by
  rcases hx with rfl | rfl | rfl <;> simp [snoopAnswer, ht, hk, hf, ha, hp, hd, he, hn, answeredBy]

theorem snoopAnswer_fwdF (hx : x = .fwdF) :
    s.snoopAnswer slice tag a x = s.checkAnswers { answeredBy t a with fwd := true, keptF := true, needDat := true } := by
  subst hx
  simp [snoopAnswer, ht, hk, hf, ha, hp, hd, he, hn, answeredBy]

end

/-! ### Data of a holder (R207) -/

theorem datSnoopOp_open {d : Dat} {s : State} (ho : s.Open (Dom.sf d.port.val)) (hp : s.portTakes d.port.val d.agent.toNat = true) :
    s.datSnoopOp d = s.snoopData d := by
  rw [datSnoopOp, cross_open _ _ ho.1 ho.2, hp]
  rfl

section
variable {d : Dat} {s : State}

/-- Data that no open transaction awaits comes late. -/
theorem snoopData_late (h : ∀ t, s.txnAt (d.homeTag.toNat / 256) (d.homeTag.toNat % 256) = some t →
      t.phase ≠ .snooping ∨ s.snoopOf t d.agent.toNat = none) :
    s.snoopData d = s.lateData (d.homeTag.toNat / 256) (d.homeTag.toNat % 256) d := by
  have hnone : (s.txnAt (d.homeTag.toNat / 256) (d.homeTag.toNat % 256)).filter
      (fun t => decide (t.phase = .snooping) && (s.snoopOf t d.agent.toNat).isSome) = none := by
    refine Option.filter_eq_none_iff.2 fun t ht => ?_
    rcases h t ht with hp | hs
    · simp [hp]
    · simp [hs]
  simp only [snoopData, hnone]

variable {t : Txn} {p a x : Nat} (ht : s.txnAt (d.homeTag.toNat / 256) (d.homeTag.toNat % 256) = some t) (hp : t.phase = .snooping)
  (hs : s.snoopOf t d.agent.toNat ≠ none)
include ht hp hs

/-- The transaction that awaits a holder's data. -/
theorem filter_awaiting : (s.txnAt (d.homeTag.toNat / 256) (d.homeTag.toNat % 256)).filter
    (fun t => decide (t.phase = .snooping) && (s.snoopOf t d.agent.toNat).isSome) = some t := by
  rw [ht]
  exact Option.filter_some_pos (by simp [hp, Option.isSome_iff_ne_none.2 hs])

variable (ha : t.asker = .agent p a x)
include ha

/-- Data for the home is dirty where an agent is the requester. -/
theorem snoopData_home (hd : d.dest.toNat = 31) :
    s.snoopData d = (s.wroteRsv t.line d.agent.toNat).checkAnswers
      { t with data := some d.data, poison := t.poison || d.poison, dirty := true, needDat := false } := by
  simp only [snoopData, filter_awaiting ht hp hs, ha, hd, if_true, Bool.or_true, Bool.true_or]

/-- Data for the requester, whose line the home has already. -/
theorem snoopData_requester (hd : d.dest.toNat = a) (h31 : a ≠ 31) (hx : d.txn.toNat = x) (hdat : t.data ≠ none) :
    s.snoopData d = (((if d.dirty = true then s.wroteRsv t.line d.agent.toNat else s).emit
      (.dat (agentPort s a) a x 0 d.data d.poison d.dirty)).checkAnswers
        { t with direct := true, directDirty := t.directDirty || d.dirty, needDat := false }) := by
  have hdata : t.data.isNone = false := Option.isNone_eq_false_iff.2 (Option.isSome_iff_ne_none.2 hdat)
  simp only [snoopData, filter_awaiting ht hp hs, ha, hd, hx, if_neg h31, and_self, decide_true, if_true, hdata, Bool.false_and, Bool.or_false]

theorem snoopData_stray (hd : d.dest.toNat ≠ 31) (hne : d.dest.toNat ≠ a) : s.snoopData d = s.protocolErr t.line := by
  have hother : decide (a = d.dest.toNat ∧ x = d.txn.toNat) = false := decide_eq_false fun h => hne h.1.symm
  simp only [snoopData, filter_awaiting ht hp hs, ha, if_neg hd, hother, Bool.false_eq_true, if_false]

end

section
variable {slice tag : Nat} {d : Dat} {s : State}

theorem lateData_unawaited (h : (s.sf.late.find? fun l => decide (l.slice = slice ∧ l.tag = tag ∧ l.agent = d.agent.toNat)) = none) :
    s.lateData slice tag d = s.protocolErr 0 := by
  simp only [lateData, h]

theorem lateData_written {l : LateDat} (h : (s.sf.late.find? fun l => decide (l.slice = slice ∧ l.tag = tag ∧ l.agent = d.agent.toNat)) = some l)
    (hl : isHostLine l.line = false) (hm : l.mask ≠ 0) :
    s.lateData slice tag d = (s.modSf fun f => { f with late := f.late.filter (· ≠ l) }).memPut l.line l.mask d.data d.poison := by
  simp only [lateData, h, hl, hm, Bool.false_eq_true, or_self, if_false]

end

/-! ### Timeouts (R216, R220) -/

/-- The error of an agent that has not answered a snoop in time. -/
def snoopLate (t : Txn) (a : Nat) (s : State) : State :=
  s.raise Reg.SF Err.SF_SNOOP_TIMEOUT
    { Capture.none with addr := w64 (64 * t.line), space := 1, access := 3, cls := if a = 16 then 0 else 1, index := a }

section
variable {slice tag a : Nat} {s : State}

theorem snoopLost_no_txn (h : s.txnAt slice tag = none) : s.snoopLost slice tag a = s := by
  simp only [snoopLost, h]

variable {t : Txn} (ht : s.txnAt slice tag = some t)
include ht

theorem snoopLost_not_snooping (hp : t.phase ≠ .snooping) : s.snoopLost slice tag a = s := by
  simp only [snoopLost, ht, hp, ne_eq, not_false_eq_true, true_or, if_true]

variable (hp : t.phase = .snooping) (ha : a ∈ t.snoops) (he : t.early = none)
include hp ha he

/-- The line of an EXCL holder that has not answered is written poisoned. -/
theorem snoopLost_holder {e : SfEntry} (hs : (s.snoopLate t a).sfEntry t.line = some e) (hx : e.st = .excl) (hf : e.fwd = a) :
    s.snoopLost slice tag a =
      ((s.snoopLate t a).freshLine.2.memPut t.line (BitVec.allOnes 64) (s.snoopLate t a).freshLine.1 true).checkAnswers
        { answeredBy t a with evicted := true, data := some (s.snoopLate t a).freshLine.1, dirty := false, poison := true } := by
  rw [snoopLate] at hs
  simp [snoopLost, snoopLate, answeredBy, ht, hp, ha, he, hs, hx, hf]

/-- An agent that holds the line SHARED, or not at all, is taken to have answered RSP_I. -/
theorem snoopLost_shared (hs : ((s.snoopLate t a).sfEntry t.line).all (fun e => decide (e.st = .shared)) = true) :
    s.snoopLost slice tag a = (s.snoopLate t a).checkAnswers (answeredBy t a) := by
  rw [snoopLate] at hs
  cases h : (s.raise Reg.SF Err.SF_SNOOP_TIMEOUT
    { Capture.none with addr := w64 (64 * t.line), space := 1, access := 3, cls := if a = 16 then 0 else 1, index := a }).sfEntry t.line with
  | none => simp [snoopLost, snoopLate, answeredBy, isHolder, ht, hp, ha, he, h]
  | some e =>
    have hst : e.st = .shared := by simpa [h] using hs
    simp [snoopLost, snoopLate, answeredBy, isHolder, ht, hp, ha, he, h, hst]

end

theorem creditExpire_out {slice n : Nat} {s : State} (h : (s.sf.credits.any fun c => decide (c.slice = slice ∧ c.num = n)) = true) :
    s.creditExpire slice n = ((s.modSf fun f => { f with credits := f.credits.filter fun c => !decide (c.slice = slice ∧ c.num = n) }).bump
      Reg.SF_STAT_CREDIT_EXPIRE) := if_pos h

theorem creditExpire_unknown {slice n : Nat} {s : State} (h : (s.sf.credits.any fun c => decide (c.slice = slice ∧ c.num = n)) = false) :
    s.creditExpire slice n = s := if_neg (Bool.eq_false_iff.1 h)

end State

open State

/-- Each of the seven commands is its answer of Table 4. -/
theorem exec_snoopAnswer {x : Answer} {c : Rsp → Instr}
    (h : (x, c) ∈ [(Answer.i, Instr.rspI), (.s, Instr.rspS), (.fwdS, Instr.rspFwdS), (.fwdF, Instr.rspFwdF), (.fwdI, Instr.rspFwdI),
      (.iWb, Instr.rspIWb), (.fwdV, Instr.rspFwdV)]) (m : Rsp) (s : State) :
    exec (c m) s = .next (s.done (s.rspOp x (c m) m)) := by
  simp only [List.mem_cons, Prod.mk.injEq, List.not_mem_nil, or_false] at h
  rcases h with ⟨rfl, rfl⟩ | ⟨rfl, rfl⟩ | ⟨rfl, rfl⟩ | ⟨rfl, rfl⟩ | ⟨rfl, rfl⟩ | ⟨rfl, rfl⟩ | ⟨rfl, rfl⟩ <;> rfl

/-- Settles O30: the answers, the data of a holder, the snoop timeout, flushes of a slice and Bullpen credits. -/
theorem snoopAnswers : Obligations.SnoopAnswers := by
  refine ⟨⟨fun x c hc m s ho hp => ?_, fun d s ho hp => ?_, fun slice tag a s => ?_⟩, fun port agent slice s => ?_, fun slice n s => ?_⟩
  · have hends {u : State} (hu : s.snoopAnswer (m.homeTag.toNat / 256) (m.homeTag.toNat % 256) m.agent.toNat x = u) : Ends (c m) s u :=
      Ends.of_done (exec_snoopAnswer hc m s) ((rspOp_open ho hp).trans hu)
    refine ⟨fun h => hends (snoopAnswer_no_txn h), fun t ht => ⟨fun h => hends (snoopAnswer_not_owed ht h),
      fun k hk hf => hends (snoopAnswer_unfit ht hk hf), fun k hk hf ha hs => ⟨fun hx => ?_, fun hx hi hh he => ?_, fun hx h => ?_,
      fun hx hd he => ?_, fun hx hd hn he => ?_, fun hx hd hn he => ?_⟩⟩⟩
    · exact hends (snoopAnswer_kept ht hk hf ha hs hx)
    · exact hends (snoopAnswer_early ht hk hf ha hs hx hi hh he)
    · exact hends (snoopAnswer_invalid ht hk hf ha hs hx h)
    · exact hends (snoopAnswer_wb ht hk hf ha hs hd he hx)
    · exact hends (snoopAnswer_fwd ht hk hf ha hs hd he hn hx)
    · exact hends (snoopAnswer_fwdF ht hk hf ha hs hd he hn hx)
  · have hends {u : State} (hu : s.snoopData d = u) : Ends (.datSnoop d) s u := Ends.of_done rfl ((datSnoopOp_open ho hp).trans hu)
    refine ⟨fun t p a x ht hph hs ha => ⟨fun hd => ?_, fun hd h31 hx hdat => ?_, fun hd hne => ?_⟩, fun h => ⟨fun hl => ?_, fun l hl hh hm => ?_⟩⟩
    · exact hends (snoopData_home ht hph hs ha hd)
    · exact hends (snoopData_requester ht hph hs ha hd h31 hx hdat)
    · exact hends (snoopData_stray ht hph hs ha hd hne)
    · exact hends ((snoopData_late h).trans (lateData_unawaited hl))
    · exact hends ((snoopData_late h).trans (lateData_written hl hh hm))
  · refine ⟨fun h => Ends.of_clocked rfl (snoopLost_no_txn h), fun t ht hp => Ends.of_clocked rfl (snoopLost_not_snooping ht hp),
      fun t ht hp ha he => ⟨fun e hs hx hf => ?_, fun hs => ?_⟩⟩
    · exact Ends.of_clocked rfl (snoopLost_holder ht hp ha he hs hx hf)
    · exact Ends.of_clocked rfl (snoopLost_shared ht hp ha he hs)
  · exact ⟨fun hp => Ends.of_message rfl (if_pos hp), fun hp ho => Ends.of_message rfl ((if_neg (Bool.eq_false_iff.1 hp)).trans (if_pos ho))⟩
  · exact ⟨fun h => Ends.of_clocked rfl (creditExpire_out h), fun h => Ends.of_clocked rfl (creditExpire_unknown h)⟩

end Sys2Proof.Machine

/-! ## Whom the home asks, and what it grants (O31) -/

namespace Sys2Proof.Machine

namespace State

/-! ### Snoops of a request (R209 Table 5) -/

/-- The snoop of a line's EXCL or FWD holder, where it is not the requester itself. -/
def holderSnoops (e : SfEntry) (r : Nat) (k : Snoop) : List (Nat × Snoop) := if e.fwd < 16 ∧ e.fwd ≠ r then [(e.fwd, k)] else []

/-- The snoops of a line's other holders under MULTI: of every enabled agent but the requester and the holder. -/
def otherSnoops (e : SfEntry) (r : Nat) (on : Nat → Bool) (k : Snoop) : List (Nat × Snoop) :=
  if e.multi then ((List.range 16).filter fun a => on a && !decide (a = r) && !decide (a = e.fwd)).map (·, k) else []

/-- The back-invalidation snoop of the host, where it may hold the line and is not the requester itself. -/
def hostSnoops (e : SfEntry) (r : Nat) (b : BiSnp) : Option BiSnp := if r = 16 then none else if e.host || decide (e.st = .hostx) then some b else none

section
variable {e : SfEntry} {r : Nat} {on : Nat → Bool} {k : Snoop} {b : BiSnp}

theorem mem_holderSnoops {q : Nat × Snoop} : q ∈ holderSnoops e r k ↔ q = (e.fwd, k) ∧ e.fwd < 16 ∧ e.fwd ≠ r := by
  by_cases h : e.fwd < 16 ∧ e.fwd ≠ r <;> simp [holderSnoops, h]

theorem mem_otherSnoops {q : Nat × Snoop} :
    q ∈ otherSnoops e r on k ↔ q.2 = k ∧ e.multi = true ∧ q.1 < 16 ∧ on q.1 = true ∧ q.1 ≠ r ∧ q.1 ≠ e.fwd := by
  by_cases hm : e.multi = true
  · simp only [otherSnoops, hm, if_true, List.mem_map, List.mem_filter, List.mem_range, Bool.and_eq_true, Bool.not_eq_true',
      decide_eq_false_iff_not, true_and, and_assoc]
    constructor
    · rintro ⟨a, h16, hon, hr, hf, rfl⟩
      exact ⟨rfl, h16, hon, hr, hf⟩
    · rintro ⟨rfl, h16, hon, hr, hf⟩
      exact ⟨q.1, h16, hon, hr, hf, rfl⟩
  · simp [otherSnoops, hm]

theorem hostSnoops_of_agent (hr : r ≠ 16) : hostSnoops e r b = if e.host = true ∨ e.st = .hostx then some b else none := by
  rw [hostSnoops, if_neg hr]
  simp only [Bool.or_eq_true, decide_eq_true_eq]

/-- A grant of ownership takes the holder's data and invalidates the other holders and the host. -/
theorem snoopPlan_rdOwn (rsv : Option (Nat × Nat × Nat × Nat)) :
    snoopPlan (.rdOwn rsv) (some e) r on = (holderSnoops e r .invFwd ++ otherSnoops e r on .inv, hostSnoops e r .inv) := rfl

/-- A back-invalidation invalidates every holder. -/
theorem snoopPlan_backInv (discard : Bool) :
    snoopPlan (.backInv discard) (some e) r on = (holderSnoops e r .inv ++ otherSnoops e r on .inv, hostSnoops e r .inv) := rfl

/-- The snoops of a request that leaves the holders their copies: of the holder alone, or in HOSTX of the host alone. -/
def shareSnoops (e : SfEntry) (r : Nat) (k : Snoop) (b : BiSnp) : List (Nat × Snoop) × Option BiSnp :=
  match e.st with
  | .excl | .fwd => (holderSnoops e r k, none)
  | .shared => ([], none)
  | .hostx => ([], hostSnoops e r b)

theorem snoopPlan_rdShared : snoopPlan .rdShared (some e) r on = shareSnoops e r .data .data := rfl

theorem snoopPlan_rdCur : snoopPlan .rdCur (some e) r on = shareSnoops e r .cur .cur := rfl

theorem shareSnoops_shared (h : e.st = .shared) : shareSnoops e r k b = ([], none) := by simp only [shareSnoops, h]

theorem shareSnoops_held (h : e.st = .excl ∨ e.st = .fwd) (hf : e.fwd < 16) (hr : e.fwd ≠ r) : shareSnoops e r k b = ([(e.fwd, k)], none) := by
  have hholder : holderSnoops e r k = [(e.fwd, k)] := if_pos ⟨hf, hr⟩
  rcases h with h | h <;> simp only [shareSnoops, h, hholder]

theorem shareSnoops_hostx (h : e.st = .hostx) (hr : r ≠ 16) : shareSnoops e r k b = ([], some b) := by
  simp only [shareSnoops, h, hostSnoops_of_agent hr, or_true, if_true]

theorem shareSnoops_of_host : (shareSnoops e 16 k b).2 = none := by
  unfold shareSnoops
  split <;> rfl

end

/-- The host's own requests ask the host nothing. -/
theorem snoopPlan_host (k : TxnKind) (e : Option SfEntry) (on : Nat → Bool) : (snoopPlan k e 16 on).2 = none := by
  cases e with
  | none => rfl
  | some e =>
    cases k with
    | memClean => rfl
    | rdShared | rdCur | ncRead | memCur | moveLine _ | memShared => exact shareSnoops_of_host
    | atomic far _ _ _ _ _ => cases far <;> rfl
    | rdOwn _ | memOwn | rdOwnNodata _ | ncWrite _ _ _ | memWrite _ _ _ _ | backInv _ => rfl

/-! ### Grants to an agent (R209 Table 5, R262) -/

/-- An agent as the one holder of a line. -/
def exclEntry (line a : Nat) : SfEntry := { tag := sfTag line, st := .excl, host := false, multi := false, fwd := a }

/-- An agent becomes the one holder of a line. -/
def own (line a : Nat) (s : State) : State := (s.sfWrite line (some (exclEntry line a))).grantRsv line a

@[simp] theorem afterEvict_live {t : Txn} (h : t.evicted = false) (e : Option SfEntry) : afterEvict t e = e := by
  cases e <;> simp [afterEvict, h]

@[simp] theorem readerDone_live {t : Txn} (h : t.evicted = false) (e : Option SfEntry) (s : State) : s.readerDone t e = s := by
  simp [readerDone, h]

section
variable {t : Txn} {s : State} {p a x : Nat} (hl : isHostLine t.line = false) (ha : t.asker = .agent p a x) (hd : t.direct = false)

include ha hd

include hl in
theorem grant_rdShared_unheld (hk : t.kind = .rdShared) :
    s.grant t none = (own t.line a (s.sendData t (t.data.getD 0) t.poison false)).answer t .goE false := by
  simp [grant, own, exclEntry, askerAgent, afterEvict, hk, hl, ha, hd]

theorem grant_rdShared_shared (he : t.evicted = false) {e : SfEntry} (hk : t.kind = .rdShared) (hs : e.st = .shared) :
    s.grant t (some e) =
      ((s.sendData t (t.data.getD 0) t.poison false).sfWrite t.line
        (some { tag := sfTag t.line, st := .fwd, host := e.host, multi := e.multi, fwd := a })).answer t .goF false := by
  simp [grant, noteLate, askerAgent, hk, hs, ha, hd, he]

theorem grant_rdOwn (e : Option SfEntry) (hk : t.kind = .rdOwn none) :
    s.grant t e = (own t.line a (s.sendData t (t.data.getD 0) t.poison false)).answer t .goE false := by
  simp [grant, own, exclEntry, askerAgent, hk, ha, hd]

omit ha in
theorem grant_rdCur (he : t.evicted = false) (e : Option SfEntry) (hk : t.kind = .rdCur) :
    s.grant t e = (s.sendData t (t.data.getD 0) t.poison false).answer t .goI false := by
  simp [grant, hk, hd, he]

omit hd in
include hl in
theorem grant_rdOwnNodata (e : Option SfEntry) {zero : Bool} (hk : t.kind = .rdOwnNodata zero) :
    s.grant t e = (own t.line a (s.wroteRsv t.line a)).answer t .goM false := by
  simp [grant, own, exclEntry, askerAgent, hk, hl, ha]

end

end State

open State

/-- Settles O31: the snoops of a request by the state of its line, and the grants of a device-memory line. -/
theorem homeTables : Obligations.HomeTables := by
  refine ⟨⟨fun k r on => rfl, fun e r on hr => ⟨fun h => ?_, fun h hf hne => ?_, fun h => ?_, fun rsv => ?_, fun discard q hq => ?_⟩, snoopPlan_host⟩,
    fun t s p a x hl ha hd he _ => ⟨grant_rdShared_unheld hl ha hd, fun e => grant_rdShared_shared ha hd he, fun e => grant_rdOwn ha hd e,
      fun e => grant_rdCur hd he e, fun e z => grant_rdOwnNodata hl ha e⟩⟩
  · exact ⟨shareSnoops_shared h, shareSnoops_shared h⟩
  · exact ⟨shareSnoops_held h hf hne, shareSnoops_held h hf hne⟩
  · exact ⟨shareSnoops_hostx h hr, shareSnoops_hostx h hr⟩
  · simp only [snoopPlan_rdOwn, hostSnoops_of_agent hr, List.mem_append, mem_holderSnoops, mem_otherSnoops]
    refine ⟨fun hf hne => .inl ⟨trivial, hf, hne⟩, fun a => ?_, ?_⟩
    · simp
    · split <;> simp_all
  · rw [snoopPlan_backInv, List.mem_append, mem_holderSnoops, mem_otherSnoops] at hq
    rcases hq with ⟨rfl, hf, hne⟩ | ⟨hk, -, h16, -, hne, -⟩
    · exact ⟨rfl, hf, hne⟩
    · exact ⟨hk, h16, hne⟩

end Sys2Proof.Machine

/-! ## Places in the snoop filter (O32) -/

namespace Sys2Proof.Machine

theorem sfSet_lt (la : Nat) : sfSet la < 2 ^ 15 :=
  Nat.xor_lt_two_pow (Nat.xor_lt_two_pow (Nat.mod_lt _ (by decide)) (Nat.mod_lt _ (by decide)))
    (Nat.lt_trans (Nat.mod_lt _ (by decide)) (by decide))

theorem sfTag_lt (la : Nat) : sfTag la < 2 ^ 23 := Nat.mod_lt _ (by decide)

/-- The tag of a device-memory line is everything above the 15 bits of its set. -/
theorem sfTag_eq {la : Nat} (h : la < 2 ^ 38) : sfTag la = la / 2 ^ 15 := by
  rw [sfTag, Nat.shiftRight_eq_div_pow, Nat.mod_eq_of_lt (by omega)]

/-- Two numbers laid over a third leave it when they are laid over it again, in the same order. -/
theorem xor_pair_cancel (a x y : Nat) : a ^^^ x ^^^ y ^^^ x ^^^ y = a := by
  have hx : a ^^^ x ^^^ y ^^^ x = a ^^^ y := by
    rw [Nat.xor_assoc (a ^^^ x), Nat.xor_comm y x, ← Nat.xor_assoc, Nat.xor_assoc a, Nat.xor_self, Nat.xor_zero]
  rw [hx, Nat.xor_assoc, Nat.xor_self, Nat.xor_zero]

/-- Set and tag give the line back (R205): the tag's bits leave the set, and the low bits of the line stand in it. -/
theorem sfLine_set_tag {la : Nat} (h : la < 2 ^ 38) : sfLine (sfSet la) (sfTag la) = la := by
  have hhigh : sfTag la >>> 15 = la >>> 30 := by rw [sfTag_eq h, ← Nat.shiftRight_eq_div_pow, ← Nat.shiftRight_add]
  have hlow : sfSet la ^^^ (sfTag la % 2 ^ 15) ^^^ (sfTag la >>> 15 % 2 ^ 8) = la % 2 ^ 15 := by
    rw [hhigh, sfTag_eq h, sfSet, Nat.shiftRight_eq_div_pow la 15, xor_pair_cancel]
  calc sfLine (sfSet la) (sfTag la) = la % 2 ^ 15 + la / 2 ^ 15 * 2 ^ 15 := by rw [sfLine, hlow, sfTag_eq h]
    _ = la := Nat.mod_add_div' la _

/-- Settles O32: the widths of set and tag, and the line that they give back. -/
theorem snoopFilterPlaces : Obligations.SnoopFilterPlaces := by
  refine fun la lb ha hb => ⟨sfSet_lt la, sfTag_lt la, sfLine_set_tag ha, fun hset htag => ?_⟩
  calc la = sfLine (sfSet la) (sfTag la) := (sfLine_set_tag ha).symm
    _ = sfLine (sfSet lb) (sfTag lb) := by rw [hset, htag]
    _ = lb := sfLine_set_tag hb

end Sys2Proof.Machine

/-! ## CXL.mem (O33) -/

namespace Sys2Proof.Machine

open State

namespace State

/-- A message of the host that finds the upstream port awake leaves it as it is. -/
theorem fromHost_awake {f : State → State} {s : State} (hc : s.Awake Dom.upCtl) (hp : s.Awake Dom.upPhy) : fromHost f s = f s := by
  rw [fromHost, touch_awake hc.1 hc.2, touch_awake hp.1 hp.2]

/-! ### Requests of the host at a home (R210, R212, R215) -/

/-- A request of the host takes a reserved entry of its line's home, or waits for one or for a home that sleeps. -/
def hostEnters (line tag : Nat) (k : TxnKind) (s : State) : State :=
  let slice := s.sliceOf line
  match (if s.heldBefore slice (.host tag) = true ∨ s.homeReady slice line = false then none else s.reservedTag slice) with
  | some n => s.addTxn (newTxn slice n line k (.host tag) none s.now)
  | none => s.hold slice line k (.host tag) none 0 0

theorem addHomeTxn_host (line tag : Nat) (k : TxnKind) (s : State) : s.addHomeTxn line k (.host tag) = s.hostEnters line tag k := by
  have hguard : (s.heldBefore (s.sliceOf line) (.host tag) || !s.homeReady (s.sliceOf line) line) = true ↔
      s.heldBefore (s.sliceOf line) (.host tag) = true ∨ s.homeReady (s.sliceOf line) line = false := by simp
  by_cases hw : s.heldBefore (s.sliceOf line) (.host tag) = true ∨ s.homeReady (s.sliceOf line) line = false
  · simp only [addHomeTxn, addHomeTxnFor, hostEnters, if_pos (hguard.2 hw), if_pos hw]
  · simp only [addHomeTxn, addHomeTxnFor, hostEnters, if_neg (mt hguard.1 hw), if_neg hw, entryFor, fromPorts, if_true]
    cases s.reservedTag (s.sliceOf line) <;> rfl

section
variable {s : State} {line tag : Nat}

/-- A request that is no write goes to its home. -/
theorem hostRequest_enters {k : TxnKind} (hk : ∀ mv mask d p, k ≠ .memWrite mv mask d p) : s.hostRequest line tag k = s.hostEnters line tag k := by
  rw [← addHomeTxn_host]
  cases k with
  | memWrite mv mask d p => exact absurd rfl (hk mv mask d p)
  | _ => rfl

variable {mv : MetaValue} {mask : BitVec 64} {d : Line} {p : Bool}

theorem hostRequest_write_enters (h : s.biTxn? line = none) :
    s.hostRequest line tag (.memWrite mv mask d p) = s.hostEnters line tag (.memWrite mv mask d p) := by
  rw [← addHomeTxn_host]
  simp only [hostRequest, h]
  rfl

/-- A write under an open BISnp is the write-back before the host's answer (R219). -/
theorem hostRequest_writeBack (h : s.biTxn? line ≠ none) :
    s.hostRequest line tag (.memWrite mv mask d p) = ((s.memPut line mask d p).breakRsv line none).emit (.memCmp tag .i) := by
  obtain ⟨t, ht⟩ := Option.ne_none_iff_exists'.1 h
  simp only [hostRequest, ht]

end

/-! ### Decoding (R305, R306, R399) -/

section
variable {s : State} {m : MemReq} {read : Bool} {f : Nat → State → State}

theorem memOp_mapped {da : Nat} (hw : s.wholeSafe = false) (hd : s.hdmDecode m.hpa.toNat = some da) : s.memOp m read f = f (da / 64) s := by
  simp only [memOp, hw, Bool.false_eq_true, if_false, hd]

/-- The answer to a CXL.mem request that no decoder maps: MEM_UNSUP, and for a read poisoned data, for another Cmp. -/
def memUnmapped (tag : Nat) (read : Bool) (s : State) : State :=
  let u := s.raise Reg.UP Err.UP_MEM_UNSUP Capture.none
  if read then u.freshLine.2.emit (.memData tag u.freshLine.1 true .i) else u.emit (.memCmp tag .i)

theorem memOp_unmapped (h : s.wholeSafe = true ∨ s.hdmDecode m.hpa.toNat = none) : s.memOp m read f = s.memUnmapped m.tag.toNat read := by
  have hnone : (if s.wholeSafe then none else s.hdmDecode m.hpa.toNat) = none := by
    rcases h with h | h <;> simp [h]
  simp only [memOp, hnone]
  rfl

/-- What a MemRd asks the home for, by its MetaValue (R210 Table 6). -/
def readKind (m : MemReq) : TxnKind := if m.noOp then .memCur else match m.metaV with | .s => .memShared | .a => .memOwn | .i => .memCur

theorem readKind_ne_memWrite (m : MemReq) (mv : MetaValue) (mask : BitVec 64) (d : Line) (p : Bool) : readKind m ≠ .memWrite mv mask d p := by
  unfold readKind
  repeat' split
  all_goals exact TxnKind.noConfusion

end

/-! ### BISnp and its conflicts (R209, R219) -/

section
variable {s : State} {line : Nat}

theorem biAnswer_unasked (h : s.biTxn? line = none) : s.biAnswer line = s.protocolErr line := by simp only [biAnswer, h]

theorem biAnswer_asked {t : Txn} (h : s.biTxn? line = some t) :
    s.biAnswer line = s.checkAnswers { t with snoops := t.snoops.filter (· ≠ 16) } := by simp only [biAnswer, h]

/-- A BIConflict as it is counted. -/
def countConflict (s : State) : State := s.bump Reg.SF_STAT_BICONFLICT

theorem biConflict_awaits (h : s.countConflict.biTxn? line ≠ none) :
    s.biConflict line = s.countConflict.modSf fun f => { f with conflicts := f.conflicts ++ [(line, none)] } :=
  if_pos (Option.isSome_iff_ne_none.2 h)

theorem biConflict_acknowledged (h : s.countConflict.biTxn? line = none) (ho : s.countConflict.openTxn? line = none) :
    s.biConflict line = s.countConflict.emit (.biConflictAck line) := by
  rw [countConflict] at h ho
  simp [biConflict, countConflict, h, ho]

end

/-! ### What the host is given of a device-memory line (R210 Table 6) -/

@[simp] theorem countFwd_of_not_fwd {t : Txn} (h : t.fwd = false) (s : State) : s.countFwd t = s := by simp [countFwd, h]

section
variable {t : Txn} {s : State} {tag : Nat} (hl : isHostLine t.line = false) (ha : t.asker = .host tag) (hf : t.fwd = false)

include hl ha hf

theorem finishTxn_memOwn (hk : t.kind = .memOwn) :
    s.finishTxn t = ((s.sfWrite t.line (some { tag := sfTag t.line, st := .hostx, host := true, multi := false, fwd := 31 })).emit
      (.memData tag (t.data.getD 0) t.poison .a)).closeTxn t := by
  simp [finishTxn, hl, ha, hf, hk]

theorem finishTxn_memShared_unheld (hk : t.kind = .memShared) (hkept : t.keptF = false) (he : s.sfEntry t.line = none) :
    s.finishTxn t = ((s.sfWrite t.line (some { tag := sfTag t.line, st := .shared, host := true, multi := false, fwd := 31 })).emit
      (.memData tag (t.data.getD 0) t.poison .s)).closeTxn t := by
  simp [finishTxn, hl, ha, hf, hk, hkept, he, afterEvict]

theorem finishTxn_memCur (hv : t.evicted = false) (hk : t.kind = .memCur) :
    s.finishTxn t = (s.emit (.memData tag (t.data.getD 0) t.poison .i)).closeTxn t := by
  simp [finishTxn, hl, ha, hf, hk, hv]

variable {e : SfEntry} (he : s.sfEntry t.line = some e)
include he

theorem finishTxn_memWrite {mv : MetaValue} {mask : BitVec 64} {d : Line} {p : Bool} (hk : t.kind = .memWrite mv mask d p) :
    s.finishTxn t = (((if e.st = .hostx ∧ mv = .a then s else s.sfWrite t.line none).breakRsv t.line none).emit (.memCmp tag .i)).closeTxn t := by
  by_cases hx : e.st = .hostx <;> simp [finishTxn, hl, ha, hf, hk, he, hx]

theorem finishTxn_memClean (hk : t.kind = .memClean) :
    s.finishTxn t =
      ((s.sfWrite t.line (if e.st = .hostx ∨ (e.st = .shared ∧ e.multi = false) then none else some { e with host := false })).emit
        (.memCmp tag .i)).closeTxn t := by
  simp [finishTxn, hl, ha, hf, hk, he]

end

/-! ### What a host-memory line asks of the host (R222 Table 7) -/

/-- A line that the slice holds in E or M asks nothing. -/
theorem hostNeed_owned (k : TxnKind) {h : Nat} (h2 : 2 ≤ h) : hostNeed k h = none := by
  have h0 : h ≠ 0 := by omega
  have h1 : h ≠ 1 := by omega
  have hlt : ¬ h < 2 := by omega
  cases k with
  | rdShared | rdCur | ncRead | memCur => exact if_neg h0
  | rdOwn _ => exact (if_neg h0).trans (if_neg h1)
  | rdOwnNodata _ => exact if_neg hlt
  | atomic far _ _ _ _ _ =>
    cases far with
    | false => exact (if_neg h0).trans (if_neg h1)
    | true => exact if_neg hlt
  | ncWrite mask _ _ => exact if_pos (.inr h2)
  | _ => rfl

end State

section
variable {s : State} (hc : s.Awake Dom.upCtl) (hp : s.Awake Dom.upPhy)
include hc hp

/-- A message of the host that finds its upstream port awake, with what it does worked out. -/
theorem Ends.of_hostMessage {c d : Instr} {u : State} {f : State → State} (h : exec c s = .next (s.done (s.clocked d (fromHost f)))) (hf : f s = u) :
    Ends c s u := Ends.of_message h ((fromHost_awake hc hp).trans hf)

/-- The CXL.mem requests that a decoder maps. -/
theorem memRequests_mapped (m : MemReq) {da : Nat} (hw : s.wholeSafe = false) (hd : s.hdmDecode m.hpa.toNat = some da) :
    Ends (.memRd m) s (s.hostEnters (da / 64) m.tag.toNat (readKind m)) ∧
    Ends (.memInv m) s (s.hostEnters (da / 64) m.tag.toNat .memOwn) ∧
    Ends (.memClnEvct m) s (s.hostEnters (da / 64) m.tag.toNat .memClean) ∧
    (s.biTxn? (da / 64) = none →
      Ends (.memWr m) s (s.hostEnters (da / 64) m.tag.toNat (.memWrite (if m.noOp = true then .i else m.metaV) m.mask m.data m.poison))) ∧
    (s.biTxn? (da / 64) ≠ none →
      Ends (.memWr m) s (((s.memPut (da / 64) m.mask m.data m.poison).breakRsv (da / 64) none).emit (.memCmp m.tag.toNat .i))) := by
  refine ⟨?_, ?_, ?_, fun h => ?_, fun h => ?_⟩
  · exact .of_hostMessage hc hp rfl ((memOp_mapped hw hd).trans (hostRequest_enters (readKind_ne_memWrite m)))
  · exact .of_hostMessage hc hp rfl ((memOp_mapped hw hd).trans (hostRequest_enters fun _ _ _ _ => TxnKind.noConfusion))
  · exact .of_hostMessage hc hp rfl ((memOp_mapped hw hd).trans (hostRequest_enters fun _ _ _ _ => TxnKind.noConfusion))
  · exact .of_hostMessage hc hp rfl ((memOp_mapped hw hd).trans (hostRequest_write_enters h))
  · exact .of_hostMessage hc hp rfl ((memOp_mapped hw hd).trans (hostRequest_writeBack h))

/-- The CXL.mem requests that no decoder maps, or that come in the whole-block safe state. -/
theorem memRequests_unmapped (m : MemReq) (h : s.wholeSafe = true ∨ s.hdmDecode m.hpa.toNat = none) :
    Ends (.memRd m) s (s.memUnmapped m.tag.toNat true) ∧ Ends (.memInv m) s (s.memUnmapped m.tag.toNat false) ∧
    Ends (.memWr m) s (s.memUnmapped m.tag.toNat false) ∧ Ends (.memClnEvct m) s (s.memUnmapped m.tag.toNat false) :=
  ⟨.of_hostMessage hc hp rfl (memOp_unmapped h), .of_hostMessage hc hp rfl (memOp_unmapped h),
    .of_hostMessage hc hp rfl (memOp_unmapped h), .of_hostMessage hc hp rfl (memOp_unmapped h)⟩

end

/-- Settles O33: CXL.mem requests and BIRsp, what the host is given, and what is asked of it. -/
theorem hostMemory : Obligations.HostMemory := by
  refine ⟨fun s hc hp => ⟨fun m da hw hd => memRequests_mapped hc hp m hw hd, fun m h => memRequests_unmapped hc hp m h, fun tag => ?_, fun line => ?_⟩,
    fun t s tag hl ha hv hf => ⟨fun hk => ?_, fun hk hkept he => ?_, fun hk => ?_, fun e he => ⟨fun mv mask d po hk => ?_, fun hk => ?_⟩⟩, ?_⟩
  · exact ⟨.of_hostMessage hc hp rfl rfl, .of_hostMessage hc hp rfl rfl, .of_hostMessage hc hp rfl rfl⟩
  · exact ⟨fun h => .of_hostMessage hc hp rfl (biAnswer_unasked h), fun h ho => .of_hostMessage hc hp rfl (biConflict_acknowledged h ho),
      fun h => .of_hostMessage hc hp rfl (biConflict_awaits h), fun t h => .of_hostMessage hc hp rfl (biAnswer_asked h)⟩
  · exact finishTxn_memOwn hl ha hf hk
  · exact finishTxn_memShared_unheld hl ha hf hk hkept he
  · exact finishTxn_memCur hl ha hf hv hk
  · exact finishTxn_memWrite hl ha hf he hk
  · exact finishTxn_memClean hl ha hf he hk
  · exact ⟨fun k => ⟨hostNeed_owned k (by decide), hostNeed_owned k (by decide)⟩, rfl, rfl, fun _ => ⟨rfl, rfl⟩, fun _ => ⟨rfl, rfl⟩, rfl, rfl⟩

end Sys2Proof.Machine

/-! ## CXL.cache (O34) -/

namespace Sys2Proof.Machine

open State

namespace State

/-! ### Host snoops of a line that the array does not hold (R223, R239) -/

section
variable {s : State} {la : Nat} {k : TxnKind}

/-- An answer to the host without data. -/
def answered (r : H2dRsp) (line : Nat) (s : State) : State := (s.emit (.d2hRsp r line none false)).snoopEnded line

/-- A line of a slice's side buffer. -/
def inSide (s : State) (la : Nat) : Bool := (s.pref (dcSlice s la)).side.any fun e => decide (e.1 = la)

theorem hostSnoop_asleep (h : s.homeReady (dcSlice s la) (hostLineOf la) = false) :
    s.hostSnoop la k = s.hold (dcSlice s la) (hostLineOf la) k (.host 0) none 0 0 := by
  simp [hostSnoop, h]

theorem hostSnoop_aside (h : s.homeReady (dcSlice s la) (hostLineOf la) = true) (hi : s.dcHState la = 0)
    (ho : s.openTxn? (hostLineOf la) = none) : s.hostSnoop la k = s.snoopAside la k := by
  simp [hostSnoop, h, hi, ho]

theorem snoopAside_absent (h : s.inSide la = false) : s.snoopAside la k = s.answered .rspIHitI (hostLineOf la) :=
  if_pos (congrArg not h)

variable (h : s.inSide la = true)
include h

theorem snoopAside_data : s.snoopAside la .rdShared = s.answered .rspSHitSE (hostLineOf la) :=
  if_neg (ne_true_of_eq_false (congrArg not h))

theorem snoopAside_cur : s.snoopAside la .rdCur = s.answered .rspVHitV (hostLineOf la) :=
  if_neg (ne_true_of_eq_false (congrArg not h))

/-- SnpInv takes the line out of the side buffer. -/
theorem snoopAside_inv : s.snoopAside la (.backInv false) =
    ((s.setPref (dcSlice s la) { s.pref (dcSlice s la) with side := (s.pref (dcSlice s la)).side.filter fun e => e.1 ≠ la }).prefRetire
      (dcSlice s la) false).answered .rspIHitSE (hostLineOf la) :=
  if_neg (ne_true_of_eq_false (congrArg not h))

end

/-! ### The transaction that awaits the host -/

section
variable {s : State} {line : Nat} {p : TxnPhase → Bool} {t : Txn}

theorem hostTxn?_eq_none (h : ∀ x ∈ s.sf.txns, x.line ≠ line) : s.hostTxn? line p = none :=
  List.find?_eq_none.2 fun x hx => by simp [h x hx]

/-- A line's one transaction awaits the host. -/
theorem hostTxn?_eq_some (hm : t ∈ s.sf.txns) (hl : t.line = line) (hp : p t.phase = true) (h : ∀ x ∈ s.sf.txns, x.line = line → x = t) :
    s.hostTxn? line p = some t := by
  cases hf : s.hostTxn? line p with
  | none => exact absurd (List.find?_eq_none.1 hf t hm) (by simp [hl, hp])
  | some x =>
    have hx : x.line = line ∧ p x.phase = true := by simpa using List.find?_some hf
    rw [h x (List.mem_of_find?_eq_some hf) hx.1]

theorem hostTxn?_alone (h : s.sf.txns = [t]) (hl : t.line = line) (hp : p t.phase = true) : s.hostTxn? line p = some t :=
  hostTxn?_eq_some (by simp [h]) hl hp fun x hx _ => by simpa [h] using hx

end

/-! ### Fills, GO and pulls (R222, R241, R242) -/

section
variable {s : State} {la : Nat} {g : Grant} {data : Line} {poison : Bool} {t : Txn}

theorem hostFill_current (hm : t ∈ s.sf.txns) (hl : t.line = hostLineOf la) (hp : t.phase = .hostReq .rdCurr)
    (h : ∀ x ∈ s.sf.txns, x.line = hostLineOf la → x = t) :
    s.hostFill la g data poison = s.proceed { t with data := some data, poison := poison, phase := .queued } := by
  rw [hostFill, hostTxn?_eq_some hm hl (by rw [hp]) h]
  exact if_pos hp

section
variable (ht : s.sf.txns = [t]) (hl : t.line = hostLineOf la)
include ht hl

theorem hostFill_shared_for_own (hp : t.phase = .hostReq .rdOwn) (hg : g = .s) : s.hostFill la g data poison = s.protocolErr (hostLineOf la) := by
  rw [hostFill, hostTxn?_alone ht hl (by rw [hp])]
  simp [hp, hg]

/-- A host line fills the way of the request that awaits it, in the granted state. -/
theorem hostFill_way (hp : t.phase = .hostReq .rdShared ∨ (t.phase = .hostReq .rdOwn ∧ g ≠ .s)) :
    s.hostFill la g data poison =
      (s.dcUpdate la fun e => { e with data := data, poison := poison, hstate := grantState g }).startDc { t with phase := .queued } := by
  rcases hp with hp | ⟨hp, hg⟩
  · rw [hostFill, hostTxn?_alone ht hl (by rw [hp])]
    simp [hp]
  · rw [hostFill, hostTxn?_alone ht hl (by rw [hp])]
    simp [hp, hg]

theorem hostGo_granted (hp : t.phase = .hostReq .rdOwnNoData) (hs : s.dcHState la ≠ 0) (hg : g ≠ .s) :
    s.hostGo la g = (s.dcUpdate la fun e => { e with hstate := grantState g }).startDc { t with phase := .queued } := by
  rw [hostGo, hostTxn?_alone ht hl (by rw [hp]; rfl)]
  simp [hg, hs]

/-- Pulled data is the host memory's, and the line leaves the array. -/
theorem writePull_pulled {v : Nat} (hp : t.phase = .writePull v) :
    s.writePull la =
      let u := (s.hostTakes la (t.data.getD 0) t.poison).emit (.d2hData (hostLineOf la) (t.data.getD 0) t.poison)
      (((if 256 ≤ t.tag then u.bump Reg.DC_STAT_DIRTY_VICTIM else u).dcInvalidate la).closeTxn t) := by
  rw [writePull, hostTxn?_alone ht hl (by rw [hp])]

end

variable (h : ∀ x ∈ s.sf.txns, x.line ≠ hostLineOf la)
include h

theorem hostFill_unasked (hn : la ∉ (s.pref (dcSlice s la)).inFlight) : s.hostFill la g data poison = s.protocolErr (hostLineOf la) := by
  rw [hostFill, hostTxn?_eq_none h]
  exact if_neg hn

theorem hostFill_prefetched (hm : la ∈ (s.pref (dcSlice s la)).inFlight) :
    s.hostFill la g data poison = s.prefFill (dcSlice s la) la data poison := by
  rw [hostFill, hostTxn?_eq_none h]
  exact if_pos hm

theorem hostGo_unasked : s.hostGo la g = s.protocolErr (hostLineOf la) := by rw [hostGo, hostTxn?_eq_none h]

theorem writePull_unasked : s.writePull la = s.protocolErr (hostLineOf la) := by rw [writePull, hostTxn?_eq_none h]

end

end State

/-- Each of the three host snoops is its kind of snoop. -/
theorem exec_hostSnoop {c : Instr} {k : TxnKind} {line : BitVec 42}
    (h : (c, k) ∈ [(Instr.snpData line, TxnKind.rdShared), (.snpInv line, .backInv false), (.snpCur line, .rdCur)]) (s : State) :
    exec c s = .next (s.done (s.clocked c (fromHost (hostSnoop (hostLa line.toNat) k)))) := by
  simp only [List.mem_cons, Prod.mk.injEq, List.not_mem_nil, or_false] at h
  rcases h with ⟨rfl, rfl⟩ | ⟨rfl, rfl⟩ | ⟨rfl, rfl⟩ <;> rfl

/-- Settles O34: host snoops, fills, GO and pulls. -/
theorem hostCacheMessages : Obligations.HostCacheMessages := by
  intro s line hc hp la n at_ answered side
  refine ⟨fun ha c k h => ?_, fun hr hi ho => ⟨fun hs => ?_, fun hs => ⟨?_, ?_, ?_⟩⟩, fun g data poison => ⟨fun t hf h => ?_, fun t ht hl hph hg => ?_,
    fun t ht hl hph => ?_, fun h hn => ?_, fun h hm => ?_, fun h => ?_, fun t ht hl hph hs hg => ?_⟩, fun h => ?_, fun t ht hl hph => ?_⟩
  · exact .of_hostMessage hc hp (exec_hostSnoop h s) (hostSnoop_asleep ha)
  · have hsnoop {k : TxnKind} : s.hostSnoop la k = answered .rspIHitI s := (hostSnoop_aside hr hi ho).trans (snoopAside_absent hs)
    simp only [List.forall_mem_cons, List.not_mem_nil, false_implies, implies_true, and_true]
    exact ⟨.of_hostMessage hc hp rfl hsnoop, .of_hostMessage hc hp rfl hsnoop, .of_hostMessage hc hp rfl hsnoop⟩
  · exact .of_hostMessage hc hp rfl ((hostSnoop_aside hr hi ho).trans (snoopAside_data hs))
  · exact .of_hostMessage hc hp rfl ((hostSnoop_aside hr hi ho).trans (snoopAside_cur hs))
  · exact .of_hostMessage hc hp rfl ((hostSnoop_aside hr hi ho).trans (snoopAside_inv hs))
  · obtain ⟨hl, hph⟩ : t.line = at_ ∧ t.phase = .hostReq .rdCurr := by simpa using List.find?_some hf
    exact .of_hostMessage hc hp rfl (hostFill_current (List.mem_of_find?_eq_some hf) hl hph h)
  · exact .of_hostMessage hc hp rfl (hostFill_shared_for_own ht hl hph hg)
  · exact .of_hostMessage hc hp rfl (hostFill_way ht hl hph)
  · exact .of_hostMessage hc hp rfl (hostFill_unasked h hn)
  · exact .of_hostMessage hc hp rfl (hostFill_prefetched h hm)
  · exact .of_hostMessage hc hp rfl (hostGo_unasked h)
  · exact .of_hostMessage hc hp rfl (hostGo_granted ht hl hph hs hg)
  · exact .of_hostMessage hc hp rfl (writePull_unasked h)
  · exact .of_hostMessage hc hp rfl (writePull_pulled ht hl hph)

end Sys2Proof.Machine

/-! ## Device-cache commands (O35) -/

namespace Sys2Proof.Machine

open State

namespace State

/-! ### SF_PRED (R226) -/

theorem sfPredCmd_open {v : Word} {s : State} (ho : s.OpenReg Reg.SF_PRED) (hd : s.Open (Dom.sf (bits v 19 16))) :
    s.sfPredCmd .full v = s.sfPredOp .full v := by
  have hdoms : predDomain Reg.SF_PRED .full v = [Dom.sf (bits v 19 16)] := rfl
  rw [sfPredCmd, barWrite_open _ _ ho, hdoms]
  exact crossAll_open _ _ _ (by simpa using hd)

/-! ### Commands (R235, R236) -/

/-- A command of the device cache begins, with its operands and cleared counts. -/
def beginDcCmd (code : Nat) (arg : Word) (s : State) : State :=
  s.modDc fun d => { d with cmd := code, cmdArg := arg, refused := false, done := 0, denied := 0, cmdKeys := [],
                            cmdAddr := (s.reg Reg.DC_CMD_ADDR).toNat / 64, cmdLeft := 0 }

section
variable {code : Nat} {arg : Word} {s : State}

theorem dcCommand_refused (h1 : 1 ≤ code) (h4 : code ≤ 4) (h : s.dc.cmd ≠ 0) : s.dcCommand code arg = s.modDc fun d => { d with refused := true } := by
  rw [dcCommand, if_neg (by omega), if_pos h]

variable (h : s.dc.cmd = 0)
include h

theorem dcCommand_preload :
    s.dcCommand 1 arg = (s.beginDcCmd 1 arg).modDc fun d => { d with cmdLeft := s.regBits Reg.DC_CMD_LEN 31 0 } :=
  (if_neg (by decide)).trans (if_neg (not_not_intro h))

theorem dcCommand_unlock :
    s.dcCommand 2 arg =
      (List.range (s.regBits Reg.DC_CMD_LEN 31 0)).foldl (fun t i => t.unlockLine ((s.reg Reg.DC_CMD_ADDR).toNat / 64 + i)) (s.beginDcCmd 2 arg) :=
  (if_neg (by decide)).trans (if_neg (not_not_intro h))

theorem dcCommand_flush :
    s.dcCommand 3 arg =
      ((List.range 16).foldl (fun t n => if bit arg (32 + n) then t.prefDrop n else t) (s.beginDcCmd 3 arg)).flushLines
        fun k => bit arg (32 + k / 65536) :=
  (if_neg (by decide)).trans (if_neg (not_not_intro h))

theorem dcCommand_flushContext :
    s.dcCommand 4 arg = (s.beginDcCmd 4 arg).flushLines fun k => decide ((s.beginDcCmd 4 arg).dcCtx k = bits arg 31 20) :=
  (if_neg (by decide)).trans (if_neg (not_not_intro h))

end

section
variable {s : State}

theorem dcEnd_idle (h : s.dc.cmd = 0) : s.dcEnd = s := if_pos (.inl h)

variable (hw : s.dcWaiting = false) (hm : s.dcMore = false)
include hw hm

/-- A command that has no line left ends. -/
theorem dcEnd_over (h : s.dc.cmd ≠ 0) : ¬(s.dc.cmd = 0 ∨ s.dcWaiting = true ∨ s.dcMore = true) := by simp [h, hw, hm]

theorem dcEnd_plain (h : s.dc.cmd ≠ 0) (h3 : s.dc.cmd ≠ 3) : s.dcEnd = s.modDc fun d => { d with cmd := 0 } :=
  (if_neg (dcEnd_over hw hm h)).trans (if_pos h3)

/-- The slices of a FLUSH that have a pending MODE. -/
def pendingModes (s : State) : List Nat :=
  (List.range 16).filter fun n => bit s.dc.cmdArg (32 + n) && decide (s.regBits (Reg.DC_SLICE_CFG + 8 * n) 0 0 ≠ s.dcMode n)

variable (h3 : s.dc.cmd = 3)
include h3

theorem dcEnd_flush_again (h : (s.dc.lines.any fun e => decide (e.1 / 65536 ∈ s.pendingModes)) = true) :
    s.dcEnd = s.flushLines fun k => decide (k / 65536 ∈ s.pendingModes) :=
  (if_neg (dcEnd_over hw hm (by omega))).trans ((if_neg (not_not_intro h3)).trans (if_pos h))

theorem dcEnd_flush_over (h : (s.dc.lines.any fun e => decide (e.1 / 65536 ∈ s.pendingModes)) = false) :
    s.dcEnd = s.modDc fun d =>
      { d with cmd := 0, mode := s.pendingModes.foldl (fun m n => Map.put 0 n (1 - Map.getD 0 n m) m) d.mode } :=
  (if_neg (dcEnd_over hw hm (by omega))).trans ((if_neg (not_not_intro h3)).trans (if_neg (Bool.eq_false_iff.1 h)))

end

end State

/-- Each of the four commands is a write of DC_CMD. -/
theorem exec_dcCmd {c : Half → Word → Instr} {code : Nat}
    (h : (c, code) ∈ [(Instr.preloadLock, (1 : Nat)), (Instr.unlock, 2), (Instr.flush, 3), (Instr.flushContext, 4)]) (v : Word) (s : State) :
    exec (c .full v) s = .next (s.done (s.dcCmd (c .full v) .full v)) := by
  simp only [List.mem_cons, Prod.mk.injEq, List.not_mem_nil, or_false] at h
  rcases h with ⟨rfl, -⟩ | ⟨rfl, -⟩ | ⟨rfl, -⟩ | ⟨rfl, -⟩ <;> rfl

/-- A write of DC_CMD that is taken at once is the command that it carries. -/
theorem Ends.of_dcCmd {c : Half → Word → Instr} {code : Nat} {v : Word} {s u : State}
    (hm : (c, code) ∈ [(Instr.preloadLock, (1 : Nat)), (Instr.unlock, 2), (Instr.flush, 3), (Instr.flushContext, 4)])
    (ho : s.OpenReg Reg.DC_CMD) (hv : bits v 3 0 = code)
    (hu : (s.storeReg Reg.DC_CMD .full v).dcCommand code ((s.storeReg Reg.DC_CMD .full v).reg Reg.DC_CMD) = u) : Ends (c .full v) s u := by
  subst hv
  exact .of_done (exec_dcCmd hm v s) ((barWrite_open _ _ ho).trans hu)

/-- Settles O35: the predictor's counters, the four commands and their end. -/
theorem deviceCacheCommands : Obligations.DeviceCacheCommands := by
  refine ⟨fun s ho => ?_, fun v s ho hd => ?_, fun c code hm v s ho hv => ⟨fun h => ?_, fun h => ⟨fun hc => ?_, fun hc => ?_, fun hc => ?_, fun hc => ?_⟩⟩,
    fun s hw hmore => ⟨fun h => ?_, fun h h3 => ?_, fun h3 => ⟨fun h => ?_, fun h => ?_⟩⟩⟩
  · exact .of_barWrite rfl ho (keep_of_pending rfl)
  · exact .of_keep rfl ((congrArg s.keep (sfPredCmd_open ho hd)).trans (keep_of_pending rfl))
  · have hcode : 1 ≤ code ∧ code ≤ 4 := by
      simp only [List.mem_cons, Prod.mk.injEq, List.not_mem_nil, or_false] at hm
      omega
    exact .of_dcCmd hm ho hv (dcCommand_refused hcode.1 hcode.2 h)
  · exact .of_dcCmd hm ho hv (hc ▸ dcCommand_preload h)
  · exact .of_dcCmd hm ho hv (hc ▸ dcCommand_unlock h)
  · exact .of_dcCmd hm ho hv (hc ▸ dcCommand_flushContext h)
  · exact .of_dcCmd hm ho hv (hc ▸ dcCommand_flush h)
  · exact .of_clocked rfl (dcEnd_idle h)
  · exact .of_clocked rfl (dcEnd_plain hw hmore h h3)
  · exact .of_clocked rfl (dcEnd_flush_again hw hmore h3 h)
  · exact .of_clocked rfl (dcEnd_flush_over hw hmore h3 h)

end Sys2Proof.Machine

/-! ## Resets, timers and the upstream link (O42) -/

namespace Sys2Proof.Machine

open State

namespace State

/-- A command whose effect leaves the queue alone keeps that effect. -/
theorem keep_eq {s t u : State} (h : t = u) (hp : u.pending = s.pending) : s.keep t = u := by rw [h, keep_of_pending hp]

/-! ### What the host held (R227, R247) -/

/-- The filter entries that name the host. -/
def hostHoldings (s : State) : List (Nat × SfEntry) := s.sf.entries.filter fun e => e.2.host || decide (e.2.st = .hostx)

/-- The host no longer holds the line of an entry: the entry is free where nobody else holds it. -/
def dropHolding (s : State) (e : Nat × SfEntry) : State :=
  if e.2.st = .hostx ∨ (e.2.st = .shared ∧ !e.2.multi) then s.sfFree (sfLine (e.1 / 16 % 32768) e.2.tag)
  else s.modSf fun f => { f with entries := Map.insert e.1 { e.2 with host := false } f.entries }

def dropHoldings (s : State) : State :=
  (s.hostHoldings.foldl (fun s e => s.dropHolding e) s).bumpBy s.hostHoldings.length Reg.SF_STAT_HOST_DROP

/-- A slice's prefetcher without its side buffer and its requests. -/
def stopPrefetcher (n : Nat) (s : State) : State := (s.prefDrop n).setPref n { (s.prefDrop n).pref n with inFlight := [] }

def stopPrefetchers (s : State) : State := (List.range 16).foldl (fun s n => s.stopPrefetcher n) s

/-- The device cache holds no line, and no BIConflict waits. -/
def dropCached (s : State) : State := (s.modDc fun d => { d with lines := [] }).modSf fun f => { f with conflicts := [] }

/-- The host's answers are awaited no more. -/
def awaitNoHost (s : State) : State :=
  (s.sf.txns.filter fun t => decide (16 ∈ t.snoops)).foldl (fun s t => s.checkAnswers { t with snoops := t.snoops.filter (· ≠ 16) }) s

theorem dropHostState_eq (s : State) : s.dropHostState = s.dropHoldings.stopPrefetchers.dropCached.awaitNoHost := by
  unfold dropHostState awaitNoHost dropCached stopPrefetchers stopPrefetcher dropHoldings hostHoldings dropHolding
  with_reducible rfl

@[simp] theorem dropCached_txns (s : State) : s.dropCached.sf.txns = s.sf.txns := rfl
@[simp] theorem dropCached_entries (s : State) : s.dropCached.sf.entries = s.sf.entries := rfl
@[simp] theorem dropCached_lines (s : State) : s.dropCached.dc.lines = [] := rfl

theorem dropHoldings_sf (s : State) : s.dropHoldings.sf = (s.hostHoldings.foldl (fun s e => s.dropHolding e) s).sf := rfl

@[simp] theorem setPref_sf (n : Nat) (p : Pref) (s : State) : (s.setPref n p).sf = s.sf := rfl

@[simp] theorem prefRetire_sf (n : Nat) (used : Bool) (s : State) : (s.prefRetire n used).sf = s.sf := setPref_sf n _ s

@[simp] theorem prefDrop_sf (n : Nat) (s : State) : (s.prefDrop n).sf = s.sf := by
  unfold prefDrop
  exact (foldl_keeps State.sf _ (fun t _ => prefRetire_sf n false t) _ _).trans (setPref_sf n _ s)

theorem stopPrefetcher_sf (n : Nat) (s : State) : (s.stopPrefetcher n).sf = s.sf := by rw [stopPrefetcher, setPref_sf, prefDrop_sf]

theorem stopPrefetchers_sf (s : State) : s.stopPrefetchers.sf = s.sf := by
  unfold stopPrefetchers
  exact foldl_keeps State.sf _ (fun t n => stopPrefetcher_sf n t) _ s

theorem dcUpdate_sf (la : Nat) (f : DcLine → DcLine) (s : State) : (s.dcUpdate la f).sf = s.sf := by
  unfold dcUpdate
  split <;> rfl

/-- Freeing an entry opens no transaction and closes none. -/
theorem sfWrite_none_txns (la : Nat) (s : State) : (s.sfWrite la none).sf.txns = s.sf.txns := by
  unfold sfWrite
  split
  · exact congrArg Sf.txns (dcUpdate_sf _ _ s)
  · cases s.sfFind la <;> rfl

section
variable {s : State} (h : s.sf.txns = [])
include h

/-- Without a transaction no way is kept for a freed entry. -/
theorem sfFree_no_txns (la : Nat) : s.sfFree la = s.sfWrite la none := by
  have ho : s.openTxn? la = none := by rw [openTxn?, h]; rfl
  unfold sfFree
  rw [ho]
  cases s.sfFind la <;> rfl

theorem dropHolding_txns (e : Nat × SfEntry) : (s.dropHolding e).sf.txns = [] := by
  unfold dropHolding
  split
  · rw [sfFree_no_txns h, sfWrite_none_txns, h]
  · exact h

theorem dropHoldings_txns : s.dropHoldings.sf.txns = [] := by
  rw [dropHoldings_sf]
  exact List.foldlRecOn (motive := fun t : State => t.sf.txns = []) s.hostHoldings _ h fun _ ht e _ => dropHolding_txns ht e

theorem awaitNoHost_no_txns : s.awaitNoHost = s := by
  rw [awaitNoHost, h]
  rfl

/-- With no transaction open, nothing awaits the lost host. -/
theorem dropHostState_no_txns : s.dropHostState = s.dropHoldings.stopPrefetchers.dropCached := by
  rw [dropHostState_eq, awaitNoHost_no_txns]
  rw [dropCached_txns, stopPrefetchers_sf, dropHoldings_txns h]

theorem dropHostState_lines : s.dropHostState.dc.lines = [] := by
  rw [dropHostState_no_txns h, dropCached_lines]

theorem dropHostState_entries : s.dropHostState.sf.entries = (s.hostHoldings.foldl (fun s e => s.dropHolding e) s).sf.entries := by
  rw [dropHostState_no_txns h, dropCached_entries, stopPrefetchers_sf, dropHoldings_sf]

variable {k : Nat} {e : SfEntry} (he : s.sf.entries = [(k, e)])
include he

/-- An entry that the host alone holds is freed. -/
theorem dropHostState_frees (hf : s.sfFind (sfLine (k / 16 % 32768) e.tag) = some (k, e))
    (hl : isHostLine (sfLine (k / 16 % 32768) e.tag) = false) (hx : e.st = .hostx ∨ (e.st = .shared ∧ e.multi = false ∧ e.host = true)) :
    s.dropHostState.sf.entries = [] := by
  have hheld : s.hostHoldings = [(k, e)] := by
    rw [hostHoldings, he]
    rcases hx with hx | ⟨-, -, hx⟩ <;> simp [hx]
  have hdrop : s.dropHolding (k, e) = s.sfSetKey k none := by
    have hown : e.st = .hostx ∨ (e.st = .shared ∧ (!e.multi) = true) := hx.imp_right fun ⟨hs, hm, _⟩ => ⟨hs, by rw [hm]; rfl⟩
    rw [dropHolding, if_pos hown, sfFree_no_txns h]
    simp only [sfWrite, hl, hf, Bool.false_eq_true, if_false]
  rw [dropHostState_entries h, hheld, List.foldl_cons, List.foldl_nil, hdrop]
  simp [sfSetKey, he, Map.erase]

/-- An entry that names another holder loses the host alone. -/
theorem dropHostState_clears (hx : e.st ≠ .hostx) (hs : e.st ≠ .shared ∨ e.multi = true) :
    s.dropHostState.sf.entries = [(k, { e with host := false })] := by
  rw [dropHostState_entries h]
  cases hh : e.host with
  | false =>
    have hheld : s.hostHoldings = [] := by simp [hostHoldings, he, hh, hx]
    rw [hheld, List.foldl_nil, he, ← hh]
  | true =>
    have hheld : s.hostHoldings = [(k, e)] := by simp [hostHoldings, he, hh]
    have hkeep : ¬(e.st = .hostx ∨ (e.st = .shared ∧ (!e.multi) = true)) := by
      rcases hs with hs | hs <;> simp [hx, hs]
    rw [hheld, List.foldl_cons, List.foldl_nil, dropHolding, if_neg hkeep]
    simp [he, Map.insert]

end

/-! ### MSIX_UNMASK (R308) -/

section
variable {fn vec : Nat} {s : State}

/-- A vector of the MSI-X table. -/
def msixVec (s : State) (fn vec : Nat) : MsixVec := Map.getD MsixVec.reset (fn * 2048 + vec) s.up.msix

def setMsixVec (fn vec : Nat) (v : MsixVec) (s : State) : State :=
  s.modUp fun u => { u with msix := Map.put MsixVec.reset (fn * 2048 + vec) v u.msix }

theorem msixVec_setMsixVec (v : MsixVec) (hr : Map.rising s.up.msix = true) : (s.setMsixVec fn vec v).msixVec fn vec = v :=
  Map.getD_put_same _ _ v hr

theorem msixSend_not_pending (h : (s.msixVec fn vec).pending = false) : s.msixSend fn vec = s :=
  if_neg (by rw [msixVec] at h; simp [h])

theorem msixSend_pending (h : (s.msixVec fn vec).pending = true) (hm : (s.msixVec fn vec).masked = false) :
    s.msixSend fn vec = (s.setMsixVec fn vec { s.msixVec fn vec with pending := false }).sendVector0 fn vec :=
  if_pos (by rw [msixVec] at h hm; simp [h, hm])

theorem msixUnmaskOp_absent (h : s.vectorCount fn ≤ vec) : s.msixUnmaskOp fn vec = s := if_neg (Nat.not_lt.2 h)

variable (hv : vec < s.vectorCount fn) (hr : Map.rising s.up.msix = true)
include hv hr

theorem msixUnmaskOp_not_pending (h : (s.msixVec fn vec).pending = false) :
    s.msixUnmaskOp fn vec = s.setMsixVec fn vec { s.msixVec fn vec with masked := false } := by
  refine (if_pos hv).trans (msixSend_not_pending ?_)
  exact (congrArg MsixVec.pending (msixVec_setMsixVec _ hr)).trans h

/-- A vector that was pending is sent once nothing masks it. -/
theorem msixUnmaskOp_pending (h : (s.msixVec fn vec).pending = true) :
    s.msixUnmaskOp fn vec =
      ((s.setMsixVec fn vec { s.msixVec fn vec with masked := false }).setMsixVec fn vec
        { s.msixVec fn vec with masked := false, pending := false }).sendVector0 fn vec := by
  have hvec := msixVec_setMsixVec (fn := fn) (vec := vec) { s.msixVec fn vec with masked := false } hr
  refine (if_pos hv).trans ((msixSend_pending ((congrArg MsixVec.pending hvec).trans h) (congrArg MsixVec.masked hvec)).trans ?_)
  rw [hvec]

end

theorem msixUnmaskCmd_open {fn : BitVec 8} {vec : BitVec 11} {s : State} (hh : s.HostOpen fn.toNat) (hu : s.Open Dom.upCtl) :
    s.msixUnmaskCmd fn vec = s.msixUnmaskOp fn.toNat vec.toNat :=
  (hostPosted_open _ _ hh).trans (cross_open _ _ hu.1 hu.2)

/-! ### Link power states and PTM (R313, R314) -/

section
variable {s : State}

/-- A quiet link may enter L1: the link is up in L0 or L0s, and the idle time and the host let it. -/
def MayEnterL1 (s : State) : Prop :=
  s.up.linkUp = true ∧ s.up.lpm < 2 ∧ s.regBits Reg.UP_CTRL 31 16 ≠ 0 ∧ (s.cfgDw 0 0x60).getLsbD 1 = true ∧ s.upQuiet = true

theorem l1Guard_iff : (s.up.linkUp && decide (s.up.lpm < 2) && decide (s.regBits Reg.UP_CTRL 31 16 ≠ 0) && (s.cfgDw 0 0x60).getLsbD 1 &&
    s.upQuiet) = true ↔ s.MayEnterL1 := by
  simp only [MayEnterL1, Bool.and_eq_true, decide_eq_true_eq, and_assoc]

theorem l1IdleOp_enters (h : s.MayEnterL1) : s.l1IdleOp = s.setLink s.l1Sub := if_pos (l1Guard_iff.2 h)

theorem l1IdleOp_stays (h : ¬ s.MayEnterL1) : s.l1IdleOp = s := if_neg (mt l1Guard_iff.1 h)

/-- A quiet link in non-FLIT mode may enter L0s. -/
def MayEnterL0s (s : State) : Prop := s.up.linkUp = true ∧ s.up.flit = false ∧ s.up.lpm = 0 ∧ (s.cfgDw 0 0x60).getLsbD 0 = true

theorem l0sGuard_iff : (s.up.linkUp && !s.up.flit && decide (s.up.lpm = 0) && (s.cfgDw 0 0x60).getLsbD 0) = true ↔ s.MayEnterL0s := by
  simp only [MayEnterL0s, Bool.and_eq_true, Bool.not_eq_true', decide_eq_true_eq, and_assoc]

theorem l0sOp_enters (h : s.MayEnterL0s) : s.l0sOp = s.setLink 1 := if_pos (l0sGuard_iff.2 h)

theorem l0sOp_stays (h : ¬ s.MayEnterL0s) : s.l0sOp = s := if_neg (mt l0sGuard_iff.1 h)

variable {o : Word}

theorem ptmOp_off (h : (s.cfgDw 0 0x170).getLsbD 0 = false ∨ s.up.linkUp = false) : s.ptmOp o = s :=
  if_pos (by simpa using h)

variable (he : (s.cfgDw 0 0x170).getLsbD 0 = true) (hl : s.up.linkUp = true)
include he hl

theorem ptmOp_on : s.ptmOp o =
    if o.msb then { s.setReg Reg.UP_PTM_OFFSET o with slew := 2 * (2 ^ 64 - o.toNat) }
    else { s.setReg Reg.UP_PTM_OFFSET o with now := s.now + o.toNat, slew := 0 } :=
  if_neg (by rw [he, hl]; decide)

theorem ptmOp_forward (h : o.msb = false) :
    s.ptmOp o = { s.setReg Reg.UP_PTM_OFFSET o with now := s.now + o.toNat, slew := 0 } :=
  (ptmOp_on he hl).trans (if_neg (Bool.eq_false_iff.1 h))

theorem ptmOp_backward (h : o.msb = true) : s.ptmOp o = { s.setReg Reg.UP_PTM_OFFSET o with slew := 2 * (2 ^ 64 - o.toNat) } :=
  (ptmOp_on he hl).trans (if_pos h)

end

/-! ### Training (R322) -/

section
variable {s : State} {speed width power : Nat} {flit cxl : Bool}

theorem upLinkTrainedOp_early (h : s.boot.loaded = false ∨ s.up.perst = false) : s.upLinkTrainedOp speed width flit cxl power = s :=
  if_neg (by rcases h with h | h <;> simp [h])

/-- A training that does not follow a reset leaves what the last one has read of the configuration. -/
theorem upLinkTrainedOp_kept (hb : s.boot.loaded = true) (hp : s.up.perst = true) (hc : s.isFenced Dom.upCtl = false)
    (hf : s.isFenced Dom.upPhy = false) (hr : s.up.reread = false) :
    s.upLinkTrainedOp speed width flit cxl power =
      (s.modUp fun u => { u with linkUp := true, speed := speed, width := width, flit := flit, cxl := cxl, slotPower := power,
                                 lpm := 0 }).startPresets 8 := by
  simp [upLinkTrainedOp, upTrainedOp, modUp, hb, hp, hc, hf, hr]

/-- The data link that is down trains again, unless the port is fenced. -/
theorem dlDownOp_trains
    (h : let e := (s.hostReset.raise Reg.UP Err.UP_DL_DOWN Capture.none).modUp fun u =>
        { u with linkUp := false, speed := 0, width := 0, flit := false, cxl := false, lpm := 0 }
      e.isFenced Dom.upCtl = false ∧ e.isFenced Dom.upPhy = false) :
    s.dlDownOp = ((s.hostReset.raise Reg.UP Err.UP_DL_DOWN Capture.none).modUp fun u =>
      { u with linkUp := false, speed := 0, width := 0, flit := false, cxl := false, lpm := 0 }).trainUp :=
  if_neg (by rw [h.1, h.2]; decide)

end

/-! ### Completion timeouts (R312) -/

section
variable {s : State} {id : Nat}

theorem readTimedOut_out {w : Waiter} {fn : Nat} {h : Waiter × AtsKey} (hf : (s.ch.hostReads.find? fun h => decide (h.1 = w)) = some h) :
    s.readTimedOut w fn = ((s.hostReadEnded w).cplTimeout fn).giveVerdict h.2 St.DEVICE_ERROR w := by
  simp only [readTimedOut, hf]

theorem workTimeout_abandoned {a : Nat × Nat} (h : (s.up.abandoned.find? fun a => decide (a.1 = id)) = some a) :
    s.completionTimeoutOp (.work id) = (s.modUp fun u => { u with abandoned := u.abandoned.erase a }).cplTimeout a.2 := by
  simp only [completionTimeoutOp, h]

variable (hn : (s.up.abandoned.find? fun a => decide (a.1 = id)) = none)
include hn

theorem workTimeout_idle (h : s.work? id = none ∨ s.workReads id = []) : s.completionTimeoutOp (.work id) = s := by
  cases hw : s.work? id with
  | none => simp only [completionTimeoutOp, hn, hw]
  | some w =>
    have hreads : s.workReads id = [] := h.resolve_left (by simp [hw])
    simp only [completionTimeoutOp, hn, hw, hreads]

variable {w : Work} {r : Waiter} {rest : List Waiter} (hw : s.work? id = some w) (hr : s.workReads id = r :: rest)
include hw hr

theorem workTimeout_quiesced (hq : s.isQuiesced id = true) :
    s.completionTimeoutOp (.work id) = ((s.hostReadEnded r).cplTimeout w.fn).quiescedRead id := by
  simp only [completionTimeoutOp, hn, hw, hr, hq, if_true]

theorem workTimeout_waiting (hq : s.isQuiesced id = false) : s.completionTimeoutOp (.work id) = s.readTimedOut r w.fn := by
  simp only [completionTimeoutOp, hn, hw, hr, hq, Bool.false_eq_true, if_false]

end

end State

/-- COMPLETION_TIMEOUT, with what it does worked out. -/
theorem Ends.of_timeout {what : TimedOut} {s u : State} (h : s.completionTimeoutOp what = u) : Ends (.completionTimeout what) s u :=
  .of_clocked rfl h

/-- Settles O42: the resets, unmasking, link power states, PTM, training and completion timeouts. -/
theorem resetsTimersAndLink : Obligations.ResetsTimersAndLink := by
  refine ⟨⟨fun s => ⟨.of_done rfl rfl, fun hc hp => .of_done rfl (dlDownOp_trains ⟨hc, hp⟩)⟩,
      fun s h => ⟨dropHostState_lines h, fun k e he hf hl => ⟨dropHostState_frees h he hf hl, dropHostState_clears h he⟩⟩⟩,
    fun fn vec s hh hu => ⟨fun h => ?_, fun hv h hr => ?_, fun hv h hr => ?_⟩,
    fun s => ⟨fun h => ?_, fun h => ?_, fun h => ?_, fun h => ?_, fun h => ?_, fun h => ?_⟩,
    fun o s => ⟨fun h => ?_, fun he hl => ⟨fun h => ?_, fun h => ?_⟩⟩,
    fun speed width flit cxl power s => ⟨fun h => ?_, fun hb hp hc hf hr => ?_⟩,
    fun id s => ⟨fun a h => ?_, fun hn h => ?_, fun w r rest hn hw hr => ⟨fun hq => ?_, fun h hq hf => ?_⟩⟩,
    fun key s => ⟨fun h => ?_, fun h => ?_⟩, fun q s h hf => ?_⟩
  · exact .of_keep rfl (keep_eq ((msixUnmaskCmd_open hh hu).trans (msixUnmaskOp_absent h)) rfl)
  · exact .of_keep rfl (keep_eq ((msixUnmaskCmd_open hh hu).trans (msixUnmaskOp_not_pending hv hr h)) rfl)
  · exact .of_keep rfl (congrArg s.keep ((msixUnmaskCmd_open hh hu).trans (msixUnmaskOp_pending hv hr h)))
  · exact .of_clocked rfl (keep_eq (l1IdleOp_enters h) rfl)
  · exact .of_clocked rfl (keep_eq (l1IdleOp_stays h) rfl)
  · exact .of_clocked rfl (keep_eq (l0sOp_enters h) rfl)
  · exact .of_clocked rfl (keep_eq (l0sOp_stays h) rfl)
  · exact .of_keep rfl (keep_eq (if_neg h) rfl)
  · exact .of_keep rfl (keep_eq (if_pos h) rfl)
  · exact fun hs => Nexts.of_keep rfl (keep_eq ((clocked_running hs _ _).trans (ptmOp_off h)) rfl) hs
  · exact fun hs => Nexts.of_keep rfl (keep_eq ((clocked_running hs _ _).trans (ptmOp_forward he hl h)) rfl) hs
  · exact fun hs => Nexts.of_keep rfl (keep_eq ((clocked_running hs _ _).trans (ptmOp_backward he hl h)) rfl) hs
  · exact .of_done rfl (upLinkTrainedOp_early h)
  · exact .of_done rfl (upLinkTrainedOp_kept hb hp hc hf hr)
  · exact .of_timeout (workTimeout_abandoned h)
  · exact .of_timeout (workTimeout_idle hn h)
  · exact .of_timeout (workTimeout_quiesced hn hw hr hq)
  · exact .of_timeout ((workTimeout_waiting hn hw hr hq).trans (readTimedOut_out hf))
  · exact .of_timeout (if_pos h)
  · exact .of_timeout (if_neg (Bool.eq_false_iff.1 h))
  · exact .of_timeout (readTimedOut_out hf)

end Sys2Proof.Machine

/-! ## Write data, combining entries and credits of Fabric Ports (O29) -/

namespace Sys2Proof.Machine

open State

namespace State

/-! ### Write slots at their port (R424, R425, R427) -/

/-- A write slot whose crossing is open arrives at its port. -/
theorem datWriteOp_open {d : Dat} {s : State} (ho : s.Open (Dom.sf d.port.val)) : s.datWriteOp d = s.arriveDat d :=
  cross_open _ _ ho.1 ho.2

section
variable {d : Dat} {s : State}

theorem arriveDat_refused (hp : s.portTakes d.port.val d.agent.toNat = false) (hon : s.portOn d.port.val = true) :
    s.arriveDat d = s.badMsg d.agent.toNat := by
  simp only [arriveDat, hp, hon, Bool.not_false, if_true]

variable (hp : s.portTakes d.port.val d.agent.toNat = true)
include hp

theorem arriveDat_beyond_credits (hc : s.datCredits d.port.val = 0) : s.arriveDat d = s.creditErr d.agent.toNat := by
  simp only [arriveDat, hp, hc, Bool.not_true, Bool.false_eq_true, if_false, if_true]

theorem arriveDat_taken (hc : s.datCredits d.port.val ≠ 0) :
    s.arriveDat d = (s.takeDat d.port.val).modFp fun f => { f with dats := f.dats ++ [d] } := by
  simp only [arriveDat, hp, hc, Bool.not_true, Bool.false_eq_true, if_false]

end

/-! ### Combining entries (R254) -/

section
variable {s : State} {port line : Nat}

theorem flushNtLine_found {e : NtEntry} (h : (s.fp.nt.find? fun e => decide (e.port = port ∧ e.line = line)) = some e) :
    s.flushNtLine port line = s.flushNt e := by
  simp only [flushNtLine, h]

theorem flushNtLine_absent (h : (s.fp.nt.find? fun e => decide (e.port = port ∧ e.line = line)) = none) :
    s.flushNtLine port line = s := by
  simp only [flushNtLine, h]

end

/-- SNP credits that return to a port while no snoop waits for one are added to those held, up to 63 (R425). -/
theorem crdReturn_none_waiting {s : State} {port n : Nat} (h : s.fp.snpWait = []) :
    s.crdReturn port n = s.modFp fun f => { f with snpCrd := Map.put 0 port (min 63 (Map.getD 0 port f.snpCrd + n)) f.snpCrd } := by
  simp only [crdReturn, modFp, h, List.filter_nil, List.foldl_nil]

end State

/-- Settles O29: a write slot at its port, the timer of a combining entry, and the two CRD words of the agent. -/
theorem fabricDataAndCredits : Obligations.FabricDataAndCredits := by
  refine ⟨fun d s ho => ?_, fun port line s => ⟨fun e h => ?_, fun h => ?_⟩, fun port s => ?_, fun port n s hw => ?_⟩
  · have hends {u : State} (hu : s.arriveDat d = u) : Ends (.datWrite d) s u := .of_done rfl ((datWriteOp_open ho).trans hu)
    exact ⟨fun hp hc => hends (arriveDat_taken hp hc), fun hp hc => hends (arriveDat_beyond_credits hp hc),
      fun hp hon => hends (arriveDat_refused hp hon)⟩
  · exact .of_clocked rfl (flushNtLine_found h)
  · exact .of_clocked rfl (flushNtLine_absent h)
  · exact .of_clocked rfl (keep_of_pending rfl)
  · exact .of_clocked rfl (keep_eq (crdReturn_none_waiting hw) rfl)

end Sys2Proof.Machine

/-! ## Packets of a peer link, and its requests (O36) -/

namespace Sys2Proof.Machine

open State

namespace State

/-! ### A packet arrives (R279, R284) -/

/-- The port of a packet has taken the credits of its class. -/
def plCharged (op : IplOp) (m : IplPkt) (s : State) : State :=
  s.setPlPort m.port.val
    { s.plPort m.port.val with
      fails := 0,
      grant := (s.plPort m.port.val).grant.set (plClass op) ((s.plPort m.port.val).grant.getD (plClass op) 0 - (1 + m.payload.length)) }

/-- The port of a packet carries traffic, and has given out the credits that the packet takes. -/
def PlTakes (op : IplOp) (m : IplPkt) (s : State) : Prop :=
  s.plUp m.port.val = true ∧ 1 + m.payload.length ≤ (s.plPort m.port.val).grant.getD (plClass op) 0

section
variable {op : IplOp} {m : IplPkt} {s : State}

theorem plArrive_ignored {f : State → State}
    (h : s.plUp m.port.val = false ∨ (s.plPort m.port.val).grant.getD (plClass op) 0 < 1 + m.payload.length) : plArrive op m f s = s :=
  if_pos (by simpa using h)

theorem plArrive_taken {f : State → State} (h : s.PlTakes op m) : plArrive op m f s = f (s.plCharged op m) :=
  if_neg (by simpa [PlTakes] using h)

/-- A packet that finds its port's units awake (R383). -/
theorem packet_awake {f : State → State} (hl : s.Awake (Dom.plLogic m.port.val)) (hi : s.Awake (Dom.plIf m.port.val)) :
    packet m f s = (f s).opClean (Dom.plLogic m.port.val) := by
  rw [packet, touch_awake hl.1 hl.2, touch_awake hi.1 hi.2]

end

/-! ### Requests (R286) -/

/-- The status of the check that a request fails (R279, R281). -/
def requestFault (op : IplOp) (m : IplPkt) (s : State) : Nat :=
  if plMalformed op m then Ipl.MALFORMED
  else if (s.plWindow op m.src.toNat m.addr.toNat m.len.toNat).isNone then Ipl.DENIED else 0

/-- A request as the receiver keeps it when it accepts it. -/
def plAccepted (op : IplOp) (m : IplPkt) (s : State) : PlAcc :=
  { seq := m.seq.toNat, op := op, subop := m.subop.toNat, addr := m.addr.toNat, len := m.len.toNat, payload := m.payload,
    fn := (s.plWindow op m.src.toNat m.addr.toNat m.len.toNat).getD 0, poison := m.poison, fault := s.requestFault op m, issued := false,
    done := none, old := false, port := m.port.val, freed := false }

/-- The request with the EXPECTED number `e` enters its flow. -/
def plEnter (m : IplPkt) (e : Nat) (a : PlAcc) (s : State) : State :=
  s.updPlRx m.src.toNat m.flow.toNat fun r => { r with expected := some ((e + 1) % 65536), acc := r.acc ++ [a] }

/-- A duplicate is counted, and waits for its answer. -/
def plDuplicate (m : IplPkt) (s : State) : State :=
  (s.bump Reg.PL_STAT_DUP).updPlRx m.src.toNat m.flow.toNat fun r => { r with dup := true }

section
variable {op : IplOp} {m : IplPkt} {s : State} {e : Nat}

theorem plAccept_admitted (h : s.requestFault op m ≠ Ipl.DENIED) :
    s.plAccept op m e = ((s.bump Reg.PL_STAT_RX).plEnter m e (s.plAccepted op m)).pumpFlow m.src.toNat m.flow.toNat :=
  congrArg (fun t => (plEnter m e (s.plAccepted op m) t).pumpFlow m.src.toNat m.flow.toNat) (if_neg h)

theorem plAccept_denied (h : s.requestFault op m = Ipl.DENIED) :
    s.plAccept op m e =
      ((((s.bump Reg.PL_STAT_RX).raise Reg.PL Err.PL_WIN_DENIED
        { Capture.none with addr := w64 m.addr.toNat, space := 7, cls := 9, index := m.src.toNat }).bump Reg.PL_STAT_DENIED).plEnter m e
          (s.plAccepted op m)).pumpFlow m.src.toNat m.flow.toNat :=
  congrArg (fun t => (plEnter m e (s.plAccepted op m) t).pumpFlow m.src.toNat m.flow.toNat) (if_pos h)

variable (ht : s.PlTakes op m)
include ht

theorem plRequestIn_discarded (hb : (s.plCharged op m).plBad op m = true) : plRequestIn op m s = (s.plCharged op m).plDiscard op m :=
  (plArrive_taken ht).trans (if_pos hb)

variable (hb : (s.plCharged op m).plBad op m = false)
include hb

/-- A SYNC sets EXPECTED; what is owed under the old numbers is acknowledged first. -/
theorem plRequestIn_sync (hop : op = .sync) :
    plRequestIn op m s =
      (((if 0 < (s.plRx m.src.toNat m.flow.toNat).owed then (s.plCharged op m).plAck m.src.toNat m.flow.toNat else s.plCharged op m).setPlRx
        m.src.toNat m.flow.toNat (renumbered (some m.seq.toNat) (s.plRx m.src.toNat m.flow.toNat))).plTaken op m).plRespond
          m.src.toNat .cmp m.flow.toNat m.seq.toNat false 0 0 0 [] :=
  (plArrive_taken ht).trans ((if_neg (Bool.eq_false_iff.1 hb)).trans (if_pos hop))

variable (hop : op ≠ .sync)
include hop

theorem plRequestIn_unsynchronised (h : (s.plRx m.src.toNat m.flow.toNat).expected = none) :
    plRequestIn op m s = ((s.plCharged op m).plTaken op m).plNak m.src.toNat m.flow.toNat := by
  have h' : ((s.plCharged op m).plRx m.src.toNat m.flow.toNat).expected = none := h
  rw [plRequestIn, plArrive_taken ht, if_neg (Bool.eq_false_iff.1 hb), if_neg hop]
  simp only [h']

/-- What a request in its place, before it, or after it meets. -/
theorem plRequestIn_numbered (h : (s.plRx m.src.toNat m.flow.toNat).expected = some e) :
    plRequestIn op m s =
      if m.seq.toNat = e then (s.plCharged op m).plAccept op m e
      else if (e + 65536 - 1 - m.seq.toNat) % 65536 < 32768 then
        (if ((((s.plCharged op m).plTaken op m).plDuplicate m).plRx m.src.toNat m.flow.toNat).acc.all (·.old) then
          (((s.plCharged op m).plTaken op m).plDuplicate m).plAck m.src.toNat m.flow.toNat
        else ((s.plCharged op m).plTaken op m).plDuplicate m)
      else ((s.plCharged op m).plTaken op m).plNak m.src.toNat m.flow.toNat := by
  have h' : ((s.plCharged op m).plRx m.src.toNat m.flow.toNat).expected = some e := h
  rw [plRequestIn, plArrive_taken ht, if_neg (Bool.eq_false_iff.1 hb), if_neg hop]
  simp only [h']
  rfl

variable (he : (s.plRx m.src.toNat m.flow.toNat).expected = some e)
include he

theorem plRequestIn_expected (hs : m.seq.toNat = e) : plRequestIn op m s = (s.plCharged op m).plAccept op m e :=
  (plRequestIn_numbered ht hb hop he).trans (if_pos hs)

theorem plRequestIn_skipped (hs : m.seq.toNat ≠ e) (hd : 32768 ≤ (e + 65536 - 1 - m.seq.toNat) % 65536) :
    plRequestIn op m s = ((s.plCharged op m).plTaken op m).plNak m.src.toNat m.flow.toNat :=
  (plRequestIn_numbered ht hb hop he).trans ((if_neg hs).trans (if_neg (Nat.not_lt.2 hd)))

variable (hs : m.seq.toNat ≠ e) (hd : (e + 65536 - 1 - m.seq.toNat) % 65536 < 32768)
include hs hd

theorem plRequestIn_duplicate_answered
    (h : ((((s.plCharged op m).plTaken op m).plDuplicate m).plRx m.src.toNat m.flow.toNat).acc.all (·.old) = true) :
    plRequestIn op m s = (((s.plCharged op m).plTaken op m).plDuplicate m).plAck m.src.toNat m.flow.toNat :=
  (plRequestIn_numbered ht hb hop he).trans ((if_neg hs).trans ((if_pos hd).trans (if_pos h)))

theorem plRequestIn_duplicate_waits
    (h : ((((s.plCharged op m).plTaken op m).plDuplicate m).plRx m.src.toNat m.flow.toNat).acc.all (·.old) = false) :
    plRequestIn op m s = ((s.plCharged op m).plTaken op m).plDuplicate m :=
  (plRequestIn_numbered ht hb hop he).trans ((if_neg hs).trans ((if_pos hd).trans (if_neg (Bool.eq_false_iff.1 h))))

end

/-! ### Field ranges of requests (R277, R279) -/

/-- The bytes that a request names are none, too many, or lie on both sides of a 1 KiB boundary. -/
def PlRangeBad (m : IplPkt) : Prop :=
  m.len.toNat = 0 ∨ 1024 < m.len.toNat ∨ m.addr.toNat / 1024 ≠ (m.addr.toNat + m.len.toNat - 1) / 1024

section
variable {m : IplPkt}

theorem plMalformed_of_range {op : IplOp} (hop : op = .write ∨ op = .read ∨ op = .reduceWrite) (h : PlRangeBad m) : plMalformed op m = true := by
  have hr : decide (m.len.toNat = 0 ∨ 1024 < m.len.toNat ∨ m.addr.toNat / 1024 ≠ (m.addr.toNat + m.len.toNat - 1) / 1024) = true :=
    decide_eq_true h
  rcases hop with rfl | rfl | rfl <;> simp only [plMalformed, hr, Bool.true_or, Bool.or_true]

theorem plMalformed_atomic_len (h4 : m.len.toNat ≠ 4) (h8 : m.len.toNat ≠ 8) : plMalformed .atomic m = true := by
  simp [plMalformed, h4, h8]

theorem plMalformed_atomic_unaligned (h : m.addr.toNat % max 1 m.len.toNat ≠ 0) : plMalformed .atomic m = true := by
  simp [plMalformed, h]

theorem plMalformed_reduceWrite_format (h : 2 < m.subop.toNat) : plMalformed .reduceWrite m = true := by
  simp [plMalformed, h]

theorem plMalformed_write_or_read {op : IplOp} (hop : op = .write ∨ op = .read) (hc : m.cum = false) (hst : m.status = 0) (hsub : m.subop = 0)
    (h : ¬ PlRangeBad m) : plMalformed op m = false := by
  have hr : decide (m.len.toNat = 0 ∨ 1024 < m.len.toNat ∨ m.addr.toNat / 1024 ≠ (m.addr.toNat + m.len.toNat - 1) / 1024) = false :=
    decide_eq_false h
  rcases hop with rfl | rfl <;> simp only [plMalformed, hr, hc, hst, hsub] <;> rfl

end

/-! ### The order of performing and of answering (R287, R291) -/

section
variable {node flow : Nat} {a : PlAcc} {rest : List PlAcc} {s : State}

/-- A request that has not begun stays as it is behind one that has not been performed. -/
theorem plFlow_behind (hi : a.issued = false) : (s.plFlow node flow (a :: rest) false false).1.head? = some a := by
  simp [plFlow, hi]

theorem plRetire_unperformed (h : a.done = none) : s.plRetire node flow (a :: rest) = (a :: rest, s) := by
  simp only [plRetire, h]

variable {st : Nat} (hd : a.done = some st)
include hd

/-- A READ or an ATOMIC has had its answer with its data. -/
theorem plRetire_data (hop : a.op = .read ∨ a.op = .atomic) : s.plRetire node flow (a :: rest) = s.plRetire node flow rest := by
  rcases hop with hop | hop <;> simp only [plRetire, hd, hop]

variable (hop : a.op = .write ∨ a.op = .reduceWrite)
include hop

/-- What leaves the answer of a write that has ended. -/
theorem plRetire_posted :
    s.plRetire node flow (a :: rest) =
      (if st ≠ 0 then s.plRespond node .cmp flow a.seq false st 0 0 []
        else if a.old then s.plRespond node .cmp flow a.seq true 0 0 0 []
        else s.updPlRx node flow fun r =>
          { r with owed := r.owed + 1, oldest := if r.owed = 0 then s.now else r.oldest }).plRetire node flow rest := by
  rcases hop with hop | hop <;> simp only [plRetire, hd, hop]

theorem plRetire_failed (h : st ≠ 0) :
    s.plRetire node flow (a :: rest) = (s.plRespond node .cmp flow a.seq false st 0 0 []).plRetire node flow rest := by
  rw [plRetire_posted hd hop, if_pos h]

theorem plRetire_old (h : st = 0) (ho : a.old = true) :
    s.plRetire node flow (a :: rest) = (s.plRespond node .cmp flow a.seq true 0 0 0 []).plRetire node flow rest := by
  rw [plRetire_posted hd hop, if_neg (not_not_intro h), if_pos ho]

theorem plRetire_owed (h : st = 0) (ho : a.old = false) :
    s.plRetire node flow (a :: rest) =
      (s.updPlRx node flow fun r => { r with owed := r.owed + 1, oldest := if r.owed = 0 then s.now else r.oldest }).plRetire node flow rest := by
  rw [plRetire_posted hd hop, if_neg (not_not_intro h), if_neg (Bool.eq_false_iff.1 ho)]

end

end State

/-- A packet that finds its port's units awake, with what it does worked out (R383, R391). -/
theorem Ends.of_packet {c d : Instr} {m : IplPkt} {s u : State} {f : State → State} (hl : s.Awake (Dom.plLogic m.port.val))
    (hi : s.Awake (Dom.plIf m.port.val)) (h : exec c s = .next (s.done (s.clocked d (packet m f)))) (hf : f s = u) :
    Ends c s (u.opClean (Dom.plLogic m.port.val)) :=
  .of_message h ((packet_awake hl hi).trans (hf ▸ rfl))

/-- Each of the four numbered requests is its opcode's request. -/
theorem exec_peerRequest {op : IplOp} {c : IplPkt → Instr}
    (h : (op, c) ∈ [(IplOp.write, Instr.iplWrite), (.read, Instr.iplRead), (.atomic, Instr.iplAtomic), (.reduceWrite, Instr.iplReduceWrite)])
    (m : IplPkt) (s : State) : exec (c m) s = .next (s.done (s.clocked (c m) (packet m (plRequestIn op m)))) ∧ op ≠ .sync := by
  simp only [List.mem_cons, Prod.mk.injEq, List.not_mem_nil, or_false] at h
  rcases h with ⟨rfl, rfl⟩ | ⟨rfl, rfl⟩ | ⟨rfl, rfl⟩ | ⟨rfl, rfl⟩ <;> exact ⟨rfl, IplOp.noConfusion⟩

/-- Settles O36: the requests and SYNC, their field ranges, and the order of performing and of answering. -/
theorem peerRequests : Obligations.PeerRequests := by
  refine ⟨fun m s hl hi => ?_, fun m => ⟨fun op hop h => plMalformed_of_range hop h, plMalformed_atomic_len, plMalformed_atomic_unaligned,
      plMalformed_reduceWrite_format, fun hc hst hsub h0 h1 hk => ?_⟩,
    fun node flow a rest s => ⟨fun _ hi => plFlow_behind hi, plRetire_unperformed, fun st hd hop => plRetire_data hd hop,
      fun st hd h ho hop => plRetire_old hd hop h ho, fun st hd h ho hop => plRetire_owed hd hop h ho,
      fun st hd h hop => plRetire_failed hd hop h⟩⟩
  · intro ends port node flow seq cost room up left bad
    refine ⟨fun op c hm => ?_, fun hu hc hb => .of_packet hl hi rfl (plRequestIn_sync ⟨hu, hc⟩ hb rfl)⟩
    obtain ⟨hexec, hop⟩ := exec_peerRequest hm m s
    have hends {u : State} (hu : plRequestIn op m s = u) : ends (c m) u := .of_packet hl hi hexec hu
    refine ⟨fun h => hends (plArrive_ignored h), fun hu hc hb => hends (plRequestIn_discarded ⟨hu, hc⟩ hb),
      fun hu hc hb => ⟨fun h => hends (plRequestIn_unsynchronised ⟨hu, hc⟩ hb hop h),
        fun e he => ⟨fun hs => ?_, fun hs hd => ?_, fun hs hd => ?_⟩⟩⟩
    · have haccept := plRequestIn_expected ⟨hu, hc⟩ hb hop he hs
      exact ⟨fun h => hends (haccept.trans (plAccept_admitted h)), fun h => hends (haccept.trans (plAccept_denied h))⟩
    · exact ⟨fun h => hends (plRequestIn_duplicate_answered ⟨hu, hc⟩ hb hop he hs hd h),
        fun h => hends (plRequestIn_duplicate_waits ⟨hu, hc⟩ hb hop he hs hd h)⟩
    · exact hends (plRequestIn_skipped ⟨hu, hc⟩ hb hop he hs hd)
  · have hr : ¬ PlRangeBad m := by
      rintro (h | h | h)
      · exact Nat.ne_of_gt h0 h
      · exact Nat.not_lt.2 h1 h
      · exact h hk
    exact ⟨plMalformed_write_or_read (.inl rfl) hc hst hsub hr, plMalformed_write_or_read (.inr rfl) hc hst hsub hr⟩

end Sys2Proof.Machine

/-! ## Responses of a peer link (O37) -/

namespace Sys2Proof.Machine

open State

namespace State

/-! ### A response is taken (R279, R285) -/

@[simp] theorem plGive_tx (port cls n : Nat) (s : State) : (s.plGive port cls n).pl.tx = s.pl.tx := by
  simp only [plGive]
  split <;> rfl

/-- A packet that leaves its buffer leaves the sender's pairs as they are. -/
theorem plTx_taken_charged (op : IplOp) (m : IplPkt) (s : State) (node flow : Nat) :
    ((s.plCharged op m).plTaken op m).plTx node flow = s.plTx node flow := by
  rw [plTaken, plTx, plGive_tx]
  rfl

section
variable {op : IplOp} {m : IplPkt} {s : State} (ht : s.PlTakes op m) (hb : (s.plCharged op m).plBad op m = false)
include ht hb

theorem plResponseIn_data (hop : op = .rdata ∨ op = .atomicData) :
    plResponseIn op m s = ((s.plCharged op m).plTaken op m).plDataIn m (decide (op = .atomicData)) := by
  rw [plResponseIn, plArrive_taken ht, if_neg (Bool.eq_false_iff.1 hb)]
  rcases hop with rfl | rfl <;> rfl

theorem plResponseIn_cmp (hop : op = .cmp) : plResponseIn op m s = ((s.plCharged op m).plTaken op m).plCmpIn m := by
  rw [plResponseIn, plArrive_taken ht, if_neg (Bool.eq_false_iff.1 hb), hop]

theorem plResponseIn_nak (hop : op = .nak) : plResponseIn op m s = ((s.plCharged op m).plTaken op m).plNakIn m := by
  rw [plResponseIn, plArrive_taken ht, if_neg (Bool.eq_false_iff.1 hb), hop]

end

/-! ### Data (R280, R287) -/

/-- The opcode that a data response answers. -/
def dataAsker (op : IplOp) : IplOp := if op = .atomicData then .atomic else .read

/-- The lines that a data response brings for a request. -/
def dataLines (op : IplOp) (x : PlSent) : List Nat := if op = .atomicData then [x.addr / 64] else linesOf x.addr x.len

/-- The `i`-th line of a data response, as the waiter of the request finds it. -/
def gotLine (op : IplOp) (m : IplPkt) (x : PlSent) (i : Nat) : Got :=
  { who := x.who, line := peerLine m.src.toNat ((dataLines op x).getD i 0), data := some (m.payload.getD i 0),
    poison := decide (m.status.toNat = Ipl.POISON) }

/-- The lines of a data response reach the waiter of the request. -/
def gotData (op : IplOp) (m : IplPkt) (x : PlSent) (s : State) : State :=
  ((List.range (dataLines op x).length).foldl (fun s i => s.modSf fun f => { f with got := f.got ++ [gotLine op m x i] }) s).wakeUp x.who

section
variable {op : IplOp} {m : IplPkt} {s : State} {tx : PlTx} (htx : s.plTx m.src.toNat m.flow.toNat = tx)
include htx

theorem plDataIn_unasked (h : (tx.unacked.find? fun x => decide (x.seq = m.seq.toNat) && decide (x.op = dataAsker op)) = none) :
    s.plDataIn m (decide (op = .atomicData)) = s := by
  rw [dataAsker] at h
  simp only [plDataIn, htx, decide_eq_true_eq, h]

variable {x : PlSent} (h : (tx.unacked.find? fun x => decide (x.seq = m.seq.toNat) && decide (x.op = dataAsker op)) = some x)
include h

theorem plDataIn_asked :
    s.plDataIn m (decide (op = .atomicData)) =
      (if m.status.toNat = Ipl.OK ∨ m.status.toNat = Ipl.POISON then (s.plTakeSent m.src.toNat m.flow.toNat x).gotData op m x
        else (s.plTakeSent m.src.toNat m.flow.toNat x).plFailSent x (Ipl.toStatus m.status.toNat)).plProgress m.src.toNat m.flow.toNat := by
  rw [dataAsker] at h
  simp only [plDataIn, htx, decide_eq_true_eq, h, gotData, gotLine, dataLines]

theorem plDataIn_fails (hok : m.status.toNat ≠ Ipl.OK) (hp : m.status.toNat ≠ Ipl.POISON) :
    s.plDataIn m (decide (op = .atomicData)) =
      ((s.plTakeSent m.src.toNat m.flow.toNat x).plFailSent x (Ipl.toStatus m.status.toNat)).plProgress m.src.toNat m.flow.toNat := by
  rw [plDataIn_asked htx h, if_neg (not_or.2 ⟨hok, hp⟩)]

theorem plDataIn_reaches (hst : m.status.toNat = Ipl.OK ∨ m.status.toNat = Ipl.POISON) :
    s.plDataIn m (decide (op = .atomicData)) =
      ((s.plTakeSent m.src.toNat m.flow.toNat x).gotData op m x).plProgress m.src.toNat m.flow.toNat := by
  rw [plDataIn_asked htx h, if_pos hst]

end

/-! ### Completions (R287, R294) -/

/-- A request that a CMP answers. -/
def cmpAnswers (x : PlSent) : Bool := decide (x.op = .write ∨ x.op = .reduceWrite ∨ x.op = .sync)

/-- The requests that a cumulative CMP acknowledges. -/
def cmpCovers (m : IplPkt) (tx : PlTx) : List PlSent :=
  tx.unacked.filter fun x => cmpAnswers x && decide ((m.seq.toNat + 65536 - x.seq) % 65536 < 32768)

/-- The request that a CMP of its own answers. -/
def cmpOwn (m : IplPkt) (tx : PlTx) : Option PlSent := tx.unacked.find? fun x => decide (x.seq = m.seq.toNat) && cmpAnswers x

/-- An acknowledged request comes off its pair, and a write is performed for its waiter. -/
def plAcknowledged (node flow : Nat) (s : State) (x : PlSent) : State :=
  if x.op = .sync then s.plTakeSent node flow x else (s.plTakeSent node flow x).postedDone x.who none

/-- A reduce-write goes to the front of its pair's queue, to be sent with a number of its own (R294). -/
def plRequeued (node flow : Nat) (x : PlSent) (s : State) : State :=
  (s.setPlTx node flow { s.plTx node flow with wait := x :: (s.plTx node flow).wait }).bump Reg.PL_STAT_REDO

section
variable {m : IplPkt} {s : State} {tx : PlTx} (htx : s.plTx m.src.toNat m.flow.toNat = tx)
include htx

section
variable (hc : m.cum = true)
include hc

theorem plCmpIn_cumulative :
    s.plCmpIn m =
      if cmpCovers m tx = [] then s
      else ((cmpCovers m tx).foldl (plAcknowledged m.src.toNat m.flow.toNat) s).plProgress m.src.toNat m.flow.toNat := by
  subst htx
  exact if_pos hc

theorem plCmpIn_covers_none (h : cmpCovers m tx = []) : s.plCmpIn m = s := (plCmpIn_cumulative htx hc).trans (if_pos h)

theorem plCmpIn_covers (h : cmpCovers m tx ≠ []) :
    s.plCmpIn m = ((cmpCovers m tx).foldl (plAcknowledged m.src.toNat m.flow.toNat) s).plProgress m.src.toNat m.flow.toNat :=
  (plCmpIn_cumulative htx hc).trans (if_neg h)

end

variable (hc : m.cum = false)
include hc

theorem plCmpIn_unasked (h : cmpOwn m tx = none) : s.plCmpIn m = s := by
  rw [cmpOwn] at h
  simp only [plCmpIn, htx, hc, Bool.false_eq_true, if_false]
  exact h ▸ rfl

variable {x : PlSent} (h : cmpOwn m tx = some x)
include h

theorem plCmpIn_ok (hop : x.op ≠ .sync) (hst : m.status.toNat = Ipl.OK) :
    s.plCmpIn m = ((s.plTakeSent m.src.toNat m.flow.toNat x).postedDone x.who none).plProgress m.src.toNat m.flow.toNat := by
  simp only [cmpOwn, cmpAnswers] at h
  simp only [plCmpIn, htx, hc, Bool.false_eq_true, if_false, h, if_neg hop, if_pos hst]

theorem plCmpIn_redo (hop : x.op = .reduceWrite) (hst : m.status.toNat = Ipl.REDO) :
    s.plCmpIn m =
      ((s.plTakeSent m.src.toNat m.flow.toNat x).plRequeued m.src.toNat m.flow.toNat x).plProgress m.src.toNat m.flow.toNat := by
  simp only [cmpOwn, cmpAnswers] at h
  have hsync : x.op ≠ .sync := hop ▸ IplOp.noConfusion
  have hok : m.status.toNat ≠ Ipl.OK := hst ▸ by decide
  simp only [plCmpIn, htx, hc, Bool.false_eq_true, if_false, h, if_neg hsync, if_neg hok, if_pos (And.intro hst hop), plRequeued]

end

/-! ### NAK (R289, R290) -/

/-- A pair sends a SYNC where a port reaches its node. -/
def plSyncAgain (node flow : Nat) (s : State) : State :=
  match s.plPortFor node flow with
  | some p => s.plSync node flow p
  | none => s

section
variable {m : IplPkt} {s : State}

theorem plNakIn_expected (h : m.status.toNat ≠ Ipl.SYNC_NEEDED) :
    s.plNakIn m = s.plResend m.src.toNat m.flow.toNat fun x => decide ((x.seq + 65536 - m.seq.toNat) % 65536 < 32768) := if_neg h

/-- The requests of a pair whose receiver has lost its numbers fail, and it is synchronised again. -/
theorem plNakIn_syncNeeded (h : m.status.toNat = Ipl.SYNC_NEEDED) {tx : PlTx} (htx : s.plTx m.src.toNat m.flow.toNat = tx) :
    s.plNakIn m =
      (plPump 2048 m.src.toNat m.flow.toNat ((tx.unacked.foldl (fun s x => s.plFailSent x St.DEVICE_ERROR)
        (s.setPlTx m.src.toNat m.flow.toNat { tx with unacked := [], synced := false, expiries := 0 })).plSyncAgain
          m.src.toNat m.flow.toNat)).plPumpAll := by
  subst htx
  exact if_pos h

end

end State

/-- RDATA answers a READ and ATOMIC_DATA an ATOMIC. -/
theorem exec_peerData {op want : IplOp} {c : IplPkt → Instr}
    (h : (op, c, want) ∈ [(IplOp.rdata, Instr.iplRdata, IplOp.read), (.atomicData, Instr.iplAtomicData, .atomic)]) (m : IplPkt) (s : State) :
    exec (c m) s = .next (s.done (s.clocked (c m) (packet m (plResponseIn op m)))) ∧ (op = .rdata ∨ op = .atomicData) ∧ want = dataAsker op := by
  simp only [List.mem_cons, Prod.mk.injEq, List.not_mem_nil, or_false] at h
  rcases h with ⟨rfl, rfl, rfl⟩ | ⟨rfl, rfl, rfl⟩
  · exact ⟨rfl, .inl rfl, rfl⟩
  · exact ⟨rfl, .inr rfl, rfl⟩

/-- Settles O37: data, completions with and without a number of their own, and NAK. -/
theorem peerResponses : Obligations.PeerResponses := by
  intro m s hl hi hu ends port cost room held up node flow seq tx
  have htx (op : IplOp) : (up op).plTx node flow = tx := plTx_taken_charged op m s node flow
  have hcmp {u : State} (hc : cost ≤ room .cmp) (hb : (held .cmp).plBad .cmp m = false) (hd : (up .cmp).plCmpIn m = u) : ends (.iplCmp m) u :=
    .of_packet hl hi rfl ((plResponseIn_cmp ⟨hu, hc⟩ hb rfl).trans hd)
  refine ⟨fun op c want hm hc hb => ?_, fun hc hb hcum => ?_, fun hc hb hcum => ?_, fun hc hb hst => ?_, fun hc hb hst => ?_⟩
  · obtain ⟨hexec, hop, rfl⟩ := exec_peerData hm m s
    have hends {u : State} (hd : (up op).plDataIn m (decide (op = .atomicData)) = u) : ends (c m) u :=
      .of_packet hl hi hexec ((plResponseIn_data ⟨hu, hc⟩ hb hop).trans hd)
    exact ⟨fun h => hends (plDataIn_unasked (htx op) h), fun x h => ⟨fun hok hp => hends (plDataIn_fails (htx op) h hok hp),
      fun hst => hends (plDataIn_reaches (htx op) h hst)⟩⟩
  · exact ⟨fun h => hcmp hc hb (plCmpIn_covers_none (htx .cmp) hcum h), fun h => hcmp hc hb (plCmpIn_covers (htx .cmp) hcum h)⟩
  · exact ⟨fun h => hcmp hc hb (plCmpIn_unasked (htx .cmp) hcum h), fun x h hop hst => hcmp hc hb (plCmpIn_ok (htx .cmp) hcum h hop hst),
      fun x h hop hst => hcmp hc hb (plCmpIn_redo (htx .cmp) hcum h hop hst)⟩
  · exact .of_packet hl hi rfl ((plResponseIn_nak ⟨hu, hc⟩ hb rfl).trans (plNakIn_expected hst))
  · exact .of_packet hl hi rfl ((plResponseIn_nak ⟨hu, hc⟩ hb rfl).trans (plNakIn_syncNeeded hst (htx .nak)))

end Sys2Proof.Machine

/-! ## Timers, windows and links of a peer link (O38) -/

namespace Sys2Proof.Machine

open State

namespace State

/-! ### Timers (R287, R289) -/

section
variable {s : State} {node flow : Nat}

theorem ackTimer_owed (h : 0 < (s.plRx node flow).owed) : s.ackTimer node flow = s.plAck node flow := if_pos h

theorem ackTimer_nothing_owed (h : (s.plRx node flow).owed = 0) : s.ackTimer node flow = s := if_neg (Nat.not_lt.2 (Nat.le_of_eq h))

theorem plExpiry_answered (h : (s.plTx node flow).unacked = []) : s.plExpiry node flow = s := if_pos h

variable (h : (s.plTx node flow).unacked ≠ [])
include h

theorem plExpiry_sends_again (hl : (s.plTx node flow).expiries + 1 < max 1 (s.regBits Reg.PL_TIMEOUT 47 40)) :
    s.plExpiry node flow =
      (s.setPlTx node flow { s.plTx node flow with expiries := (s.plTx node flow).expiries + 1 }).plResend node flow fun _ => true :=
  (if_neg h).trans (if_neg (Nat.not_le.2 hl))

theorem plExpiry_gives_up (hl : max 1 (s.regBits Reg.PL_TIMEOUT 47 40) ≤ (s.plTx node flow).expiries + 1) :
    s.plExpiry node flow =
      ((s.modPl fun q => { q with unreach := addNew node q.unreach }).raise Reg.PL Err.PL_NODE_UNREACH
        { Capture.none with cls := 9, index := node }).plDropNode node :=
  (if_neg h).trans (if_pos hl)

end

/-! ### Windows (R282) -/

/-- The requests that the windows have let in and that have neither begun nor ended, by node, flow and number. -/
def winWaiting (s : State) : List (Nat × Nat × Nat) :=
  s.pl.rx.flatMap fun e => (e.2.acc.filter fun a => !a.issued && a.done.isNone).map fun a => (e.1 / 128, e.1 % 128, a.seq)

section
variable {s : State}

theorem winCommit_refused (hv : bit (s.reg Reg.PL_WINQ1) 63 = true) (hf : winFits (s.reg Reg.PL_WINQ0) (s.reg Reg.PL_WINQ1) = false) :
    s.winCommit = s.modPl fun q => { q with winRefused := true } := if_pos (by rw [hv, hf]; rfl)

theorem winCommit_taken (h : bit (s.reg Reg.PL_WINQ1) 63 = false ∨ winFits (s.reg Reg.PL_WINQ0) (s.reg Reg.PL_WINQ1) = true) :
    s.winCommit = s.modPl fun q =>
      { q with windows := Map.put { q0 := 0, q1 := 0 } (s.regBits Reg.PL_SEL 37 32) { q0 := s.reg Reg.PL_WINQ0, q1 := s.reg Reg.PL_WINQ1 } q.windows,
               winRefused := false, winBusy := true, winDrain := s.winWaiting, winBy := s.now + 10000 } := by
  refine if_neg ?_
  rcases h with h | h <;> simp [h]

end

/-! ### Credits that return (R284) -/

section
variable {s : State} {port cls n : Nat}

theorem plCredit_down (h : (s.plPort port).linkUp = false) : s.plCredit port cls n = s := if_pos (by rw [h]; rfl)

/-- Credits are added where the port holds nothing for them. -/
theorem plCredit_up (h : (s.plPort port).linkUp = true) (hh : (s.plPort port).held = []) :
    s.plCredit port cls n =
      s.setPlPort port { s.plPort port with credits := (s.plPort port).credits.set cls ((s.plPort port).credits.getD cls 0 + n) } :=
  (if_neg (by rw [h]; exact Bool.false_ne_true)).trans (congrArg (fun k => plDrain port k _) (List.length_eq_zero_iff.2 hh))

end

/-! ### Links (R270, R271) -/

/-- A link block has failed on a port, and is replayed. -/
def plReplayed (p : Nat) (s : State) : State :=
  s.setPlPort p
    { s.plPort p with replays := min 0xFFFFFFFF ((s.plPort p).replays + 1), fails := (s.plPort p).fails + 1 }

/-- A port's link goes down, with its error, and the flows on it move. -/
def plGoesDown (p : Nat) (s : State) : State :=
  ((((s.plLinkLost p).setPlPort p { (s.plLinkLost p).plPort p with training := false, retrain := false }).emit (.plDown p)).raise
    Reg.PL Err.PL_LINK_DOWN Capture.none).plReroute

/-- A port's link carries traffic, with all lanes or with the half that `high` names. -/
def plComesUp (p : Nat) (x8 high : Bool) (s : State) : State :=
  (plDrain p (s.plPort p).held.length (s.setPlPort p
    { s.plPort p with linkUp := true, x8 := x8, high := high && !x8, training := false, retrain := false, fails := 0 })).plReroute

/-- A lane of a port that its link uses. -/
def PlLaneUsed (s : State) (p lane : Nat) : Prop :=
  (s.plPort p).linkUp = true ∧ ((s.plPort p).x8 = true ∨ lane / 4 = b2n (s.plPort p).high)

section
variable {s : State} {p : Nat}

theorem plBlockFail_down {r : Bool} (h : (s.plPort p).linkUp = false) : s.plBlockFail p r = s := if_pos (by rw [h]; rfl)

section
variable (h : (s.plPort p).linkUp = true)
include h

theorem plBlockFail_up (r : Bool) :
    s.plBlockFail p r =
      if (s.plPort p).fails + 1 < 8 then s.plReplayed p
      else if r then (s.plReplayed p).plStartTrain p else (s.plReplayed p).plLinkDown p :=
  if_neg (by rw [h]; exact Bool.false_ne_true)

theorem plBlockFail_replayed {r : Bool} (hf : (s.plPort p).fails < 7) : s.plBlockFail p r = s.plReplayed p :=
  (plBlockFail_up h r).trans (if_pos (Nat.succ_lt_succ hf))

/-- The eighth failure in a row. -/
theorem plBlockFail_eighth (hf : 7 ≤ (s.plPort p).fails) (r : Bool) :
    s.plBlockFail p r = if r then (s.plReplayed p).plStartTrain p else (s.plReplayed p).plLinkDown p :=
  (plBlockFail_up h r).trans (if_neg (Nat.not_lt.2 (Nat.succ_le_succ hf)))

end

theorem plLinkDown_is_down (hu : (s.plPort p).linkUp = false) (ht : (s.plPort p).training = false) : s.plLinkDown p = s :=
  if_pos (by simp [hu, ht])

theorem plLinkDown_goes_down (h : (s.plPort p).linkUp = true ∨ (s.plPort p).training = true) : s.plLinkDown p = s.plGoesDown p := by
  refine if_neg ?_
  rcases h with h | h <;> simp [h]

section
variable {x8 high : Bool}

theorem plTrained_up (hl : s.laserOn p = true) (hr : (s.plPort p).ready ≠ none) (ht : (s.plPort p).training = true)
    (hx : x8 = true ∨ s.regBit Reg.PL_CTRL (8 + p) = true) : s.plTrained p x8 high = s.plComesUp p x8 high := by
  refine if_neg ?_
  rcases hx with hx | hx <;> simp [hl, hr, ht, hx]

theorem plTrained_ignored (h : s.laserOn p = false ∨ (s.plPort p).ready = none ∨ (s.plPort p).training = false ∨
    (x8 = false ∧ s.regBit Reg.PL_CTRL (8 + p) = false)) : s.plTrained p x8 high = s := by
  refine if_pos ?_
  rcases h with h | h | h | ⟨hx, h⟩
  · simp [h]
  · simp [h]
  · simp [h]
  · simp [hx, h]

end

/-! ### Lasers and lanes (R435) -/

theorem plReady_dark (h : s.laserOn p = false) : s.plReady p = s := if_neg (Bool.eq_false_iff.1 h)

section
variable (h : s.laserOn p = true)
include h

theorem plReady_before_load (hb : s.boot.loaded = false) : s.plReady p = s.setPlPort p { s.plPort p with ready := some s.now } :=
  (if_pos h).trans (if_neg (Bool.eq_false_iff.1 hb))

theorem plReady_trains (hb : s.boot.loaded = true) :
    s.plReady p = (s.setPlPort p { s.plPort p with ready := some s.now }).plStartTrain p :=
  (if_pos h).trans (if_pos hb)

end

theorem plLaneUsed_iff {lane : Nat} :
    ((s.plPort p).linkUp && ((s.plPort p).x8 || decide (lane / 4 = b2n (s.plPort p).high))) = true ↔ s.PlLaneUsed p lane := by
  simp only [PlLaneUsed, Bool.and_eq_true, Bool.or_eq_true, decide_eq_true_eq]

theorem plLos_unused {lane : Nat} (h : ¬ s.PlLaneUsed p lane) : s.plLos p lane = s := if_neg (mt plLaneUsed_iff.1 h)

theorem plLos_used {lane : Nat} (h : s.PlLaneUsed p lane) : s.plLos p lane = s.plStartTrain p := if_pos (plLaneUsed_iff.2 h)

/-- A port with a fault, whose lasers are no longer ready. -/
def plFaulted (p : Nat) (s : State) : State := s.setPlPort p { s.plPort p with fault := true, ready := none }

theorem plFault_dark (h : s.laserOn p = false) : s.plFault p = (s.plFaulted p).plLinkDown p :=
  congrArg (plLinkDown p) (if_neg (Bool.eq_false_iff.1 h))

theorem plFault_lit (h : s.laserOn p = true) : s.plFault p = ((s.plFaulted p).emit (.laser p false)).plLinkDown p :=
  congrArg (plLinkDown p) (if_pos h)

end

end State

/-- A register write that is taken at once, with what it does before the block settles worked out. -/
theorem Ends.of_barWrite {c d : Instr} {s u : State} {off : Nat} {f : State → State} (h : exec c s = .next (s.done (s.barWrite off d f)))
    (ho : s.OpenReg off) (hf : f s = u) : Ends c s u :=
  .of_done h ((barWrite_open d f ho).trans hf)

/-- Settles O38: the timers, RESYNC, the windows, the credits, and the links and lasers of a port. -/
theorem peerLinksAndTimers : Obligations.PeerLinksAndTimers := by
  refine ⟨⟨fun node flow s => ⟨fun h => ?_, fun h => ?_, fun h => ?_, fun h hl => ?_, fun h hl => ?_⟩, fun s ho => ?_,
      fun h v s ho => ⟨fun hv hf => ?_, fun hw => ?_⟩, fun port cls n s => ⟨fun h hs => ?_, fun h hh hs => ?_⟩⟩,
    fun h v s ho => ?_, fun p s => ⟨fun h r => ?_, fun h hf r => ?_, fun h hf => ⟨?_, ?_⟩, fun h => ?_, fun hu ht => ?_,
      fun x8 high hl hr ht hx => ?_, fun x8 high h => ?_, fun h hb => ?_, fun h hb => ?_, fun h => ?_, fun lane => ⟨fun h => ?_, fun h => ?_⟩,
      fun h => ?_, fun h => ?_⟩⟩
  · exact .of_clocked rfl (congrArg s.keep (ackTimer_owed h))
  · exact .of_clocked rfl (keep_eq (ackTimer_nothing_owed h) rfl)
  · exact .of_clocked rfl (plExpiry_answered h)
  · exact .of_clocked rfl (plExpiry_sends_again h hl)
  · exact .of_clocked rfl (plExpiry_gives_up h hl)
  · exact .of_barWrite rfl ho rfl
  · exact .of_barWrite rfl ho (keep_eq (winCommit_refused hv hf) rfl)
  · exact .of_barWrite rfl ho (keep_eq (winCommit_taken hw) rfl)
  · exact Nexts.of_keep rfl (keep_eq ((clocked_running hs _ _).trans (plCredit_down h)) rfl) hs
  · exact Nexts.of_keep rfl (keep_eq ((clocked_running hs _ _).trans (plCredit_up h hh)) rfl) hs
  · exact .of_barWrite rfl ho rfl
  · exact .of_done rfl (plBlockFail_down h)
  · exact .of_done rfl (plBlockFail_replayed h hf)
  · exact .of_done rfl (plBlockFail_eighth h hf true)
  · exact .of_done rfl (plBlockFail_eighth h hf false)
  · exact .of_done rfl (plLinkDown_goes_down h)
  · exact .of_done rfl (plLinkDown_is_down hu ht)
  · exact .of_done rfl (plTrained_up hl hr ht hx)
  · exact .of_done rfl (plTrained_ignored h)
  · exact .of_keep rfl (keep_eq (plReady_before_load h hb) rfl)
  · exact .of_keep rfl (congrArg s.keep (plReady_trains h hb))
  · exact .of_keep rfl (keep_eq (plReady_dark h) rfl)
  · exact .of_done rfl (plLos_unused h)
  · exact .of_done rfl (plLos_used h)
  · exact .of_done rfl (plFault_dark h)
  · exact .of_done rfl (plFault_lit h)

end Sys2Proof.Machine

/-! ## Configuration requests (O39) -/

namespace Sys2Proof.Machine

open State

namespace State

/-- The dwords whose writes carry an effect of their own: Command, Power Management, Device Control, ATS Control, the MSI-X and MSI masks,
the DOE mailbox, SR-IOV Control and NumVFs (log entry 15). -/
def effectDwords : List Nat := [0x04, 0x44, 0x58, 0x14C, 0xB0, 0xA0, 0x2A8, 0x2AC, 0x2B0, 0x2B4, 0x348, 0x350]

section
variable {fn off reg : Nat} {be : BitVec 4} {v : BitVec 32} {a : CfgAccess} {s : State}

theorem fnPresent_iff : s.fnPresent fn = true ↔ fn ≤ s.up.vfOn := decide_eq_true_iff

/-- A write of any other dword brings about nothing beside its value. -/
theorem cfgEffect_plain {old : BitVec 32} (h : off ∉ effectDwords) : s.cfgEffect fn off old v be = s := by
  simp only [effectDwords, List.mem_cons, List.not_mem_nil, or_false, not_or] at h
  obtain ⟨h04, h44, h58, h14C, hB0, hA0, h2A8, h2AC, h2B0, h2B4, h348, h350⟩ := h
  simp [cfgEffect, h04, h44, h58, h14C, hB0, hA0, h2A8, h2AC, h2B0, h2B4, h348, h350]

/-- Until the image load has ended the host is to retry (R300). -/
theorem configRequestOp_loading (hb : s.boot.loaded = false) : s.configRequestOp fn reg a = s.emit .cfgRetry := if_pos (by rw [hb]; rfl)

variable (hb : s.boot.loaded = true)
include hb

theorem configRequestOp_absent (hf : s.up.vfOn < fn) : s.configRequestOp fn reg a = s.unsupported false := by
  have hp : s.fnPresent fn = false := Bool.eq_false_iff.2 (mt fnPresent_iff.1 (Nat.not_le.2 hf))
  simp only [configRequestOp, hb, hp, Bool.not_true, Bool.not_false, Bool.false_eq_true, if_false, if_true]

variable (hf : fn ≤ s.up.vfOn)
include hf

theorem configRequestOp_read : s.configRequestOp fn reg .read = s.emit (.cfgCpl (s.cfgRead fn (4 * reg))) := by
  simp only [configRequestOp, hb, fnPresent_iff.2 hf, Bool.not_true, Bool.false_eq_true, if_false]

theorem configRequestOp_write (hd : 4 * reg ∉ effectDwords) :
    s.configRequestOp fn reg (.write be v) = (s.setCfgDw fn (4 * reg) (s.cfgMerge fn (4 * reg) be v)).emit (.cfgCpl 0) := by
  simp only [configRequestOp, hb, fnPresent_iff.2 hf, cfgEffect_plain hd, Bool.not_true, Bool.false_eq_true, if_false]

end

end State

/-- CONFIG_REQUEST, with what it does worked out. -/
theorem Ends.of_configRequest {fn : BitVec 8} {reg : BitVec 10} {a : CfgAccess} {s u : State}
    (h : s.configRequestOp fn.toNat reg.toNat a = u) : Ends (.configRequest fn reg a) s u := .of_message rfl h

/-- Settles O39: the image load, an absent function, a read, and a write of a plain dword. -/
theorem configurationRequests : Obligations.ConfigurationRequests := by
  refine fun fn reg a s => ⟨fun hb => ?_, fun hb hf => ?_, fun hb hf => ⟨?_, ?_⟩⟩
  · exact .of_configRequest (configRequestOp_loading hb)
  · exact .of_configRequest (configRequestOp_absent hb hf)
  · rintro rfl
    exact .of_configRequest (configRequestOp_read hb hf)
  · rintro be v rfl hd
    exact .of_configRequest (configRequestOp_write hb hf hd)

end Sys2Proof.Machine

/-! ## Attachment of the driver and its parked requests (O43) -/

namespace Sys2Proof.Machine

open State

namespace State

section
variable {s : State}

/-! ### RESUME_FN and DISCARD_FN (R317) -/

section
variable {f : State → State} {fn : Nat}

theorem fnCmd_ready (h : s.fnReady fn = true) : fnCmd f fn s = f (s.modUp fun u => { u with fnRefused := false }) := if_pos h

theorem fnCmd_refused (h : s.fnReady fn = false) : fnCmd f fn s = s.modUp fun u => { u with fnRefused := true } :=
  if_neg (Bool.eq_false_iff.1 h)

end

/-! ### ATTACH (R319 Table 8, log entry 66) -/

theorem attachOp_no_entropy (h : s.ident.entropyBad = true) : s.attachOp = s.refuseAttach := if_pos h

section
variable (he : s.ident.entropyBad = false)
include he

theorem attachOp_fresh (h : s.up.attach = .fresh) : s.attachOp = s.attachNow := by
  simp only [attachOp, he, h, Bool.false_eq_true, if_false]

theorem attachOp_attached (h : s.up.attach = .attached) : s.attachOp = s.refuseAttach := by
  simp only [attachOp, he, h, Bool.false_eq_true, if_false]

theorem attachOp_parked (h : s.up.attach = .parked) :
    s.attachOp = (allFns.foldl (fun s f => s.discardRequests f) s).reattach.attachNow := by
  simp only [attachOp, he, h, Bool.false_eq_true, if_false]

end

/-! ### RESUME with the staged token (R319 Table 8) -/

theorem attachResumeOp_not_parked (h : s.up.attach ≠ .parked) : s.attachResumeOp = s.refuseAttach := by
  cases ha : s.up.attach with
  | parked => exact absurd ha h
  | fresh | attached => simp only [attachResumeOp, ha]

section
variable (hp : s.up.attach = .parked)
include hp

theorem attachResumeOp_wrong_token (h : s.up.staged ≠ s.up.token) : s.attachResumeOp = s.refuseAttach := by
  simp only [attachResumeOp, hp, if_pos h]

variable (ht : s.up.staged = s.up.token)
include ht

theorem attachResumeOp_new_token (h : s.ident.entropyBad = false) : s.attachResumeOp = s.reattach.attachNow := by
  simp only [attachResumeOp, hp, ht, h, ne_eq, not_true_eq_false, Bool.false_eq_true, if_false]

/-- Without entropy the token stays in force. -/
theorem attachResumeOp_same_token (h : s.ident.entropyBad = true) :
    s.attachResumeOp = s.reattach.modUp fun u => { u with attach := .attached, attRefused := false } := by
  simp only [attachResumeOp, hp, ht, h, ne_eq, not_true_eq_false, if_false, if_true]

end

/-! ### PARK (R319 Table 8) -/

theorem parkOp_attached (h : s.up.attach = .attached) : s.parkOp = s.modUp fun u => { u with attRefused := false, attach := .parked } := by
  simp [parkOp, parkAttach, modUp, h]

theorem parkOp_refused (h : s.up.attach ≠ .attached) : s.parkOp = s.refuseAttach := if_neg h

end

end State

/-- Settles O43: the parked requests of a function, and Table 8 of R319 row by row. -/
theorem driverAttachment : Obligations.DriverAttachment := by
  refine fun s => ⟨fun fn ho => ⟨fun h => ⟨?_, ?_⟩, fun h => ⟨?_, ?_⟩⟩, fun ho => ⟨fun h => ?_, fun he h => ?_, fun he h => ?_, fun he h => ?_,
    fun h => ?_, fun hp h => ?_, fun hp ht h => ?_, fun hp ht h => ?_, fun h => ?_, fun h => ?_⟩⟩
  · exact .of_barWrite rfl ho (fnCmd_ready h)
  · exact .of_barWrite rfl ho (fnCmd_ready h)
  · exact .of_barWrite rfl ho (fnCmd_refused h)
  · exact .of_barWrite rfl ho (fnCmd_refused h)
  · exact .of_barWrite rfl ho (attachOp_no_entropy h)
  · exact .of_barWrite rfl ho (attachOp_fresh he h)
  · exact .of_barWrite rfl ho (attachOp_attached he h)
  · exact .of_barWrite rfl ho (attachOp_parked he h)
  · exact .of_barWrite rfl ho (attachResumeOp_not_parked h)
  · exact .of_barWrite rfl ho (attachResumeOp_wrong_token hp h)
  · exact .of_barWrite rfl ho (attachResumeOp_new_token hp ht h)
  · exact .of_barWrite rfl ho (attachResumeOp_same_token hp ht h)
  · exact .of_barWrite rfl ho (keep_eq (parkOp_attached h) rfl)
  · exact .of_barWrite rfl ho (keep_eq (parkOp_refused h) rfl)

end Sys2Proof.Machine

/-! ## What the report of an error leaves alone (R388 to R390) -/

namespace Sys2Proof.Machine

open State

namespace State

/-- A part of the block to which no register, upstream state, message, free value or recorded event belongs. -/
structure Unreported {β : Type} (p : State → β) : Prop where
  reg : ∀ off v s, p (s.setReg off v) = p s
  up : ∀ f s, p (s.modUp f) = p s
  out : ∀ m s, p (s.emit m) = p s
  free : ∀ s : State, p s.fresh.2 = p s
  events : ∀ f s, p (s.modRp f) = p s

namespace Unreported

section
variable {β : Type} {p : State → β} (h : Unreported p)
include h

theorem setCfgDw (fn off : Nat) (v : BitVec 32) (s : State) : p (s.setCfgDw fn off v) = p s := h.up _ s

theorem aerFirst (fn : Nat) (e : Aer) (s : State) : p (s.aerFirst fn e) = p s := by
  unfold State.aerFirst
  split <;> simp only [h.up, h.free, h.setCfgDw]

theorem aerMessage (fn level : Nat) (s : State) : p (s.aerMessage fn level) = p s := by
  unfold State.aerMessage
  split
  · exact h.out _ s
  · rfl

theorem aer (fn : Nat) (e : Aer) (s : State) : p (s.aer fn e) = p s := by
  simp only [State.aer, apply_ite p, h.aerMessage, h.aerFirst, h.setCfgDw, h.out, ite_self]

theorem capture (b i sev : Nat) (c : Capture) (s : State) : p (s.capture b i sev c) = p s := by
  simp only [State.capture, apply_ite p, h.reg, ite_self]

theorem setErr (b i : Nat) (c : Capture) (s : State) : p (s.setErr b i c).1 = p s := by
  simp only [State.setErr, apply_ite p, h.out, h.aer, h.capture, h.reg, ite_self]

theorem updateInta (s : State) : p s.updateInta = p s := by
  simp only [State.updateInta, apply_ite p, h.out, h.up, ite_self]

theorem sendVector0 (fn vec : Nat) (s : State) : p (s.sendVector0 fn vec) = p s := by
  simp only [State.sendVector0, apply_ite p, h.out, h.up, h.setCfgDw, h.updateInta, h.reg, ite_self]

theorem sendErrVector (s : State) : p s.sendErrVector = p s := by
  simp only [State.sendErrVector, apply_ite p, h.sendVector0, h.setErr, ite_self]

theorem raiseQuiet (b i : Nat) (c : Capture) (s : State) : p (s.raiseQuiet b i c) = p s := by
  simp only [State.raiseQuiet, apply_ite p, h.sendErrVector, h.setErr, ite_self]

theorem bump (off : Nat) (s : State) : p (s.bump off) = p s := h.reg _ _ s

theorem rpEvent (type flags source : Nat) (q2 q3 : Word) (desc : Option (Desc × Bool)) (s : State) :
    p (s.rpEvent type flags source q2 q3 desc) = p s := by
  simp only [State.rpEvent, apply_ite p, h.events, h.bump, h.raiseQuiet, setRegBits, h.reg, ite_self]

theorem raise (b i : Nat) (c : Capture) (s : State) : p (s.raise b i c) = p s :=
  (h.rpEvent ..).trans (h.raiseQuiet b i c s)

theorem unsupported (posted : Bool) (s : State) : p (s.unsupported posted) = p s :=
  (h.raise ..).trans ((h.aer ..).trans (h.out _ s))

end

end Unreported

end State

end Sys2Proof.Machine

/-! ## The power domains stay legal (O56) -/

namespace Sys2Proof.Machine

open State

namespace State

/-! ### What a timer does (R372) -/

/-- A timer may begin the entry of domain `d` from `a` into `b`. -/
def MayEnter (d : Nat) (a b : PmSt) (timer : Nat) (s : State) : Prop :=
  (s.dom d).st = a ∧ (s.dom d).entering = none ∧ (s.dom d).waking = false ∧ s.isFenced d = false ∧ timer ≠ 0 ∧ s.boot.loaded = true ∧
    s.clocksStopped = false ∧ s.powerHeld = false ∧ depth b ≤ s.floorOf d ∧ s.domBusy d = false

section
variable {d timer : Nat} {a b : PmSt} {s : State}

theorem entryGuard_iff :
    ((s.dom d).st ≠ a ∨ (s.dom d).entering.isSome = true ∨ (s.dom d).waking = true ∨ s.isFenced d = true ∨ timer = 0 ∨ (!s.boot.loaded) = true ∨
      s.clocksStopped = true ∨ s.powerHeld = true ∨ s.floorOf d < depth b ∨ s.domBusy d = true) ↔ ¬ s.MayEnter d a b timer := by
  simp only [MayEnter, Classical.not_and_iff_not_or_not, Bool.not_eq_false, Bool.not_eq_true, Bool.not_eq_true', Nat.not_le, Classical.not_not, Option.isSome_iff_ne_none, ne_eq]

theorem tryEntry_stays (h : ¬ s.MayEnter d a b timer) : s.tryEntry d a b timer = s := if_pos (entryGuard_iff.2 h)

section
variable (h : s.MayEnter d a b timer)
include h

theorem tryEntry_of_mayEnter :
    s.tryEntry d a b timer =
      if s.refuser d ≠ 0 then s.refuseEntry d (s.refuser d) else if s.levelSource d then s.abortEntry d
      else s.setDom d { s.dom d with entering := some b } :=
  if_neg fun hg => entryGuard_iff.1 hg h

theorem tryEntry_refused (hr : s.refuser d ≠ 0) : s.tryEntry d a b timer = s.refuseEntry d (s.refuser d) :=
  (tryEntry_of_mayEnter h).trans (if_pos hr)

theorem tryEntry_aborted (hr : s.refuser d = 0) (hl : s.levelSource d = true) : s.tryEntry d a b timer = s.abortEntry d :=
  (tryEntry_of_mayEnter h).trans ((if_neg (not_not_intro hr)).trans (if_pos hl))

theorem tryEntry_enters (hr : s.refuser d = 0) (hl : s.levelSource d = false) :
    s.tryEntry d a b timer = s.setDom d { s.dom d with entering := some b } :=
  (tryEntry_of_mayEnter h).trans ((if_neg (not_not_intro hr)).trans (if_neg (Bool.eq_false_iff.1 hl)))

end

end

/-! ### The end of an entry's final window (R373, R376) -/

/-- Domain `d` is a bank on its way to OFF whose records have not been saved. -/
def Unsaved (d : Nat) (t : PmSt) (s : State) : Prop := t = .off ∧ 78 ≤ d ∧ d < 82 ∧ d - 78 ∉ s.pm.saved

section
variable {d : Nat} {s : State}

theorem entryCommitOp_idle (h : (s.dom d).entering = none) : s.entryCommitOp d = s := by simp only [entryCommitOp, h]

section
variable {t : PmSt} (h : (s.dom d).entering = some t)
include h

theorem entryCommitOp_refused (hr : s.quiesceRefuser d ≠ 0) :
    s.entryCommitOp d = (s.refuseEntry d (s.quiesceRefuser d)).seeLevels d := by
  simp only [entryCommitOp, h, if_pos hr]

theorem entryCommitOp_of_quiet (hr : s.quiesceRefuser d = 0) :
    s.entryCommitOp d = if t = .off ∧ 78 ≤ d ∧ d < 82 ∧ !decide (d - 78 ∈ s.pm.saved) then s
      else ((s.setDom d { s.dom d with st := t, entering := none }).entered d t).seeLevels d := by
  simp only [entryCommitOp, h, hr, ne_eq, not_true_eq_false, if_false]

theorem entryCommitOp_unsaved (hr : s.quiesceRefuser d = 0) (hs : s.Unsaved d t) : s.entryCommitOp d = s :=
  (entryCommitOp_of_quiet h hr).trans (if_pos (by simpa [Unsaved] using hs))

theorem entryCommitOp_commits (hr : s.quiesceRefuser d = 0) (hs : ¬ s.Unsaved d t) :
    s.entryCommitOp d = ((s.setDom d { s.dom d with st := t, entering := none }).entered d t).seeLevels d :=
  (entryCommitOp_of_quiet h hr).trans (if_neg (by simpa [Unsaved] using hs))

end

end

/-! ### The save of a bank (R373) -/

/-- The save area of a bank. -/
def saveArea (bank : Nat) (s : State) : Nat := (s.reg Reg.PM_SAVE_BASE).toNat / 2 ^ 21 * 2 ^ 21 + bank * 2 ^ 21

/-- The save area holds the bank's records, as free bytes without poison (log entry 69). -/
def fillSaveArea (bank : Nat) (s : State) : State :=
  { s with
    mem := Mem.fill (Config.saveByte s.freeCtr) (s.saveArea bank) (2 ^ 21) s.mem
    poison := s.poison.filter fun l => !decide (s.saveArea bank / 64 ≤ l ∧ l < s.saveArea bank / 64 + 2 ^ 15)
    freeCtr := s.freeCtr + 1 }

section
variable {bank : Nat} {s : State}

theorem saveDone_idle (h : (s.dom (Dom.bank bank)).entering ≠ some .off) (ok : Bool) : s.saveDone bank ok = s := if_pos h

variable (h : (s.dom (Dom.bank bank)).entering = some .off)
include h

theorem saveDone_saved :
    s.saveDone bank true =
      ((s.fillSaveArea bank).modSf fun f => { f with tables := (s.heldLines [(s.saveArea bank, 2 ^ 21)]).foldl (fun l x => addNew x l) f.tables }).modPm
        fun p => { p with saved := addNew bank p.saved } :=
  if_neg (not_not_intro h)

theorem saveDone_failed :
    s.saveDone bank false =
      (s.setDom (Dom.bank bank) { s.dom (Dom.bank bank) with entering := none }).raise Reg.PM Err.PM_SAVE_FAIL
        { Capture.none with index := Dom.bank bank } :=
  if_neg (not_not_intro h)

end

/-! ### Legal domains -/

/-- The power domains and the fences are no matter of an error's report. -/
theorem unreported_power : Unreported fun s : State => (s.pm.doms, s.fenced) :=
  ⟨fun _ _ _ => rfl, fun _ _ => rfl, fun _ _ => rfl, fun _ => rfl, fun _ _ => rfl⟩

/-- What `DomainsLegal` asks of domain `d`, which is fenced or not (R371, R372, R377, R392). -/
structure DomLegal (d : Nat) (fenced : Bool) (x : PmDom) : Prop where
  entry : ∀ t, x.entering = some t → x.waking = false ∧ depth t = depth x.st + 1
  fenced : fenced = true → x.entering = none ∧ x.waking = false
  refused : x.refused ≤ 0xFFFF
  aborted : x.aborted ≤ 0xFFFF
  alwaysOn : d = 95 → x.st = .active ∧ x.entering = none ∧ x.waking = false

theorem domainsLegal_iff {s : State} :
    s.DomainsLegal ↔ Map.rising s.pm.doms = true ∧ ∀ d, DomLegal d (s.isFenced d) (s.dom d) := by
  refine ⟨fun ⟨hr, hd, ha⟩ => ⟨hr, fun d => ?_⟩, fun ⟨hr, hd⟩ => ⟨hr, fun d => ?_, (hd 95).alwaysOn rfl⟩⟩
  · obtain ⟨he, hf, href, hab⟩ := hd d
    exact ⟨he, hf, href, hab, fun h => h ▸ ha⟩
  · exact ⟨(hd d).entry, (hd d).fenced, (hd d).refused, (hd d).aborted⟩

/-! ### One domain -/

namespace DomLegal

section
variable {d : Nat} {f : Bool} {x : PmDom} (h : DomLegal d f x)
include h

theorem refuse (code : Nat) : DomLegal d f { x with entering := none, refused := min 0xFFFF (x.refused + 1), last := code } :=
  ⟨fun _ ht => (nomatch ht), fun hf => ⟨rfl, (h.fenced hf).2⟩, Nat.min_le_left .., h.aborted,
    fun hd => ⟨(h.alwaysOn hd).1, rfl, (h.alwaysOn hd).2.2⟩⟩

theorem abort : DomLegal d f { x with entering := none, aborted := min 0xFFFF (x.aborted + 1) } :=
  ⟨fun _ ht => (nomatch ht), fun hf => ⟨rfl, (h.fenced hf).2⟩, h.refused, Nat.min_le_left ..,
    fun hd => ⟨(h.alwaysOn hd).1, rfl, (h.alwaysOn hd).2.2⟩⟩

theorem giveUp : DomLegal d f { x with entering := none } :=
  ⟨fun _ ht => (nomatch ht), fun hf => ⟨rfl, (h.fenced hf).2⟩, h.refused, h.aborted,
    fun hd => ⟨(h.alwaysOn hd).1, rfl, (h.alwaysOn hd).2.2⟩⟩

theorem hold (timer dbgHold : Bool) : DomLegal d f { x with timer := timer, dbgHold := dbgHold } :=
  ⟨h.entry, h.fenced, h.refused, h.aborted, h.alwaysOn⟩

theorem clearCounts : DomLegal d f { x with refused := 0, aborted := 0 } :=
  ⟨h.entry, h.fenced, Nat.zero_le _, Nat.zero_le _, h.alwaysOn⟩

theorem wake (hd : d ≠ 95) (hf : f = false) (he : x.entering = none) : DomLegal d f { x with waking := true, retried := false } :=
  ⟨fun _ ht => (nomatch he.symm.trans ht), fun hf' => absurd (hf.symm.trans hf') Bool.false_ne_true, h.refused, h.aborted,
    fun hd' => absurd hd' hd⟩

theorem enter {t : PmSt} (hd : d ≠ 95) (hf : f = false) (hw : x.waking = false) (ht : depth t = depth x.st + 1) :
    DomLegal d f { x with entering := some t } :=
  ⟨fun _ hu => Option.some.inj hu ▸ ⟨hw, ht⟩, fun hf' => absurd (hf.symm.trans hf') Bool.false_ne_true, h.refused, h.aborted,
    fun hd' => absurd hd' hd⟩

/-- A domain that enters a state is not fenced, and is not the always-on one. -/
theorem entering {t : PmSt} (ht : x.entering = some t) : d ≠ 95 ∧ f = false :=
  ⟨fun hd => (nomatch (h.alwaysOn hd).2.1.symm.trans ht), Bool.eq_false_iff.2 fun hf => (nomatch (h.fenced hf).1.symm.trans ht)⟩

theorem commit {t : PmSt} (ht : x.entering = some t) : DomLegal d f { x with st := t, entering := none } :=
  ⟨fun _ hu => (nomatch hu), fun hf => ⟨rfl, (h.fenced hf).2⟩, h.refused, h.aborted, fun hd => absurd hd (h.entering ht).1⟩

end

end DomLegal

/-! ### The operations of power domains -/

namespace DomainsLegal

/-- Whatever leaves the domains and the fences alone keeps them legal. -/
theorem congr {s t : State} (hd : t.pm.doms = s.pm.doms) (hf : t.fenced = s.fenced) (h : s.DomainsLegal) : t.DomainsLegal := by
  simpa only [DomainsLegal, dom, isFenced, hd, hf] using h

section
variable {d : Nat} {s : State} (h : s.DomainsLegal)
include h

theorem rising : Map.rising s.pm.doms = true := h.1

theorem dom (d : Nat) : DomLegal d (s.isFenced d) (s.dom d) := (domainsLegal_iff.1 h).2 d

theorem setDom {x : PmDom} (hx : DomLegal d (s.isFenced d) x) : (s.setDom d x).DomainsLegal := by
  refine domainsLegal_iff.2 ⟨Map.rising_put _ d x h.rising, fun j => ?_⟩
  by_cases hj : j = d
  · subst hj
    rw [dom_setDom_same j x h.rising]
    exact hx
  · rw [dom_setDom_other hj x h.rising]
    exact h.dom j

theorem refuseEntry (code : Nat) : (s.refuseEntry d code).DomainsLegal := h.setDom ((h.dom d).refuse code)

theorem abortEntry : (s.abortEntry d).DomainsLegal := congr rfl rfl (h.setDom (h.dom d).abort)

theorem startWake (hd : d ≠ 95) (hf : s.isFenced d = false) (he : (s.dom d).entering = none) : (s.startWake d).DomainsLegal :=
  h.setDom ((h.dom d).wake hd hf he)

theorem abort_startWake (hd : d ≠ 95) (hf : s.isFenced d = false) : ((s.abortEntry d).startWake d).DomainsLegal :=
  h.abortEntry.startWake hd hf (congrArg PmDom.entering (dom_setDom_same d _ h.rising))

/-- A wake source of any domain keeps the domains legal (R372, R375). -/
theorem wakeDom : (s.wakeDom d).DomainsLegal := by
  by_cases hg : s.isFenced d = true ∨ d = 95
  · rwa [State.wakeDom, if_pos hg]
  · obtain ⟨hf, hd⟩ := not_or.1 hg
    have hf : s.isFenced d = false := Bool.eq_false_iff.2 hf
    rw [wakeDom_eq hd hf]
    split
    · split
      · exact h.abortEntry
      · exact h.abort_startWake hd hf
    next he =>
      split
      · exact h
      · exact h.startWake hd hf (Option.not_isSome_iff_eq_none.1 he)

/-- A level seen at the end of an entry wakes the domain (R374, R376). -/
theorem seeLevels (hd : d ≠ 95) (hf : s.isFenced d = false) (he : (s.dom d).entering = none) : (s.seeLevels d).DomainsLegal := by
  unfold State.seeLevels
  split
  · exact h.setDom ((h.dom d).hold false _)
  · split
    · exact h.startWake hd hf he
    · exact h

/-- A timer that expires (R372): the entry goes from `a` one state deeper to `b`. -/
theorem tryEntry {a b : PmSt} (hab : depth b = depth a + 1) (timer : Nat) : (s.tryEntry d a b timer).DomainsLegal := by
  by_cases hm : s.MayEnter d a b timer
  · obtain ⟨hst, -, hw, hf, -, -, -, -, hfl, -⟩ := id hm
    have hd : d ≠ 95 := by
      rintro rfl
      have h0 : s.floorOf 95 = 0 := by simp [floorOf]
      omega
    by_cases hr : s.refuser d = 0
    · cases hl : s.levelSource d with
      | false => exact tryEntry_enters hm hr hl ▸ h.setDom ((h.dom d).enter hd hf hw (hst ▸ hab))
      | true => exact tryEntry_aborted hm hr hl ▸ h.abortEntry
    · exact tryEntry_refused hm hr ▸ h.refuseEntry _
  · rwa [tryEntry_stays hm]

end

/-! ### Ends of entries -/

@[simp] theorem prefRetire_pm (n : Nat) (used : Bool) (s : State) : (s.prefRetire n used).pm = s.pm := rfl
@[simp] theorem prefRetire_fenced (n : Nat) (used : Bool) (s : State) : (s.prefRetire n used).fenced = s.fenced := rfl

theorem prefDrop_pm (n : Nat) (s : State) : (s.prefDrop n).pm = s.pm := foldl_keeps State.pm _ (fun t _ => prefRetire_pm n false t) _ _

theorem prefDrop_fenced (n : Nat) (s : State) : (s.prefDrop n).fenced = s.fenced :=
  foldl_keeps State.fenced _ (fun t _ => prefRetire_fenced n false t) _ _

/-- What a domain does as it enters a state is no matter of power domains. -/
theorem entered_pm (d : Nat) (x : PmSt) (s : State) : (s.entered d x).pm = s.pm := by
  unfold entered
  cases x <;> simp only [apply_ite State.pm, modDc_pm, modFp_pm, prefDrop_pm, domainAssist, driveAssist, emit_pm,
    ite_self, if_true, if_false, reduceCtorEq]

theorem entered_fenced (d : Nat) (x : PmSt) (s : State) : (s.entered d x).fenced = s.fenced := by
  unfold entered
  cases x <;> simp only [apply_ite State.fenced, modDc_fenced, modFp_fenced, prefDrop_fenced, domainAssist, driveAssist, emit_fenced,
    ite_self, if_true, if_false, reduceCtorEq]

section
variable {d : Nat} {s : State} (h : s.DomainsLegal)
include h

theorem entryCommitOp : (s.entryCommitOp d).DomainsLegal := by
  cases ht : (s.dom d).entering with
  | none => rwa [entryCommitOp_idle ht]
  | some t =>
    obtain ⟨hd, hf⟩ := (h.dom d).entering ht
    by_cases hr : s.quiesceRefuser d = 0
    · by_cases hs : s.Unsaved d t
      · rwa [entryCommitOp_unsaved ht hr hs]
      · have hc := h.setDom ((h.dom d).commit ht)
        have he := congr (congrArg Pm.doms (entered_pm d t _)) (entered_fenced d t _) hc
        refine entryCommitOp_commits ht hr hs ▸ he.seeLevels hd ?_ ?_
        · rw [isFenced, entered_fenced]
          exact hf
        · rw [dom_congr (entered_pm d t _), dom_setDom_same d _ h.rising]
    · exact entryCommitOp_refused ht hr ▸
        (h.refuseEntry _).seeLevels hd hf (congrArg PmDom.entering (dom_setDom_same d _ h.rising))

theorem saveDone (bank : Nat) (ok : Bool) : (s.saveDone bank ok).DomainsLegal := by
  by_cases he : (s.dom (Dom.bank bank)).entering = some .off
  · cases ok with
    | true => exact saveDone_saved he ▸ congr rfl rfl h
    | false =>
      obtain ⟨hp, hf⟩ := Prod.mk.inj (unreported_power.raise Reg.PM Err.PM_SAVE_FAIL { Capture.none with index := Dom.bank bank }
        (s.setDom (Dom.bank bank) { s.dom (Dom.bank bank) with entering := none }))
      exact saveDone_failed he ▸ congr hp hf (h.setDom (h.dom _).giveUp)
  · rwa [saveDone_idle he]

theorem wakeInput (i : Nat) (level final : Bool) : (s.wakeInput i level final).DomainsLegal := by
  have hi (level : Bool) : (s.setInput i level).DomainsLegal := congr rfl rfl h
  cases level with
  | false => exact wakeInput_low i final s ▸ hi false
  | true =>
    rw [wakeInput_high i final s]
    split
    · exact (hi true).wakeDom
    · exact hi true

theorem dbgHoldOp (level : Bool) : (s.dbgHoldOp d level).DomainsLegal := by
  have hx (level : Bool) : (s.setDom d { s.dom d with dbgHold := level }).DomainsLegal := h.setDom ((h.dom d).hold _ level)
  cases level with
  | false => exact dbgHoldOp_release d s ▸ hx false
  | true =>
    rw [dbgHoldOp_held h.rising]
    split
    · exact (hx true).refuseEntry 4
    · exact hx true

/-- A wake source that comes leaves the state alone, wakes the domain, or is held for it. -/
theorem domainWakeOp (w : WakeSource) (final : Bool) :
    let u := s.domainWakeOp d w final
    (u = s ∨ u = s.wakeDom d ∨ u = s.setDom d { s.dom d with timer := true }) ∧ u.DomainsLegal := by
  rw [domainWakeOp_eq]
  split
  · exact ⟨.inl rfl, h⟩
  · split
    · split
      · exact ⟨.inr (.inr rfl), h.setDom ((h.dom d).hold true _)⟩
      · exact ⟨.inl rfl, h⟩
    · exact ⟨.inr (.inl rfl), h.wakeDom⟩

end

end DomainsLegal

/-! ### Reads of a domain's status (R10, R25) -/

/-- A read of a whole register waits in a crossing, is unsupported, or clears what it reads. -/
theorem registerRead_cases (c : Instr) {off : Nat} (ha : off % 8 = 0) (s : State) :
    (registerRead c off 8 s).2 = s.unsupported false ∨ (∃ d, (registerRead c off 8 s).2 = s.park d c) ∨
      (registerRead c off 8 s).2 = s.readClears off .full := by
  have htarget : s.bar0Target off 8 = none ∨ s.bar0Target off 8 = some (off, .full) := by
    unfold bar0Target
    split
    · exact .inl rfl
    · exact .inr (if_pos ⟨rfl, ha⟩)
  unfold registerRead
  rcases htarget with hn | hp
  · rw [hn]
    exact .inl rfl
  · rw [hp]
    dsimp only
    split
    · exact .inr (.inl ⟨_, rfl⟩)
    · split
      · exact .inr (.inl ⟨_, rfl⟩)
      · split
        · split
          · exact .inl rfl
          · exact .inr (.inl ⟨_, rfl⟩)
        · exact .inr (.inr rfl)

/-- A message more or less, the read has had its effect. -/
theorem domStatRead_eq (d : Fin 96) (s : State) :
    let t := (registerRead (.domStatRead d) (Reg.PM_DOM_STAT + 8 * d.val) 8 s).2
    s.domStatRead d = t ∨ ∃ m, s.domStatRead d = t.emit m := by
  unfold domStatRead
  rcases registerRead (.domStatRead d) (Reg.PM_DOM_STAT + 8 * d.val) 8 s with ⟨_ | _ | _, t⟩
  · exact .inr ⟨_, rfl⟩
  · exact .inl rfl
  · exact .inl rfl

theorem domStat_aligned (d : Fin 96) : (Reg.PM_DOM_STAT + 8 * d.val) % 8 = 0 := by
  simp only [Reg.PM_DOM_STAT]
  omega

theorem DomainsLegal.domStatRead {s : State} (h : s.DomainsLegal) (d : Fin 96) : (s.domStatRead d).DomainsLegal := by
  have hread : ((registerRead (.domStatRead d) (Reg.PM_DOM_STAT + 8 * d.val) 8 s).2).DomainsLegal := by
    rcases registerRead_cases (.domStatRead d) (domStat_aligned d) s with ht | ⟨x, ht⟩ | ht
    · obtain ⟨hd, hf⟩ := Prod.mk.inj (unreported_power.unsupported false s)
      exact ht ▸ congr hd hf h
    · exact ht ▸ congr rfl rfl h
    · rw [ht, readClears_domStat]
      exact h.setDom (h.dom d.val).clearCounts
  rcases domStatRead_eq d s with ht | ⟨m, ht⟩
  · exact ht ▸ hread
  · exact ht ▸ congr rfl rfl hread

end State

/-- A command whose meaning keeps a state with legal domains. -/
theorem legal_of_keep {c : Instr} {s t : State} (h : exec c s = .next (s.keep t)) (ht : t.DomainsLegal) :
    ∃ u : State, exec c s = .next u ∧ u.DomainsLegal := ⟨_, h, DomainsLegal.congr rfl rfl ht⟩

/-- The same where the divided clocks drive the command. -/
theorem legal_of_clocked {c : Instr} {s t : State} (h : exec c s = .next (s.whenClocked (s.keep t))) (hs : s.DomainsLegal)
    (ht : t.DomainsLegal) : ∃ u : State, exec c s = .next u ∧ u.DomainsLegal := by
  cases hc : s.clocksStopped with
  | true => exact ⟨s, h.trans (congrArg _ (whenClocked_stopped hc _)), hs⟩
  | false => exact legal_of_keep (h.trans (congrArg _ (whenClocked_running hc _))) ht

/-- Settles O56: each operation of power domains keeps every domain legal. -/
theorem domainsStayLegal : Obligations.DomainsStayLegal := by
  refine fun c s hc hs => ⟨fun hno => ?_, fun d event hw => ?_⟩
  · rcases hc with ⟨d, rfl | rfl | rfl | rfl | rfl⟩ | ⟨bank, ok, rfl⟩ | ⟨i, change, rfl⟩ | ⟨d, level, rfl⟩ | ⟨d, event, rfl⟩
    · exact legal_of_keep rfl (hs.tryEntry rfl _)
    · exact legal_of_keep rfl (hs.tryEntry rfl _)
    · exact legal_of_keep rfl (hs.tryEntry rfl _)
    · exact legal_of_clocked rfl hs hs.entryCommitOp
    · exact legal_of_keep rfl (hs.domStatRead d)
    · exact legal_of_clocked rfl hs (hs.saveDone bank.toNat ok)
    · exact legal_of_keep rfl (hs.wakeInput i.val change.level change.final)
    · exact legal_of_keep rfl (hs.dbgHoldOp level)
    · exact absurd rfl (hno d event)
  · subst hw
    obtain ⟨hu, hlegal⟩ := hs.domainWakeOp (d := d.val) event.source event.final
    exact ⟨_, hu, .of_clocked rfl rfl, hlegal⟩

end Sys2Proof.Machine

/-! ## Commands of a slot (O44) -/

namespace Sys2Proof.Machine

open State

/-- A message that finds the divided clocks running and after which nothing goes on, with what it does worked out. -/
theorem Nexts.of_message {c d : Instr} {s u : State} {f : State → State} (h : exec c s = .next (s.keep (s.clocked d f)))
    (hf : s.keep (f s) = u) : Nexts c s u := fun hs => by rw [h, clocked_running hs, hf]

namespace State

@[simp] theorem setDnPort_pending (p : Nat) (v : DnPort) (s : State) : (s.setDnPort p v).pending = s.pending := rfl

@[simp] theorem updDnPort_pending (p : Nat) (f : DnPort → DnPort) (s : State) : (s.updDnPort p f).pending = s.pending := rfl

@[simp] theorem setEqLink_pending (i : Nat) (v : EqLink) (s : State) : (s.setEqLink i v).pending = s.pending := rfl

@[simp] theorem startPresets_pending (i : Nat) (s : State) : (s.startPresets i).pending = s.pending := rfl

/-- The write of DN_PORT_CTRLp before its command (Table 5): an indicator that changes is shown, unless a button's window shows its own. -/
def portCtrlStored (p : Nat) (v : Word) (s : State) : State :=
  let w := s.storeReg (Reg.DN_PORT_CTRL + 8 * p) .full v
  if w.attnInd p ≠ s.attnInd p ∧ (w.dnPort p).button = none then w.emit (.slotLed p (w.attnInd p)) else w

/-- A slot's command that its port does not take. -/
def refuseSlot (p : Nat) (s : State) : State := s.setDnPort p { s.dnPort p with refused := true }

/-- A slot's command that its port takes. -/
def takeSlot (p : Nat) (s : State) : State := s.setDnPort p { s.dnPort p with refused := false }

section
variable {p : Nat} {v : Word} {s : State}

@[simp] theorem portCtrlStored_pending : (s.portCtrlStored p v).pending = s.pending := by
  simp only [portCtrlStored]
  split <;> rfl

@[simp] theorem portCtrlStored_boot : (s.portCtrlStored p v).boot = s.boot := by
  simp only [portCtrlStored]
  split <;> rfl

theorem dnPortCtrl_powerOn (h : bits v 2 0 = 1) : s.dnPortCtrl p .full v = (s.portCtrlStored p v).dnPowerOn p := by
  simp only [dnPortCtrl, portCtrlStored, h, Option.isNone_iff_eq_none]

theorem dnPortCtrl_evacuate (h : bits v 2 0 = 2) : s.dnPortCtrl p .full v = (s.portCtrlStored p v).dnEvacuate p := by
  simp only [dnPortCtrl, portCtrlStored, h, Option.isNone_iff_eq_none]

theorem dnPortCtrl_powerOff (h : bits v 2 0 = 3) : s.dnPortCtrl p .full v = (s.portCtrlStored p v).dnPowerOff p := by
  simp only [dnPortCtrl, portCtrlStored, h, Option.isNone_iff_eq_none]

theorem dnPowerOn_taken (hl : s.boot.loaded = true) (h : (s.dnPort p).st = .off ∨ (s.dnPort p).st = .failed) :
    s.dnPowerOn p = (s.takeSlot p).dnStart p := if_pos ⟨hl, h⟩

theorem dnPowerOn_refused (h : s.boot.loaded = false ∨ ((s.dnPort p).st ≠ .off ∧ (s.dnPort p).st ≠ .failed)) :
    s.dnPowerOn p = s.refuseSlot p :=
  if_neg fun ⟨hl, ho⟩ => h.elim (fun hb => Bool.false_ne_true (hb.symm.trans hl)) fun hn => ho.elim hn.1 hn.2

theorem dnEvacuate_refused (h : (s.dnPort p).st ≠ .up) : s.dnEvacuate p = s.refuseSlot p := if_pos h

theorem dnEvacuate_up (h : (s.dnPort p).st = .up) :
    s.dnEvacuate p =
      (((s.setDnPort p { s.dnPort p with st := .evacuating, busy := true, refused := false, evacDone := false, offAfter := false }).setRegBits
        (Reg.IB_T2_POOL + 8 * p) 31 31 0).setRegBits (Reg.CH_T2_POOL + 8 * p) 31 31 0).evacStep p :=
  if_neg (not_not_intro h)

theorem dnPowerOff_off (h : (s.dnPort p).st = .failed ∨ (s.dnPort p).st = .off) : s.dnPowerOff p = (s.takeSlot p).powerOffEnd p := by
  rcases h with h | h <;> simp only [dnPowerOff, h, takeSlot]

theorem dnPowerOff_evacuating (h : (s.dnPort p).st = .evacuating) (hd : (s.dnPort p).evacDone = false) : s.dnPowerOff p = s.refuseSlot p := by
  simp only [dnPowerOff, h, hd, refuseSlot, Bool.false_eq_true, if_false]

theorem dnPowerOff_evacuated (h : (s.dnPort p).st = .evacuating) (hd : (s.dnPort p).evacDone = true) :
    s.dnPowerOff p = (s.setDnPort p { s.dnPort p with offAfter := true, busy := true, refused := false }).dnDrain p := by
  simp only [dnPowerOff, h, hd, if_true]

theorem dnPowerOff_refused (h : (s.dnPort p).st = .up ∨ (s.dnPort p).st = .starting ∨ (s.dnPort p).st = .empty) :
    s.dnPowerOff p = s.refuseSlot p := by
  rcases h with h | h | h <;> simp only [dnPowerOff, h, refuseSlot]

end

end State

/-- Settles O44: the three commands of a slot by the state of its port. -/
theorem slotCommands : Obligations.SlotCommands := by
  refine fun p v s ho => ⟨fun hv => ?_, fun hv => ?_, fun hv => ?_⟩
  · have hop := dnPortCtrl_powerOn (p := p.val) (s := s) hv
    refine ⟨fun hb h => ?_, fun h => ?_⟩
    · exact .of_barWrite rfl ho (congrArg s.keep (hop.trans (dnPowerOn_taken (by rw [portCtrlStored_boot, hb]) h)))
    · exact .of_barWrite rfl ho (keep_eq (hop.trans (dnPowerOn_refused (by rwa [portCtrlStored_boot]))) portCtrlStored_pending)
  · have hop := dnPortCtrl_evacuate (p := p.val) (s := s) hv
    exact ⟨fun h => .of_barWrite rfl ho (hop.trans (dnEvacuate_refused h)), fun h => .of_barWrite rfl ho (hop.trans (dnEvacuate_up h))⟩
  · have hop := dnPortCtrl_powerOff (p := p.val) (s := s) hv
    refine ⟨fun h => ?_, fun h hd => ?_, fun h hd => ?_, fun h => ?_⟩
    · exact .of_barWrite rfl ho (hop.trans (dnPowerOff_off h))
    · exact .of_barWrite rfl ho (hop.trans (dnPowerOff_evacuating h hd))
    · exact .of_barWrite rfl ho (hop.trans (dnPowerOff_evacuated h hd))
    · exact .of_barWrite rfl ho (hop.trans (dnPowerOff_refused h))

end Sys2Proof.Machine

/-! ## Bring-up of an expander (O45) -/

namespace Sys2Proof.Machine

open State

namespace State

/-- The step of bring-up whose limit passes with this event, where the step has one (R326 Table 3). -/
def limitStep : BringStep → Option Nat
  | .power => some 1
  | .link => some 3
  | .noResponse => some 4
  | .notActive => some 6
  | .notMemory | .decoder => none

/-- The capacity that a port takes of an expander's memory: whole 256 MiB, at most 512 GiB (R326 step 6). -/
def takenCapacity (size : Nat) : Nat := min (2 ^ 39) (size / 2 ^ 28 * 2 ^ 28)

/-- The link is up and function 0 has been read, or does not respond (R326 steps 3 to 5). -/
def linked (p : Nat) (x : ExpanderId) (s : State) : State :=
  s.setDnPort p { s.dnPort p with
    linkUp := true, speed := x.speed.toNat, width := x.width.toNat, step := if x.responds then 6 else 4, since := s.now,
    setup := { DnSetup.reset with bars := barBases 0 x.bars, vectors := if x.msix then 2 else b2n x.msi } }

/-- The expander's BARs, vectors and decoder are programmed (R326 steps 8 and 9). -/
def programmed (p c : Nat) (s : State) : State :=
  (s.emit (.dnProgram p (s.dnPort p).setup.bars (s.dnPort p).setup.vectors)).emit (.dnDecoder p (tier2Base p) c 1 true)

section
variable {p : Nat} {s : State}

theorem dnTimeout_eq (i : BringStep) :
    s.dnTimeout p i = if (s.dnPort p).st = .starting ∧ limitStep i = some (s.dnPort p).step then s.dnFail p (stepCode i) else s := by
  cases i <;> simp [dnTimeout, limitStep, eq_comm]

theorem dnTimeout_unlimited {i : BringStep} (h : limitStep i = none) : s.dnTimeout p i = s :=
  (dnTimeout_eq i).trans (if_neg fun ⟨_, hi⟩ => nomatch h.symm.trans hi)

/-! ### Out of bring-up -/

section
variable (h : (s.dnPort p).st ≠ .starting)
include h

theorem dnPowerGood_idle : s.dnPowerGood p = s := if_neg (h ·.1)

theorem dnResetHold_idle : s.dnResetHold p = s := if_neg (h ·.1)

theorem dnLinked_idle (x : ExpanderId) : s.dnLinked p x = s := if_pos (.inl h)

theorem dnActive_idle (size : Nat) (ok : Bool) : s.dnActive p size ok = s := if_pos (.inl h)

theorem dnTimeout_idle (i : BringStep) : s.dnTimeout p i = s := (dnTimeout_eq i).trans (if_neg (h ·.1))

end

/-! ### Its steps -/

variable (hs : (s.dnPort p).st = .starting)
include hs

theorem dnTimeout_due {i : BringStep} (h : limitStep i = some (s.dnPort p).step) : s.dnTimeout p i = s.dnFail p (stepCode i) :=
  (dnTimeout_eq i).trans (if_pos ⟨hs, h⟩)

theorem dnPowerGood_due (h : (s.dnPort p).step = 1) :
    s.dnPowerGood p = s.setDnPort p { s.dnPort p with powerGood := true, step := 2, since := s.now } := if_pos ⟨hs, h⟩

theorem dnResetHold_due (h : (s.dnPort p).step = 2) :
    let u := ((s.setDnPort p { s.dnPort p with step := 3, since := s.now }).emit (.slotReset p false)).startPresets p
    s.dnResetHold p = u.emit (.dnTrain p ((u.eqLink p).presets.map (·.2))) := if_pos ⟨hs, h⟩

section
variable (h : (s.dnPort p).step = 3 ∨ (s.dnPort p).step = 4) {x : ExpanderId}
include h

theorem dnLinked_due :
    s.dnLinked p x =
      if !x.responds then s.linked p x
      else if !x.memCapable || decide (x.hdmCount = 0) || !x.hdmDecoder then (s.linked p x).dnFail p 4 else s.linked p x :=
  if_neg fun hn => hn.elim (absurd hs) fun hn => h.elim hn.1 hn.2

theorem dnLinked_silent (hr : x.responds = false) : s.dnLinked p x = s.linked p x := (dnLinked_due hs h).trans (if_pos (by simp [hr]))

theorem dnLinked_memory (hr : x.responds = true) (hm : x.memCapable = true) (hc : x.hdmCount ≠ 0) (hd : x.hdmDecoder = true) :
    s.dnLinked p x = s.linked p x := by
  have hg : (!x.memCapable || decide (x.hdmCount = 0) || !x.hdmDecoder) = false := by rw [hm, hd, decide_eq_false hc]; rfl
  rw [dnLinked_due hs h, if_neg (by simp [hr]), if_neg (Bool.eq_false_iff.1 hg)]

theorem dnLinked_not_memory (hr : x.responds = true) (hn : x.memCapable = false ∨ x.hdmCount = 0 ∨ x.hdmDecoder = false) :
    s.dnLinked p x = (s.linked p x).dnFail p 4 := by
  rw [dnLinked_due hs h, if_neg (by simp [hr]), if_pos (by simpa [or_assoc] using hn)]

end

section
variable (h : (s.dnPort p).step = 6) {size : Nat}
include h

theorem dnActive_due (ok : Bool) :
    s.dnActive p size ok =
      if takenCapacity size = 0 then s.dnFail p 4
      else if !ok then (s.programmed p (takenCapacity size)).dnFail p 6
      else ((s.programmed p (takenCapacity size)).setDnPort p { s.dnPort p with
        st := .up, capacity := takenCapacity size, step := 0, busy := false, toRow := 0,
        setup := { (s.dnPort p).setup with memSpace := true, busMaster := true, decoder := some (tier2Base p, takenCapacity size) } }).dnEvent p 3 :=
  if_neg fun hn => hn.elim (absurd hs) (absurd h)

theorem dnActive_small (hc : takenCapacity size = 0) (ok : Bool) : s.dnActive p size ok = s.dnFail p 4 :=
  (dnActive_due hs h ok).trans (if_pos hc)

theorem dnActive_undecoded (hc : takenCapacity size ≠ 0) : s.dnActive p size false = (s.programmed p (takenCapacity size)).dnFail p 6 :=
  (dnActive_due hs h false).trans (if_neg hc)

theorem dnActive_up (hc : takenCapacity size ≠ 0) :
    s.dnActive p size true =
      ((s.programmed p (takenCapacity size)).setDnPort p { s.dnPort p with
        st := .up, capacity := takenCapacity size, step := 0, busy := false, toRow := 0,
        setup := { (s.dnPort p).setup with memSpace := true, busMaster := true, decoder := some (tier2Base p, takenCapacity size) } }).dnEvent p 3 :=
  (dnActive_due hs h true).trans (if_neg hc)

end

end

end State

/-- Settles O45: an event out of bring-up, and each step with what ends or fails it. -/
theorem bringUpSteps : Obligations.BringUpSteps := by
  refine fun p s => ⟨fun h => ⟨?_, ?_, fun x => ?_, fun n ok => ?_, fun i => ?_⟩,
    fun hs => ⟨fun h => ⟨?_, ?_⟩, fun h => ?_, ⟨?_, ?_⟩, fun h x => ⟨fun hr => ?_, fun hr hm hc hd => ?_, fun hr hn => ?_⟩, fun h => ?_, fun h => ?_,
      fun h => ⟨?_, fun size => ⟨fun hc ok => ?_, fun hc => ⟨?_, ?_⟩⟩⟩⟩⟩
  · exact .of_keep rfl (keep_eq (dnPowerGood_idle h) rfl)
  · exact .of_clocked rfl (keep_eq (dnResetHold_idle h) rfl)
  · exact .of_keep rfl (keep_eq (dnLinked_idle h x) rfl)
  · exact .of_keep rfl (keep_eq (dnActive_idle h n.toNat ok) rfl)
  · exact .of_clocked rfl (keep_eq (dnTimeout_idle h i) rfl)
  · exact .of_keep rfl (keep_eq (dnPowerGood_due hs h) rfl)
  · exact .of_clocked rfl (congrArg s.keep (dnTimeout_due hs (i := .power) (congrArg some h.symm)))
  · exact .of_clocked rfl (keep_eq (dnResetHold_due hs h) (by simp))
  · exact .of_clocked rfl (keep_eq (dnTimeout_unlimited (i := .notMemory) rfl) rfl)
  · exact .of_clocked rfl (keep_eq (dnTimeout_unlimited (i := .decoder) rfl) rfl)
  · exact .of_keep rfl (keep_eq (dnLinked_silent hs h hr) rfl)
  · exact .of_keep rfl (keep_eq (dnLinked_memory hs h hr hm hc hd) rfl)
  · exact .of_keep rfl (congrArg s.keep (dnLinked_not_memory hs h hr hn))
  · exact .of_clocked rfl (congrArg s.keep (dnTimeout_due hs (i := .link) (congrArg some h.symm)))
  · exact .of_clocked rfl (congrArg s.keep (dnTimeout_due hs (i := .noResponse) (congrArg some h.symm)))
  · exact .of_clocked rfl (congrArg s.keep (dnTimeout_due hs (i := .notActive) (congrArg some h.symm)))
  · exact .of_keep rfl (congrArg s.keep (dnActive_small hs h hc ok))
  · exact .of_keep rfl (congrArg s.keep (dnActive_undecoded hs h hc))
  · exact .of_keep rfl (congrArg s.keep (dnActive_up hs h hc))

end Sys2Proof.Machine

/-! ## Events of a slot (O46) -/

namespace Sys2Proof.Machine

open State

namespace State

section
variable {p : Nat} {s : State}

/-! ### Presence, power faults and the data link (R329 to R331) -/

theorem dnPresence_same {present : Bool} (h : (s.dnPort p).present = present) : s.dnPresence p present = s := if_pos h

theorem dnPresence_came (he : (s.dnPort p).st = .empty) (h : (s.dnPort p).present = false) :
    s.dnPresence p true =
      (((s.setDnPort p { s.dnPort p with present := true }).dnEvent p 0).updDnPort p fun d => { d with st := .off }).autoPower p := by
  simp only [dnPresence, h, he, Bool.false_eq_true, if_false, if_true]

section
variable (h : (s.dnPort p).st = .starting)
include h

theorem dnPowerFault_starting : s.dnPowerFault p = (s.dnEvent p 2).dnFail p 1 := by
  simp only [dnPowerFault, h, reduceCtorEq, or_self, if_false, if_true]

theorem dnDlDown_starting (h3 : 3 ≤ (s.dnPort p).step) : s.dnDlDown p = s.dnFail p 2 := by
  simp only [dnDlDown, h, h3, reduceCtorEq, or_self, and_self, if_false, if_true]

/-- Before training there is no data link to lose. -/
theorem dnDlDown_untrained (h3 : (s.dnPort p).step < 3) : s.dnDlDown p = s := by
  simp only [dnDlDown, h, Nat.not_le.2 h3, reduceCtorEq, or_self, and_false, if_false]

end

section
variable (h : (s.dnPort p).st = .up ∨ (s.dnPort p).st = .evacuating)
include h

theorem dnPresence_gone (hp : (s.dnPort p).present = true) :
    s.dnPresence p false = ((s.setDnPort p { s.dnPort p with present := false }).dnEvent p 0).dnLose p false := by
  simp only [dnPresence, hp, h, Bool.true_eq_false, Bool.false_eq_true, if_false, if_true]

theorem dnPowerFault_live : s.dnPowerFault p = (s.dnEvent p 2).dnLose p true := if_pos h

theorem dnDlDown_live : s.dnDlDown p = s.dnLose p false := if_pos h

end

/-! ### The attention button (R330) -/

theorem attnButton_disabled (h : (s.dnEvent p 1).regBit (Reg.DN_PORT_CTRL + 8 * p) 5 = false) : s.attnButton p = s.dnEvent p 1 :=
  if_pos (.inl (by rw [h]; rfl))

section
variable (h : (s.dnEvent p 1).regBit (Reg.DN_PORT_CTRL + 8 * p) 5 = true)
  (hs : ((s.dnEvent p 1).dnPort p).st = .up ∨ ((s.dnEvent p 1).dnPort p).st = .off)
include h hs

theorem attnGuard_open : ¬ ((!(s.dnEvent p 1).regBit (Reg.DN_PORT_CTRL + 8 * p) 5) = true ∨
    (((s.dnEvent p 1).dnPort p).st ≠ .up ∧ ((s.dnEvent p 1).dnPort p).st ≠ .off)) :=
  fun hn => hn.elim (fun hb => by simp [h] at hb) fun hn => hs.elim hn.1 hn.2

theorem attnButton_first (hb : ((s.dnEvent p 1).dnPort p).button = none) :
    let e := s.dnEvent p 1
    s.attnButton p = (e.setDnPort p { e.dnPort p with button := some (e.now + 5000000000) }).emit (.slotLed p 2) := by
  simp only [attnButton, attnGuard_open h hs, hb, if_false]

theorem attnButton_second (hb : ((s.dnEvent p 1).dnPort p).button ≠ none) :
    let e := s.dnEvent p 1
    s.attnButton p = (e.setDnPort p { e.dnPort p with button := none }).emit (.slotLed p (e.attnInd p)) := by
  obtain ⟨t, ht⟩ := Option.ne_none_iff_exists'.1 hb
  simp only [attnButton, attnGuard_open h hs, ht, if_false]

end

theorem buttonWindow_closed (h : (s.dnPort p).button = none) : s.buttonWindow p = s := if_pos (by rw [h]; rfl)

/-- The button's window ends: the indicator is what ATTN_IND has. -/
def endWindow (p : Nat) (s : State) : State := (s.setDnPort p { s.dnPort p with button := none }).emit (.slotLed p (s.attnInd p))

section
variable (h : (s.dnPort p).button ≠ none)
include h

theorem windowGuard_open : ¬ (s.dnPort p).button.isNone = true := by rwa [Option.isNone_iff_eq_none]

theorem buttonWindow_up (hs : (s.dnPort p).st = .up) :
    s.buttonWindow p = ((s.endWindow p).dnEvacuate p).updDnPort p fun d => { d with offAfter := decide (d.st = .evacuating) } := by
  simp only [buttonWindow, windowGuard_open h, hs, endWindow, Bool.false_eq_true, if_false]

theorem buttonWindow_off (hs : (s.dnPort p).st = .off) : s.buttonWindow p = (s.endWindow p).dnPowerOn p := by
  simp only [buttonWindow, windowGuard_open h, hs, endWindow, Bool.false_eq_true, if_false]

end

/-! ### The end of an evacuation (R333 step 4) -/

theorem evacDone_goes_on (h : ((s.evacStep p).dnPort p).st ≠ .evacuating ∨ ((s.evacStep p).dnPort p).evacDone = true ∨
    (s.evacStep p).evacOver p = false) : s.evacDone p = s.evacStep p :=
  if_pos (by simpa only [Bool.not_eq_true'] using h)

theorem evacDone_over (h : ((s.evacStep p).dnPort p).st = .evacuating) (hd : ((s.evacStep p).dnPort p).evacDone = false)
    (ho : (s.evacStep p).evacOver p = true) :
    let t := s.evacStep p
    let e := (t.setDnPort p { t.dnPort p with evacDone := true, busy := false, offAfter := false }).dnEvent p 5
    s.evacDone p = if (t.dnPort p).offAfter = true then e.dnPowerOff p else e :=
  if_neg (by simp [h, hd, ho])

end

end State

/-- Settles O46: presence, faults and the link by the state of the port, the button's presses and window, the end of an evacuation. -/
theorem slotEvents : Obligations.SlotEvents := by
  refine fun p s => ⟨fun present h => ?_, fun h hp => ?_, fun he hp => ?_, fun h => ?_, fun h => ?_, fun h => ?_, fun h h3 => ?_, fun h h3 => ?_,
    ⟨fun h => ?_, fun h hs => ⟨fun hb => ?_, fun hb => ?_⟩⟩, fun h => ?_, fun h => ⟨fun hs => ?_, fun hs => ?_⟩, ⟨fun h => ?_, fun h hd ho => ?_⟩⟩
  · exact .of_done rfl (dnPresence_same h)
  · exact .of_done rfl (dnPresence_gone h hp)
  · exact .of_done rfl (dnPresence_came he hp)
  · exact .of_done rfl (dnPowerFault_live h)
  · exact .of_done rfl (dnPowerFault_starting h)
  · exact .of_done rfl (dnDlDown_live h)
  · exact .of_done rfl (dnDlDown_starting h h3)
  · exact .of_done rfl (dnDlDown_untrained h h3)
  · exact .of_keep rfl (congrArg s.keep (attnButton_disabled h))
  · exact .of_keep rfl (congrArg s.keep (attnButton_first h hs hb))
  · exact .of_keep rfl (congrArg s.keep (attnButton_second h hs hb))
  · exact .of_clocked rfl (buttonWindow_closed h)
  · exact .of_clocked rfl (buttonWindow_up h hs)
  · exact .of_clocked rfl (buttonWindow_off h hs)
  · exact .of_clocked rfl (evacDone_goes_on h)
  · exact .of_clocked rfl (evacDone_over h hd ho)

end Sys2Proof.Machine

/-! ## Requests and accesses of an expander, and its pools (O47) -/

namespace Sys2Proof.Machine

open State

namespace State

section
variable {p id : Nat} {s : State}

/-! ### Completions (R323, R324, R401) -/

theorem dnComplete_unexpected (h : s.dnReq? p id = none) (po : Bool) : s.dnComplete p id po = s.dnRaise Err.DN_UNEXPECTED p 0 := by
  simp only [dnComplete, h]

/-- An answer of the expander ends the row of timeouts, and is an operation without a fault (R332, R391). -/
def answeredReq (p id : Nat) (s : State) : State := ((s.dropDnReq id).updDnPort p fun d => { d with toRow := 0 }).opClean (Dom.dnCtl p)

/-- Poisoned data has come for a line (R401). -/
def poisonRx (p line : Nat) (s : State) : State := ({ s with poison := addNew line s.poison } : State).dnRaise Err.DN_POISON_RX p 0

section
variable {r : DnReq} (h : s.dnReq? p id = some r) (hh : r.held = false)
include h hh

theorem dnComplete_write {w : Waiter} (hw : r.write = true) (hf : r.for_ = .write w) (po : Bool) :
    s.dnComplete p id po = ((s.answeredReq p id).writeLine r.line r.mask r.data r.poison).postedDone w none := by
  simp only [dnComplete, h, hh, hw, hf, answeredReq, Bool.false_eq_true, if_false, if_true]

theorem dnComplete_txnWrite {sl tag : Nat} (hw : r.write = true) (hf : r.for_ = .txnWrite sl tag) (po : Bool) :
    s.dnComplete p id po = ((s.answeredReq p id).writeLine r.line r.mask r.data r.poison).txnWritten sl tag false := by
  simp only [dnComplete, h, hh, hw, hf, answeredReq, Bool.false_eq_true, if_false, if_true]

theorem dnComplete_read {sl tag : Nat} (hw : r.write = false) (hf : r.for_ = .txnRead sl tag) :
    let b := s.answeredReq p id
    s.dnComplete p id false = b.txnRead sl tag (b.memLine r.line) (b.poisoned r.line) := by
  simp only [dnComplete, h, hh, hw, hf, answeredReq, Bool.false_eq_true, if_false]

theorem dnComplete_read_poisoned {sl tag : Nat} (hw : r.write = false) (hf : r.for_ = .txnRead sl tag) :
    let b := (s.answeredReq p id).poisonRx p r.line
    s.dnComplete p id true = b.txnRead sl tag (b.memLine r.line) (b.poisoned r.line) := by
  simp only [dnComplete, h, hh, hw, hf, answeredReq, poisonRx, Bool.false_eq_true, if_false, if_true]

end

/-! ### Completion timeouts (R332) -/

theorem dnCplTimeout_unasked (h : s.dnReq? p id = none) : s.dnCplTimeout p id = s := by simp only [dnCplTimeout, h]

/-- A request that has timed out ends with its error. -/
def timedOutReq (p : Nat) (r : DnReq) (s : State) : State :=
  (s.dnRaise Err.DN_CPL_TIMEOUT p (if r.write then 64 * r.line else 0)).dnEndReq r

/-- A port drains for a POWER_OFF or a redo: timeouts do not lose it (R334, R337). -/
def Drains (p : Nat) (s : State) : Prop :=
  (s.dnPort p).st = .evacuating ∧ (s.dnPort p).evacDone = true ∧ (s.dnPort p).offAfter = true ∨ (s.dnPort p).eqRedo = true

/-- One more timeout in the row. -/
def countTimeout (p : Nat) (s : State) : State := s.updDnPort p fun d => { d with toRow := (s.dnPort p).toRow + 1 }

theorem firstWrite_single (r : DnReq) : firstWrite [r] = if r.write then 64 * r.line else 0 := by
  cases h : r.write <;> simp [firstWrite, h]

section
variable {r : DnReq} (h : s.dnReq? p id = some r) (hh : r.held = false)
include h hh

theorem dnCplTimeout_drains (hd : s.Drains p) : s.dnCplTimeout p id = s.timedOutReq p r := by
  simp only [dnCplTimeout, h, hh, firstWrite_single, Bool.false_eq_true, if_false]
  exact if_pos hd

theorem dnCplTimeout_counted (hd : ¬ s.Drains p) :
    let u := (s.timedOutReq p r).countTimeout p
    s.dnCplTimeout p id = if max 1 (u.regBits Reg.DN_CTRL 39 32) ≤ ((s.timedOutReq p r).dnPort p).toRow + 1 then u.dnLose p false else u := by
  simp only [dnCplTimeout, h, hh, firstWrite_single, Bool.false_eq_true, if_false]
  exact if_neg hd

end

end

/-! ### Accesses to the expander's registers (R327, R328) -/

section
variable {h : Half} {v : Word} {s : State}

theorem xaccStart_busy (hb : s.dn.xaccBusy = true) : s.xaccStart h v = s := if_pos hb

/-- The access of DN_XACC_CMD writes a register that is guarded. -/
def XaccGuarded (w : Word) : Prop := bit w 57 = true ∧ xaccGuarded (bits w 61 59) (bit w 58) (bit w 56) (bits w 47 0) = true

section
variable (hb : s.dn.xaccBusy = false)
include hb

theorem xaccStart_idle :
    let t := s.storeReg Reg.DN_XACC_CMD h v
    let w := t.reg Reg.DN_XACC_CMD
    let port := bits w 61 59
    s.xaccStart h v =
      if bit w 57 && xaccGuarded port (bit w 58) (bit w 56) (bits w 47 0) || !(t.dnPort port).linkUp then t.modDn fun d => { d with xaccErr := true }
      else (t.modDn fun d => { d with xaccBusy := true, xaccErr := false }).emit
        (.xacc port (bit w 57) (bit w 58) (bit w 56) (bits w 47 0) (t.reg Reg.DN_XACC_DATA)) :=
  if_neg (Bool.eq_false_iff.1 hb)

theorem xaccStart_refused (hr : let t := s.storeReg Reg.DN_XACC_CMD h v
      XaccGuarded (t.reg Reg.DN_XACC_CMD) ∨ (t.dnPort (bits (t.reg Reg.DN_XACC_CMD) 61 59)).linkUp = false) :
    s.xaccStart h v = (s.storeReg Reg.DN_XACC_CMD h v).modDn fun d => { d with xaccErr := true } :=
  (xaccStart_idle hb).trans (if_pos (by simpa [XaccGuarded] using hr))

theorem xaccStart_sent (hl : let t := s.storeReg Reg.DN_XACC_CMD h v
      (t.dnPort (bits (t.reg Reg.DN_XACC_CMD) 61 59)).linkUp = true)
    (hg : ¬ XaccGuarded ((s.storeReg Reg.DN_XACC_CMD h v).reg Reg.DN_XACC_CMD)) :
    let t := s.storeReg Reg.DN_XACC_CMD h v
    let w := t.reg Reg.DN_XACC_CMD
    s.xaccStart h v = (t.modDn fun d => { d with xaccBusy := true, xaccErr := false }).emit
      (.xacc (bits w 61 59) (bit w 57) (bit w 58) (bit w 56) (bits w 47 0) (t.reg Reg.DN_XACC_DATA)) :=
  (xaccStart_idle hb).trans (if_neg fun hn => by
    rcases Bool.or_eq_true_iff.1 hn with hn | hn
    · exact hg (Bool.and_eq_true_iff.1 hn)
    · simp [hl] at hn)

end

/-! ### Their ends -/

variable {x : Word} {ok : Bool}

theorem xaccDone_idle (hb : s.dn.xaccBusy = false) : s.xaccDone x ok = s := if_pos (by rw [hb]; rfl)

/-- The access is over. -/
def xaccOver (ok : Bool) (s : State) : State := s.modDn fun d => { d with xaccBusy := false, xaccErr := !ok }

section
variable (hb : s.dn.xaccBusy = true)
include hb

theorem xaccDone_busy :
    s.xaccDone x ok =
      if !ok || s.regBit Reg.DN_XACC_CMD 57 then s.xaccOver ok
      else if s.regBit Reg.DN_XACC_CMD 56 then (s.xaccOver ok).setReg Reg.DN_XACC_DATA x
      else (s.xaccOver ok).fresh.2.setReg Reg.DN_XACC_DATA (setBits (s.xaccOver ok).fresh.1 31 0 (bits x 31 0)) :=
  if_neg (by simp [hb])

theorem xaccDone_without_data (h : ok = false ∨ s.regBit Reg.DN_XACC_CMD 57 = true) : s.xaccDone x ok = s.xaccOver ok :=
  (xaccDone_busy hb).trans (if_pos (by simpa using h))

section
variable (hok : ok = true) (hw : s.regBit Reg.DN_XACC_CMD 57 = false)
include hok hw

theorem xaccDone_read8 (h8 : s.regBit Reg.DN_XACC_CMD 56 = true) : s.xaccDone x ok = (s.xaccOver ok).setReg Reg.DN_XACC_DATA x :=
  (xaccDone_busy hb).trans ((if_neg (by simp [hok, hw])).trans (if_pos h8))

theorem xaccDone_read4 (h8 : s.regBit Reg.DN_XACC_CMD 56 = false) :
    s.xaccDone x ok = (s.xaccOver ok).fresh.2.setReg Reg.DN_XACC_DATA (setBits (s.xaccOver ok).fresh.1 31 0 (bits x 31 0)) :=
  (xaccDone_busy hb).trans ((if_neg (by simp [hok, hw])).trans (if_neg (Bool.eq_false_iff.1 h8)))

end

end

end

/-! ### Pools (R185, R327) -/

/-- The register of a port's pool, of Chamois or of Ibex. -/
def portPoolReg (p : Nat) (chamois : Bool) : Nat := (if chamois then Reg.CH_T2_POOL else Reg.IB_T2_POOL) + 8 * p

theorem portPoolReg_ch (p : Nat) : Reg.CH_T2_POOL + 8 * p = portPoolReg p true := by rw [portPoolReg, if_pos rfl]

theorem portPoolReg_ib (p : Nat) : Reg.IB_T2_POOL + 8 * p = portPoolReg p false := by rw [portPoolReg, if_neg Bool.false_ne_true]

/-- Where a pool of `n` frames or slots ends. -/
def poolTop (p : Nat) (chamois : Bool) (n : Nat) (s : State) : Nat := if chamois then s.frameAddr (p + 1) n else s.ibAddr (p + 1) n

theorem poolTop_ch (p n : Nat) (s : State) : s.poolTop p true n = s.frameAddr (p + 1) n := if_pos rfl

theorem poolTop_ib (p n : Nat) (s : State) : s.poolTop p false n = s.ibAddr (p + 1) n := if_neg Bool.false_ne_true

/-- A pool comes into use: every frame is free and to be zeroed, every slot is free. -/
def emptyPool (p n : Nat) (chamois : Bool) (s : State) : State :=
  if chamois then s.modCh fun c => { c with used := Map.erase (p + 1) c.used, dirty := Map.put [] (p + 1) (List.range n) c.dirty }
  else s.writeBytes (s.bitmapAddr (p + 1)) (List.replicate (ceilDiv n 8) 0)

theorem emptyPool_ch (p n : Nat) (s : State) :
    s.emptyPool p n true = s.modCh fun c => { c with used := Map.erase (p + 1) c.used, dirty := Map.put [] (p + 1) (List.range n) c.dirty } :=
  if_pos rfl

theorem emptyPool_ib (p n : Nat) (s : State) :
    s.emptyPool p n false = s.writeBytes (s.bitmapAddr (p + 1)) (List.replicate (ceilDiv n 8) 0) := if_neg Bool.false_ne_true

/-- A pool that ends at `top` lies within the capacity of its port, which is up. -/
def PoolInside (p top : Nat) (s : State) : Prop := top - tier2Base p ≤ (s.dnPort p).capacity ∧ s.portUp p = true

section
variable {p off top : Nat} {chamois : Bool} {h : Half} {v : Word} {s : State}

/-- The guard of an enabling that reaches past the port. -/
theorem poolGuard_iff {new : Word} :
    (bit new 31 && (decide ((s.dnPort p).capacity < top - tier2Base p) || !s.portUp p)) = true ↔ bit new 31 = true ∧ ¬ s.PoolInside p top := by
  simp only [PoolInside, Bool.and_eq_true, Bool.or_eq_true, decide_eq_true_eq, Bool.not_eq_true', Classical.not_and_iff_not_or_not, Nat.not_le, Bool.not_eq_true]

variable (hoff : off = portPoolReg p chamois)
  (htop : (s.setReg off (s.merged off h v)).poolTop p chamois (bits (s.merged off h v) 63 32) = top)
include hoff htop

theorem poolEnable_eq :
    let new := s.merged off h v
    let t := s.setReg off new
    s.poolEnable p chamois h v =
      if bit new 31 && (decide ((s.dnPort p).capacity < top - tier2Base p) || !s.portUp p) then s.dnRaise Err.DN_POOL_RANGE p 0
      else if bit new 31 && !bit (s.reg off) 31 then t.emptyPool p (bits new 63 32) chamois else t := by
  subst hoff htop
  rfl

theorem poolEnable_past (hn : bit (s.merged off h v) 31 = true) (hi : ¬ s.PoolInside p top) :
    s.poolEnable p chamois h v = s.dnRaise Err.DN_POOL_RANGE p 0 :=
  (poolEnable_eq hoff htop).trans (if_pos (poolGuard_iff.2 ⟨hn, hi⟩))

theorem poolEnable_stored (hk : bit (s.merged off h v) 31 = false ∨ (s.PoolInside p top ∧ bit (s.reg off) 31 = true)) :
    s.poolEnable p chamois h v = s.setReg off (s.merged off h v) := by
  refine (poolEnable_eq hoff htop).trans ((if_neg (mt poolGuard_iff.1 ?_)).trans (if_neg ?_))
  · exact fun ⟨hn, hi⟩ => hk.elim (fun hf => Bool.false_ne_true (hf.symm.trans hn)) fun hk => hi hk.1
  · rcases hk with hk | ⟨-, hk⟩ <;> simp [hk]

theorem poolEnable_fresh (hn : bit (s.merged off h v) 31 = true) (ho : bit (s.reg off) 31 = false) (hi : s.PoolInside p top) :
    s.poolEnable p chamois h v = (s.setReg off (s.merged off h v)).emptyPool p (bits (s.merged off h v) 63 32) chamois :=
  (poolEnable_eq hoff htop).trans ((if_neg (mt poolGuard_iff.1 fun hg => hg.2 hi)).trans (if_pos (by simp [hn, ho])))

end

end State

/-- POOL_ENABLE of a pool whose register is taken at once, with what it does worked out. -/
theorem Ends.of_poolEnable {p : Fin 8} {chamois : Bool} {h : Half} {v : Word} {off : Nat} {s u : State} (hoff : off = portPoolReg p.val chamois)
    (ho : s.OpenReg off) (hu : s.poolEnable p.val chamois h v = u) : Ends (.poolEnable p chamois h v) s u := by
  subst hoff
  exact .of_barWrite rfl ho hu

/-- Settles O47: answers, timeouts, accesses through DN_XACC_CMD, and the pools of Chamois and of Ibex. -/
theorem expanderAccesses : Obligations.ExpanderAccesses := by
  refine ⟨fun p s => ⟨?_, ?_⟩, fun p id po s h => ⟨?_, ?_⟩,
    fun p id s r h hh => ⟨⟨fun w hw hf po => ?_, fun sl tag hw hf po => ?_, fun sl tag hw hf => ⟨?_, ?_⟩⟩, fun hd => ?_, fun hd hn => ?_, fun hd hn => ?_⟩,
    fun h v s ho => ⟨fun hb => ?_, fun hb hl => ?_, fun hb hg => ?_, fun hb hl hg => ?_⟩,
    fun x ok s => ⟨fun hb => ?_, fun hb hok hw => ⟨fun h8 => ?_, fun h8 => ?_⟩, fun hb h => ?_⟩,
    fun p h v s ho => ⟨fun hk => ?_, fun hn hi => ?_, fun hn hold hi => ?_⟩, fun p h v s ho => ⟨fun hk => ?_, fun hn hi => ?_, fun hn hi hold => ?_⟩⟩
  · exact .of_message rfl rfl
  · exact .of_message rfl rfl
  · exact .of_clocked rfl (dnCplTimeout_unasked h)
  · exact .of_message rfl (dnComplete_unexpected h po)
  · exact .of_message rfl (dnComplete_write h hh hw hf po)
  · exact .of_message rfl (dnComplete_txnWrite h hh hw hf po)
  · exact .of_message rfl (dnComplete_read h hh hw hf)
  · exact .of_message rfl (dnComplete_read_poisoned h hh hw hf)
  · exact .of_clocked rfl (dnCplTimeout_drains h hh hd)
  · exact .of_clocked rfl ((dnCplTimeout_counted h hh hd).trans (if_neg (Nat.not_le.2 hn)))
  · exact .of_clocked rfl ((dnCplTimeout_counted h hh hd).trans (if_pos hn))
  · exact .of_barWrite rfl ho (keep_eq (xaccStart_busy hb) rfl)
  · exact .of_barWrite rfl ho (keep_eq (xaccStart_refused hb (.inr hl)) rfl)
  · exact .of_barWrite rfl ho (keep_eq (xaccStart_refused hb (.inl hg)) rfl)
  · exact .of_barWrite rfl ho (keep_eq (xaccStart_sent hb hl hg) rfl)
  · exact .of_message rfl (keep_eq (xaccDone_idle hb) rfl)
  · exact .of_message rfl (keep_eq (xaccDone_read8 hb hok hw h8) rfl)
  · exact .of_message rfl (keep_eq (xaccDone_read4 hb hok hw h8) rfl)
  · exact .of_message rfl (keep_eq (xaccDone_without_data hb h) rfl)
  · exact .of_poolEnable (portPoolReg_ch p.val) ho (poolEnable_stored (portPoolReg_ch p.val) (poolTop_ch ..) hk)
  · exact .of_poolEnable (portPoolReg_ch p.val) ho (poolEnable_past (portPoolReg_ch p.val) (poolTop_ch ..) hn hi)
  · exact .of_poolEnable (portPoolReg_ch p.val) ho
      ((poolEnable_fresh (portPoolReg_ch p.val) (poolTop_ch ..) hn hold hi).trans (emptyPool_ch ..))
  · exact .of_poolEnable (portPoolReg_ib p.val) ho (poolEnable_stored (portPoolReg_ib p.val) (poolTop_ib ..) hk)
  · exact .of_poolEnable (portPoolReg_ib p.val) ho (poolEnable_past (portPoolReg_ib p.val) (poolTop_ib ..) hn hi)
  · exact .of_poolEnable (portPoolReg_ib p.val) ho
      ((poolEnable_fresh (portPoolReg_ib p.val) (poolTop_ib ..) hn hold hi).trans (emptyPool_ib ..))

end Sys2Proof.Machine

/-! ## In-service equalisation (O48) -/

namespace Sys2Proof.Machine

open State

namespace State

/-- Link `i` with what a period has measured (R336). -/
def measured (i margin lane corrected : Nat) (s : State) : State :=
  s.setEqLink i { s.eqLink i with margin := margin, lane := lane, corrected := corrected }

/-- The margin is at most the hard one, or too many symbols were corrected (R337). -/
def HardTrigger (margin corrected : Nat) (s : State) : Prop :=
  margin ≤ s.regBits Reg.DN_EQ_CTRL 27 24 ∨ 2 ^ s.regBits Reg.DN_EQ_CTRL 39 32 < corrected

/-- The margin is at most the soft one (R337). -/
def SoftTrigger (margin : Nat) (s : State) : Prop := margin ≤ s.regBits Reg.DN_EQ_CTRL 31 28

section
variable {i margin lane corrected : Nat} {s : State}

theorem eqPeriod_disabled (h : s.regBit Reg.DN_EQ_CTRL i = false) : s.eqPeriod i margin lane corrected = s :=
  if_pos (by rw [h]; rfl)

/-! ### A downstream link -/

section
variable (he : s.regBit Reg.DN_EQ_CTRL i = true) (hi : i ≠ 8) (hl : (s.dnPort i).linkUp = true) (hs : 5 ≤ (s.dnPort i).speed)
  (hr : (s.dnPort i).eqRedo = false)
include he hi hl hs hr

theorem eqPeriod_downstream :
    let t := s.measured i margin lane corrected
    let hard := decide (margin ≤ t.regBits Reg.DN_EQ_CTRL 27 24) || decide (2 ^ t.regBits Reg.DN_EQ_CTRL 39 32 < corrected)
    s.eqPeriod i margin lane corrected =
      if hard && t.eqMayRedo i then t.eqStart i
      else if !hard && decide (margin ≤ t.regBits Reg.DN_EQ_CTRL 31 28) then t.updDnPort i fun d => { d with eqPending := true } else t := by
  simp only [eqPeriod, measured, he, hi, hl, hs, hr, decide_true, decide_false, Bool.false_eq_true, Bool.not_true, Bool.not_false, Bool.and_self,
    Bool.or_self, if_false]
  rfl

theorem eqPeriod_hard (hm : (s.measured i margin lane corrected).eqMayRedo i = true) (h : (s.measured i margin lane corrected).HardTrigger margin corrected) :
    s.eqPeriod i margin lane corrected = (s.measured i margin lane corrected).eqStart i :=
  (eqPeriod_downstream he hi hl hs hr).trans (if_pos (by simpa [hm, HardTrigger] using h))

section
variable (h : ¬ (s.measured i margin lane corrected).HardTrigger margin corrected)
include h

theorem eqPeriod_not_hard :
    let t := s.measured i margin lane corrected
    s.eqPeriod i margin lane corrected =
      if decide (margin ≤ t.regBits Reg.DN_EQ_CTRL 31 28) then t.updDnPort i fun d => { d with eqPending := true } else t := by
  have hg : (decide (margin ≤ (s.measured i margin lane corrected).regBits Reg.DN_EQ_CTRL 27 24) ||
      decide (2 ^ (s.measured i margin lane corrected).regBits Reg.DN_EQ_CTRL 39 32 < corrected)) = false := by
    simpa [HardTrigger] using h
  simp only [eqPeriod_downstream he hi hl hs hr, hg, Bool.false_and, Bool.not_false, Bool.true_and, Bool.false_eq_true, if_false]

theorem eqPeriod_soft (hsoft : (s.measured i margin lane corrected).SoftTrigger margin) :
    s.eqPeriod i margin lane corrected = (s.measured i margin lane corrected).updDnPort i fun d => { d with eqPending := true } :=
  (eqPeriod_not_hard he hi hl hs hr h).trans (if_pos (by simpa [SoftTrigger] using hsoft))

theorem eqPeriod_within (hsoft : ¬ (s.measured i margin lane corrected).SoftTrigger margin) :
    s.eqPeriod i margin lane corrected = s.measured i margin lane corrected :=
  (eqPeriod_not_hard he hi hl hs hr h).trans (if_neg (by simpa [SoftTrigger] using hsoft))

end

end

/-! ### The upstream link -/

/-- The host is to be asked for a redo of the upstream link: at a hard trigger, or at a soft one outside serving (R337). -/
def AsksHost (margin corrected : Nat) (s : State) : Prop :=
  s.HardTrigger margin corrected ∨ (s.SoftTrigger margin ∧ s.servingHold = false)

/-- The host is asked for a redo, which is counted. -/
def askHostRedo (s : State) : State :=
  (s.setEqLink 8 { s.eqLink 8 with redos := min 0xFFFFFFFF ((s.eqLink 8).redos + 1) }).setCfgDw 0 0x80 (s.cfgDw 0 0x80 ||| 0x00200000)

theorem eqPeriod_upstream (he : s.regBit Reg.DN_EQ_CTRL 8 = true) (hl : s.up.linkUp = true) (h0 : s.up.lpm = 0) (hs : 5 ≤ s.up.speed) :
    let t := s.measured 8 margin lane corrected
    (t.AsksHost margin corrected → s.eqPeriod 8 margin lane corrected = t.askHostRedo) ∧
    (¬ t.AsksHost margin corrected → s.eqPeriod 8 margin lane corrected = t) := by
  intro t
  have hop : s.eqPeriod 8 margin lane corrected =
      if ((decide (margin ≤ t.regBits Reg.DN_EQ_CTRL 27 24) || decide (2 ^ t.regBits Reg.DN_EQ_CTRL 39 32 < corrected)) ||
        ((!(decide (margin ≤ t.regBits Reg.DN_EQ_CTRL 27 24) || decide (2 ^ t.regBits Reg.DN_EQ_CTRL 39 32 < corrected)) &&
          decide (margin ≤ t.regBits Reg.DN_EQ_CTRL 31 28)) && !t.servingHold)) then t.askHostRedo else t := by
    simp only [eqPeriod, t, measured, askHostRedo, he, hl, h0, hs, decide_true, Bool.not_true, Bool.and_self, Bool.or_self, Bool.false_eq_true, if_false,
      if_true]
  have hg : ((decide (margin ≤ t.regBits Reg.DN_EQ_CTRL 27 24) || decide (2 ^ t.regBits Reg.DN_EQ_CTRL 39 32 < corrected)) ||
        ((!(decide (margin ≤ t.regBits Reg.DN_EQ_CTRL 27 24) || decide (2 ^ t.regBits Reg.DN_EQ_CTRL 39 32 < corrected)) &&
          decide (margin ≤ t.regBits Reg.DN_EQ_CTRL 31 28)) && !t.servingHold)) = true ↔ t.AsksHost margin corrected := by
    simp only [AsksHost, HardTrigger, SoftTrigger, Bool.or_eq_true, Bool.and_eq_true, Bool.not_eq_true', Bool.or_eq_false_iff, decide_eq_true_eq,
      decide_eq_false_iff_not]
    grind
  exact ⟨fun h => hop.trans (if_pos (hg.2 h)), fun h => hop.trans (if_neg (mt hg.1 h))⟩

end

/-! ### The time of quiet and the end of a redo (R337) -/

section
variable {p : Nat} {s : State}

/-- A soft redo of a port may begin. -/
def QuietForRedo (p : Nat) (s : State) : Prop := (s.dnPort p).eqPending = true ∧ (∀ r ∈ s.dn.reqs, r.port ≠ p) ∧ s.eqMayRedo p = true

@[simp] theorem eqStart_pending : (s.eqStart p).pending = s.pending := by
  simp only [eqStart, eqEnter]
  split <;> simp

theorem quietGuard_iff :
    ((s.dnPort p).eqPending && !(s.dn.reqs.any fun r => decide (r.port = p)) && s.eqMayRedo p) = true ↔ s.QuietForRedo p := by
  simp [QuietForRedo, and_assoc]

theorem eqQuiet_begins (h : s.QuietForRedo p) : s.eqQuiet p = s.eqStart p := if_pos (quietGuard_iff.2 h)

theorem eqQuiet_waits (h : ¬ s.QuietForRedo p) : s.eqQuiet p = s := if_neg (mt quietGuard_iff.1 h)

theorem eqEnd_idle (h : (s.dnPort p).eqIn = false) (best : Option Nat) (l0 : Bool) : s.eqEnd p best l0 = s := if_pos (by rw [h]; rfl)

/-- The redo of a port is over. -/
def redoOver (p : Nat) (s : State) : State := s.updDnPort p fun d => { d with eqRedo := false, eqIn := false }

/-- What a redo leaves of the link: with the presets `v` it carries traffic again where it is in L0, and is down otherwise. -/
def afterRedo (p : Nat) (l0 : Bool) (v : EqLink) (s : State) : State :=
  if l0 then (s.setEqLink p v).dnRelease p else (s.setEqLink p v).dnDlDown p

section
variable (h : (s.dnPort p).eqIn = true)
include h

theorem eqEnd_none (l0 : Bool) :
    s.eqEnd p none l0 = (s.redoOver p).afterRedo p l0 { (s.redoOver p).eqLink p with failedLast := true } :=
  if_neg (by simp [h])

theorem eqEnd_best {i : Nat} {x : Nat × Nat} (hx : ((s.redoOver p).eqCands p)[i]? = some x) (l0 : Bool) :
    s.eqEnd p (some i) l0 = (s.redoOver p).afterRedo p l0
      { (s.redoOver p).eqLink p with
        presets := Map.insert ((s.redoOver p).dnPort p).speed (16 * x.1 + x.2) ((s.redoOver p).eqLink p).presets, failedLast := false } := by
  have hpick : (some i).bind (fun i => ((s.updDnPort p fun d => { d with eqRedo := false, eqIn := false }).eqCands p)[i]?) = some x := hx
  simp only [eqEnd, h, hpick, Bool.not_true, Bool.false_eq_true, if_false]
  rfl

end

end

end State

/-- Settles O48: the measurements of a link, the time of quiet, and the end of a redo. -/
theorem equalisation : Obligations.Equalisation := by
  refine ⟨fun i m lane n s h => ?_, fun i m lane n s he hi hl hs hr hm => ⟨fun h => ?_, fun h hsoft => ?_, fun h hsoft => ?_⟩,
    fun m lane n s he hl h0 hs => ⟨fun h => ?_, fun h => ?_⟩, fun p s => ⟨fun h => ?_, fun h => ?_⟩,
    fun p best l0 s => ⟨fun h => ?_, fun h => ⟨?_, ?_⟩⟩⟩
  · exact .of_clocked rfl (keep_eq (eqPeriod_disabled h) rfl)
  · exact .of_clocked rfl (keep_eq (eqPeriod_hard he hi hl hs hr hm h) eqStart_pending)
  · exact .of_clocked rfl (keep_eq (eqPeriod_soft he hi hl hs hr h hsoft) rfl)
  · exact .of_clocked rfl (keep_eq (eqPeriod_within he hi hl hs hr h hsoft) rfl)
  · exact .of_clocked rfl (keep_eq ((eqPeriod_upstream he hl h0 hs).1 h) rfl)
  · exact .of_clocked rfl (keep_eq ((eqPeriod_upstream he hl h0 hs).2 h) rfl)
  · exact .of_clocked rfl (keep_eq (eqQuiet_begins h) eqStart_pending)
  · exact .of_clocked rfl (keep_eq (eqQuiet_waits h) rfl)
  · exact .of_done rfl (eqEnd_idle h _ l0)
  · rintro rfl
    exact .of_done rfl (eqEnd_none h l0)
  · rintro i x rfl hx
    exact .of_done rfl (eqEnd_best h hx l0)

end Sys2Proof.Machine

/-! ## The state after a fundamental reset, and the steps of power-up (O4, O49) -/

namespace Sys2Proof.Machine

open State

namespace State

/-! ### What `State.reset` holds (R404, R449) -/

theorem reg_reset (off : Nat) : State.reset.reg off = regReset off := rfl

theorem locked_reset : State.reset.locked = false := by
  rw [locked, regBit, reg_reset]
  decide

theorem domCfg95_reset : State.reset.reg (Reg.PM_DOM_CFG + 8 * 95) = 0 := by
  rw [reg_reset]
  decide

theorem queue_reset (q : Nat) :
    (State.reset.queue q).st = .disabled ∧ (State.reset.queue q).sqGen = 1 ∧ (State.reset.queue q).cqPhase = true := ⟨rfl, rfl, rfl⟩

theorem ctxOf_reset_zero : (State.reset.ctxOf 0).st = .bound := rfl

theorem ctxOf_reset_other {c : Nat} (h : c ≠ 0) : (State.reset.ctxOf c).st = .free := by
  obtain ⟨n, rfl⟩ := Nat.exists_eq_succ_of_ne_zero h
  rfl

theorem domainsLegal_reset : State.reset.DomainsLegal :=
  domainsLegal_iff.2 ⟨rfl, fun _ => ⟨fun _ ht => (nomatch ht), fun _ => ⟨rfl, rfl⟩, Nat.zero_le _, Nat.zero_le _, fun _ => ⟨rfl, rfl, rfl⟩⟩⟩

theorem readBytes_reset (a n : Nat) : State.reset.readBytes a n = List.replicate n 0 := by
  have hbytes : State.reset.readBytes a n = (List.range n).map fun _ => (0 : Byte) := rfl
  rw [hbytes, List.map_const', List.length_range]

theorem ctr_reset (i : Nat) (event : Bool) : (State.reset.ctr event i).valid = false := by cases event <;> rfl

end State

/-- Settles O4. -/
theorem afterReset : Obligations.AfterReset :=
  ⟨rfl, reset_memWf, rfl, rfl, reg_reset, locked_reset, domCfg95_reset, queue_reset, ctxOf_reset_zero, fun _ => ctxOf_reset_other,
    fun _ => ⟨rfl, rfl⟩, rfl, rfl, rfl, domainsLegal_reset, rfl, ctr_reset, rfl, rfl, readBytes_reset⟩

/-! ### The steps of power-up (R340, R341, R438) -/

namespace State

section
variable {s : State}

section
variable (h : s.boot.por = true)
include h

theorem fundamentalResetOp_release : s.fundamentalResetOp true = s.resetAll false s.up.perst := if_pos h

/-- An assertion of perst_n under por_n is noted, since the block is in reset already. -/
theorem fundamentalResetOp_held : s.fundamentalResetOp false = s.modUp fun u => { u with perst := false } := if_pos h

theorem pufReadOp_held (r : List Byte) : s.pufReadOp r = s := if_pos (by rw [h]; rfl)

theorem pllLockOp_held : s.pllLockOp = s := if_pos (by rw [h]; rfl)

theorem arrayInitOp_held : s.arrayInitOp = s := if_pos (by rw [h]; rfl)

theorem perstReleaseOp_held : s.perstReleaseOp = s := if_pos h

end

theorem arrayInitOp_again (h : s.boot.arrays = true) : s.arrayInitOp = s := if_pos (by rw [h, Bool.or_true])

section
variable (h : s.boot.por = false)
include h

theorem fundamentalResetOp_released : s.fundamentalResetOp true = s := if_neg (Bool.eq_false_iff.1 h)

theorem fundamentalResetOp_perst : s.fundamentalResetOp false = s.resetAll false false := if_neg (Bool.eq_false_iff.1 h)

theorem pufReadOp_first (hp : s.boot.pufDone = false) (r : List Byte) :
    s.pufReadOp r = (s.modBoot fun b => { b with pufDone := true }).modIdent fun i => { i with puf := some r } :=
  if_neg (by simp [h, hp])

theorem pllLockOp_off (hp : s.ck.pll = .off) : s.pllLockOp = (s.modCk fun c => { c with pll := .locked }).rails := if_neg (by simp [h, hp])

theorem arrayInitOp_first (ha : s.boot.arrays = false) :
    s.arrayInitOp = (List.range 16).foldl (fun s n => s.portInit n) (s.modBoot fun b => { b with arrays := true }) := if_neg (by simp [h, ha])

theorem perstReleaseOp_released : s.perstReleaseOp = (s.modUp fun u => { u with perst := true }).startUpTrain :=
  if_neg (Bool.eq_false_iff.1 h)

end

end

end State

/-- Settles O49: what por_n holds back, and each step once it is released. -/
theorem powerUpSteps : Obligations.PowerUpSteps := by
  refine fun s => ⟨.of_keep rfl rfl, fun h => ⟨?_, ?_, fun r => ?_, ?_, ?_, ?_⟩,
    fun h => ⟨?_, ?_, fun r hp => ?_, fun hp => ?_, fun ha => ?_, fun ha => ?_, ?_⟩⟩
  · exact .of_keep rfl (congrArg s.keep (fundamentalResetOp_release h))
  · exact .of_keep rfl (keep_eq (fundamentalResetOp_held h) rfl)
  · exact .of_keep rfl (keep_eq (pufReadOp_held h r) rfl)
  · exact .of_keep rfl (keep_eq (pllLockOp_held h) rfl)
  · exact .of_keep rfl (keep_eq (arrayInitOp_held h) rfl)
  · exact .of_keep rfl (keep_eq (perstReleaseOp_held h) rfl)
  · exact .of_keep rfl (keep_eq (fundamentalResetOp_released h) rfl)
  · exact .of_keep rfl (congrArg s.keep (fundamentalResetOp_perst h))
  · exact .of_keep rfl (keep_eq (pufReadOp_first h hp r) rfl)
  · exact .of_keep rfl (congrArg s.keep (pllLockOp_off h hp))
  · exact .of_keep rfl (keep_eq (arrayInitOp_again ha) rfl)
  · exact .of_keep rfl (congrArg s.keep (arrayInitOp_first h ha))
  · exact .of_keep rfl (congrArg s.keep (perstReleaseOp_released h))

end Sys2Proof.Machine

/-! ## The identity key (O51) -/

namespace Sys2Proof.Machine

open State

namespace State

section
variable {s : State}

/-! ### KEY_DERIVE (R354) -/

/-- KEY_DERIVE has used the response. -/
def useResponse (s : State) : State := (s.modBoot fun b => { b with keyDone := true }).modIdent fun i => { i with puf := none }

/-- The identity key that a seed gives, by derivation (1) or enrolment (2). -/
def takeKey (how : Nat) (seed : BitVec 256) (s : State) : State :=
  s.modIdent fun i => { i with keyState := how, d := identityScalar seed, pub := P384.publicKey (identityScalar seed) }

/-- The key that was derived is not the one that was enrolled. -/
def keyMismatch (s : State) : State :=
  (s.modIdent fun i => { i with keyState := 3, d := 0, pub := [] }).raise Reg.ID Err.ID_KEY_MISMATCH Capture.none

section
variable (hp : s.boot.por = false) (ha : s.boot.applied = true) (hr : s.boot.pufDone = true) (hk : s.boot.keyDone = false)
include hp ha hr hk

theorem keyDerive_without_helper (h : s.boot.helper = []) : s.keyDerive = s.modBoot fun b => { b with keyDone := true } := by
  simp only [keyDerive, hp, ha, hr, hk, h, modBoot_boot, List.isEmpty_nil, Bool.not_true, Bool.or_self, Bool.false_eq_true, if_false, if_true]

variable (h : s.boot.helper ≠ [])
include h

theorem keyDerive_no_seed (hx : Config.fuzzySeed (s.ident.puf.getD []) (s.boot.helper.drop 48) = none) : s.keyDerive = s.useResponse.pufFails := by
  simp only [keyDerive, hp, ha, hr, hk, h, hx, modBoot_boot, modBoot_ident, useResponse, List.isEmpty_iff, Bool.not_true, Bool.or_self,
    Bool.false_eq_true, if_false]

section
variable {x : BitVec 256} (hx : Config.fuzzySeed (s.ident.puf.getD []) (s.boot.helper.drop 48) = some x)
include hx

theorem keyDerive_matches (hm : sha384 (P384.publicKey (identityScalar x)) = s.boot.helper.take 48) :
    s.keyDerive = s.useResponse.takeKey 1 x := by
  simp only [keyDerive, hp, ha, hr, hk, h, hx, hm, modBoot_boot, modBoot_ident, useResponse, takeKey, List.isEmpty_iff, Bool.not_true, Bool.or_self,
    Bool.false_eq_true, if_false, if_true]

theorem keyDerive_differs (hm : sha384 (P384.publicKey (identityScalar x)) ≠ s.boot.helper.take 48) : s.keyDerive = s.useResponse.keyMismatch := by
  simp only [keyDerive, hp, ha, hr, hk, h, hx, hm, modBoot_boot, modBoot_ident, useResponse, keyMismatch, List.isEmpty_iff, Bool.not_true,
    Bool.or_self, Bool.false_eq_true, if_false]

end

end

/-! ### ENROL (R355) -/

/-- ENROL is refused. -/
def refuseEnrol (s : State) : State := s.modIdent fun i => { i with refused := true }

/-- ENROL has drawn its helper data and used the response. -/
def drawHelper (s : State) : State := (s.draw 32).2.modIdent fun i => { i with refused := false, puf := none }

theorem enrolOp_without_response (h : s.ident.puf = none) : s.enrolOp = s.refuseEnrol := by simp only [enrolOp, h, refuseEnrol]

theorem enrolOp_refused (h : s.ident.keyState ≠ 0 ∨ s.locked = true ∨ s.ident.entropyBad = true ∨ s.ident.safe = true) :
    s.enrolOp = s.refuseEnrol := by
  unfold enrolOp refuseEnrol
  split
  · rfl
  · exact if_pos h

section
variable {resp : List Byte} (hr : s.ident.puf = some resp) (hk : s.ident.keyState = 0) (hl : s.locked = false) (he : s.ident.entropyBad = false)
  (hs : s.ident.safe = false)
include hr hk hl he hs

theorem enrolOp_no_seed (hx : Config.fuzzySeed resp (s.draw 32).1 = none) : s.enrolOp = s.drawHelper.pufFails := by
  simp only [enrolOp, hr, hk, hl, he, hs, hx, drawHelper, ne_eq, not_true_eq_false, Bool.false_eq_true, or_self, if_false]

theorem enrolOp_seed {x : BitVec 256} (hx : Config.fuzzySeed resp (s.draw 32).1 = some x) :
    s.enrolOp = s.drawHelper.modIdent fun i =>
      { i with keyState := 2, d := identityScalar x, pub := P384.publicKey (identityScalar x), helper := (s.draw 32).1 } := by
  simp only [enrolOp, hr, hk, hl, he, hs, hx, drawHelper, ne_eq, not_true_eq_false, Bool.false_eq_true, or_self, if_false]

end

theorem enrolWrite_open {u : State} (ho : s.OpenReg Reg.ID_CMD) (hu : s.keep s.enrolOp = u) : Nexts .enrol s u := .of_barWrite rfl ho hu

end

end State

/-- Settles O51: derivation by what the extractor gives, enrolment, and the failure of the entropy source. -/
theorem identityKey : Obligations.IdentityKey := by
  refine ⟨fun s hp ha hr hk => ⟨fun h => ?_, fun h => ?_⟩, fun s ho => ⟨fun h => ?_, fun h => ?_, fun resp hr hk hl he hs => ?_⟩, fun s => ?_⟩
  · exact .of_keep rfl (keep_eq (keyDerive_without_helper hp ha hr hk h) rfl)
  · split
    next hx => exact .of_keep rfl (congrArg s.keep (keyDerive_no_seed hp ha hr hk h hx))
    next x hx =>
      split
      next hm => exact .of_keep rfl (keep_eq (keyDerive_matches hp ha hr hk h hx hm) rfl)
      next hm => exact .of_keep rfl (congrArg s.keep (keyDerive_differs hp ha hr hk h hx hm))
  · exact enrolWrite_open ho (keep_eq (enrolOp_without_response h) rfl)
  · exact enrolWrite_open ho (keep_eq (enrolOp_refused h) rfl)
  · dsimp only
    split
    next x hx => exact enrolWrite_open ho (keep_eq (enrolOp_seed hr hk hl he hs hx) rfl)
    next hx => exact enrolWrite_open ho (congrArg s.keep (enrolOp_no_seed hr hk hl he hs hx))
  · exact .of_keep rfl rfl

end Sys2Proof.Machine

/-! ## The SPDM responder and the IDE keys (O52) -/

namespace Sys2Proof.Machine

open State

namespace State

section
variable {s : State} {f : State → State}

/-! ### The order of the negotiation (R341, R357) -/

@[simp] theorem respond_pending (code : Nat) (data : List Byte) (s : State) : (s.respond code data).pending = s.pending := rfl

@[simp] theorem draw_pending (n : Nat) (s : State) : (s.draw n).2.pending = s.pending := rfl

@[simp] theorem sign_pending (s : State) : s.sign.2.pending = s.pending := rfl

theorem spdm_loading (h : s.boot.loaded = false) (f : State → State) : s.spdm f = s := if_neg (Bool.eq_false_iff.1 h)

theorem spdm_loaded (h : s.boot.loaded = true) (f : State → State) : s.spdm f = f s := if_pos h

theorem negotiated_early (h : s.boot.loaded = true) (hs : s.ident.stage < 3) : s.negotiated f = s.spdmError 4 :=
  (spdm_loaded h _).trans (if_pos hs)

theorem negotiated_done (h : s.boot.loaded = true) (hs : s.ident.stage = 3) : s.negotiated f = f s :=
  (spdm_loaded h _).trans (if_neg (by omega))

/-- The session has been opened by FINISH. -/
def sessionOpen (n : Nat) (s : State) : Bool := s.ident.sessions.any fun x => decide (x.id = n) && x.open_

section
variable (h : s.boot.loaded = true) (hs : s.ident.stage = 3) {n : Nat}
include h hs

theorem inSession_closed (hn : s.sessionOpen n = false) : s.inSession n f = s.spdmError 2 :=
  (negotiated_done h hs).trans (if_neg (Bool.eq_false_iff.1 hn))

theorem inSession_open (hn : s.sessionOpen n = true) : s.inSession n f = f s := (negotiated_done h hs).trans (if_pos hn)

end

theorem getCapabilitiesOp_early (h : s.boot.loaded = true) (hs : s.ident.stage = 0) : s.getCapabilitiesOp = s.spdmError 4 :=
  (spdm_loaded h _).trans (if_pos hs)

theorem getCapabilitiesOp_answered (h : s.boot.loaded = true) (hs : s.ident.stage ≠ 0) :
    s.getCapabilitiesOp = (s.modIdent fun i => { i with stage := max i.stage 2 }).respond 0x61 (leBytes 4 0x62D6) :=
  (spdm_loaded h _).trans (if_neg hs)

theorem negotiateOp_early (h : s.boot.loaded = true) (hs : s.ident.stage < 2) : s.negotiateOp = s.spdmError 4 :=
  (spdm_loaded h _).trans (if_pos hs)

theorem negotiateOp_answered (h : s.boot.loaded = true) (hs : 2 ≤ s.ident.stage) :
    s.negotiateOp = (s.modIdent fun i => { i with stage := 3 }).respond 0x63
      (leBytes 4 0x80 ++ leBytes 4 2 ++ leBytes 2 0x10 ++ leBytes 2 2 ++ leBytes 2 1) :=
  (spdm_loaded h _).trans (if_neg (Nat.not_lt.2 hs))

/-! ### Certificates, challenges and measurements (R351, R356, R357) -/

section
variable (h : s.boot.loaded = true) (hs : s.ident.stage = 3)
include h hs

theorem getDigestsOp_answered :
    s.getDigestsOp = s.respond 0x01 (if s.ident.chainOk then 1 :: sha384 s.spdmChain else [0]) := by
  refine (negotiated_done h hs).trans ?_
  split <;> rfl

theorem getCertificateOp_done (slot off len : Nat) :
    let part := (s.spdmChain.drop off).take len
    s.getCertificateOp slot off len =
      if slot ≠ 0 ∨ !s.ident.chainOk ∨ s.spdmChain.length ≤ off then s.spdmError 1
      else s.respond 0x02 (leBytes 2 part.length ++ leBytes 2 (s.spdmChain.length - off - part.length) ++ part) :=
  negotiated_done h hs

theorem challengeOp_done (slot : Nat) (nonce : List Byte) :
    let n := s.draw 1
    let g := n.2.sign
    s.challengeOp slot nonce =
      if slot ≠ 0 ∨ !s.ident.chainOk then s.spdmError 1
      else if !s.keyUsable then s.spdmError 5
      else g.2.respond 0x03 (1 :: (sha384 s.spdmChain ++ n.1.take 32 ++ g.1)) :=
  negotiated_done h hs

theorem challengeOp_answered (hc : s.ident.chainOk = true) (hk : s.keyUsable = true) (nonce : List Byte) :
    let n := s.draw 1
    let g := n.2.sign
    s.challengeOp 0 nonce = g.2.respond 0x03 (1 :: (sha384 s.spdmChain ++ n.1.take 32 ++ g.1)) :=
  (challengeOp_done h hs 0 nonce).trans ((if_neg (by simp [hc])).trans (if_neg (by simp [hk])))

theorem getMeasurementsOp_unknown {i : Nat} (h3 : 3 < i) (hi : i ≠ 0xFF) (signed : Bool) (nonce : List Byte) :
    s.getMeasurementsOp i signed nonce = s.spdmError 1 :=
  (negotiated_done h hs).trans (if_pos ⟨h3, hi⟩)

theorem getMeasurementsOp_count (nonce : List Byte) : s.getMeasurementsOp 0 false nonce = s.respond 0x60 [3] := negotiated_done h hs

theorem getMeasurementsOp_block {i : Nat} (h0 : i ≠ 0) (h3 : i ≤ 3) (nonce : List Byte) :
    s.getMeasurementsOp i false nonce = s.respond 0x60 (BitVec.ofNat 8 i :: (leBytes 2 (s.measurement i).length ++ s.measurement i)) := by
  have hi : ¬ (3 < i ∧ i ≠ 0xFF) := by omega
  have hff : i ≠ 0xFF := by omega
  refine (negotiated_done h hs).trans ?_
  simp only [hi, h0, hff, Bool.false_eq_true, false_and, if_false]

/-! ### Sessions (R357, R359) -/

theorem keyExchangeOp_done (slot : Nat) (random exchange : List Byte) :
    let r := s.draw 2
    let q := P384.publicKey (beNat (r.1.drop 48) % (P384.order - 1) + 1)
    let g := r.2.sign
    let id := s.ident.nextSession
    s.keyExchangeOp slot random exchange =
      if slot ≠ 0 ∨ !s.ident.chainOk ∨ !P384.onCurve exchange then s.spdmError 1
      else if !s.keyUsable ∨ s.ident.entropyBad then s.spdmError 5
      else if 4 ≤ s.ident.sessions.length then s.spdmError 10
      else (g.2.modIdent fun i => { i with sessions := i.sessions ++ [{ id := id, open_ := false }], nextSession := id + 1 }).respond 0x64
        (leBytes 4 id ++ r.1.take 32 ++ q ++ g.1 ++ beBytes 48 (Config.verifyData id).toNat) :=
  negotiated_done h hs

section
variable (hc : s.ident.chainOk = true) (hk : s.keyUsable = true) (he : s.ident.entropyBad = false) {random exchange : List Byte}
  (hx : P384.onCurve exchange = true)
include hc hk he hx

theorem keyExchangeOp_usable :
    let r := s.draw 2
    let q := P384.publicKey (beNat (r.1.drop 48) % (P384.order - 1) + 1)
    let g := r.2.sign
    let id := s.ident.nextSession
    s.keyExchangeOp 0 random exchange =
      if 4 ≤ s.ident.sessions.length then s.spdmError 10
      else (g.2.modIdent fun i => { i with sessions := i.sessions ++ [{ id := id, open_ := false }], nextSession := id + 1 }).respond 0x64
        (leBytes 4 id ++ r.1.take 32 ++ q ++ g.1 ++ beBytes 48 (Config.verifyData id).toNat) :=
  (keyExchangeOp_done h hs 0 random exchange).trans ((if_neg (by simp [hc, hx])).trans (if_neg (by simp [hk, he])))

end

theorem finishOp_no_session (hn : s.ident.sessions = []) (n : Nat) (v : List Byte) : s.finishOp n v = s.spdmError 2 := by
  refine (negotiated_done h hs).trans ?_
  simp only [hn, List.find?_nil]

/-- FINISH of the one session there is, which is not open yet. -/
theorem finishOp_single {n : Nat} {x : Session} (hx : s.ident.sessions = [x]) (hid : x.id = n) (ho : x.open_ = false) (v : List Byte) :
    s.finishOp n v =
      if Config.finishVerifies n v then (s.modIdent fun i => { i with sessions := [{ x with open_ := true }] }).respond 0x65 []
      else (s.modIdent fun i => { i with sessions := [] }).spdmError 6 := by
  refine (negotiated_done h hs).trans ?_
  cases Config.finishVerifies n v <;> simp [hx, hid, ho, modIdent, updateWhere]

end

end

/-- A request that follows the negotiation, before the load has ended and before the negotiation has (R341, R357). -/
theorem nexts_negotiated {s : State} {c d : Instr} {f : State → State} (h : exec c s = .next (s.keep (s.clocked d (negotiated f)))) :
    (s.boot.loaded = false → Nexts c s s) ∧ (s.boot.loaded = true → s.ident.stage < 3 → Nexts c s (s.spdmError 4)) :=
  ⟨fun hb => .of_message h (keep_eq (spdm_loading hb _) rfl), fun hb hs => .of_message h (keep_eq (negotiated_early hb hs) rfl)⟩

/-- What holds of every request that follows the negotiation and needs no session. -/
theorem forall_later {s : State} {P : Instr → Prop}
    (h : ∀ {c d f}, exec c s = .next (s.keep (s.clocked d (negotiated f))) → P c) :
    P .getDigests ∧ (∀ slot off len, P (.getCertificate slot off len)) ∧ (∀ slot n, P (.challenge slot n)) ∧
      (∀ i g n, P (.getMeasurements i g n)) ∧ (∀ slot r e, P (.keyExchange slot r e)) ∧ (∀ n v, P (.spdmFinish n v)) :=
  ⟨h rfl, fun _ _ _ => h rfl, fun _ _ => h rfl, fun _ _ _ => h rfl, fun _ _ _ => h rfl, fun _ _ => h rfl⟩

/-- What holds of every request inside a session. -/
theorem forall_inside {s : State} {P : BitVec 32 → Instr → Prop}
    (h : ∀ {n : BitVec 32} {c d f}, exec c s = .next (s.keep (s.clocked d (inSession n.toNat f))) → P n c) (n : BitVec 32) :
    P n (.heartbeat n) ∧ (∀ b, P n (.keyUpdate n b)) ∧ P n (.endSession n) ∧ (∀ st ks tx sub key, P n (.keyProg n st ks tx sub key)) ∧
      (∀ st ks tx sub, P n (.kSetGo n st ks tx sub) ∧ P n (.kSetStop n st ks tx sub)) ∧ (∀ st, P n (.query n st)) :=
  ⟨h rfl, fun _ => h rfl, h rfl, fun _ _ _ _ _ => h rfl, fun _ _ _ _ => ⟨h rfl, h rfl⟩, fun _ => h rfl⟩

/-- A request inside a session that is open. -/
theorem nexts_inSession {s u : State} {n : Nat} {c d : Instr} {f : State → State} (h : exec c s = .next (s.keep (s.clocked d (inSession n f))))
    (hb : s.boot.loaded = true) (hs : s.ident.stage = 3) (hn : s.sessionOpen n = true) (hu : s.keep (f s) = u) : Nexts c s u :=
  .of_message h ((congrArg s.keep (inSession_open hb hs hn)).trans hu)

/-- A request that follows the negotiation, once the negotiation has ended. -/
theorem nexts_done {s u : State} {c d : Instr} {f : State → State} (h : exec c s = .next (s.keep (s.clocked d f))) (hf : f s = u)
    (hu : u.pending = s.pending) : Nexts c s u := .of_message h (keep_eq hf hu)

end State

/-- Settles O52: the order of the negotiation, what follows it, and the requests of a session. -/
theorem securityMessages : Obligations.SecurityMessages := by
  refine ⟨fun s => ⟨fun hb => ⟨?_, ?_, ?_, ?_, ?_⟩, fun hb => ⟨?_, fun h => ?_, fun h => ?_, fun h => ?_, fun h => ?_, fun h => ⟨?_, ?_⟩, fun hs =>
    ⟨?_, fun hc slot off len => ?_, fun hc off len => ⟨fun hl => ?_, fun hl => ?_⟩, fun hc slot n => ?_, fun hc hk nonce => ?_, fun i h3 hi g n => ?_,
      fun n => ?_, fun i hi n => ?_, fun hc slot r e => ?_, fun hc hk he hl r e hx => ?_, fun hc hk he hl r e hx => ?_, fun hn n v => ?_,
      fun n x v hx hid ho => ?_, ?_, fun n hn => ⟨?_, fun b => ?_, ?_⟩⟩⟩⟩,
    fun s n st ks tx sub key hb hs hn => ⟨fun hst => ?_, fun hst => ?_, ?_, ?_, ?_⟩⟩
  -- before the load has ended
  · exact nexts_done rfl (spdm_loading hb _) rfl
  · exact nexts_done rfl (spdm_loading hb _) rfl
  · exact nexts_done rfl (spdm_loading hb _) rfl
  · exact forall_later fun h => (nexts_negotiated h).1 hb
  · exact forall_inside fun h => (nexts_negotiated h).1 hb
  -- the negotiation
  · exact nexts_done rfl (spdm_loaded hb _) rfl
  · exact nexts_done rfl (getCapabilitiesOp_early hb h) rfl
  · exact nexts_done rfl (getCapabilitiesOp_answered hb h) rfl
  · exact nexts_done rfl (negotiateOp_early hb h) rfl
  · exact nexts_done rfl (negotiateOp_answered hb h) rfl
  · exact forall_later fun hx => (nexts_negotiated hx).2 hb h
  · exact forall_inside fun hx => (nexts_negotiated hx).2 hb h
  -- certificates, challenges and measurements
  · exact nexts_done rfl (getDigestsOp_answered hb hs) rfl
  · exact nexts_done rfl ((getCertificateOp_done hb hs _ _ _).trans (if_pos (by simp [hc]))) rfl
  · exact nexts_done rfl ((getCertificateOp_done hb hs _ _ _).trans (if_pos (.inr (.inr hl)))) rfl
  · exact nexts_done rfl ((getCertificateOp_done hb hs _ _ _).trans (if_neg (by simp [hc, hl]))) rfl
  · exact nexts_done rfl ((challengeOp_done hb hs _ n).trans (if_pos (by simp [hc]))) rfl
  · exact nexts_done rfl (challengeOp_answered hb hs hc hk nonce) (by simp)
  · exact nexts_done rfl (getMeasurementsOp_unknown hb hs h3 hi g n) rfl
  · exact nexts_done rfl (getMeasurementsOp_count hb hs n) rfl
  · simp only [List.mem_cons, List.not_mem_nil, or_false] at hi
    have hlt : i < 2 ^ 8 := by omega
    have hto : (BitVec.ofNat 8 i).toNat = i := Nat.mod_eq_of_lt hlt
    refine nexts_done rfl ?_ rfl
    rw [hto, getMeasurementsOp_block hb hs (by omega) (by omega) n]
    rfl
  -- sessions
  · exact nexts_done rfl ((keyExchangeOp_done hb hs _ r e).trans (if_pos (by simp [hc]))) rfl
  · exact nexts_done rfl ((keyExchangeOp_usable hb hs hc hk he hx).trans (if_pos hl)) rfl
  · exact nexts_done rfl ((keyExchangeOp_usable hb hs hc hk he hx).trans (if_neg (Nat.not_le.2 hl))) (by simp)
  · exact nexts_done rfl (finishOp_no_session hb hs hn _ v) rfl
  · exact nexts_done rfl (finishOp_single hb hs hx hid ho v) (by split <;> rfl)
  · exact fun n => forall_inside (P := fun n c => s.sessionOpen n.toNat = false → Nexts c s (s.spdmError 2))
      (fun h hn => .of_message h (keep_eq (inSession_closed hb hs hn) rfl)) n
  · exact nexts_inSession rfl hb hs hn rfl
  · exact nexts_inSession rfl hb hs hn rfl
  · exact nexts_inSession rfl hb hs hn rfl
  -- keys of the links
  · exact nexts_inSession rfl hb hs hn (keep_eq (if_pos hst) rfl)
  · exact nexts_inSession rfl hb hs hn (keep_eq (if_neg (Nat.not_lt.2 hst)) rfl)
  · exact nexts_inSession rfl hb hs hn rfl
  · exact nexts_inSession rfl hb hs hn rfl
  · exact nexts_inSession rfl hb hs hn rfl

end Sys2Proof.Machine

/-! ## Clocks and rails (O53) -/

namespace Sys2Proof.Machine

open State

namespace State

section
variable {s : State}

/-! ### The PLL (R363) -/

theorem pllUnlockOp_unlocked (h : s.ck.pll ≠ .locked) : s.pllUnlockOp = s := if_pos h

theorem pllUnlockOp_locked (h : s.ck.pll = .locked) :
    s.pllUnlockOp =
      ((s.modCk fun c => { c with pll := .relocking, relocks := c.relocks + 1 }).bump Reg.CK_STAT_RELOCK).raise Reg.CK Err.CK_PLL_UNLOCK
        Capture.none :=
  if_neg (not_not_intro h)

theorem relockedOp_idle (h : s.ck.pll ≠ .relocking) : s.relockedOp = s := if_neg h

theorem relockedOp_relocking (h : s.ck.pll = .relocking) : s.relockedOp = (s.modCk fun c => { c with pll := .locked }).redoWaits relockWait :=
  if_pos h

theorem pllFailOp_idle (h : s.ck.pll ≠ .relocking) : s.pllFailOp = s := if_pos h

theorem pllFailOp_relocking (h : s.ck.pll = .relocking) :
    s.pllFailOp = (s.modCk fun c => { c with pll := .failed }).raise Reg.CK Err.CK_PLL_FAIL Capture.none := if_neg (not_not_intro h)

/-- The clocks and rails are no matter of an error's report. -/
theorem unreported_ck : Unreported State.ck :=
  ⟨fun _ _ _ => rfl, fun _ _ => rfl, fun _ _ => rfl, fun _ => rfl, fun _ _ => rfl⟩

/-- Once the PLL has failed nothing goes on. -/
theorem clocksStopped_pllFailed (b i : Nat) (c : Capture) (s : State) :
    ((s.modCk fun c => { c with pll := .failed }).raise b i c).clocksStopped = true := by
  simp only [clocksStopped, unreported_ck.raise, modCk_ck, or_true, decide_true]

end

/-! ### The regulators' handshake (R366, R367, R436) -/

/-- The block lowers its request to a regulator, which keeps its acknowledgement or gives none. -/
def lowerRequest (rail : Nat) (ack : Bool) (s : State) : State :=
  (s.setVreg rail { s.vregOf rail with req := false, ack := ack }).emit (.vreg rail (s.vregOf rail).mv false)

/-- A regulator has not acknowledged in time. -/
def railTimedOut (rail : Nat) (s : State) : State :=
  (s.lowerRequest rail (s.vregOf rail).ack).raise Reg.CK Err.CK_VREG_TIMEOUT { Capture.none with index := rail }

/-- A lowering change that is given up has its target back at its source. -/
def giveUpLowering (rail : Nat) (m : LevelMove) (s : State) : State :=
  if m.target < m.source then
    (if rail = 0 then s.setRegBits Reg.CK_LEVEL 1 0 m.source else s.setRegBits Reg.CK_LEVEL 5 4 m.source)
  else s

theorem moveOf_congr {s t : State} (h : (t.ck.xMove, t.ck.mMove) = (s.ck.xMove, s.ck.mMove)) (rail : Nat) : t.moveOf rail = s.moveOf rail := by
  obtain ⟨hx, hm⟩ := Prod.mk.inj h
  unfold moveOf
  split
  · exact hx
  · exact hm
  · rfl

section
variable {rail : Nat} {s : State}

theorem moveOf_lowerRequest (ack : Bool) : (s.lowerRequest rail ack).moveOf rail = s.moveOf rail := moveOf_congr rfl rail

theorem moveOf_railTimedOut : (s.railTimedOut rail).moveOf rail = s.moveOf rail :=
  moveOf_congr (congrArg (fun c : Ck => (c.xMove, c.mMove)) (unreported_ck.raise ..)) rail

theorem vregAcked_idle (h : (s.vregOf rail).req = false) : s.vregAcked rail = s := if_pos (by rw [h]; rfl)

theorem vregTimeoutOp_idle (h : (s.vregOf rail).req = false) : s.vregTimeoutOp rail = s := if_pos (by rw [h]; rfl)

section
variable (h : (s.vregOf rail).req = true)
include h

theorem vregAcked_no_change (hm : s.moveOf rail = none) : s.vregAcked rail = s.lowerRequest rail true := by
  have hl := (moveOf_lowerRequest (s := s) (rail := rail) true).trans hm
  simp only [lowerRequest] at hl
  simp only [vregAcked, h, hl, lowerRequest, Bool.not_true, Bool.false_eq_true, if_false]

theorem vregTimeoutOp_no_change (hm : s.moveOf rail = none) : s.vregTimeoutOp rail = (s.railTimedOut rail).vregPump rail := by
  have hl := (moveOf_railTimedOut (s := s) (rail := rail)).trans hm
  simp only [railTimedOut, lowerRequest] at hl
  simp only [vregTimeoutOp, h, hl, railTimedOut, lowerRequest, Bool.not_true, Bool.false_eq_true, if_false]

section
variable {m : LevelMove} (hm : s.moveOf rail = some m)
include hm

theorem vregAcked_changing :
    let a := s.lowerRequest rail true
    s.vregAcked rail =
      if !m.asked then a
      else ((if m.target < m.source then a.setLevel rail m.target else a).bump Reg.CK_STAT_LEVEL_CHANGE).levelEnd rail := by
  have hl := (moveOf_lowerRequest (s := s) (rail := rail) true).trans hm
  simp only [lowerRequest] at hl
  simp only [vregAcked, h, hl, lowerRequest, Bool.not_true, Bool.false_eq_true, if_false]

theorem vregTimeoutOp_changing :
    let t := s.railTimedOut rail
    s.vregTimeoutOp rail = (if !m.asked then t else (t.giveUpLowering rail m).levelEnd rail).vregPump rail := by
  have hl := (moveOf_railTimedOut (s := s) (rail := rail)).trans hm
  simp only [railTimedOut, lowerRequest] at hl
  simp only [vregTimeoutOp, h, hl, railTimedOut, lowerRequest, giveUpLowering, Bool.not_true, Bool.false_eq_true, if_false]

theorem vregAcked_unasked (ha : m.asked = false) : s.vregAcked rail = s.lowerRequest rail true :=
  (vregAcked_changing h hm).trans (if_pos (by rw [ha]; rfl))

theorem vregAcked_asked (ha : m.asked = true) :
    let a := s.lowerRequest rail true
    s.vregAcked rail = ((if m.target < m.source then a.setLevel rail m.target else a).bump Reg.CK_STAT_LEVEL_CHANGE).levelEnd rail :=
  (vregAcked_changing h hm).trans (if_neg (by simp [ha]))

theorem vregTimeoutOp_unasked (ha : m.asked = false) : s.vregTimeoutOp rail = (s.railTimedOut rail).vregPump rail :=
  (vregTimeoutOp_changing h hm).trans (congrArg (vregPump rail) (if_pos (by rw [ha]; rfl)))

theorem vregTimeoutOp_asked (ha : m.asked = true) :
    s.vregTimeoutOp rail = (((s.railTimedOut rail).giveUpLowering rail m).levelEnd rail).vregPump rail :=
  (vregTimeoutOp_changing h hm).trans (congrArg (vregPump rail) (if_neg (by simp [ha])))

end

end

theorem vregAckFell_idle (h : (s.vregOf rail).ack = false) : s.vregAckFell rail = s := if_neg (Bool.eq_false_iff.1 h)

theorem vregAckFell_falls (h : (s.vregOf rail).ack = true) :
    s.vregAckFell rail = (s.setVreg rail { s.vregOf rail with ack := false }).vregPump rail := if_pos h

end

/-! ### A period of the AVFS loop (R369) -/

/-- The block with other trims. -/
def withTrims (m : NMap Nat) (s : State) : State := s.modCk fun c => { c with trims := m }

/-- The slacks that the monitors of domain `d` have reported. -/
def slacksOf (samples : List Slack) (d : Nat) : List Nat := (samples.filter fun x => decide (x.domain.val = d)).map (·.slack.toNat)

/-- The highest trim of the loop. -/
def trimTop (s : State) : Nat := min 20 (s.regBits Reg.CK_AVFS_CFG 55 48)

/-- The trim that follows the trim `v` where the least slack is `low`. -/
def stepTrim (low v : Nat) (s : State) : Nat :=
  if low < s.regBits Reg.CK_AVFS_CFG 39 32 then v - 1
  else if s.regBits Reg.CK_AVFS_CFG 47 40 < low then max v (min s.trimTop (v + 1)) else v

/-- The loop moves the trim of domain `d`: it is ACTIVE, has reported, and its rail keeps its level. -/
def TrimMoves (samples : List Slack) (d : Nat) (s : State) : Prop :=
  slacksOf samples d ≠ [] ∧ (s.dom d).st = .active ∧ s.moveOf (railOf d) = none

/-- What the loop does to the trims for one domain. -/
def trimStep (samples : List Slack) (s : State) (m : NMap Nat) (d : Nat) : NMap Nat :=
  if slacksOf samples d = [] ∨ railOf d = 3 ∨ (s.dom d).st ≠ .active ∨ (s.moveOf (railOf d)).isSome then m
  else
    let key := 96 * s.levelOf (railOf d) + d
    Map.insert key (s.stepTrim ((slacksOf samples d).foldl min 255) (Map.getD 0 key m)) m

/-- One domain's part of a period, with the highest trim `top`. -/
def avfsStep (samples : List Slack) (top : Nat) (t : State) (d : Nat) : State :=
  if slacksOf samples d = [] ∨ railOf d = 3 ∨ (t.dom d).st ≠ .active ∨ (t.moveOf (railOf d)).isSome then t
  else
    let low := (slacksOf samples d).foldl min 255
    let l := t.levelOf (railOf d)
    let v := t.trimOf d l
    t.setTrim d l (if low < t.regBits Reg.CK_AVFS_CFG 39 32 then v - 1
      else if t.regBits Reg.CK_AVFS_CFG 47 40 < low then max v (min top (v + 1)) else v)

theorem avfsStep_withTrims (samples : List Slack) (s : State) (m : NMap Nat) (d : Nat) :
    avfsStep samples s.trimTop (s.withTrims m) d = s.withTrims (s.trimStep samples m d) :=
  (apply_ite s.withTrims ..).symm

/-- A period moves nothing but trims, before the rails follow. -/
theorem avfs_eq (samples : List Slack) {s : State} (hc : s.regBit Reg.CK_CTRL 0 = true) (hp : s.powerHeld = false) :
    s.avfs samples = (s.withTrims ((List.range 95).foldl (s.trimStep samples) s.ck.trims)).rails := by
  have hop : s.avfs samples = ((List.range 95).foldl (avfsStep samples s.trimTop) s).rails := if_neg (by simp [hc, hp])
  exact hop.trans (congrArg rails (List.foldl_hom s.withTrims (avfsStep_withTrims samples s)))

theorem avfs_off (samples : List Slack) {s : State} (h : s.regBit Reg.CK_CTRL 0 = false ∨ s.powerHeld = true) : s.avfs samples = s :=
  if_pos (by simpa using h)

/-- The rails follow the trims, and leave them. -/
theorem vregPump_trims (rail : Nat) (s : State) : (s.vregPump rail).ck.trims = s.ck.trims := by
  have hmove (m : Option LevelMove) (s : State) : (s.setLevelMove rail m).ck.trims = s.ck.trims := by
    simp only [setLevelMove, modCk_ck]
    split
    · rfl
    · split <;> rfl
  cases hm : s.moveOf rail with
  | none =>
    simp only [vregPump, hm]
    split <;> rfl
  | some m =>
    simp only [vregPump, hm]
    split
    · rfl
    · exact hmove _ s

theorem rails_trims (s : State) : s.rails.ck.trims = s.ck.trims := by
  simp only [rails, vregPump_trims]

section
variable {samples : List Slack} {s : State} {d j level : Nat}

/-- The trim of one domain at one level, after the step of another or the same. -/
theorem getD_trimStep (hd : d < 96) (hj : j < 95) (m : NMap Nat) :
    Map.getD 0 (96 * level + d) (s.trimStep samples m j) =
      open Classical in
      if j = d ∧ level = s.levelOf (railOf d) ∧ s.TrimMoves samples d then
        s.stepTrim ((slacksOf samples d).foldl min 255) (Map.getD 0 (96 * level + d) m)
      else Map.getD 0 (96 * level + d) m := by
  have hrail : railOf j ≠ 3 := by
    unfold railOf
    repeat' split
    all_goals omega
  have hmoves : (slacksOf samples j = [] ∨ railOf j = 3 ∨ (s.dom j).st ≠ .active ∨ (s.moveOf (railOf j)).isSome = true) ↔ ¬ s.TrimMoves samples j := by
    simp only [TrimMoves, hrail, false_or, Classical.not_and_iff_not_or_not, Classical.not_not, ne_eq, Option.isSome_iff_ne_none]
  unfold trimStep
  split
  next hs => rw [if_neg]; rintro ⟨rfl, -, hm⟩; exact hmoves.1 hs hm
  next hs =>
    have hm : s.TrimMoves samples j := Classical.not_not.1 (mt hmoves.2 hs)
    by_cases hk : 96 * level + d = 96 * s.levelOf (railOf j) + j
    · obtain rfl : j = d := by omega
      obtain rfl : level = s.levelOf (railOf j) := by omega
      rw [if_pos ⟨rfl, rfl, hm⟩, Map.getD, Map.find?_insert_same]
      rfl
    · rw [if_neg, Map.getD, Map.find?_insert_other hk]
      · rfl
      · rintro ⟨rfl, rfl, -⟩
        exact hk rfl

/-- A domain that is not among those of the fold keeps its trims. -/
theorem getD_foldl_trimStep_other (hd : d < 96) {l : List Nat} (hl : ∀ j ∈ l, j < 95) (hn : d ∉ l) (m : NMap Nat) :
    Map.getD 0 (96 * level + d) (l.foldl (s.trimStep samples) m) = Map.getD 0 (96 * level + d) m := by
  induction l generalizing m with
  | nil => rfl
  | cons j l ih =>
    obtain ⟨hj, hl⟩ := List.forall_mem_cons.1 hl
    obtain ⟨hne, hn⟩ := not_or.1 (mt List.mem_cons.2 hn)
    rw [List.foldl_cons, ih hl hn, getD_trimStep hd hj, if_neg fun h => hne h.1.symm]

/-- Each domain of the fold has its trim moved once. -/
theorem getD_foldl_trimStep (hd : d < 96) {l : List Nat} (hl : ∀ j ∈ l, j < 95) (hnd : l.Nodup) (hm : d ∈ l) (m : NMap Nat) :
    Map.getD 0 (96 * level + d) (l.foldl (s.trimStep samples) m) = Map.getD 0 (96 * level + d) (s.trimStep samples m d) := by
  induction l generalizing m with
  | nil => exact absurd hm List.not_mem_nil
  | cons j l ih =>
    obtain ⟨hj, hrest⟩ := List.forall_mem_cons.1 hl
    obtain ⟨hjl, hnodup⟩ := List.nodup_cons.1 hnd
    rw [List.foldl_cons]
    rcases List.mem_cons.1 hm with rfl | hm
    · exact getD_foldl_trimStep_other hd hrest hjl _
    · have hne : j ≠ d := fun h => hjl (h ▸ hm)
      have hd95 := hrest d hm
      rw [ih hrest hnodup hm, getD_trimStep hd hd95, getD_trimStep hd hj, getD_trimStep hd hd95]
      simp only [hne, false_and, if_false]

/-- The trims after a period. -/
theorem trimOf_avfs (hc : s.regBit Reg.CK_CTRL 0 = true) (hp : s.powerHeld = false) (hd : d < 95) :
    (s.avfs samples).trimOf d level =
      open Classical in
      if level = s.levelOf (railOf d) ∧ s.TrimMoves samples d then
        s.stepTrim ((slacksOf samples d).foldl min 255) (s.trimOf d level)
      else s.trimOf d level := by
  have hlt : ∀ j ∈ List.range 95, j < 95 := fun j hj => List.mem_range.1 hj
  rw [avfs_eq samples hc hp, trimOf, rails_trims]
  refine (getD_foldl_trimStep (Nat.lt_succ_of_lt hd) hlt List.nodup_range (List.mem_range.2 hd) _).trans ?_
  rw [getD_trimStep (Nat.lt_succ_of_lt hd) hd]
  classical exact ite_congr (by simp only [true_and]) (fun _ => rfl) fun _ => rfl

end

/-! ### Droops (R370) -/

/-- The clock of a droop's domain is stretched, which is counted, and where the loop runs its trim falls by one step. -/
def stretched (d : Nat) (s : State) : State :=
  let l := s.levelOf (railOf d)
  let b := s.bump Reg.CK_STAT_STRETCH
  (if b.regBit Reg.CK_CTRL 0 = true ∧ b.powerHeld = false then b.setTrim d l (b.trimOf d l - 1) else b).modCk
    fun c => { c with stretched := addNew d c.stretched }

section
variable {d slack : Nat} {s : State}

theorem droopOp_none (h : s.regBits Reg.CK_AVFS_CFG 31 24 ≤ slack ∨ railOf d = 3) : s.droopOp d slack = s := if_pos h

section
variable (h : slack < s.regBits Reg.CK_AVFS_CFG 31 24) (hr : railOf d ≠ 3)
include h hr

theorem droopOp_below :
    s.droopOp d slack =
      (if (decide (d ∈ s.ck.stretched) && decide (s.railTrim (railOf d) (s.levelOf (railOf d)) = 0)) = true then
        (s.stretched d).raise Reg.CK Err.CK_AVFS_LIMIT { Capture.none with index := d } else s.stretched d).rails := by
  have hg : ¬(s.regBits Reg.CK_AVFS_CFG 31 24 ≤ slack ∨ railOf d = 3) := not_or.2 ⟨Nat.not_le.2 h, hr⟩
  simp only [droopOp, hg, stretched, Bool.and_eq_true, Bool.not_eq_true', if_false]

theorem droopOp_first (hn : d ∉ s.ck.stretched ∨ s.railTrim (railOf d) (s.levelOf (railOf d)) ≠ 0) : s.droopOp d slack = (s.stretched d).rails :=
  (droopOp_below h hr).trans (congrArg rails (if_neg fun hb =>
    have hd := (Bool.and_eq_true _ _).mp hb
    hn.elim (absurd (of_decide_eq_true hd.1)) (absurd (of_decide_eq_true hd.2))))

theorem droopOp_again (hs : d ∈ s.ck.stretched) (h0 : s.railTrim (railOf d) (s.levelOf (railOf d)) = 0) :
    s.droopOp d slack = ((s.stretched d).raise Reg.CK Err.CK_AVFS_LIMIT { Capture.none with index := d }).rails :=
  (droopOp_below h hr).trans (congrArg rails (if_pos (by simp [hs, h0])))

end

end

end State

/-- A command that the divided clocks drive, with what it does worked out. -/
theorem exec_of_clocked {c : Instr} {s t u : State} (h : exec c s = .next (s.whenClocked (s.keep t))) (hc : s.clocksStopped = false)
    (hu : s.keep t = u) : exec c s = .next u := by rw [h, whenClocked_running hc, hu]

/-- A command that changes nothing, whether or not the divided clocks run. -/
theorem exec_of_idle {c : Instr} {s t : State} (h : exec c s = .next (s.whenClocked (s.keep t))) (ht : t = s) : exec c s = .next s := by
  subst ht
  rw [h, whenClocked]
  split <;> rfl

/-- What a period of the loop leaves in the trims of a domain. -/
theorem avfsPeriod_trims (l : List Slack) {s : State} (hc : s.regBit Reg.CK_CTRL 0 = true) (hp : s.powerHeld = false) {d : Nat} (hd : d < 95) :
    let low := (slacksOf l d).foldl min 255
    let at_ := s.levelOf (railOf d)
    let v := s.trimOf d at_
    let t := s.avfs l
    (∀ level, ¬ s.TrimMoves l d ∨ level ≠ at_ → t.trimOf d level = s.trimOf d level) ∧
    (s.TrimMoves l d → low < s.regBits Reg.CK_AVFS_CFG 39 32 → t.trimOf d at_ = v - 1) ∧
    (s.TrimMoves l d → s.regBits Reg.CK_AVFS_CFG 39 32 ≤ low → low ≤ s.regBits Reg.CK_AVFS_CFG 47 40 → t.trimOf d at_ = v) ∧
    (s.TrimMoves l d → s.regBits Reg.CK_AVFS_CFG 39 32 ≤ low → s.regBits Reg.CK_AVFS_CFG 47 40 < low → v < s.trimTop → t.trimOf d at_ = v + 1) ∧
    (s.TrimMoves l d → s.regBits Reg.CK_AVFS_CFG 39 32 ≤ low → s.regBits Reg.CK_AVFS_CFG 47 40 < low → s.trimTop ≤ v → t.trimOf d at_ = v) := by
  intro low at_ v t
  have hmoved (hm : s.TrimMoves l d) : t.trimOf d at_ = s.stepTrim low v := (trimOf_avfs hc hp hd).trans (if_pos ⟨rfl, hm⟩)
  refine ⟨fun level hn => ?_, fun hm h => ?_, fun hm h hh => ?_, fun hm h hh hv => ?_, fun hm h hh hv => ?_⟩
  · exact (trimOf_avfs hc hp hd).trans (if_neg fun h => hn.elim (absurd h.2) (absurd h.1))
  · rw [hmoved hm, stepTrim, if_pos h]
  · rw [hmoved hm, stepTrim, if_neg (Nat.not_lt.2 h), if_neg (Nat.not_lt.2 hh)]
  · rw [hmoved hm, stepTrim, if_neg (Nat.not_lt.2 h), if_pos hh]
    omega
  · rw [hmoved hm, stepTrim, if_neg (Nat.not_lt.2 h), if_pos hh]
    omega

/-- Settles O53: the PLL, level changes, the regulators' handshake, the AVFS loop and droops. -/
theorem clocksAndRails : Obligations.ClocksAndRails := by
  refine ⟨⟨fun s => ⟨fun h => ?_, fun h => ?_, fun h => ⟨?_, ?_⟩, fun h => ⟨?_, ?_⟩, fun h => ⟨fun l => ?_, fun d => ⟨fun x => ?_, ?_, ?_⟩⟩⟩,
      fun h v s ho => ?_,
      fun rail s => ⟨fun h => ⟨?_, ?_⟩, fun h => ⟨fun hm => ?_, fun m hm => ⟨fun ha => ?_, fun ha => ?_⟩, fun hm => ?_,
        fun m hm => ⟨fun ha => ?_, fun ha => ?_⟩⟩, fun h => ?_, fun h => ?_⟩⟩,
    fun l s h => ?_, fun l s hs hc hp => ⟨s.keep (s.avfs l), ?_, fun d hd => avfsPeriod_trims l hc hp hd⟩,
    fun d x s => ⟨fun h => ?_, fun hs h hr => ⟨fun hn => ?_, fun ha h0 => ?_⟩⟩⟩
  -- the PLL
  · exact congrArg _ (keep_eq (pllUnlockOp_unlocked h) rfl)
  · exact congrArg _ (congrArg s.keep (pllUnlockOp_locked h))
  · exact congrArg _ (congrArg s.done (relockedOp_idle h))
  · exact congrArg _ (congrArg s.done (pllFailOp_idle h))
  · exact congrArg _ ((congrArg s.done (pllFailOp_relocking h)).trans (done_of_stopped (clocksStopped_pllFailed ..)))
  · exact congrArg _ (congrArg s.done (relockedOp_relocking h))
  · exact congrArg _ (whenClocked_stopped h _)
  · exact congrArg _ (whenClocked_stopped h _)
  · exact congrArg _ (whenClocked_stopped h _)
  · exact congrArg _ (whenClocked_stopped h _)
  -- levels and regulators
  · exact congrArg _ (congrArg s.keep (barWrite_open (.levelChange h v) (levelWrite h v) ho))
  · exact congrArg _ (keep_eq (vregAcked_idle h) rfl)
  · exact congrArg _ (keep_eq (vregTimeoutOp_idle h) rfl)
  · exact congrArg _ (keep_eq (vregAcked_no_change h hm) rfl)
  · exact congrArg _ (keep_eq (vregAcked_unasked h hm ha) rfl)
  · exact congrArg _ (congrArg s.keep (vregAcked_asked h hm ha))
  · exact congrArg _ (congrArg s.keep (vregTimeoutOp_no_change h hm))
  · exact congrArg _ (congrArg s.keep (vregTimeoutOp_unasked h hm ha))
  · exact congrArg _ (congrArg s.keep (vregTimeoutOp_asked h hm ha))
  · exact congrArg _ (keep_eq (vregAckFell_idle h) rfl)
  · exact congrArg _ (congrArg s.keep (vregAckFell_falls h))
  -- the AVFS loop and droops
  · exact exec_of_idle rfl (avfs_off l h)
  · exact exec_of_clocked rfl hs rfl
  · exact exec_of_idle rfl (droopOp_none h)
  · exact exec_of_clocked rfl hs (congrArg s.keep (droopOp_first h hr hn))
  · exact exec_of_clocked rfl hs (congrArg s.keep (droopOp_again h hr ha h0))

end Sys2Proof.Machine

/-! ## Entries of the power domains (O54) -/

namespace Sys2Proof.Machine

open State

namespace State

/-! ### The refuser at the end of the quiesce cycles (R377) -/

theorem quiesceRefuser_of_refuser {d : Nat} {s : State} (h : s.refuser d ≠ 0) : s.quiesceRefuser d = s.refuser d := if_pos h

theorem quiesceRefuser_of_none {d : Nat} {s : State} (h : s.refuser d = 0) : s.quiesceRefuser d = if s.unitBusy d = true then 2 else 0 :=
  if_neg (not_not_intro h)

end State

/-! ### The timers -/

section
variable {c : Instr} {d timer : Nat} {a b : PmSt} {s : State} (hc : exec c s = .next (s.keep (s.tryEntry d a b timer)))
include hc

/-- A timer's expiry answers what `tryEntry` gives, where that takes no command. -/
theorem nexts_tryEntry {t : State} (h : s.tryEntry d a b timer = t) (hp : t.pending = s.pending) : Nexts c s t :=
  Nexts.of_keep hc (keep_eq h hp)

/-- The entry that a timer's expiry begins, ends refused or aborted, or leaves alone (R372, R374, R377). -/
theorem timer_expires :
    (¬ s.MayEnter d a b timer → Nexts c s s) ∧
    (s.MayEnter d a b timer → s.refuser d = 0 → s.levelSource d = false → Nexts c s (s.setDom d { s.dom d with entering := some b })) ∧
    (s.MayEnter d a b timer → s.refuser d = 0 → s.levelSource d = true → Nexts c s (s.abortEntry d)) ∧
    (s.MayEnter d a b timer → s.refuser d ≠ 0 → Nexts c s (s.refuseEntry d (s.refuser d))) :=
  ⟨fun hm => nexts_tryEntry hc (tryEntry_stays hm) rfl,
    fun hm hr hl => nexts_tryEntry hc (tryEntry_enters hm hr hl) rfl,
    fun hm hr hl => nexts_tryEntry hc (tryEntry_aborted hm hr hl) rfl,
    fun hm hr => nexts_tryEntry hc (tryEntry_refused hm hr) rfl⟩

end

/-! ### The final window and the save -/

section
variable {d : Fin 96} {s : State}

/-- The end of a final window (R373, R376). -/
theorem entryCommit_nexts {t : PmSt} (h : (s.dom d.val).entering = some t) :
    (s.quiesceRefuser d.val ≠ 0 →
      Nexts (.entryCommit d) s (s.keep ((s.refuseEntry d.val (s.quiesceRefuser d.val)).seeLevels d.val))) ∧
    (s.quiesceRefuser d.val = 0 → s.Unsaved d.val t → Nexts (.entryCommit d) s s) ∧
    (s.quiesceRefuser d.val = 0 → ¬ s.Unsaved d.val t → Nexts (.entryCommit d) s
      (s.keep (((s.setDom d.val { s.dom d.val with st := t, entering := none }).entered d.val t).seeLevels d.val))) :=
  ⟨fun hr => Nexts.of_clocked rfl (congrArg s.keep (entryCommitOp_refused h hr)),
    fun hr hs => Nexts.of_clocked rfl (keep_eq (entryCommitOp_unsaved h hr hs) rfl),
    fun hr hs => Nexts.of_clocked rfl (congrArg s.keep (entryCommitOp_commits h hr hs))⟩

end

/-- Settles O54: the timers of the domains, the end of an entry's final window, and the save of a bank. -/
theorem domainEntries : Obligations.DomainEntries := by
  refine fun d s => ⟨fun c a b timer hc => ?_, fun h => ?_, quiesceRefuser_of_refuser, quiesceRefuser_of_none, fun t ht => ?_,
    fun bank hd => ⟨fun h ok => ?_, fun h => ⟨?_, ?_⟩⟩⟩
  · simp only [List.mem_cons, List.not_mem_nil, or_false, Prod.mk.injEq] at hc
    rcases hc with ⟨rfl, rfl, rfl, rfl⟩ | ⟨rfl, rfl, rfl, rfl⟩ | ⟨rfl, rfl, rfl, rfl⟩ <;> exact timer_expires rfl
  · exact Nexts.of_clocked rfl (keep_eq (entryCommitOp_idle h) rfl)
  · obtain ⟨hrefused, hunsaved, hcommits⟩ := entryCommit_nexts ht
    refine ⟨hrefused, fun hr h1 h2 h3 h4 => hunsaved hr ⟨h1, h2, h3, h4⟩, fun hr h => hcommits hr fun ⟨h1, h2, h3, h4⟩ => ?_⟩
    rcases h with h | h | h | h
    · exact h h1
    · omega
    · omega
    · exact h4 h
  · rw [hd] at h
    exact Nexts.of_clocked rfl (keep_eq (saveDone_idle h ok) rfl)
  · rw [hd] at h
    exact Nexts.of_clocked rfl (keep_eq (saveDone_saved h) rfl)
  · rw [hd] at h ⊢
    exact Nexts.of_clocked rfl (congrArg s.keep (saveDone_failed h))

end Sys2Proof.Machine

/-! ## Occurrences of errors (O57) -/

namespace Sys2Proof.Machine

open State

namespace State

/-- An occurrence with its status bit and its capture, before what it does to its unit (R388, R390). -/
def reported (e : ErrEvent) (s : State) : State := (s.injected e.blk.val e.bit.toNat).raise e.blk.val e.bit.toNat (captureOf e)

/-- An event FIFO's overrun marks the class that dropped an event (R381). -/
def markOverrun (e : ErrEvent) (s : State) : State :=
  if e.blk.val = 13 ∧ e.bit.toNat = Err.CK_XING_OVERRUN then
    s.setReg Reg.CK_XING_OVERRUN (setBit (s.reg Reg.CK_XING_OVERRUN) (e.unit.toNat % 3) true)
  else s

section
variable {e : ErrEvent} {s : State}

/-! ### What an occurrence does to its unit -/

/-- The blocks whose sources have no unit work. -/
theorem errEffect_unitless (h : e.blk.val ∈ [11, 12, 13, 14, 16, 17]) (s : State) : s.errEffect e = s.markOverrun e := by
  simp only [List.mem_cons, List.not_mem_nil, or_false] at h
  rcases h with h | h | h | h | h | h <;> simp [errEffect, markOverrun, h]

/-- A Gazelle's buffer (R97, R391): what the unit has in hand fails, which at severity 1 or 2 is a unit fault. -/
theorem errEffect_gazelleBuffer (hb : e.blk.val = 1) (hi : e.bit.toNat = Err.GZ_BUF_UNCORR)
    (hsev : s.severity e.blk.val e.bit.toNat = 1 ∨ s.severity e.blk.val e.bit.toNat = 2) :
    s.errEffect e = (s.gzFault (e.unit.toNat % 8)).unitFault e.blk.val e.bit.toNat (Dom.gazelle (e.unit.toNat % 8)) := by
  rw [hb, hi] at hsev ⊢
  simp only [errEffect, hb, hi, decide_eq_true hsev, if_true]

theorem unitFault_first {b i d : Nat} (h : Map.find? d s.strikes = none) :
    s.unitFault b i d = { s with strikes := Map.insert d (b, i, s.now) s.strikes } := by
  simp only [unitFault, h]

theorem unitFault_again {b i d : Nat} {x : Nat × Nat × Nat} (h : Map.find? d s.strikes = some x) :
    s.unitFault b i d = ({ s with strikes := Map.erase d s.strikes }.markCapture b i s.now 60).askFence d := by
  simp only [unitFault, h]

/-! ### The severities (R389, R394) -/

theorem errorOp_unimplemented (h : bit (errMask e.blk.val) e.bit.toNat = false) : s.errorOp e = s := by
  simp only [errorOp, h, Bool.not_false, if_true]

variable (h : bit (errMask e.blk.val) e.bit.toNat = true)
include h

theorem errorOp_milder (hsev : s.severity e.blk.val e.bit.toNat ≠ 3) : s.errorOp e = (s.reported e).errEffect e := by
  simp only [errorOp, reported, h, hsev, Bool.not_true, Bool.false_eq_true, if_false, if_true, ne_eq, not_false_eq_true]

variable (hsev : s.severity e.blk.val e.bit.toNat = 3)
include hsev

theorem errorOp_fences {d : Nat} (hd : errDomain e.blk.val e.unit.toNat e.bit.toNat = some d) :
    s.errorOp e =
      (((s.reported e).errEffect e).markCapture e.blk.val e.bit.toNat ((s.reported e).errEffect e).now 60).askFence d := by
  simp only [errorOp, reported, h, hsev, hd, Bool.not_true, Bool.false_eq_true, if_false, ne_eq, not_true_eq_false]

theorem errorOp_fatal (hd : errDomain e.blk.val e.unit.toNat e.bit.toNat = none) : s.errorOp e = ((s.reported e).errEffect e).raiseFatal := by
  simp only [errorOp, reported, h, hsev, hd, Bool.not_true, Bool.false_eq_true, if_false, ne_eq, not_true_eq_false]

end

end State

/-- Settles O57: occurrences without unit work, by severity, and a Gazelle's buffer error with its strikes. -/
theorem errorEvents : Obligations.ErrorEvents := by
  refine fun e s => ⟨fun h => Ends.of_done rfl (errorOp_unimplemented h), fun h hb => ?_, fun h hb hi hr hsev => ?_⟩
  · have heff := errEffect_unitless hb (s.reported e)
    refine ⟨fun hsev => ?_, fun d hsev hd => ?_, fun hsev hd => ?_⟩
    · exact Ends.of_done rfl ((errorOp_milder h hsev).trans heff)
    · exact Ends.of_done rfl ((errorOp_fences h hsev hd).trans (by rw [heff]; rfl))
    · exact Ends.of_done rfl ((errorOp_fatal h hsev hd).trans (congrArg raiseFatal heff))
  · have hn : ¬(e.blk.val = 13 ∧ e.bit.toNat = Err.CK_XING_OVERRUN) := fun h13 => absurd (hb.symm.trans h13.1) (by decide)
    simp only [if_neg hn] at hr ⊢
    have hop := (errorOp_milder h (by omega)).trans (errEffect_gazelleBuffer (s := s.reported e) hb hi (by rwa [← hr] at hsev))
    exact ⟨fun hs => Ends.of_done rfl (hop.trans (unitFault_first hs)), fun x hs => Ends.of_done rfl (hop.trans (unitFault_again hs))⟩

end Sys2Proof.Machine

/-! ## What a read of device memory leaves alone -/

namespace Sys2Proof.Machine

open State

/-- An engine operation that leaves a part of the block as it is, however it ends. -/
def M.Keeps {α β : Type} (p : State → β) (x : M α) : Prop := ∀ s, p (x.exec s).2 = p s

namespace M

section
variable {α β γ : Type} {p : State → γ}

theorem Keeps.pure (a : α) : Keeps p (Pure.pure a : M α) := fun _ => rfl

theorem Keeps.bind {x : M α} {f : α → M β} (hx : Keeps p x) (hf : ∀ a, Keeps p (f a)) : Keeps p (x >>= f) := by
  intro s
  have hs := hx s
  have hbind : (x >>= f).exec s = match x.exec s with | (.ok a, t) => (f a).exec t | (.error e, t) => (.error e, t) := by
    simp only [exec, ExceptT.run, Bind.bind, ExceptT.bind, ExceptT.mk, StateT.bind]
    rcases x s with ⟨_ | _, _⟩ <;> rfl
  rw [hbind]
  split
  next a t he =>
    rw [he] at hs
    exact (hf a t).trans hs
  next he =>
    rw [he] at hs
    exact hs

theorem exec_get_bind (f : State → M α) (s : State) : (get >>= f).exec s = (f s).exec s := rfl

theorem Keeps.ite {c : Prop} [Decidable c] {x y : M α} (hx : Keeps p x) (hy : Keeps p y) : Keeps p (if c then x else y) := by
  split
  · exact hx
  · exact hy

theorem Keeps.mapM {f : α → M β} (hf : ∀ a, Keeps p (f a)) (l : List α) : Keeps p (l.mapM f) := by
  induction l with
  | nil => exact .pure []
  | cons a l ih =>
    rw [List.mapM_cons]
    exact (hf a).bind fun b => ih.bind fun bs => .pure (b :: bs)

end

end M

theorem Map.find?_erase_above {α : Type} {k j : Nat} (h : k < j) (m : NMap α) : Map.find? j (Map.erase k m) = Map.find? j m := by
  induction m with
  | nil => rfl
  | cons e m ih =>
    obtain ⟨i, w⟩ := e
    simp only [Map.erase]
    split
    next hi =>
      subst hi
      simp only [Map.find?, Nat.ne_of_lt h, Nat.not_lt.2 (Nat.le_of_lt h), if_false]
    · split
      · rfl
      · simp only [Map.find?, ih]

namespace State

/-- A write of a register leaves a higher one alone, in every state. -/
theorem reg_setReg_above {off o : Nat} (h : off < o) (v : Word) (s : State) : (s.setReg off v).reg o = s.reg o := by
  simp only [reg, setReg, Map.getD, Map.put]
  split
  · rw [Map.find?_erase_above h]
  · rw [Map.find?_insert_other (Nat.ne_of_gt h)]

/-! ### A line read by the block itself (R209) -/

@[simp] theorem tableWrite_regs (a : Nat) (bs : List Byte) (s : State) : (s.tableWrite a bs).regs = s.regs := by
  unfold tableWrite
  simp only [apply_ite State.regs, modSf_regs]
  exact ite_self _

@[simp] theorem sampleLine_regs (line : Nat) (s : State) : (s.sampleLine line).regs = s.regs := by
  simp only [sampleLine, sampleHeat, setMapEntry, apply_ite State.regs, tableWrite_regs, modCh_regs, ite_self]

theorem addTxn_regs (t : Txn) (s : State) : (s.addTxn t).regs = s.regs := by
  simp only [addTxn, modSf_regs, apply_ite State.regs, sampleLine_regs, ite_self]

/-- One line of a read of device memory. -/
def readLine (w : Waiter) (line : Nat) : M (Nat × Option (Line × Bool)) := do
  let s ← get
  match s.ncRead w line with
  | (.data d p, s) => do set s; pure (line, some (d, p))
  | (.waits, s) => do set s; pure (line, none)
  | (.fails st, s) => do set s; failM st

theorem readLine_exec (w : Waiter) (line : Nat) (s : State) :
    (readLine w line).exec s = match s.ncRead w line with
      | (.data d p, t) => (.ok (line, some (d, p)), t)
      | (.waits, t) => (.ok (line, none), t)
      | (.fails st, t) => (.error (.fail st), t) := by
  rw [readLine, M.exec_get_bind]
  split <;> rfl

/-- What a read of device memory makes of its lines: they are put by while one is still on its way. -/
def gathered (w : Waiter) (da len : Nat) (lines : List (Nat × Option (Line × Bool))) : M Bytes :=
  if lines.any fun x => x.2.isNone then do
    let have_ : List Got := lines.filterMap fun x => x.2.map fun d => { who := w, line := x.1, data := some d.1, poison := d.2 }
    act fun s => s.modSf fun f => { f with got := f.got.filter (fun g => !decide (g.who = w) || !have_.any fun h => decide (h.line = g.line)) ++ have_ }
    waitM
  else
    pure (((lines.flatMap fun x => lineBytes (x.2.map (·.1) |>.getD 0)).drop (da % 64)).take len, lines.any fun x => (x.2.map (·.2)).getD false)

theorem deviceRead_eq (w : Waiter) (da len : Nat) :
    deviceRead w da len = (linesOf da len).mapM (readLine w) >>= gathered w da len := rfl

section
variable {off : Nat} (h : Reg.SF_STAT_RETRY < off)
include h

/-- A transaction of a home touches no register but the count of the retries. -/
theorem addHomeTxn_reg (line : Nat) (k : TxnKind) (a : Asker) (s : State) : (s.addHomeTxn line k a).reg off = s.reg off := by
  unfold addHomeTxn addHomeTxnFor
  dsimp only
  split
  next tag retried _ =>
    rw [reg, addTxn_regs]
    cases retried with
    | true => exact reg_setReg_above h _ s
    | false => rfl
  · rfl

theorem ncRead_reg (w : Waiter) (line : Nat) (s : State) : (s.ncRead w line).2.reg off = s.reg off := by
  have hseen : (if sampled (.nc w) then s.sampleLine line else s).reg off = s.reg off := by
    simp only [reg, apply_ite State.regs, sampleLine_regs, ite_self]
  unfold ncRead
  split
  · rfl
  · dsimp only
    split
    · rfl
    · split
      · exact addHomeTxn_reg h ..
      · split
        · split
          · exact addHomeTxn_reg h ..
          · exact hseen
        · exact hseen
        · exact hseen
        · rfl
        · rfl

theorem readLine_reg (w : Waiter) (line : Nat) : M.Keeps (State.reg · off) (readLine w line) := by
  intro s
  have hl := ncRead_reg h w line s
  rw [readLine_exec]
  split <;> next he => exact (he ▸ hl :)

theorem deviceRead_reg (w : Waiter) (da len : Nat) : M.Keeps (State.reg · off) (deviceRead w da len) := by
  rw [deviceRead_eq]
  exact .bind (.mapM (readLine_reg h w) _) fun _ => .ite (.bind (fun _ => rfl) fun _ _ => rfl) (.pure _)

end

end State

end Sys2Proof.Machine

/-! ## The commands of contexts (O59) -/

namespace Sys2Proof.Machine

open State

namespace State

/-! ### A write of RB_CMD (R406) -/

/-- The state in which a command that RB_CMD is given begins. -/
def rbAsked (h : Half) (v : Word) (s : State) : State :=
  let u := s.storeReg Reg.RB_CMD h v
  u.modRb fun r => { r with refused := false, reason := 0, cmd := bits (halfValue h v) 2 0, cmdCtx := u.regBits Reg.RB_SEL 11 0,
                            addr := (u.reg Reg.RB_CKPT_ADDR).toNat }

/-- What command `n` does in the state in which it begins: its conditions in their order, then its effect (R406 Tables 2 and 3). -/
def rbBegins (n : Nat) (t : State) : State :=
  let c := t.rb.cmdCtx
  let fn := t.regBits Reg.RB_CMD 15 8
  let x := t.ctxOf c
  match n with
  | 1 => if x.st ≠ .free then t.rbRefuse 1 else t.setCtx c { x with st := .bound, fn := fn }
  | 2 => if x.st ≠ .bound then t.rbRefuse 1 else t.setCtx c { x with st := .quiescing }
  | 3 => if x.st ≠ .quiescing ∧ x.st ≠ .quiesced then t.rbRefuse 1 else t.ctxResume c
  | 4 => if x.st ≠ .quiesced then t.rbRefuse 1
      else if t.ctxRequests c ≠ [] then t.rbRefuse 3
      else (t.modRb fun r => { r with busy := true, image := t.ctxImage c, issued := false }).ckptStep
  | 5 => if x.st ≠ .free then t.rbRefuse 1 else (t.modRb fun r => { r with busy := true }).restoreStep
  | 6 => if x.st ≠ .quiesced then t.rbRefuse 1
      else if t.ctxServing c then t.rbRefuse 2
      else if t.pageShared c then t.rbRefuse 4
      else if t.vectorBad fn ((t.ctxQueues c).map (·.2)) then t.rbRefuse 5
      else t.ctxRebind c fn
  | _ => if x.st ≠ .quiesced then t.rbRefuse 1
      else if t.ctxServing c then t.rbRefuse 2
      else if t.ctxRequests c ≠ [] then t.rbRefuse 3
      else (t.modRb fun r => { r with busy := true }).releaseStart c

section
variable {h : Half} {v : Word} {s : State}

theorem rbCommand_busy (hb : s.rb.busy = true) (h0 : bits (halfValue h v) 2 0 ≠ 0) : s.rbCommand h v = s.modRb fun r => { r with refused := true } := by
  simp only [rbCommand, hb, h0, if_true, if_false]

theorem rbCommand_idle {n : Nat} (hb : s.rb.busy = false) (hs : s.rb.safe = false) (hn : bits (halfValue h v) 2 0 = n) (h0 : n ≠ 0) :
    s.rbCommand h v = (s.rbAsked h v).rbBegins n := by
  subst hn
  have hs' : (s.rbAsked h v).rb.safe = false := hs
  simp only [rbAsked] at hs'
  simp only [rbCommand, hb, h0, hs', Bool.false_eq_true, if_false]
  rfl

theorem rbCommand_resumes (hb : s.rb.busy = false) (hs : s.rb.safe = false) (hn : bits (halfValue h v) 2 0 = 3)
    (hx : ((s.rbAsked h v).ctxOf (s.rbAsked h v).rb.cmdCtx).st = .quiescing ∨ ((s.rbAsked h v).ctxOf (s.rbAsked h v).rb.cmdCtx).st = .quiesced) :
    s.rbCommand h v = (s.rbAsked h v).ctxResume (s.rbAsked h v).rb.cmdCtx :=
  (rbCommand_idle hb hs hn (by decide)).trans (if_neg fun hne => hx.elim hne.1 hne.2)

end

/-! ### RESUME (R409) -/

/-- The context is BOUND again, with the fields that RB_CTX was given. -/
def rebound (c : Nat) (s : State) : State :=
  s.setCtx c { s.ctxOf c with st := .bound, obs := (s.ctxOf c).obsSet, rsv := (s.ctxOf c).rsvSet }

section
variable {c q : Nat} {s : State}

theorem ctxResume_without_queues (h : s.ctxQueues c = []) : s.ctxResume c = s.rebound c := by
  have hq : (s.rebound c).ctxQueues c = [] := h
  simp only [rebound] at hq
  simp only [ctxResume, hq, sortBy, List.foldl_nil, rebound]

theorem ctxResume_idle (h : s.ctxQueues c = [(q, s.queue q)]) (hst : (s.queue q).st = .idle) (hw : (s.queue q).sqTail ≠ (s.queue q).sqHead) :
    s.ctxResume c = (s.rebound c).setQueue q { s.queue q with st := .fetching } := by
  have hq : (s.rebound c).ctxQueues c = [(q, s.queue q)] := h
  have hv : (s.rebound c).queue q = s.queue q := rfl
  simp only [rebound] at hq hv
  simp only [ctxResume, hq, sortBy, insertBy, List.foldl_nil, List.foldl_cons, hv, hst, rebound, if_pos hw]

theorem ctxResume_fetching (h : s.ctxQueues c = [(q, s.queue q)]) (hst : (s.queue q).st = .fetching) (hh : (s.queue q).head.isSome = true) :
    s.ctxResume c = (s.rebound c).beginWait q := by
  have hq : (s.rebound c).ctxQueues c = [(q, s.queue q)] := h
  have hv : (s.rebound c).queue q = s.queue q := rfl
  simp only [rebound] at hq hv
  simp only [ctxResume, hq, sortBy, insertBy, List.foldl_nil, List.foldl_cons, hv, hst, hh, rebound, if_true]

end

/-! ### CHECKPOINT and RESTORE (R412, R413) -/

/-- The image that a RESTORE reads: its header, then its LENGTH. -/
def imageRead (addr : Nat) : M Bytes := do
  let b ← deviceRead .ckpt addr 64
  let len := leNat ((b.1.drop 24).take 8)
  if 512 ≤ len ∧ len ≤ 512 + 72 * 65536 + 24 * 32768 + 64 then deviceRead .ckpt addr len else pure (b.1, b.2)

theorem imageRead_reg (addr : Nat) : M.Keeps (State.reg · Reg.RB_CMD) (imageRead addr) := by
  have hr (len : Nat) : M.Keeps (State.reg · Reg.RB_CMD) (deviceRead .ckpt addr len) := deviceRead_reg (by decide) .ckpt addr len
  unfold imageRead
  exact (hr 64).bind fun _ => (hr _).ite (.pure _)

theorem forget_reg (w : Waiter) (off : Nat) (s : State) : (s.forget w).reg off = s.reg off := rfl

/-- What a RESTORE into context `c` for function `fn` makes of what it has read. -/
def restored (c fn : Nat) : Except Stop Bytes × State → State
  | (.error .wait, z) => z
  | (.error (.fail _), z) => (z.forget .ckpt).rbRefuse 6
  | (.ok (_, true), z) => (z.forget .ckpt).rbRefuse 6
  | (.ok (img, false), z) => (z.forget .ckpt).ctxRestore c fn img

theorem restoreStep_reads {s : State} (hb : s.rb.busy = true) (hc : s.rb.cmd = 5) :
    s.restoreStep = restored s.rb.cmdCtx (s.regBits Reg.RB_CMD 15 8) ((imageRead s.rb.addr).exec s) := by
  have hread : imageRead s.rb.addr = (do
      let b ← deviceRead .ckpt s.rb.addr 64
      let len := leNat ((b.1.drop 24).take 8)
      if len < 512 ∨ 512 + 72 * 65536 + 24 * 32768 + 64 < len then pure (b.1, b.2) else deviceRead .ckpt s.rb.addr len) := by
    unfold imageRead
    refine congrArg _ (funext fun b => ?_)
    dsimp only
    rw [← ite_not]
    exact ite_congr (propext (by omega)) (fun _ => rfl) fun _ => rfl
  have hreg := imageRead_reg s.rb.addr s
  simp only [restoreStep, hb, hc, Bool.not_true, ne_eq, not_true_eq_false, decide_false, Bool.or_self, Bool.false_eq_true, if_false]
  rw [← hread]
  rcases he : (imageRead s.rb.addr).exec s with ⟨st | ⟨img, poison⟩, z⟩
  · cases st <;> rfl
  · rw [he] at hreg
    cases poison with
    | true => rfl
    | false => simp only [restored, regBits, forget_reg, hreg, Bool.false_eq_true, if_false]

/-- What a CHECKPOINT makes of the write of its image. -/
def written : Except Stop Unit × State → State
  | (.ok (), z) => z.modRb fun r => { r with issued := true }
  | (.error .wait, z) => z
  | (.error (.fail st), z) => (z.postedDone .ckpt (some st)).modRb fun r => { r with issued := true }

theorem ckptStep_writes {s : State} (hb : s.rb.busy = true) (hc : s.rb.cmd = 4) (hi : s.rb.issued = false) :
    s.ckptStep = written ((deviceWrite .ckpt s.rb.addr s.rb.image false 0).exec s) := by
  simp only [ckptStep, hb, hc, hi, Bool.not_true, ne_eq, not_true_eq_false, decide_false, Bool.or_self, Bool.false_eq_true, if_false]
  rcases (deviceWrite .ckpt s.rb.addr s.rb.image false 0).exec s with ⟨⟨_ | _⟩ | _, z⟩ <;> rfl

/-! ### The ends of commands (R408, R411, R414) -/

section
variable {s : State}

theorem quiescedOp_one {c : Nat} {x : Ctx} (h : (s.rb.ctxs.filter fun e => decide (e.2.st = .quiescing)) = [(c, x)]) :
    s.quiescedOp = if s.ctxQuiet c = true then s.setCtx c { x with st := .quiesced } else s := by
  simp only [quiescedOp, h, List.foldl_cons, List.foldl_nil]

/-- What had passed the regions of a context that is released is performed, or its time is over (R198, R411). -/
def regionsPassed (s : State) : Bool :=
  match s.rb.drain with
  | some x => x.1.all (fun w => !s.underWay w) || decide (x.2 ≤ s.now)
  | none => s.ch.ios.all fun r => !s.underWay (.io r.id)

/-- The regions of the context that is released are withdrawn, where they are not yet. -/
def drained (s : State) : State := if s.rb.drain.isNone then s.releaseRegions s.rb.cmdCtx else s

theorem rbCmdEndOp_idle (hb : s.rb.busy = false) (ok : Bool) : s.rbCmdEndOp ok = s := by
  simp only [rbCmdEndOp, hb, Bool.not_false, if_true]

section
variable (hb : s.rb.busy = true)
include hb

theorem rbCmdEndOp_checkpoint (hc : s.rb.cmd = 4) (hi : s.rb.issued = true) (hp : (s.postedOf .ckpt).1 = 0) (ok : Bool) :
    s.rbCmdEndOp ok =
      if ok = true ∧ (s.postedOf .ckpt).2.isNone = true then (s.forget .ckpt).rbDone.bump Reg.RB_STAT_CHECKPOINT
      else ((s.forget .ckpt).rbDone.rbRefuse 9).raise Reg.RB Err.RB_CKPT_WRITE { Capture.none with addr := w64 s.rb.addr, space := 1, access := 1 } := by
  simp only [rbCmdEndOp, hb, hc, hi, hp, Bool.not_true, Bool.false_eq_true, ne_eq, not_true_eq_false, or_self, if_false]
  rfl

theorem rbCmdEndOp_lines_left (hc : s.rb.cmd = 7) (hl : ∃ e ∈ s.dc.lines, s.dcCtx e.1 = s.rb.cmdCtx ∧ e.2.hstate ≠ 0) (ok : Bool) :
    s.rbCmdEndOp ok = s := by
  have hany : (s.dc.lines.any fun e => decide (s.dcCtx e.1 = s.rb.cmdCtx ∧ e.2.hstate ≠ 0)) = true := by simpa using hl
  simp only [rbCmdEndOp, hb, hc, hany, Bool.not_true, Bool.false_eq_true, if_false, if_true]

theorem rbCmdEndOp_released (hc : s.rb.cmd = 7) (hl : ∀ e ∈ s.dc.lines, s.dcCtx e.1 = s.rb.cmdCtx → e.2.hstate = 0) (ok : Bool) :
    s.rbCmdEndOp ok = if s.regionsPassed then s.drained.releaseEnd s.rb.cmdCtx else s.drained := by
  have hany : (s.dc.lines.any fun e => decide (s.dcCtx e.1 = s.rb.cmdCtx ∧ e.2.hstate ≠ 0)) = false := by simpa using hl
  rcases Option.eq_none_or_eq_some s.rb.drain with hd | ⟨x, hd⟩
  · have hnow : ¬ s.now + 10000 ≤ s.now := by omega
    have hio : ((s.ch.ios.map fun r => Waiter.io r.id).all fun w => !(s.releaseRegions s.rb.cmdCtx).underWay w) =
        s.ch.ios.all fun r => !s.underWay (.io r.id) := List.all_map
    simp only [rbCmdEndOp, hb, hc, hany, hd, drained, regionsPassed, ← hio]
    simp [releaseRegions, hnow]
  · simp only [rbCmdEndOp, hb, hc, hany, hd, drained, regionsPassed]
    simp [hd]

end

theorem releaseEnd_busy (c : Nat) (s : State) : (s.releaseEnd c).rb.busy = false := rfl

end

/-! ### A write of RB_CTX (R406) -/

/-- The word that RB_CTX is given. -/
def ctxGiven (h : Half) (v : Word) (s : State) : Word := mergeHalf h (s.ctxWord (s.regBits Reg.RB_SEL 11 0)) v

section
variable {h : Half} {v : Word} {s : State}

theorem ctxWrite_free (hx : (s.ctxOf (s.regBits Reg.RB_SEL 11 0)).st = .free) :
    s.ctxWrite h v = s.setCtx (s.regBits Reg.RB_SEL 11 0)
      { s.ctxOf (s.regBits Reg.RB_SEL 11 0) with
        obs := bit (s.ctxGiven h v) 5, rsv := bits (s.ctxGiven h v) 3 0, obsSet := bit (s.ctxGiven h v) 5, rsvSet := bits (s.ctxGiven h v) 3 0 } := by
  simp only [ctxWrite, hx, ctxGiven]

theorem ctxWrite_quiesced (hx : (s.ctxOf (s.regBits Reg.RB_SEL 11 0)).st = .quiesced) :
    s.ctxWrite h v = s.setCtx (s.regBits Reg.RB_SEL 11 0)
      { s.ctxOf (s.regBits Reg.RB_SEL 11 0) with obsSet := bit (s.ctxGiven h v) 5, rsvSet := bits (s.ctxGiven h v) 3 0 } := by
  simp only [ctxWrite, hx, ctxGiven]

theorem ctxWrite_refused (hx : (s.ctxOf (s.regBits Reg.RB_SEL 11 0)).st = .bound ∨ (s.ctxOf (s.regBits Reg.RB_SEL 11 0)).st = .quiescing) :
    s.ctxWrite h v = s.modRb fun r => { r with refused := true } := by
  rcases hx with hx | hx <;> simp only [ctxWrite, hx]

end

end State

/-- Settles O59: the commands of RB_CMD and their ends, QUIESCED, and the writes of RB_CTX. -/
theorem contextCommands : Obligations.ContextCommands := by
  refine ⟨⟨fun h v s ho => ⟨fun hb h0 => ⟨fun k hk => ?_, fun k hk => ?_⟩,
      fun hb hs => ⟨fun hc hx => ?_, fun hc hx => ?_, fun hc hx => ?_, fun hc hx => ?_,
        fun hc hx => ⟨fun hq => ?_, fun q hq hst hw => ?_, fun q hq hst hh => ?_⟩, fun hc hx => ?_, fun hc hx => ?_,
        fun hc hx => ⟨fun hv => ?_, fun hv hp => ?_, fun hv hp => ⟨fun hm => ?_, fun hm => ?_⟩⟩⟩⟩,
    fun s c x hq => ⟨fun h => ?_, fun h => ?_⟩,
    fun h v s ho => ⟨fun hx => ?_, fun hx => ?_, fun hx => ?_⟩⟩,
    fun h v s ho hb hs => ⟨fun hc hx => ?_, fun hc hx hr => ?_, fun hc hx hr => ?_, fun hc hx => ?_, fun hc hx => ?_, fun hc hx => ?_,
      fun hc hx hv => ?_, fun hc hx hv hr => ?_, fun hc hx hv hr => ?_⟩,
    fun ok s => ⟨fun hb => ?_, fun hb hc hi hp => ⟨fun hok hf => ?_, fun hf => ?_⟩,
      fun hb hc => ⟨fun hl => ?_, fun hl => ⟨fun hp => ⟨?_, releaseEnd_busy _ _⟩, fun hp => ?_⟩⟩⟩⟩
  -- RB_CMD while a command runs
  · simp only [List.mem_cons, List.not_mem_nil, or_false] at hk
    rcases hk with rfl | rfl <;> exact .of_barWrite rfl ho (keep_eq (rbCommand_busy hb h0) rfl)
  · simp only [List.mem_cons, List.not_mem_nil, or_false] at hk
    rcases hk with rfl | rfl <;> exact .of_barWrite rfl ho (rbCommand_busy hb h0)
  -- BIND and QUIESCE
  · exact .of_barWrite rfl ho (keep_eq ((rbCommand_idle hb hs hc (by decide)).trans (if_neg (not_not_intro hx))) rfl)
  · exact .of_barWrite rfl ho (keep_eq ((rbCommand_idle hb hs hc (by decide)).trans (if_pos hx)) rfl)
  · exact .of_barWrite rfl ho (keep_eq ((rbCommand_idle hb hs hc (by decide)).trans (if_neg (not_not_intro hx))) rfl)
  · exact .of_barWrite rfl ho (keep_eq ((rbCommand_idle hb hs hc (by decide)).trans (if_pos hx)) rfl)
  -- RESUME
  · exact .of_barWrite rfl ho ((rbCommand_resumes hb hs hc hx).trans (ctxResume_without_queues hq))
  · exact .of_barWrite rfl ho ((rbCommand_resumes hb hs hc hx).trans (ctxResume_idle hq hst hw))
  · exact .of_barWrite rfl ho ((rbCommand_resumes hb hs hc hx).trans (ctxResume_fetching hq hst hh))
  · refine .of_barWrite rfl ho ((rbCommand_idle hb hs hc (by decide)).trans (if_pos ?_))
    rcases hx with hx | hx <;> exact ⟨fun h => absurd (hx.symm.trans h) (by decide), fun h => absurd (hx.symm.trans h) (by decide)⟩
  -- REBIND
  · exact .of_barWrite rfl ho ((rbCommand_idle hb hs hc (by decide)).trans (if_pos hx))
  · exact .of_barWrite rfl ho ((rbCommand_idle hb hs hc (by decide)).trans ((if_neg (not_not_intro hx)).trans (if_pos hv)))
  · exact .of_barWrite rfl ho ((rbCommand_idle hb hs hc (by decide)).trans
      ((if_neg (not_not_intro hx)).trans ((if_neg (Bool.eq_false_iff.1 hv)).trans (if_pos hp))))
  · exact .of_barWrite rfl ho ((rbCommand_idle hb hs hc (by decide)).trans
      ((if_neg (not_not_intro hx)).trans ((if_neg (Bool.eq_false_iff.1 hv)).trans ((if_neg (Bool.eq_false_iff.1 hp)).trans (if_pos hm)))))
  · exact .of_barWrite rfl ho ((rbCommand_idle hb hs hc (by decide)).trans
      ((if_neg (not_not_intro hx)).trans ((if_neg (Bool.eq_false_iff.1 hv)).trans ((if_neg (Bool.eq_false_iff.1 hp)).trans (if_neg (Bool.eq_false_iff.1 hm))))))
  -- QUIESCED
  · exact .of_clocked rfl (keep_eq ((quiescedOp_one hq).trans (if_pos h)) rfl)
  · exact .of_clocked rfl (keep_eq ((quiescedOp_one hq).trans (if_neg (Bool.eq_false_iff.1 h))) rfl)
  -- RB_CTX
  · exact .of_barWrite rfl ho (keep_eq (ctxWrite_free hx) rfl)
  · exact .of_barWrite rfl ho (keep_eq (ctxWrite_quiesced hx) rfl)
  · exact .of_barWrite rfl ho (keep_eq (ctxWrite_refused hx) rfl)
  -- CHECKPOINT, RESTORE and RELEASE
  · exact .of_barWrite rfl ho ((rbCommand_idle hb hs hc (by decide)).trans (if_pos hx))
  · exact .of_barWrite rfl ho ((rbCommand_idle hb hs hc (by decide)).trans ((if_neg (not_not_intro hx)).trans (if_pos hr)))
  · refine .of_barWrite rfl ho ((rbCommand_idle hb hs hc (by decide)).trans ((if_neg (not_not_intro hx)).trans ((if_neg (not_not_intro hr)).trans ?_)))
    exact ckptStep_writes rfl hc rfl
  · exact .of_barWrite rfl ho ((rbCommand_idle hb hs hc (by decide)).trans (if_pos hx))
  · refine .of_barWrite rfl ho ((rbCommand_idle hb hs hc (by decide)).trans ((if_neg (not_not_intro hx)).trans ?_))
    exact restoreStep_reads rfl hc
  · exact .of_barWrite rfl ho ((rbCommand_idle hb hs hc (by decide)).trans (if_pos hx))
  · exact .of_barWrite rfl ho ((rbCommand_idle hb hs hc (by decide)).trans ((if_neg (not_not_intro hx)).trans (if_pos hv)))
  · exact .of_barWrite rfl ho ((rbCommand_idle hb hs hc (by decide)).trans
      ((if_neg (not_not_intro hx)).trans ((if_neg (Bool.eq_false_iff.1 hv)).trans (if_pos hr))))
  · exact .of_barWrite rfl ho ((rbCommand_idle hb hs hc (by decide)).trans
      ((if_neg (not_not_intro hx)).trans ((if_neg (Bool.eq_false_iff.1 hv)).trans (if_neg (not_not_intro hr)))))
  -- the ends of commands
  · exact .of_clocked rfl (rbCmdEndOp_idle hb ok)
  · exact .of_clocked rfl ((rbCmdEndOp_checkpoint hb hc hi hp ok).trans (if_pos ⟨hok, Option.isNone_iff_eq_none.2 hf⟩))
  · refine .of_clocked rfl ((rbCmdEndOp_checkpoint hb hc hi hp ok).trans (if_neg ?_))
    rintro ⟨hok, hn⟩
    exact hf.elim (fun h => Bool.false_ne_true (h.symm.trans hok)) fun h => h (Option.isNone_iff_eq_none.1 hn)
  · exact .of_clocked rfl (rbCmdEndOp_lines_left hb hc hl ok)
  · exact .of_clocked rfl ((rbCmdEndOp_released hb hc hl ok).trans (if_pos hp))
  · exact .of_clocked rfl ((rbCmdEndOp_released hb hc hl ok).trans (if_neg (Bool.eq_false_iff.1 hp)))

end Sys2Proof.Machine

/-! ## Recording and replay (O60) -/

namespace Sys2Proof.Machine

open State

namespace State

/-! ### The mode (R415, R416, R419) -/

/-- MODE of RP_CTRL, its reserved code as 0. -/
def rpMode (s : State) : Nat := s.regBits Reg.RP_CTRL 1 0 % 3

/-- A change of MODE ends the recording or the replay that runs. -/
def modeEnded (s : State) : State := if s.rp.replaying then s.replayStop 4 none else s.modRp fun r => { r with recording := false, fifo := [] }

/-- A replay at its start. -/
def replayBegun (s : State) : State :=
  s.modRp fun r => { r with replaying := true, ending := 0, differed := false, cursor := (s.reg Reg.RP_REPLAY_START).toNat, since := none,
                            forced := [], seen := [], expect := [] }

section
variable {h : Half} {v : Word} {s : State}

theorem rpCtrl_same (he : s.rpMode = (s.storeReg Reg.RP_CTRL h v).rpMode) : s.rpCtrl h v = s.storeReg Reg.RP_CTRL h v := if_pos he

section
variable (hne : s.rpMode ≠ (s.storeReg Reg.RP_CTRL h v).rpMode)
include hne

theorem rpCtrl_off (hn : (s.storeReg Reg.RP_CTRL h v).rpMode = 0) : s.rpCtrl h v = (s.storeReg Reg.RP_CTRL h v).modeEnded := by
  simp only [rpMode] at hne hn
  simp only [rpCtrl, hn, if_neg (hn ▸ hne), modeEnded]

theorem rpCtrl_record (hn : (s.storeReg Reg.RP_CTRL h v).rpMode = 1) : s.rpCtrl h v = (s.storeReg Reg.RP_CTRL h v).modeEnded.recordStart := by
  simp only [rpMode] at hne hn
  simp only [rpCtrl, hn, if_neg (hn ▸ hne), modeEnded]

theorem rpCtrl_replay (hn : (s.storeReg Reg.RP_CTRL h v).rpMode = 2) (hf : (s.storeReg Reg.RP_CTRL h v).modeEnded.isFenced Dom.recorder = false) :
    s.rpCtrl h v = (s.storeReg Reg.RP_CTRL h v).modeEnded.replayBegun := by
  simp only [rpMode, modeEnded] at hne hn hf
  simp only [rpCtrl, hn, if_neg (hn ▸ hne), modeEnded, hf, Bool.false_eq_true, if_false]
  rfl

end

end

section
variable {s : State}

theorem recordStart_unusable (hu : s.ringUsable = false) : s.recordStart = s := by
  simp only [recordStart, hu, Bool.not_false, true_or, if_true]

/-! ### The next event of the FIFO (R417, R418) -/

theorem recordEventOp_empty (hf : s.rp.fifo = []) : s.recordEventOp = s := by simp only [recordEventOp, hf]

section
variable {e : RpEvent} {rest : List RpEvent} (hf : s.rp.fifo = e :: rest)
include hf

theorem recordEventOp_stopped (hr : s.rp.recording = false) : s.recordEventOp = s.modRp fun r => { r with fifo := [] } := by
  simp only [recordEventOp, hf, hr, Bool.not_false, if_true]

variable (hr : s.rp.recording = true)
include hr

theorem recordEventOp_record (hl : s.rp.lost = 0) : s.recordEventOp = (s.modRp fun r => { r with fifo := rest }).addRecord e := by
  simp only [recordEventOp, hf, hr, hl, modRp_rp, Bool.not_true, Bool.false_eq_true, if_false, if_true]

/-- What was lost is counted first, which may end the recording. -/
theorem recordEventOp_gap (hl : s.rp.lost ≠ 0) :
    s.recordEventOp =
      let g := (s.modRp fun r => { r with lost := 0 }).addRecord (s.ownEvent 0x0F (w64 s.rp.lost) 0)
      let u := g.modRp fun r => { r with fifo := rest }
      if g.rp.recording then u.addRecord e else u := by
  have hgap (g : State) : (if (g.modRp fun r => { r with fifo := rest }).rp.recording then (g.modRp fun r => { r with fifo := rest }).addRecord e
      else g.modRp fun r => { r with fifo := rest }) =
      if g.rp.recording then (g.modRp fun r => { r with fifo := rest }).addRecord e else g.modRp fun r => { r with fifo := rest } := rfl
  simp only [recordEventOp, hf, hr, hl, Bool.not_true, Bool.false_eq_true, if_false]
  exact hgap _

end

/-! ### The next record of the ring (R419, R420) -/

/-- Where the record behind one of `len` units lies. -/
def cursorAfter (len : Nat) (s : State) : Nat := if s.ringBytes ≤ s.rp.cursor + 32 * len then 4096 else s.rp.cursor + 32 * len

/-- The replay goes on at `next` behind a record, which is to be compared where it tells of what happens. -/
def pastRecord (e : RpEvent) (next seq : Nat) (s : State) : State :=
  s.modRp fun r => { r with cursor := next, since := none, last := (seq, e.type),
                            expect := if e.type = 0x04 ∨ e.type = 0x0B ∨ e.type = 0x0E then r.expect ++ [(e, seq)] else r.expect }

section
variable {e : RpEvent} (hn : ¬(e.type = 0x04 ∨ e.type = 0x0B ∨ e.type = 0x0E)) (next seq : Nat) (s : State)
include hn

theorem pastRecord_uncompared : s.pastRecord e next seq = s.modRp fun r => { r with cursor := next, since := none, last := (seq, e.type) } := by
  simp only [pastRecord, if_neg hn]

theorem pastRecord_expect : (s.pastRecord e next seq).rp.expect = s.rp.expect := if_neg hn

end

/-- A replay ends behind the record at RP_REPLAY_END. -/
def endAt (off : Nat) (s : State) : State := if off = (s.reg Reg.RP_REPLAY_END).toNat then s.replayStop 1 none else s

theorem endAt_modRp (off : Nat) (f : Rp → Rp) (s : State) :
    (s.modRp f).endAt off = if off = (s.reg Reg.RP_REPLAY_END).toNat then (s.modRp f).replayStop 1 none else s.modRp f := rfl

theorem compareSeen_nothing (h : s.rp.expect = []) : compareSeen s.rp.expect s = s := by
  rw [h]
  rfl

theorem replayRecordOp_stopped (hr : s.rp.replaying = false) : s.replayRecordOp = s := by
  simp only [replayRecordOp, hr, Bool.not_false, if_true]

theorem divergeOp_idle (h : s.rp.replaying = false ∨ s.rp.since = none) : s.divergeOp = s := by
  rcases h with h | h <;> simp only [divergeOp, h, Bool.not_false, Option.isNone_none, true_or, or_true, if_true]

section
variable (hr : s.rp.replaying = true)
include hr

theorem replayRecordOp_forcedOut (hf : s.forcedOut = true) :
    s.replayRecordOp = s.modRp fun r => { r with since := some (r.since.getD s.now) } := by
  simp only [replayRecordOp, hr, hf, Bool.not_true, Bool.false_eq_true, if_false, if_true]

section
variable {t : State} (hf : s.forcedOut = false)
include hf

theorem replayRecordOp_waits (he : (s.recordAt s.rp.cursor).exec s = (.error .wait, t)) : s.replayRecordOp = t := by
  simp only [replayRecordOp, hr, hf, he, Bool.not_true, Bool.false_eq_true, if_false]

theorem replayRecordOp_unreadable {st : Nat} (he : (s.recordAt s.rp.cursor).exec s = (.error (.fail st), t)) :
    s.replayRecordOp = t.replayStop 3 none := by
  simp only [replayRecordOp, hr, hf, he, Bool.not_true, Bool.false_eq_true, if_false]

section
variable {e : RpEvent} {len seq : Nat} (he : (s.recordAt s.rp.cursor).exec s = (.ok (e, len, seq), t))
include he

theorem replayRecordOp_gap (hg : e.type = 0x0F) : s.replayRecordOp = (t.forget .recorder).replayStop 2 (some (seq, 0x0F)) := by
  simp only [replayRecordOp, hr, hf, he, hg, Bool.not_true, Bool.false_eq_true, if_false, if_true]

theorem replayRecordOp_forces {u : State} (hg : e.type ≠ 0x0F) (hu : (t.forget .recorder).forceRecord e = some u) :
    let w := u.pastRecord e ((t.forget .recorder).cursorAfter len) seq
    s.replayRecordOp = (compareSeen w.rp.expect w).endAt (t.forget .recorder).rp.cursor := by
  simp only [replayRecordOp, hr, hf, he, hu, hg, Bool.not_true, Bool.false_eq_true, if_false]
  rfl

/-- A record whose decision is forced, where nothing is compared. -/
theorem replayRecordOp_uncompared {u : State} (hg : e.type ∉ [0x04, 0x0B, 0x0E, 0x0F]) (hu : (t.forget .recorder).forceRecord e = some u)
    (hx : u.rp.expect = []) :
    s.replayRecordOp =
      (u.modRp fun r => { r with cursor := (t.forget .recorder).cursorAfter len, since := none, last := (seq, e.type) }).endAt
        (t.forget .recorder).rp.cursor := by
  simp only [List.mem_cons, List.not_mem_nil, or_false, not_or] at hg
  obtain ⟨h4, hb, he', hf'⟩ := hg
  have hn : ¬(e.type = 0x04 ∨ e.type = 0x0B ∨ e.type = 0x0E) := by simp only [h4, hb, he', or_self, not_false_eq_true]
  rw [replayRecordOp_forces hr hf he hf' hu, compareSeen_nothing ((pastRecord_expect hn ..).trans hx), pastRecord_uncompared hn]

end

theorem divergeOp_record {e : RpEvent} {len seq : Nat} (hs : s.rp.since ≠ none) (he : (s.recordAt s.rp.cursor).exec s = (.ok (e, len, seq), t)) :
    s.divergeOp = t.replayStop 3 (some (seq, e.type)) := by
  simp only [divergeOp, hr, hf, he, Option.isNone_iff_eq_none, hs, Bool.not_true, Bool.false_eq_true, or_self, if_false]

theorem divergeOp_unreadable {st : Stop} (hs : s.rp.since ≠ none) (he : (s.recordAt s.rp.cursor).exec s = (.error st, t)) :
    s.divergeOp = t.replayStop 3 none := by
  simp only [divergeOp, hr, hf, he, Option.isNone_iff_eq_none, hs, Bool.not_true, Bool.false_eq_true, or_self, if_false]

end

theorem divergeOp_forcedOut (hs : s.rp.since ≠ none) (hf : s.forcedOut = true) : s.divergeOp = s.replayStop 3 (some s.rp.last) := by
  simp only [divergeOp, hr, hf, Option.isNone_iff_eq_none, hs, Bool.not_true, Bool.false_eq_true, or_self, if_false, if_true]

end

theorem forceRecord_start {e : RpEvent} (he : e.type = 0x03) :
    s.forceRecord e = some (s.modRp fun r => { r with forced := r.forced ++ [.start e.source] }) := by
  simp only [forceRecord, he]

/-- A PAD and a START_REC force nothing. -/
theorem forceRecord_own {e : RpEvent} (he : e.type = 0x10 ∨ e.type = 0x11) : s.forceRecord e = some s := by
  rcases he with he | he <;> simp only [forceRecord, he]

end

end State

/-- Settles O60: the changes of MODE, the next event that is recorded, the next record that is replayed, and the timeout of a replay. -/
theorem recordAndReplay : Obligations.RecordAndReplay := by
  refine ⟨fun c h v s hc ho => ?_, fun s => ⟨fun hf => ?_, fun e rest hf => ⟨fun hr => ?_, fun hr hl => ?_, fun hr hl => ?_⟩⟩,
    fun s => ⟨fun hr => ⟨?_, ?_⟩, fun hr hf => ?_, fun hr hf => ?_, fun hr hs => ?_, fun hr hs hf => ?_, fun hr hs hf => ?_⟩⟩
  · have hexec : ∃ d, exec c s = .next (s.done (s.barWrite Reg.RP_CTRL d (rpCtrl h v))) := by
      simp only [List.mem_cons, List.not_mem_nil, or_false] at hc
      rcases hc with rfl | rfl | rfl <;> exact ⟨_, rfl⟩
    obtain ⟨d, hexec⟩ := hexec
    refine ⟨fun he => .of_barWrite hexec ho (rpCtrl_same he), fun hne => ⟨fun hn => ?_, fun hn _ _ => ?_, fun hn hu => ?_, fun hn hf => ?_⟩⟩
    · exact .of_barWrite hexec ho (rpCtrl_off hne hn)
    · exact .of_barWrite hexec ho (rpCtrl_record hne hn)
    · exact .of_barWrite hexec ho ((rpCtrl_record hne hn).trans (recordStart_unusable hu))
    · exact .of_barWrite hexec ho (rpCtrl_replay hne hn hf)
  -- RECORD_EVENT
  · exact .of_clocked rfl (recordEventOp_empty hf)
  · exact .of_clocked rfl (recordEventOp_stopped hf hr)
  · exact .of_clocked rfl (recordEventOp_record hf hr hl)
  · exact .of_clocked rfl (recordEventOp_gap hf hr hl)
  -- REPLAY_RECORD and DIVERGE_TIMEOUT
  · exact .of_clocked rfl (replayRecordOp_stopped hr)
  · exact .of_clocked rfl (keep_eq (divergeOp_idle (.inl hr)) rfl)
  · exact .of_clocked rfl (replayRecordOp_forcedOut hr hf)
  · rcases he : (s.recordAt s.rp.cursor).exec s with ⟨(st | _) | ⟨e, len, seq⟩, t⟩
    · exact .of_clocked rfl (replayRecordOp_unreadable hr hf he)
    · exact .of_clocked rfl (replayRecordOp_waits hr hf he)
    · refine ⟨fun hg => .of_clocked rfl (replayRecordOp_gap hr hf he hg), fun h3 hx hn => .of_clocked rfl ?_, fun ho hx => .of_clocked rfl ?_⟩
      · exact (replayRecordOp_uncompared hr hf he (by simp [h3]) (forceRecord_start h3) hx).trans ((endAt_modRp ..).trans (if_neg hn))
      · exact (replayRecordOp_uncompared hr hf he (by rcases ho with ho | ho <;> simp [ho]) (forceRecord_own ho) hx).trans (endAt_modRp ..)
  · exact .of_clocked rfl (keep_eq (divergeOp_idle (.inr hs)) rfl)
  · exact .of_clocked rfl (congrArg s.keep (divergeOp_forcedOut hr hs hf))
  · rcases he : (s.recordAt s.rp.cursor).exec s with ⟨st | ⟨e, len, seq⟩, t⟩
    · exact .of_clocked rfl (congrArg s.keep (divergeOp_unreadable hr hf hs he))
    · exact .of_clocked rfl (congrArg s.keep (divergeOp_record hr hf hs he))

end Sys2Proof.Machine

/-! ## What queue, counter, context, segment, clock and hold commands leave alone (O6) -/

namespace Sys2Proof.Machine

open State

namespace State

/-- Memory as the block and the host hold it: the bytes, the poison, the device cache's lines and the filter's entries. -/
def held (s : State) : List Host.Cell × List Host.Cell × List Nat × NMap DcLine × NMap SfEntry :=
  (s.mem, s.hostMem, s.poison, s.dc.lines, s.sf.entries)

theorem unreported_held : Unreported held where
  reg _ _ _ := rfl
  up _ _ := rfl
  out _ _ := rfl
  free _ := rfl
  events _ _ := rfl

theorem held_ite {c : Prop} [Decidable c] {s x y : State} (hx : x.held = s.held) (hy : y.held = s.held) :
    (if c then x else y).held = s.held := by
  split
  · exact hx
  · exact hy

/-! ### Registers -/

theorem held_crossAll {f : State → State} (hf : ∀ s, (f s).held = s.held) (ds : List Nat) (c : Instr) (s : State) :
    (crossAll ds c (unsupported true) f s).held = s.held := by
  induction ds generalizing s with
  | nil => exact hf s
  | cons d ds ih =>
    change (crossE d c (unsupported true) (crossAll ds c (unsupported true) f) s).held = s.held
    unfold crossE
    split
    · rfl
    · split
      · exact unreported_held.unsupported true s
      · split
        · exact ih s
        · rfl

/-- A register write of the host leaves memory alone, made, refused or waiting, where its effect does. -/
theorem held_barWrite {f : State → State} (hf : ∀ s, (f s).held = s.held) (off : Nat) (c : Instr) (s : State) :
    (s.barWrite off c f).held = s.held := by
  unfold barWrite hostPosted
  split
  · exact unreported_held.unsupported true s
  · split
    · rfl
    · exact held_crossAll hf _ c s

theorem held_registerRead (c : Instr) (off size : Nat) (s : State) : (registerRead c off size s).2.held = s.held := by
  have hclear (a : Nat) (h : Half) : (s.readClears a h).held = s.held := by
    unfold readClears
    split
    · rfl
    · exact held_ite rfl rfl
  unfold registerRead
  repeat' split
  all_goals first | rfl | exact unreported_held.unsupported false s | exact hclear ..

/-! ### Queues and counters -/

theorem held_queueCmd (ok : Queue → Bool) {f : Nat → State → State} (hf : ∀ q s, (f q s).held = s.held) (s : State) :
    (s.queueCmd ok f).held = s.held := by
  simp only [queueCmd]
  split
  · rfl
  · exact hf _ _

theorem held_queueEnable (s : State) : s.queueEnable.held = s.held := held_queueCmd _ (by exact fun _ _ => rfl) s

theorem held_queueResumeCmd (s : State) : s.queueResumeCmd.held = s.held := held_queueCmd _ (by exact fun _ _ => rfl) s

theorem held_resetPointersCmd (s : State) : s.resetPointersCmd.held = s.held := held_queueCmd _ (by exact fun _ _ => rfl) s

theorem held_skipHeadCmd (s : State) : s.skipHeadCmd.held = s.held := held_queueCmd _ (by exact fun _ _ => rfl) s

theorem held_recordWrite (k : Nat) (h : Half) (v : Word) (s : State) : (s.recordWrite k h v).held = s.held := by
  simp only [recordWrite]
  repeat' split
  all_goals rfl

theorem held_endLostWaits (event : Bool) (i : Nat) (s : State) : (s.endLostWaits event i).held = s.held :=
  foldl_keeps held _ (by exact fun _ _ => held_ite rfl rfl) _ s

theorem held_ctrCfgOp (h : Half) (v : Word) (s : State) : (s.ctrCfgOp h v).held = s.held := by
  simp only [ctrCfgOp]
  split
  · rfl
  · exact held_endLostWaits _ _ _

theorem held_htabOp (h : Half) (v : Word) (s : State) : (s.htabOp h v).held = s.held := by
  simp only [htabOp]
  split <;> rfl

theorem held_staleRetryOp (q : Nat) (s : State) : (s.staleRetryOp q).held = s.held := by
  simp only [staleRetryOp]
  split <;> rfl

/-! ### Contexts, segments and regions -/

theorem carries_command {h : Half} {v : Word} {hi lo cmd : Nat} (hc : carries h v hi lo cmd = true) : bits (halfValue h v) hi lo = cmd :=
  of_decide_eq_true (Bool.and_eq_true_iff.1 hc).2

/-- BIND and QUIESCE, of every context and whether they are refused or not. -/
theorem held_rbCommand {h : Half} {v : Word} (hn : bits (halfValue h v) 2 0 = 1 ∨ bits (halfValue h v) 2 0 = 2) (s : State) :
    (s.rbCommand h v).held = s.held := by
  have h0 : bits (halfValue h v) 2 0 ≠ 0 := by omega
  rcases hb : s.rb.busy
  · rcases hs : s.rb.safe
    · rcases hn with hn | hn
      · rw [rbCommand_idle hb hs hn (by decide)]
        exact held_ite rfl rfl
      · rw [rbCommand_idle hb hs hn (by decide)]
        exact held_ite rfl rfl
    · have hs' : (s.rbAsked h v).rb.safe = true := hs
      simp only [rbAsked] at hs'
      simp only [rbCommand, hb, h0, hs', Bool.false_eq_true, if_false, if_true]
      rfl
  · rw [rbCommand_busy hb h0]
    rfl

theorem held_ctxWrite (h : Half) (v : Word) (s : State) : (s.ctxWrite h v).held = s.held := by
  simp only [ctxWrite]
  split
  · rfl
  · rfl
  · rfl

theorem held_quiescedOp (s : State) : s.quiescedOp.held = s.held :=
  foldl_keeps held _ (by exact fun _ _ => held_ite rfl rfl) _ s

theorem held_segCommit (s : State) : s.segCommit.held = s.held := held_ite rfl rfl

theorem held_regionCommit (s : State) : s.regionCommit.held = s.held := held_ite rfl rfl

/-! ### Levels, holds and status reads -/

theorem held_setLevel (rail level : Nat) (s : State) : (s.setLevel rail level).held = s.held := held_ite rfl rfl

theorem held_vregPump (rail : Nat) (s : State) : (s.vregPump rail).held = s.held := by
  simp only [vregPump]
  generalize s.moveOf rail = m
  cases m with
  | none => exact held_ite rfl rfl
  | some m => exact held_ite rfl rfl

theorem held_levelStart (rail : Nat) (s : State) : (s.levelStart rail).held = s.held := by
  simp only [levelStart]
  split
  · rfl
  · refine (held_vregPump rail _).trans ?_
    split
    · exact held_setLevel ..
    · rfl

theorem held_levelWrite (h : Half) (v : Word) (s : State) : (s.levelWrite h v).held = s.held :=
  (held_levelStart 1 _).trans (held_levelStart 0 _)

theorem held_dbgHoldOp (d : Nat) (level : Bool) (s : State) : (s.dbgHoldOp d level).held = s.held := by
  simp only [dbgHoldOp]
  split <;> rfl

theorem held_domStatRead (d : Fin 96) (s : State) : (s.domStatRead d).held = s.held := by
  have hread := held_registerRead (.domStatRead d) (Reg.PM_DOM_STAT + 8 * d.val) 8 s
  simp only [domStatRead]
  split
  next heq => rw [heq] at hread; exact hread
  next heq => rw [heq] at hread; exact hread

theorem held_whenClocked {s t : State} (h : t.held = s.held) : (s.whenClocked t).held = s.held :=
  held_ite rfl h

end State

/-- Settles O6: none of these commands changes what memory holds, made, refused or waiting. -/
theorem memoryIsLeftAlone : Obligations.MemoryIsLeftAlone := by
  intro c s t hc hwf ht
  suffices hheld : t.held = s.held by
    obtain ⟨hm, hh, hp, hd, he⟩ : t.mem = s.mem ∧ t.hostMem = s.hostMem ∧ t.poison = s.poison ∧ t.dc.lines = s.dc.lines ∧
      t.sf.entries = s.sf.entries := by simpa only [held, Prod.mk.injEq] using hheld
    exact ⟨hm, hh, hp, hd, he, fun a n => by rw [readBytes, hm]; rfl⟩
  have keeps {u : State} (he : exec c s = .next u) (hu : u.held = s.held) : t.held = s.held := by
    rw [ht] at he
    cases he
    exact hu
  rcases hc with ⟨k, h, v, rfl⟩ | rfl | rfl | rfl | rfl | ⟨q, rfl⟩ | ⟨h, v, rfl | rfl | rfl | rfl | rfl | rfl⟩ | rfl | rfl | rfl | rfl |
    ⟨d, on, rfl⟩ | ⟨d, rfl⟩
  · exact keeps rfl (held_barWrite (held_recordWrite k.toNat h v) ..)
  · exact keeps rfl (held_barWrite held_queueEnable ..)
  · exact keeps rfl (held_barWrite held_resetPointersCmd ..)
  · exact keeps rfl (held_barWrite held_skipHeadCmd ..)
  · exact keeps rfl (held_barWrite held_queueResumeCmd ..)
  · exact keeps rfl (held_whenClocked (held_staleRetryOp ..))
  · exact keeps rfl (held_barWrite (held_ctrCfgOp h v) ..)
  · exact keeps rfl (held_barWrite (held_htabOp h v) ..)
  · exact keeps rfl (held_barWrite (held_rbCommand (.inl (carries_command hwf))) ..)
  · exact keeps rfl (held_barWrite (held_rbCommand (.inr (carries_command hwf))) ..)
  · exact keeps rfl (held_barWrite (held_ctxWrite h v) ..)
  · exact keeps rfl (held_barWrite (held_levelWrite h v) ..)
  · exact keeps rfl (held_barWrite (f := fun s => s.dropHandles s.selHtab) (fun _ => rfl) ..)
  · exact keeps rfl (held_whenClocked (held_quiescedOp s))
  · exact keeps rfl (held_barWrite held_segCommit ..)
  · exact keeps rfl (held_barWrite held_regionCommit ..)
  · exact keeps rfl (held_dbgHoldOp ..)
  · exact keeps rfl (held_domStatRead ..)

end Sys2Proof.Machine

/-! ## Queue records and the commands of QE_QCMD (O7) -/

namespace Sys2Proof.Machine

open State

namespace State

section
variable {s : State}

/-! ### Writes of a record (R36) -/

theorem recordWrite_refused {k : Nat} (hk : k < 4) (h : Half) (v : Word)
    (hr : s.queueFenced s.selQueue = true ∨ (s.queue s.selQueue).st ≠ .disabled) :
    s.recordWrite k h v = s.modQe fun e => { e with qcmdRefused := true } := by
  have hk' : ¬ 4 ≤ k := by omega
  by_cases hf : s.queueFenced s.selQueue = true
  · simp only [recordWrite, hf, if_true]
  · simp only [recordWrite, hf, hk', hr.resolve_left hf, Bool.false_eq_true, if_false, if_true, ne_eq, not_false_eq_true]

/-- The selected queue's record with fixed qword `k` written: SERVE stays while configuration is locked (R36 Table 1). -/
def storedRecord (k : Nat) (h : Half) (v : Word) (s : State) : Queue :=
  let x := s.queue s.selQueue
  match k with
  | 0 => { x with sqBase := mergeHalf h x.sqBase v }
  | 1 => { x with cqBase := mergeHalf h x.cqBase v }
  | 2 => { x with tailShadow := mergeHalf h x.tailShadow v }
  | _ => { x with cfg := if s.locked then setBit (mergeHalf h x.cfg v) 54 (bit x.cfg 54) else mergeHalf h x.cfg v }

theorem recordWrite_stored {k : Nat} (hk : k < 4) (h : Half) (v : Word) (hf : s.queueFenced s.selQueue = false)
    (hd : (s.queue s.selQueue).st = .disabled) :
    s.recordWrite k h v = (s.setQueue s.selQueue (s.storedRecord k h v)).modQe fun e => { e with qcmdRefused := false } := by
  have hf' : ¬ s.queueFenced s.selQueue = true := by simp [hf]
  have hd' : ¬ (s.queue s.selQueue).st ≠ .disabled := by simp [hd]
  exact (if_neg hf').trans ((if_neg (by omega)).trans (if_neg hd'))

/-! ### Commands of QE_QCMD (R38, R75) -/

theorem queueCmd_taken {ok : Queue → Bool} (f : Nat → State → State) (hf : s.queueFenced s.selQueue = false)
    (hok : ok (s.queue s.selQueue) = true) : s.queueCmd ok f = f s.selQueue (s.qcmdDone false) := if_neg (by simp [hf, hok])

theorem queueCmd_refused {ok : Queue → Bool} (f : Nat → State → State)
    (h : s.queueFenced s.selQueue = true ∨ ok (s.queue s.selQueue) = false) : s.queueCmd ok f = s.qcmdDone true := if_pos (by simpa using h)

theorem modQe_congr {f g : Qe → Qe} (h : f s.qe = g s.qe) : s.modQe f = s.modQe g := by rw [modQe, modQe, h]

theorem queueDrained_over {q : Nat} (hd : (s.queue q).st = .draining) (hw : s.worksOf q = [])
    (ha : ((s.queue q).deferred.all fun e => e.detached) = true) :
    s.queueDrained q = (s.setQueue q { s.queue q with st := .disabled, deferred := [] }).modQe fun e =>
      { e with qcmdBusy := if e.qcmdBusy = some q then none else e.qcmdBusy } := by
  simp only [queueDrained, hd, hw, ha, List.isEmpty_nil, and_self, if_true]
  generalize s.setQueue q { s.queue q with st := .disabled, deferred := [] } = t
  split
  next hb => exact modQe_congr (by rw [if_pos hb])
  next hb => exact modQe_congr (f := id) (by rw [if_neg hb]; rfl)

end

end State

/-- Settles O7: record writes, the commands of QE_QCMD in each state of the queue, and the end of a drain. -/
theorem queueConfiguration : Obligations.QueueConfiguration := by
  refine ⟨fun k h v s ho => ⟨fun hf hd => ?_, fun hr => ?_⟩, fun s ho => ⟨fun hf => ⟨fun h => ?_, fun h => ?_, fun h => ?_, fun h => ?_, fun h => ?_⟩,
    fun hf => ⟨?_, ?_, ?_, ?_, ?_⟩, fun h => ⟨?_, ?_⟩, fun h => ?_, fun h => ?_, fun h => ?_⟩, fun q s hd hw ha => ?_⟩
  · exact .of_barWrite rfl ho (keep_eq (recordWrite_stored k.isLt h v hf hd) rfl)
  · exact .of_barWrite rfl ho (keep_eq (recordWrite_refused k.isLt h v hr) rfl)
  -- taken
  · obtain ⟨hd, hs, hc⟩ := h
    exact .of_barWrite (f := queueEnable) rfl ho (keep_eq (queueCmd_taken _ hf (by simp [hd, hs, hc])) rfl)
  · exact .of_barWrite (f := queueDisable) rfl ho (congrArg s.keep (queueCmd_taken _ hf (by simpa using h)))
  · exact .of_barWrite (f := queueResumeCmd) rfl ho (keep_eq (queueCmd_taken _ hf (by simpa using h)) rfl)
  · exact .of_barWrite (f := resetPointersCmd) rfl ho (keep_eq (queueCmd_taken _ hf (by simpa using h)) rfl)
  · exact .of_barWrite (f := skipHeadCmd) rfl ho (keep_eq (queueCmd_taken _ hf (by simpa using h)) rfl)
  -- of a fenced bank
  · exact .of_barWrite (f := queueEnable) rfl ho (keep_eq (queueCmd_refused _ (.inl hf)) rfl)
  · exact .of_barWrite (f := queueDisable) rfl ho (keep_eq (queueCmd_refused _ (.inl hf)) rfl)
  · exact .of_barWrite (f := queueResumeCmd) rfl ho (keep_eq (queueCmd_refused _ (.inl hf)) rfl)
  · exact .of_barWrite (f := resetPointersCmd) rfl ho (keep_eq (queueCmd_refused _ (.inl hf)) rfl)
  · exact .of_barWrite (f := skipHeadCmd) rfl ho (keep_eq (queueCmd_refused _ (.inl hf)) rfl)
  -- in another state
  · exact .of_barWrite (f := queueEnable) rfl ho (keep_eq (queueCmd_refused _ (.inr (by simp [h]))) rfl)
  · exact .of_barWrite (f := resetPointersCmd) rfl ho (keep_eq (queueCmd_refused _ (.inr (by simp [h]))) rfl)
  · exact .of_barWrite (f := queueDisable) rfl ho (keep_eq (queueCmd_refused _ (.inr (by simp only [h, decide_true, Bool.not_true]))) rfl)
  · exact .of_barWrite (f := queueResumeCmd) rfl ho (keep_eq (queueCmd_refused _ (.inr (by simpa using h))) rfl)
  · exact .of_barWrite (f := skipHeadCmd) rfl ho (keep_eq (queueCmd_refused _ (.inr (by simpa using h))) rfl)
  · exact .of_clocked rfl (keep_eq (queueDrained_over hd hw ha) rfl)

end Sys2Proof.Machine

/-! ## Counters and handle tables (O11) -/

namespace Sys2Proof.Machine

open State

/-- A fold whose every step would leave its start alone leaves it alone. -/
theorem foldl_eq_self {σ α : Type} {f : σ → α → σ} {s : σ} {l : List α} (h : ∀ a ∈ l, f s a = s) : l.foldl f s = s := by
  induction l with
  | nil => rfl
  | cons a l ih =>
    obtain ⟨ha, hl⟩ := List.forall_mem_cons.1 h
    rw [List.foldl_cons, ha, ih hl]

namespace State

section
variable {s : State}

/-! ### Counters (R65, R70, R455) -/

theorem ctrValueOp_fenced (h : Half) (v : Word) (hf : s.ctrFenced s.selCtr.2 = true) : s.ctrValueOp h v = s := if_pos hf

theorem ctrCfgOp_fenced (h : Half) (v : Word) (hf : s.ctrFenced s.selCtr.2 = true) : s.ctrCfgOp h v = s := if_pos hf

theorem ctrValueOp_fence (h : Half) (v : Word) (hf : s.ctrFenced s.selCtr.2 = false) (he : s.selCtr.1 = false) :
    s.ctrValueOp h v = s.applySignal false s.selCtr.2 0 (mergeHalf h (w64 (s.ctr s.selCtr.1 s.selCtr.2).value) v).toNat false none :=
  (if_neg (Bool.eq_false_iff.1 hf)).trans (if_pos (by simpa [selCtr] using he))

theorem ctrValueOp_event (h : Half) (v : Word) (hf : s.ctrFenced s.selCtr.2 = false) (he : s.selCtr.1 = true) :
    s.ctrValueOp h v =
      let c := s.ctr s.selCtr.1 s.selCtr.2
      (s.setCtr true s.selCtr.2 { c with value := min (mergeHalf h (w64 c.value) v).toNat (if c.mode = 1 ∨ c.mode = 2 then 1 else 0xFFFF) }).releaseWaiters
        true s.selCtr.2 :=
  (if_neg (Bool.eq_false_iff.1 hf)).trans (if_neg (by simpa [selCtr] using he))

theorem setCtr_pending (event : Bool) (i : Nat) (c : Ctr) : (s.setCtr event i c).pending = s.pending := by cases event <;> rfl

theorem setCtr_queues (event : Bool) (i : Nat) (c : Ctr) : (s.setCtr event i c).qe.queues = s.qe.queues := by cases event <;> rfl

/-- With no queue waiting, a counter that stops being usable ends no wait. -/
theorem endLostWaits_of_none_waiting (event : Bool) (i : Nat) (h : ∀ e ∈ s.qe.queues, e.2.st ≠ .waiting) : s.endLostWaits event i = s :=
  foldl_eq_self fun e he => if_neg fun hw => h e he hw.1

theorem ctrCfgOp_stored (h : Half) (v : Word) (hf : s.ctrFenced s.selCtr.2 = false) (hw : ∀ e ∈ s.qe.queues, e.2.st ≠ .waiting) :
    s.ctrCfgOp h v =
      let c := s.ctr s.selCtr.1 s.selCtr.2
      let w := mergeHalf h (c.cfgWord 0) v
      let one := halfValue h v
      s.setCtr s.selCtr.1 s.selCtr.2
        { c with error := c.error && !bit one 35, regress := c.regress && !bit one 34, overflow := c.overflow && !bit one 33,
                 prodValid := bit w 32, producer := bits w 31 16, mode := bits w 14 13, valid := bit w 12, owner := bits w 11 0 } := by
  refine (if_neg (Bool.eq_false_iff.1 hf)).trans (endLostWaits_of_none_waiting _ _ ?_)
  rw [setCtr_queues]
  exact hw

/-! ### Handle tables (R51) -/

/-- What a write gives the table base of the selected context. -/
def htabGiven (h : Half) (v : Word) (s : State) : Word := mergeHalf h (Map.getD 0 s.selHtab s.qe.htab) v &&& fieldMask 63 16

def htabStored (h : Half) (v : Word) (s : State) : State :=
  s.modQe fun e => { e with htab := Map.put 0 s.selHtab (s.htabGiven h v) e.htab }

theorem htabOp_drops {h : Half} {v : Word} (hd : s.htabGiven h v ≠ Map.getD 0 s.selHtab s.qe.htab ∨ bit (halfValue h v) 0 = true) :
    s.htabOp h v = (s.htabStored h v).dropHandles s.selHtab := if_pos hd

theorem htabOp_keeps {h : Half} {v : Word} (hn : s.htabGiven h v = Map.getD 0 s.selHtab s.qe.htab) (hb : bit (halfValue h v) 0 = false) :
    s.htabOp h v = s.htabStored h v := if_neg fun h => h.elim (fun h => h hn) (Bool.eq_false_iff.1 hb)

/-- A started descriptor of another context keeps the handle entries it had. -/
theorem mem_works_keepHandles {c : Nat} {x : Work} (hx : x ∈ s.qe.works) (hc : x.ctx ≠ c) : x ∈ (s.keepHandles c).qe.works :=
  List.mem_map.2 ⟨x, hx, if_neg hc⟩

end

end State

/-- Settles O11: writes of a counter's value and configuration, and what drops the cached handle entries of a context. -/
theorem countersAndHandleTables : Obligations.CountersAndHandleTables := by
  refine ⟨fun h v s hv hc => ⟨fun hf => ⟨?_, ?_⟩, fun hf he => ?_, fun hf he => ?_, fun hf hw => ?_⟩,
    fun h v s ho => ⟨fun hd => ?_, fun hn hb => ?_, ?_, fun x hx hne => mem_works_keepHandles hx hne⟩⟩
  · exact .of_barWrite rfl hv (keep_eq (ctrValueOp_fenced h v hf) rfl)
  · exact .of_barWrite rfl hc (keep_eq (ctrCfgOp_fenced h v hf) rfl)
  · exact .of_barWrite rfl hv (congrArg s.keep (ctrValueOp_fence h v hf he))
  · exact .of_barWrite rfl hv (congrArg s.keep (ctrValueOp_event h v hf he))
  · refine .of_barWrite rfl hc (keep_eq (ctrCfgOp_stored h v hf hw) ?_)
    exact setCtr_pending _ _ _
  · exact .of_barWrite rfl ho (keep_eq (htabOp_drops hd) rfl)
  · exact .of_barWrite rfl ho (keep_eq (htabOp_keeps hn hb) rfl)
  · exact .of_barWrite (f := fun s => s.dropHandles s.selHtab) rfl ho rfl

end Sys2Proof.Machine

/-! ## Doorbells (O8) -/

namespace Sys2Proof.Machine

open State

/-- A fold in which one element alone has an effect has that effect. -/
theorem foldl_eq_of_mem {σ α : Type} {f : σ → α → σ} {a : α} {l : List α} (hn : l.Nodup) (ha : a ∈ l) (h : ∀ s, ∀ b ∈ l, b ≠ a → f s b = s) (s : σ) :
    l.foldl f s = f s a := by
  obtain ⟨x, y, rfl⟩ := List.append_of_mem ha
  obtain ⟨-, hy, hd⟩ := List.nodup_append.1 hn
  have hx : x.foldl f s = s := foldl_eq_self fun b hb => h s b (by simp [hb]) (hd b hb a (by simp))
  have hy' : y.foldl f (f s a) = f s a :=
    foldl_eq_self fun b hb => h _ b (by simp [hb]) fun hba => (List.nodup_cons.1 hy).1 (hba ▸ hb)
  rw [List.foldl_append, List.foldl_cons, hx, hy']

theorem bit_w64_two_pow {i j : Nat} (hi : i < 64) : bit (w64 (2 ^ i)) j = decide (i = j) := by
  rw [bit, w64, BitVec.toNat_ofNat, Nat.mod_eq_of_lt (Nat.pow_lt_pow_right (by decide) hi), Nat.testBit_two_pow]

namespace State

section
variable {s : State}

/-! ### On the way to a bank (R62) -/

theorem ringDoorbell_open {k : DbKind} {d : Doorbell} {page : Nat} (hp : s.dbPageOf d.origin = some page) (ho : s.Open (Dom.bank (page / 256))) :
    s.ringDoorbell k d = s.takeDoorbell k d := by
  simp only [ringDoorbell, hp, isFenced_of_ready ho.2, Bool.false_eq_true, if_false, cross_open _ _ ho.1 ho.2]

/-- A doorbell of any origin whose bank takes it at once. -/
theorem bellOp_open {k : DbKind} {d : Doorbell} {page : Nat} (h : s.BellOpen d.origin page) : s.bellOp k d = s.takeDoorbell k d := by
  obtain ⟨hp, ho, hh⟩ := h
  rw [← ringDoorbell_open hp ho]
  unfold bellOp
  cases hd : d.origin with
  | pf _ => exact hostPosted_open _ _ (of_decide_eq_true (by rw [hd] at hh; exact hh))
  | vf fn _ => exact hostPosted_open _ _ (of_decide_eq_true (by rw [hd] at hh; exact hh))
  | port _ _ => rfl
  | peer _ _ _ => rfl
  | batcher _ => rfl

/-! ### What is discarded (R58, R59, R419) -/

section
variable {k : DbKind} {d : Doorbell} {page : Nat} (hp : s.dbPageOf d.origin = some page)

theorem doorbell_badSize (k : DbKind) (hh : d.half = none) : s.doorbell k d = s.dbBadSize d.origin := by simp only [doorbell, hh]

include hp

theorem doorbell_rejected {h : Half} {i : Nat} (hh : d.half = some h) (hc : s.dbCheck d.origin k page (64 * page + d.index.toNat) = some i) :
    s.doorbell k d = s.dbError i (64 * page + d.index.toNat) := by simp only [doorbell, hh, hp, hc]

theorem doorbell_upper (hh : d.half = some .high) (hc : s.dbCheck d.origin k page (64 * page + d.index.toNat) = none) :
    s.doorbell k d = s.dbError Err.QE_DB_RANGE (64 * page + d.index.toNat) := by simp only [doorbell, hh, hp, hc, if_true]

theorem doorbell_replaying (hh : d.half = some .full ∨ d.half = some .low) (hc : s.dbCheck d.origin .sqTail page (64 * page + d.index.toNat) = none)
    (hr : s.rp.replaying = true) (hb : ∀ p, d.origin ≠ .batcher p) : s.doorbell .sqTail d = s.bump Reg.RP_STAT_DISCARDED := by
  have hlive : s.dbLive d.origin = false := by
    cases ho : d.origin with
    | batcher p => exact absurd ho (hb p)
    | pf _ | vf _ _ | port _ _ | peer _ _ _ => simp only [dbLive, hr, Bool.not_true, Bool.or_self]
  rcases hh with hh | hh <;> simp [doorbell, hh, hp, hc, hlive]

/-! ### What is taken (R59, R62, R72) -/

theorem doorbell_tail (hh : d.half = some .full ∨ d.half = some .low) (hc : s.dbCheck d.origin .sqTail page (64 * page + d.index.toNat) = none)
    (hq : s.rp.recording = false) (hr : s.rp.replaying = false) :
    s.doorbell .sqTail d = s.ringTail (64 * page + d.index.toNat) (bits d.value 15 0) := by
  rcases hh with hh | hh <;> simp [doorbell, hh, hp, hc, dbLive, dbRecord, rpEvent, hq, hr]

theorem doorbell_head (hh : d.half = some .full ∨ d.half = some .low) (hc : s.dbCheck d.origin .cqHead page (64 * page + d.index.toNat) = none)
    (hq : s.rp.recording = false) (hr : s.rp.replaying = false) :
    s.doorbell .cqHead d = s.ringHead (64 * page + d.index.toNat) (bits d.value 15 0) := by
  rcases hh with hh | hh <;> simp [doorbell, hh, hp, hc, dbRecord, rpEvent, hq, hr]

end

section
variable {q v : Nat}

theorem ringTail_outside (h : (s.queue q).slots ≤ v) : s.ringTail q v = s.dbError Err.QE_DB_RANGE q := if_pos h

theorem ringTail_back (h : v < (s.queue q).slots) (hb : (v + (s.queue q).slots - (s.queue q).sqHead) % (s.queue q).slots < (s.queue q).unfetched) :
    s.ringTail q v = s.dbError Err.QE_DB_REGRESS q := (if_neg (Nat.not_le.2 h)).trans (if_pos hb)

theorem ringTail_moves (h : v < (s.queue q).slots)
    (hb : (s.queue q).unfetched ≤ (v + (s.queue q).slots - (s.queue q).sqHead) % (s.queue q).slots) :
    s.ringTail q v = s.setQueue q { s.queue q with
      sqTail := v, dbPending := (s.queue q).dbPending || decide ((s.queue q).st = .idlePending),
      st := if (s.queue q).st = .idle ∧ s.ctxHeld (s.queue q).ctx = false then .fetching else (s.queue q).st } := by
  refine (if_neg (Nat.not_le.2 h)).trans ((if_neg (Nat.not_lt.2 hb)).trans ?_)
  generalize s.queue q = x
  cases hst : x.st with
  | idle =>
    cases hc : s.ctxHeld x.ctx with
    | true => exact congrArg (setQueue q · s) ((if_pos hc).trans (by simp))
    | false => exact congrArg (setQueue q · s) ((if_neg (Bool.eq_false_iff.1 hc)).trans (by simp))
  | idlePending => simp
  | disabled | fetching | waiting | parked | error | draining => simp

theorem ringHead_outside (h : (s.queue q).entries ≤ v) : s.ringHead q v = s.dbError Err.QE_DB_RANGE q := if_pos h

theorem ringHead_back (h : v < (s.queue q).entries) (hb : (s.queue q).unread < (v + (s.queue q).entries - (s.queue q).cqHead) % (s.queue q).entries) :
    s.ringHead q v = s.dbError Err.QE_DB_REGRESS q := (if_neg (Nat.not_le.2 h)).trans (if_pos hb)

theorem ringHead_moves (h : v < (s.queue q).entries)
    (hb : (v + (s.queue q).entries - (s.queue q).cqHead) % (s.queue q).entries ≤ (s.queue q).unread) :
    s.ringHead q v = s.setQueue q { s.queue q with cqHead := v } := (if_neg (Nat.not_le.2 h)).trans (if_neg (Nat.not_lt.2 hb))

end

/-! ### Batched rings and tail shadows (R61) -/

/-- The queues of a page that the bits `is` of a mask name. -/
def maskedQueues (mask : Word) (page : Nat) (is : List Nat) : List Nat := (is.filter fun i => bit mask i).map fun i => 64 * page + i

/-- The tail shadows of the queues `qs` are to be read. -/
def askShadows (qs : List Nat) (s : State) : State := s.modQe fun e => { e with shadows := e.shadows ++ qs }

theorem askShadows_nil : s.askShadows [] = s := modQe_congr (g := id) (by simp)

theorem askShadows_cons (q : Nat) (qs : List Nat) : (s.askShadows [q]).askShadows qs = s.askShadows (q :: qs) := by
  simp [askShadows, modQe]

theorem batchMember_asks {o : DbOrigin} {page q : Nat} (hc : s.dbCheck o .batch page q = none) (ht : (s.queue q).tailShadow ≠ 0)
    (hr : s.rp.replaying = false) : s.batchMember o page q = s.askShadows [q] := by
  simp only [batchMember, askShadows, hc, ht, dbLive, hr, Bool.not_false, Bool.true_or, Bool.not_true, Bool.false_eq_true, if_false]

theorem batchMember_rejected {o : DbOrigin} {page q i : Nat} (hc : s.dbCheck o .batch page q = some i) : s.batchMember o page q = s.dbError i q := by
  simp only [batchMember, hc]

theorem batchMember_unshadowed {o : DbOrigin} {page q : Nat} (hc : s.dbCheck o .batch page q = none) (ht : (s.queue q).tailShadow = 0) :
    s.batchMember o page q = s.dbError Err.QE_DB_RANGE q := by simp only [batchMember, hc, ht, if_true]

/-- Members that pass the checks are asked for one after the other, none of them changing what the next one's checks find. -/
theorem batchFold_asks (o : DbOrigin) (page : Nat) (mask : Word) (is : List Nat) (hr : s.rp.replaying = false)
    (h : ∀ q ∈ maskedQueues mask page is, s.dbCheck o .batch page q = none ∧ (s.queue q).tailShadow ≠ 0) :
    is.foldl (fun s i => if bit mask i then s.batchMember o page (64 * page + i) else s) s =
      s.askShadows (maskedQueues mask page is) := by
  induction is generalizing s with
  | nil => exact askShadows_nil.symm
  | cons i is ih =>
    rw [List.foldl_cons]
    by_cases hb : bit mask i = true
    · have hcons : maskedQueues mask page (i :: is) = (64 * page + i) :: maskedQueues mask page is := by simp [maskedQueues, hb]
      rw [hcons] at h ⊢
      obtain ⟨⟨hc, ht⟩, hrest⟩ := List.forall_mem_cons.1 h
      rw [if_pos hb, batchMember_asks hc ht hr]
      exact (ih (s := s.askShadows _) hr hrest).trans (askShadows_cons ..)
    · have hcons : maskedQueues mask page (i :: is) = maskedQueues mask page is := by simp [maskedQueues, hb]
      rw [hcons] at h ⊢
      rw [if_neg hb, ih hr h]

theorem batchRing_page {d : Doorbell} {page : Nat} {h : Half} (hp : s.dbPageOf d.origin = some page) (hh : d.half = some h) :
    s.batchRing d = (List.range 64).foldl (fun s i => if bit (halfValue h d.value) i then s.batchMember d.origin page (64 * page + i) else s) s := by
  simp only [batchRing, hh, hp]

theorem batchRing_single {d : Doorbell} {page i : Nat} {h : Half} (hp : s.dbPageOf d.origin = some page) (hh : d.half = some h) (hi : i < 64)
    (hv : halfValue h d.value = w64 (2 ^ i)) : s.batchRing d = s.batchMember d.origin page (64 * page + i) := by
  rw [batchRing_page hp hh, hv, foldl_eq_of_mem List.nodup_range (List.mem_range.2 hi)]
  · rw [if_pos (by rw [bit_w64_two_pow hi, decide_eq_true_eq])]
  · intro t j _ hj
    rw [if_neg (by rw [bit_w64_two_pow hi, decide_eq_true_eq]; exact Ne.symm hj)]

/-- The read of a tail shadow is over. -/
def shadowOver (q : Nat) (s : State) : State := (s.forget (.shadow q)).modQe fun e => { e with shadows := e.shadows.erase q }

theorem shadowRead_unasked {q : Nat} (h : q ∉ s.qe.shadows) : s.shadowRead q = s := if_pos h

section
variable {q : Nat} {t : State} (h : q ∈ s.qe.shadows)
include h

theorem shadowRead_rings {bs : List Byte}
    (hr : (engRead (s.queueWho q (.shadow q)) (s.queue q).tailShadow 8).exec s = (.ok bs, t)) :
    s.shadowRead q = ((t.shadowOver q).dbRecord 2 (.pf 0) q (bits (leWord bs) 15 0) 0).ringTail q (bits (leWord bs) 15 0) := by
  simp only [shadowRead, hr, h, not_true_eq_false, if_false]
  rfl

theorem shadowRead_fails {st : Nat}
    (hr : (engRead (s.queueWho q (.shadow q)) (s.queue q).tailShadow 8).exec s = (.error (.fail st), t)) :
    s.shadowRead q = ((t.shadowOver q).dbError Err.QE_DB_RANGE q).setReg (Reg.errAddr Reg.QE) (s.queue q).tailShadow := by
  simp only [shadowRead, hr, h, not_true_eq_false, if_false]
  rfl

theorem shadowRead_waits (hr : (engRead (s.queueWho q (.shadow q)) (s.queue q).tailShadow 8).exec s = (.error .wait, t)) : s.shadowRead q = t := by
  simp only [shadowRead, hr, h, not_true_eq_false, if_false]

end

end

end State

/-- A doorbell that its bank takes at once, with what it does worked out. -/
theorem exec_bell {c : Instr} {k : DbKind} {d : Doorbell} {page : Nat} {s u : State} (hc : exec c s = .next (s.keep (s.bellOp k d)))
    (h : s.BellOpen d.origin page) (hu : s.keep (s.takeDoorbell k d) = u) : exec c s = .next u := by
  rw [hc, bellOp_open h, hu]

theorem exec_tailShadowRead {q : BitVec 16} {s u : State} (hc : s.clocksStopped = false) (hu : s.shadowRead q.toNat = u) :
    exec (.tailShadowRead q) s = .next (s.done u) := by
  have hexec : exec (.tailShadowRead q) s = .next (s.whenClocked (s.done (s.shadowRead q.toNat))) := rfl
  rw [hexec, whenClocked_running hc, hu]

/-- Settles O8: the doorbells of a page, batched rings, and the reads of tail shadows. -/
theorem doorbells : Obligations.Doorbells := by
  refine ⟨fun d page s ho hq => ⟨fun k c hk => ?_, fun hh => ⟨fun hc hr hb => ?_, fun hc hr => ⟨fun hv hb => ?_, fun hv => ?_, fun hv hb => ?_⟩,
      fun hc hr => ⟨fun hv hb => ?_, fun hv => ?_, fun hv hb => ?_⟩⟩⟩,
    fun d page h s ho hh hr hm => ?_, fun d page i h s ho hh hi hv => ⟨fun b hc => ?_, fun hc ht => ?_⟩,
    fun q s hm hc => ⟨fun bs t hr => ?_, fun st t hr => ?_, fun t hr => ?_⟩, fun q s hm hc => ?_⟩
  · have hexec : exec c s = .next (s.keep (s.bellOp k d)) ∧ s.takeDoorbell k d = s.doorbell k d := by
      simp only [List.mem_cons, List.not_mem_nil, or_false, Prod.mk.injEq] at hk
      rcases hk with ⟨rfl, rfl⟩ | ⟨rfl, rfl⟩ <;> exact ⟨rfl, rfl⟩
    obtain ⟨hexec, htake⟩ := hexec
    exact ⟨fun hh => exec_bell hexec ho (congrArg s.keep (htake.trans (doorbell_badSize k hh))), fun h i hh hc => exec_bell hexec ho (congrArg s.keep (htake.trans (doorbell_rejected ho.1 hh hc))),
      fun hh hc => exec_bell hexec ho (congrArg s.keep (htake.trans (doorbell_upper ho.1 hh hc)))⟩
  · exact exec_bell (k := .sqTail) rfl ho (congrArg s.keep (doorbell_replaying ho.1 hh hc hr hb))
  · exact exec_bell (k := .sqTail) rfl ho (keep_eq ((doorbell_tail ho.1 hh hc hq hr).trans (ringTail_moves hv hb)) rfl)
  · exact exec_bell (k := .sqTail) rfl ho (congrArg s.keep ((doorbell_tail ho.1 hh hc hq hr).trans (ringTail_outside hv)))
  · exact exec_bell (k := .sqTail) rfl ho (congrArg s.keep ((doorbell_tail ho.1 hh hc hq hr).trans (ringTail_back hv hb)))
  · exact exec_bell (k := .cqHead) rfl ho (keep_eq ((doorbell_head ho.1 hh hc hq hr).trans (ringHead_moves hv hb)) rfl)
  · exact exec_bell (k := .cqHead) rfl ho (congrArg s.keep ((doorbell_head ho.1 hh hc hq hr).trans (ringHead_outside hv)))
  · exact exec_bell (k := .cqHead) rfl ho (congrArg s.keep ((doorbell_head ho.1 hh hc hq hr).trans (ringHead_back hv hb)))
  · exact exec_bell (k := .batch) rfl ho (keep_eq ((batchRing_page ho.1 hh).trans (batchFold_asks d.origin page _ _ hr hm)) rfl)
  · exact exec_bell (k := .batch) rfl ho (congrArg s.keep ((batchRing_single ho.1 hh hi hv).trans (batchMember_rejected hc)))
  · exact exec_bell (k := .batch) rfl ho (congrArg s.keep ((batchRing_single ho.1 hh hi hv).trans (batchMember_unshadowed hc ht)))
  · exact exec_tailShadowRead hc (shadowRead_rings hm hr)
  · exact exec_tailShadowRead hc (shadowRead_fails hm hr)
  · exact exec_tailShadowRead hc (shadowRead_waits hm hr)
  · exact exec_tailShadowRead hc (shadowRead_unasked hm)

end Sys2Proof.Machine

/-! ## Grants, slot fetches and stale retries (O9) -/

namespace Sys2Proof.Machine

open State

namespace State

/-! ### The queue records that a report leaves alone -/

theorem unreported_qe : Unreported State.qe where
  reg _ _ _ := rfl
  up _ _ := rfl
  out _ _ := rfl
  free _ := rfl
  events _ _ := rfl

/-- The record of a queue that is not DISABLED is read back, whatever the form of the queues' map. -/
theorem queue_setQueue_enabled {v : Queue} (hv : v.st ≠ .disabled) (q : Nat) (s : State) : (s.setQueue q v).queue q = v := by
  have hne : v ≠ Queue.reset := fun h => hv (h ▸ rfl)
  simp only [queue, setQueue, modQe_qe, Map.put, hne, if_false, Map.getD, Map.find?_insert_same, Option.getD_some]

section
variable {s : State} {b q : Nat}

/-! ### Whom a grant goes to (R63, R64) -/

/-- The credits of a bank's classes while class `c` alone has work: its own stays. -/
def soleCredit (b c : Nat) (s : State) : NMap Int :=
  (List.range 4).foldl (fun m d => Map.put 0 (b * 4 + d) (if d = c then Map.getD 0 (b * 4 + d) s.qe.wrrCredit else 0) m) s.qe.wrrCredit

theorem wrrGrant_sole (b c : Nat) : s.wrrGrant b [c] = some (c, s.soleCredit b c) := by
  have hsum : (sumOf s.classWeight [c] : Nat) = s.classWeight c := by simp [sumOf]
  have hdue : (if ([c].filter fun d => decide (0 ≤ Map.getD (0 : Int) (b * 4 + d) s.qe.wrrCredit)).isEmpty = true then [c]
      else [c].filter fun d => decide (0 ≤ Map.getD (0 : Int) (b * 4 + d) s.qe.wrrCredit)) = [c] := by
    by_cases h : 0 ≤ Map.getD (0 : Int) (b * 4 + c) s.qe.wrrCredit <;> simp [h]
  simp only [wrrGrant, hdue, hsum, List.foldl_cons, List.foldl_nil, soleCredit, List.mem_singleton]
  congr 3
  funext m d
  split
  next h => rw [h]; congr 1; omega
  next h => rfl

theorem cls_lt (v : Queue) : v.cls < 4 := by
  unfold Queue.cls
  split
  · decide
  · exact Nat.mod_lt _ (by decide)

/-- A state in which the queue `q` alone of bank `b` is served. -/
def servedAlone (b q : Nat) (s : State) : State :=
  s.modQe fun e => { e with wrrCredit := s.soleCredit b (s.queue q).cls, wrrLast := Map.put 0 (b * 4 + (s.queue q).cls) (q + 1) e.wrrLast }

theorem grantBank_sole (hr : (s.qe.queues.filter fun e => decide (e.1 / 16384 = b) && s.wantsGrant e.1 e.2) = [(q, s.queue q)])
    (hf : s.isFenced (Dom.bank b) = false) : s.grantBank b = (s.servedAlone b q).serveQueue q := by
  have hc : (List.range 4).filter (fun c => [(q, s.queue q)].any fun e => decide (e.2.cls = c)) = [(s.queue q).cls] := by
    have hlt := cls_lt (s.queue q)
    simp only [List.any_cons, List.any_nil, Bool.or_false]
    generalize (s.queue q).cls = c at hlt ⊢
    revert c
    decide
  have hq (last : Nat) : (([q].find? fun x => decide (last < x + 1)).orElse fun _ => [q].head?) = some q := by
    by_cases h : last ≤ q <;> simp [h]
  simp only [grantBank, hr, hc, hf, wrrGrant_sole, Bool.false_eq_true, if_false, List.filter_cons, decide_true, if_true, List.filter_nil,
    List.map_cons, List.map_nil, hq]
  rfl

theorem wantsGrant_of_sole (hr : (s.qe.queues.filter fun e => decide (e.1 / 16384 = b) && s.wantsGrant e.1 e.2) = [(q, s.queue q)]) :
    s.wantsGrant q (s.queue q) = true ∧ (s.qe.queues.any fun e => decide (e.1 / 16384 = b) && s.wantsGrant e.1 e.2) = true := by
  have hmem : (q, s.queue q) ∈ s.qe.queues.filter fun e => decide (e.1 / 16384 = b) && s.wantsGrant e.1 e.2 := by rw [hr]; exact List.mem_singleton_self _
  obtain ⟨hq, hw⟩ := List.mem_filter.1 hmem
  exact ⟨(Bool.and_eq_true_iff.1 hw).2, List.any_eq_true.2 ⟨_, hq, hw⟩⟩

/-! ### What a queue is served (R63, R72) -/

theorem serveQueue_tail (hs : (s.queue q).st = .idlePending) : s.serveQueue q = s.rereadTail q := if_pos hs

section
variable (hs : (s.queue q).st = .fetching)
include hs

theorem serveQueue_head (hg : s.grantable q = true) : s.serveQueue q = s.grantHead q := by
  simp only [serveQueue, hs, hg, if_true]
  rfl

theorem serveQueue_slot (hg : s.grantable q = false) (ht : (s.queue q).sqTail ≠ (s.queue q).sqHead) :
    s.serveQueue q = s.setQueue q { s.queue q with reading := true } := by
  have hne : (s.queue q).st ≠ .idlePending := by simp [hs]
  exact (if_neg hne).trans ((if_neg (Bool.eq_false_iff.1 hg)).trans (if_neg ht))

theorem serveQueue_reached (hg : s.grantable q = false) (ht : (s.queue q).sqTail = (s.queue q).sqHead) : s.serveQueue q = s.reachTail q := by
  have hne : (s.queue q).st ≠ .idlePending := by simp [hs]
  exact (if_neg hne).trans ((if_neg (Bool.eq_false_iff.1 hg)).trans (if_pos ht))

theorem grantable_of_wantsGrant {h : Head} (hh : (s.queue q).head = some h) (hw : s.wantsGrant q (s.queue q) = true) : s.grantable q = true := by
  have hw' : s.ctxHeld (s.queue q).ctx = false ∧ s.grantable q = true := by simpa [wantsGrant, hs, hh] using hw
  exact hw'.2

end

theorem grantable_no_head (hh : (s.queue q).head = none) : s.grantable q = false := by simp only [grantable, hh]

/-- The head of a queue with its completion place reserved. -/
def granted (q : Nat) (h : Head) (s : State) : State :=
  s.setQueue q { s.queue q with reserved := (s.queue q).reserved + 1, head := some { h with granted := true } }

theorem grantHead_eq {h : Head} (hh : (s.queue q).head = some h) :
    s.grantHead q = match h.preset with | some st => (s.granted q h).takeHead q h .ended st | none => s.granted q h := by
  simp only [grantHead, hh]
  rfl

theorem grantHead_waits {h : Head} (hh : (s.queue q).head = some h) (hp : h.preset = none) : s.grantHead q = s.granted q h := by
  rw [grantHead_eq hh, hp]

theorem grantHead_ends {h : Head} {st : Nat} (hh : (s.queue q).head = some h) (hp : h.preset = some st) :
    s.grantHead q = (s.granted q h).takeHead q h .ended st := by
  rw [grantHead_eq hh, hp]

/-! ### Slots that are read (R41, R42, R452, R453) -/

theorem readSlots_one (k : Who) (v : Queue) (i : Nat) :
    readSlots k v [i] s = match (engRead k (slotAddr v i) 64).exec s with
      | (.ok bs, t) => (.ok bs, t)
      | (.error e, t) => (.error (e, i), t) := by
  simp only [readSlots]
  rcases (engRead k (slotAddr v i) 64).exec s with ⟨e | bs, t⟩
  · rfl
  · simp only [List.append_nil]

/-- A queue takes the descriptor `d` of its next slots, all of which have been read, as its head. -/
def takeSlots (check : Desc → Option Nat) (q : Nat) (v : Queue) (d : Desc) (s : State) : State :=
  let t := s.forget (.slot q)
  let c := t.headCheck v d (check d)
  let h : Head := { desc := d, slot := v.sqHead, preset := c.1, noSig := c.2, waited := false, granted := false }
  let x := { v.advance (if dExt d = true then 4 else 1) with head := some h, reading := false, partialTail := none }
  ((t.setQueue q x).rpEvent 0x02 0 q (w64 v.sqHead) 0 (some (d, dExt d))).beginWait q

/-- What follows the read of a queue's next slot: its generation, and the slots behind it where it is extended. -/
def slotArrived (check : Desc → Option Nat) (k : Who) (q : Nat) (v : Queue) (bs : List Byte) (t : State) : State :=
  let d := State.slotsDesc bs
  if dGen d ≠ v.sqGen then (t.forget (.slot q)).staleFetch q
  else
    let v := { v with staleRetries := 0 }
    let t := t.setQueue q v
    if dExt d = false then takeSlots check q v d t
    else if v.unfetched < 4 then ((t.forget (.slot q)).setQueue q { v with reading := false, partialTail := some v.sqTail }).reachTail q
    else match State.readSlots k v [1, 2, 3] t with
    | (.ok more, u) => takeSlots check q v (State.slotsDesc (bs ++ more)) u
    | (.error (.fail st, i), u) => (u.forget (.slot q)).slotFailed q st i
    | (.error (.wait, _), u) => u

theorem slotRead_fetching (check : Desc → Option Nat) (hr : (s.queue q).reading = true) (hs : (s.queue q).st = .fetching) :
    s.slotRead check q = After ((engRead (s.queueWho q (.slot q)) (slotAddr (s.queue q) 0) 64).exec s)
      (fun bs t => slotArrived check (s.queueWho q (.slot q)) q (s.queue q) bs t) (fun st t => (t.forget (.slot q)).slotFailed q st 0) := by
  have hgo : ¬ (!(s.queue q).reading || decide ((s.queue q).st ≠ .fetching)) = true := by simp [hr, hs]
  refine (if_neg hgo).trans ?_
  rw [readSlots_one]
  refine eq_after (fun bs t he => ?_) (fun st t he => by rw [he]) (fun t he => by rw [he])
  rw [he]
  simp only [slotArrived]
  split
  next hg => rfl
  next hg =>
    cases hx : dExt (slotsDesc bs) with
    | false =>
      simp only [Bool.false_eq_true, false_and, if_false, readSlots, List.append_nil, takeSlots, hx, if_true]
    | true =>
      simp only [true_and, if_true, Bool.true_eq_false, if_false]
      split
      · rfl
      · generalize readSlots _ _ [1, 2, 3] _ = r
        rcases r with ⟨⟨(st | _), i⟩ | more, u⟩
        · rfl
        · rfl
        · rfl

/-! ### Failures and stale slots (R73, R452) -/

theorem deferEntry_state {st : QState} (hst : (s.queue q).st = st) (hne : st ≠ .disabled) (e : CqEntry) : ((s.deferEntry q e).queue q).st = st := by
  rw [deferEntry, updQueue, queue_setQueue_enabled (by rw [hst]; exact hne), hst]

theorem slotFailed_state (st i : Nat) : ((s.slotFailed q st i).queue q).st = .error := by
  refine deferEntry_state ?_ (by decide) _
  exact congrArg Queue.st (queue_setQueue_enabled (by simp) q s)

theorem staleFetch_again (h : (s.queue q).staleRetries < 8) :
    s.staleFetch q = s.setQueue q
      { s.queue q with staleRetries := (s.queue q).staleRetries + 1, staleDue := some (s.now + 256 * 2 ^ (s.queue q).staleRetries), reading := false } :=
  if_pos h

theorem staleFetch_state (h : 8 ≤ (s.queue q).staleRetries) : ((s.staleFetch q).queue q).st = .error := by
  rw [staleFetch, if_neg (Nat.not_lt.2 h), queue_congr (congrArg Qe.queues (unreported_qe.raise ..))]
  refine deferEntry_state ?_ (by decide) _
  exact congrArg Queue.st (queue_setQueue_enabled (by simp) q s)

theorem staleRetryOp_due (hd : (s.queue q).staleDue ≠ none) (hs : (s.queue q).st = .fetching) (hc : s.ctxHeld (s.queue q).ctx = false) :
    s.staleRetryOp q = s.setQueue q { s.queue q with staleDue := none, reading := true } :=
  if_pos ⟨Option.isSome_iff_ne_none.2 hd, hs, by rw [hc]; rfl⟩

end

end State

/-- What a bank's grant does where it has one queue to serve (R63). -/
theorem Nexts.of_sole_grant {b : BitVec 2} {s u : State} {q : Nat}
    (hr : (s.qe.queues.filter fun e => decide (e.1 / 16384 = b.toNat) && s.wantsGrant e.1 e.2) = [(q, s.queue q)])
    (hf : s.isFenced (Dom.bank b.toNat) = false) (ha : s.Awake (Dom.bank b.toNat)) (hu : s.keep ((s.servedAlone b.toNat q).serveQueue q) = u) :
    Nexts (.queueGrant b) s u := by
  refine Nexts.of_clocked rfl (Eq.trans (congrArg s.keep ?_) hu)
  rw [if_pos (wantsGrant_of_sole hr).2, touch_awake ha.1 ha.2, grantBank_sole hr hf]

/-- Settles O9: grants, the fetch of slots, and the retries of stale ones. -/
theorem headsAreFetched : Obligations.HeadsAreFetched := by
  refine ⟨fun b s q _ hr hf ha => ⟨fun hs => ?_, fun hs hh ht => ?_, fun hs hh ht => ?_, fun h hs hh => ⟨fun hp => ?_, fun st hp => ?_⟩⟩,
    fun q s hr hs => .of_clocked rfl (slotRead_fetching gzHeadCheck hr hs),
    fun q st i t => ⟨slotFailed_state st i, rfl, staleFetch_again, staleFetch_state⟩,
    fun q s hd hs hc => .of_clocked rfl (keep_eq (staleRetryOp_due hd hs hc) rfl)⟩
  · exact .of_sole_grant hr hf ha (keep_eq (serveQueue_tail hs) rfl)
  · exact .of_sole_grant hr hf ha (keep_eq (serveQueue_slot hs (grantable_no_head hh) ht) rfl)
  · exact .of_sole_grant hr hf ha (keep_eq (serveQueue_reached hs (grantable_no_head hh) ht) rfl)
  · have hg : (s.servedAlone b.toNat q).grantable q = true := grantable_of_wantsGrant hs hh (wantsGrant_of_sole hr).1
    exact .of_sole_grant hr hf ha (keep_eq ((serveQueue_head (s := s.servedAlone b.toNat q) hs hg).trans (grantHead_waits hh hp)) rfl)
  · have hg : (s.servedAlone b.toNat q).grantable q = true := grantable_of_wantsGrant hs hh (wantsGrant_of_sole hr).1
    exact .of_sole_grant hr hf ha (congrArg s.keep ((serveQueue_head (s := s.servedAlone b.toNat q) hs hg).trans (grantHead_ends hh hp)))

end Sys2Proof.Machine

/-! ## Completion entries and the queue engine's timers (O10) -/

namespace Sys2Proof.Machine

open State

/-- What follows a completion entry, which has been written or has to wait. -/
theorem written_eq (x : Bool × State) (f : State → State) :
    (match x with
      | (true, t) => f t
      | (false, t) => t) = if x.1 = true then f x.2 else x.2 := by
  obtain ⟨_ | _, t⟩ := x <;> rfl

namespace State

section
variable {s : State} {q : Nat}

/-! ### Ended work (R45, R52, R69, R255) -/

/-- Ended work `w` with its signal applied, and the state in which its entry is then written. -/
def signalled (id : Nat) (w : Work) (s : State) : Work × State :=
  let lost := (s.postedOf (.work id)).2
  let c := if dOpcode w.desc = 0x04 ∧ w.status = 0 ∧ w.acc = 0 then s.handlesUpdated w lost.isSome else s
  let r := c.signalAt w.desc w.ctx (some w.q) (if w.status = 0 then lost.getD 0 else w.status) w.noSig
  let y := { w with status := r.1, noSig := true, acc := 1 }
  (y, (r.2.modSf fun f => { f with posted := f.posted.filter (fun p => p.who ≠ .work id) }).setWork y)

/-- The completion entry of signalled work. -/
def workEntry (y : Work) : CqEntry :=
  { status := y.status, slot := none, cmdId := dCmdId y.desc, result := y.result, irq := dIrq y.desc, detached := false }

/-- Signalled work whose entry is written, or that needs none, is over. -/
def finishWork (y : Work) (s : State) : State :=
  ((s.updQueue y.q fun v => { v with reserved := v.reserved - 1, lastStatus := y.status }).dropWork y).rpEvent 0x04 0 y.q
    (w64 (dCmdId y.desc) ||| fld y.status 16) y.result none

theorem completeWork_ended {id : Nat} {w : Work} (hw : s.work? id = some w) (he : w.phase = .ended) (hq : s.isQuiesced id = false)
    (hp : (s.postedOf (.work id)).1 = 0) :
    s.completeWork id =
      let y := (s.signalled id w).1
      let u := (s.signalled id w).2
      let x := u.writeEntry y.q (workEntry y)
      if dQuiet y.desc = true ∧ y.status = 0 then u.finishWork y else if x.1 = true then x.2.finishWork y else x.2 := by
  have hgo : ¬(w.phase ≠ .ended ∨ (s.postedOf (.work id)).1 ≠ 0 ∨ s.isQuiesced id = true) := by simp [he, hq, hp]
  simp only [completeWork, hw]
  rw [if_neg hgo]
  refine if_congr Iff.rfl rfl ?_
  exact written_eq _ (finishWork (s.signalled id w).1)

/-! ### Entries without a reserved place (R454) -/

theorem writeDeferred_room {e : CqEntry} {rest : List CqEntry} (hd : (s.queue q).deferred = e :: rest) (hr : 0 < (s.queue q).room) :
    s.writeDeferred q =
      let r := s.writeEntry q e
      if r.1 = true then (r.2.updQueue q fun v => { v with deferred := rest }).rpEvent 0x04 0 q (w64 e.cmdId ||| fld e.status 16) e.result none
      else r.2 := by
  simp only [writeDeferred, hd]
  rw [if_neg (Nat.ne_of_gt hr)]
  exact written_eq _ fun t => (t.updQueue q fun v => { v with deferred := rest }).rpEvent 0x04 0 q (w64 e.cmdId ||| fld e.status 16) e.result none

theorem writeEntry_eq (e : CqEntry) :
    let v := s.queue q
    let w := Waiter.entry q v.cqTail
    let a := v.cqBase + w64 (16 * v.cqTail)
    s.writeEntry q e = match (engWrite (s.queueWho q w) a (entryBytes v.cqPhase q (e.slot.getD v.sqHead) e)).exec s with
      | (.ok (), t) => (true, (t.forgetReads w).entryWritten q e)
      | (.error (.fail _), t) => (true, ((t.raise Reg.QE Err.QE_CQ_WRITE (Capture.ctxAddr a true q (t.queue q).ctx)).forget w).entryWritten q e)
      | (.error .wait, t) => (false, t) := by
  simp only [writeEntry]
  generalize M.exec _ s = r
  rcases r with ⟨(st | _) | _, t⟩ <;> rfl

/-! ### Entries whose write has been performed (R454) -/

section
variable {place : Nat} {p : Posted} (hp : (s.sf.posted.find? fun p => decide (p.who = .entry q place)) = some p)
include hp

theorem entryPerformed_outstanding (hn : p.n ≠ 0) : s.entryPerformed q place = s := by
  simp only [entryPerformed, hp]
  exact if_pos hn

theorem entryPerformed_written (hn : p.n = 0) (hf : p.failed = none) : s.entryPerformed q place = s.forget (.entry q place) := by
  simp only [entryPerformed, hp, hn, hf]
  rfl

theorem entryPerformed_lost (hn : p.n = 0) (hf : p.failed ≠ none) :
    s.entryPerformed q place = (s.forget (.entry q place)).raise Reg.QE Err.QE_CQ_WRITE
      (Capture.ctxAddr ((s.queue q).cqBase + w64 (16 * place)) true q (s.queue q).ctx) := by
  simp only [entryPerformed, hp, hn, Option.isSome_iff_ne_none.2 hf]
  rfl

end

/-! ### Timers (R47, R71) -/

theorem intTimeOp_sends (hd : (s.queue q).coalDue ≠ none) (hf : s.queueFenced q = false) (hi : (s.queue q).irqEn = true) :
    s.intTimeOp q = (s.setQueue q { s.queue q with coalCount := 0, coalDue := none }).sendVector (s.queue q).fn (s.queue q).vector :=
  (if_neg (by simp [hd, hf])).trans (if_pos hi)

theorem intTimeOp_silent (hd : (s.queue q).coalDue ≠ none) (hf : s.queueFenced q = false) (hi : (s.queue q).irqEn = false) :
    s.intTimeOp q = s.setQueue q { s.queue q with coalDue := none } :=
  (if_neg (by simp [hd, hf])).trans (if_neg (Bool.eq_false_iff.1 hi))

theorem watchdog_off (h : s.regBits Reg.QE_CTRL 63 48 = 0 ∨ s.boot.loaded = false) : s.watchdog = s :=
  if_pos (h.imp_right fun h => .inr (by rw [h]; rfl))

theorem watchdog_sole (hl : s.regBits Reg.QE_CTRL 63 48 ≠ 0) (hr : s.rp.replaying = false) (hb : s.boot.loaded = true)
    (hq : (s.qe.queues.filter fun e => s.overdue e.2 && !s.isFenced (Dom.bank (e.1 / 16384))) = [(q, s.queue q)])
    (hw : s.walkFrom q 16 q [q] = none) :
    s.watchdog = (s.parkQueue St.FENCE_TIMEOUT q).raise Reg.QE Err.QE_FENCE_TIMEOUT
      { Capture.none with cls := 2, index := q, ctx := some (s.queue q).ctx } := by
  have hover : s.overdue (s.queue q) = true := by
    have hmem : (q, s.queue q) ∈ s.qe.queues.filter fun e => s.overdue e.2 && !s.isFenced (Dom.bank (e.1 / 16384)) := by
      rw [hq]; exact List.mem_singleton_self _
    exact (Bool.and_eq_true_iff.1 (List.mem_filter.1 hmem).2).1
  refine (if_neg (by simp [hl, hr, hb])).trans ?_
  rw [hq]
  simp only [sortBy, insertBy, List.foldl_cons, List.foldl_nil, hover, hw, Bool.not_true, Bool.false_eq_true, if_false]

end

end State

/-- Settles O10: completion entries, those without a place, those that fail, and the timers of interrupts and fences. -/
theorem completionsAndTimers : Obligations.CompletionsAndTimers := by
  refine ⟨⟨fun id s w hw he hq hp => .of_clocked rfl (completeWork_ended hw he hq hp), fun q s e rest hd hr => .of_clocked rfl (writeDeferred_room hd hr),
      fun q e s => writeEntry_eq e, fun q place p s hp => ⟨entryPerformed_outstanding hp, entryPerformed_written hp, entryPerformed_lost hp⟩⟩,
    fun q s hd hf => ⟨fun hi => ?_, fun hi => ?_⟩, fun s h => ?_, fun s q hl hr hb hq hw => ?_⟩
  · exact .of_clocked rfl (congrArg s.keep (intTimeOp_sends hd hf hi))
  · exact .of_clocked rfl (keep_eq (intTimeOp_silent hd hf hi) rfl)
  · exact .of_clocked rfl (keep_eq (watchdog_off h) rfl)
  · exact .of_clocked rfl (congrArg s.keep (watchdog_sole hl hr hb hq hw))

end Sys2Proof.Machine

/-! ## A counterexample: the RESULT of a PREFETCH that fails on its way (O12) -/

namespace Sys2Proof.Machine

open State

namespace State

/-- A PREFETCH with CONVERT and OUT, of 2,050 bytes from address 0 to address 2^20 through profile 0, granted. -/
def convertOut : Head :=
  { desc := BitVec.ofNat _ (0x20 + 2 ^ 20 * 2 ^ (8 * 40) + 2050 * 2 ^ (8 * 48) + 0x30 * 2 ^ (8 * 56)), slot := 0, preset := none, noSig := false,
    waited := true, granted := true }

/-- `convertOut` is the head of queue 0. Profile 0 widens its source's two bytes an element to FP32's four; segment 0 of context 0 leads to host
memory, which refuses the last two bytes of the source; and the Gazelle has been granted. -/
def sourceEndRefused : State :=
  { (((reset.setReg Reg.GZ_PROFILE (fld 1 23 ||| 1)).modCh fun c =>
      { c with segs := [(0, { q0 := 0, q1 := fld 1 63 ||| fld 4 60 ||| fld 3 58 ||| fld 1 21, q2 := 0 })] }).modGz fun g =>
      { g with holds := [{ who := .work 0, unit := 0, runs := 0 }] }).setQueue 0
        { Queue.reset with st := .fetching, sqHead := 1, sqTail := 3, head := some convertOut, reserved := 1 } with
    hostRefused := [(2048, 2050)] }

/-- The status and RESULT of work 0, if there is one. -/
def firstOutcome (s : State) : Option (Nat × Word) := (s.work? 0).map fun w => (w.status, w.result)

end State

/-- The same after a command. -/
def outcomeAfter (r : Result) : Option (Nat × Word) :=
  match r with
  | .next s => s.firstOutcome
  | _ => none

/-- The first piece has been written, 4,096 bytes of it, when the second cannot be read (R194). -/
theorem exec_prefetch_sourceEndRefused : outcomeAfter (exec (.prefetch 0) sourceEndRefused) = some (St.PAGE_FAULT, 4096) := by decide +kernel

/-- Refutes O12: the RESULT of a PREFETCH that fails is the bytes it has written to DST (R194), and the statement has it be the count of the
pieces it has done. In `sourceEndRefused` that is 1, where the work ends with 4,096. -/
theorem not_engineOperations : ¬ Obligations.EngineOperations := by
  unfold Obligations.EngineOperations
  intro ⟨_, hprefetch⟩
  obtain ⟨hexec, -⟩ := hprefetch 0 sourceEndRefused convertOut (by decide +kernel) (by decide)
  have hpieces : outcomeAfter (exec (.prefetch 0) sourceEndRefused) = some (St.PAGE_FAULT, 1) := by
    rw [hexec]
    decide +kernel
  exact absurd (exec_prefetch_sourceEndRefused.symm.trans hpieces) (by decide)

end Sys2Proof.Machine

/-! ## Launches, dispatches and reports (O13) -/

namespace Sys2Proof.Machine

open State

namespace State

section
variable {s t : State} {w : Work}

/-! ### A LAUNCH goes on (R53 to R55) -/

theorem runLaunch_bad (hb : launchBad w.desc = true) : t.runLaunch w = t.endWork w.id St.FORMAT_ERROR 0 := if_pos hb

theorem runLaunch_unpatched (hb : launchBad w.desc = false) (hp : patchPoints w.desc = []) :
    t.runLaunch w = After ((programCheck (t.workWho w) w.desc).exec t) (fun _ u => u.offer w) (fun st u => u.endWork w.id st 0) := by
  refine (if_neg (Bool.eq_false_iff.1 hb)).trans ((if_pos hp).trans ?_)
  exact eq_after (fun _ _ h => by rw [h]) (fun _ _ h => by rw [h]) (fun _ h => by rw [h])

section
variable (hb : launchBad w.desc = false) (hp : patchPoints w.desc ≠ [])
include hb hp

theorem runLaunch_patched (hc : w.count = 1) (hn : t.postedOf (.work w.id) = (0, none)) : t.runLaunch w = t.offer w := by
  simp only [runLaunch, hb, hp, hc, hn, Bool.false_eq_true, if_false, if_true, ne_eq, not_true_eq_false]

theorem runLaunch_patch_lost {st : Nat} (hc : w.count = 1) (hn : t.postedOf (.work w.id) = (0, some st)) :
    t.runLaunch w = t.endWork w.id st 0 := by
  simp only [runLaunch, hb, hp, hc, hn, Bool.false_eq_true, if_false, if_true, ne_eq, not_true_eq_false]

theorem runLaunch_patches (hc : w.count ≠ 1) :
    t.runLaunch w = After ((patchBuffer (t.workWho w) w.desc).exec t)
      (fun _ u => let v := u.setWork { w with count := 1 }
        if (v.postedOf (.work w.id)).1 = 0 then v.offer { w with count := 1 } else v) (fun st u => u.endWork w.id st 0) := by
  refine (if_neg (Bool.eq_false_iff.1 hb)).trans ((if_neg hp).trans ((if_neg hc).trans ?_))
  exact eq_after (fun _ _ h => by rw [h]) (fun _ _ h => by rw [h]) (fun _ h => by rw [h])

end

/-! ### A LAUNCH starts (R53, R55) -/

section
variable {q : Nat} {h : Head} (hh : s.headFor q 0x05 = some h)
include hh

theorem tryLaunch_at_once (hl : launchBad h.desc = true ∨ patchPoints h.desc = []) :
    s.tryLaunch q = ((s.takeHead q h .running 0).setWork (s.newWork q h .running 0)).runLaunch (s.newWork q h .running 0) := by
  simp only [tryLaunch, hh, hl, if_true]
  rfl

/-- A patched LAUNCH has found the buffer `key` to which it is to be written. -/
def launchInto (q : Nat) (h : Head) (key : Nat) (t : State) : State :=
  let inUse := t.qe.works.filter fun w => w.buffer.isSome
  if (inUse.any fun w => decide (w.buffer = some key)) = true ∨ 256 ≤ inUse.length then t.waitResource q
  else
    let x := { t.newWork q h .running 0 with buffer := some key }
    ((t.takeHead q h .running 0).setWork x).runLaunch x

theorem tryLaunch_patched (hb : launchBad h.desc = false) (hp : patchPoints h.desc ≠ []) :
    s.tryLaunch q = After ((launchKey (s.queueWho q (.slot q)) h.desc).exec s) (fun key t => launchInto q h key (t.forget (.slot q)))
      (fun st t => ((t.forget (.slot q)).takeHead q h .running 0).endWork (t.forget (.slot q)).qe.nextWork st 0) := by
  have hn : ¬(launchBad h.desc = true ∨ patchPoints h.desc = []) := by simp [hb, hp]
  simp only [tryLaunch, hh, hn, if_false]
  refine eq_after (fun key t he => ?_) (fun st t he => by rw [he]) (fun t he => by rw [he])
  simp only [he, launchInto, Bool.or_eq_true, decide_eq_true_eq]

end

/-! ### Records of the dispatch channels (R432) -/

section
variable {g id : Nat} {rest : List Nat} (hg : Map.getD [] g s.qe.offers = id :: rest) (hw : s.work? id = some w)
include hg hw

/-- The first record of channel `g` has been taken, of work `w`. -/
def recordTaken (g : Nat) (rest : List Nat) (id : Nat) (w : Work) (s : State) : State :=
  (s.modQe fun e => { e with offers := Map.put [] g rest e.offers, dispatched := e.dispatched ++ [id] }).setWork { w with phase := .taken }

theorem offerTaken_eq :
    s.offerTaken g = match rest.findSome? (s.recordTaken g rest id w).work? with
      | some x => (s.recordTaken g rest id w).emit (.dispatch g (dispatchRecord x))
      | none => s.recordTaken g rest id w := by
  have hw' : (s.modQe fun e => { e with offers := Map.put [] g rest e.offers, dispatched := e.dispatched ++ [id] }).work? id = some w := hw
  simp only [offerTaken, hg, hw']
  rfl

theorem offerTaken_last (hr : rest = []) : s.offerTaken g = s.recordTaken g rest id w := by
  rw [offerTaken_eq hg hw, hr]
  rfl

theorem offerTaken_next {x : Work} (hx : rest.findSome? (s.recordTaken g rest id w).work? = some x) :
    s.offerTaken g = (s.recordTaken g rest id w).emit (.dispatch g (dispatchRecord x)) := by
  rw [offerTaken_eq hg hw, hx]

end

/-! ### Reports (R56) -/

theorem endWork_going {id : Nat} (hw : s.work? id = some w) (hp : w.phase ≠ .ended) (st : Nat) (r : Word) :
    s.endWork id st r = s.setWork { w with phase := .ended, status := st, result := r } := by
  simp only [endWork, hw, hp, if_false]

/-- The queues of a page belong to the page's bank. -/
theorem bank_of_page (page : Nat) (i : BitVec 6) : (64 * page + i.toNat) / 16384 = page / 256 := by
  have hi := i.isLt
  omega

theorem dbCheck_report {n : Fin 16} {page : BitVec 10} {i : BitVec 6} (hf : s.isFenced (Dom.bank (page.toNat / 256)) = false) :
    s.dbCheck (.port n page) .coreDone page.toNat (64 * page.toNat + i.toNat) = none := by
  simp [dbCheck, queueFenced, bank_of_page, hf, dbFunction]

theorem coreDoneBell_ends {d : Doorbell} {n : Fin 16} {page : BitVec 10} {h : Half} (hd : d.origin = .port n page) (hh : d.half = some h)
    (hf : s.isFenced (Dom.bank (page.toNat / 256)) = false) (hq : s.rp.recording = false) (hr : s.rp.replaying = false)
    (hx : ((s.dispatches (64 * page.toNat + d.index.toNat)).find? fun w =>
      decide (w.phase = .taken) && decide (dCmdId w.desc = bits (halfValue h d.value) 15 0)) = some w) :
    s.coreDoneBell d = s.endWork w.id (bits (halfValue h d.value) 23 16) (w64 (bits (halfValue h d.value) 63 32)) := by
  simp only [coreDoneBell, hh, hd, dbPageOf, dbCheck_report hf, hx, dbRecord, rpEvent, hq, hr, Bool.false_eq_true, if_false, Bool.not_false,
    Bool.true_or, if_true]

end

end State

/-- Settles O13: a LAUNCH that starts and goes on, the records of a channel, and the reports of a group. -/
theorem launchesAndReports : Obligations.LaunchesAndReports := by
  refine ⟨fun q s h hh => ⟨fun hb => ?_, fun hb hp => ?_, fun hb hp => ?_⟩,
    fun w t hb hp => ⟨runLaunch_patched hb hp, fun st => runLaunch_patch_lost hb hp, runLaunch_patches hb hp⟩,
    fun g s id rest w hg hw => ⟨fun hr => ?_, fun x hx => ?_⟩, fun n page i value s w ho hq hr hx hw => ?_⟩
  · exact .of_clocked rfl ((tryLaunch_at_once hh (.inl hb)).trans (runLaunch_bad hb))
  · exact .of_clocked rfl ((tryLaunch_at_once hh (.inr hp)).trans (runLaunch_unpatched hb hp))
  · exact .of_clocked rfl (tryLaunch_patched hh hb hp)
  · exact .of_clocked rfl (keep_eq (offerTaken_last hg hw hr) rfl)
  · exact .of_clocked rfl (keep_eq (offerTaken_next hg hw hx) rfl)
  · have hphase : w.phase ≠ .ended := by
      have htaken := List.find?_some hx
      simp only [Bool.and_eq_true, decide_eq_true_eq] at htaken
      rw [htaken.1]
      decide
    refine Nexts.of_keep rfl (keep_eq ?_ rfl)
    refine (bellOp_open (k := .coreDone) ⟨rfl, ho, rfl⟩).trans ?_
    exact (coreDoneBell_ends (d := { origin := .port n page, index := i, half := some .full, value := value }) rfl rfl (isFenced_of_ready ho.2) hq hr hx).trans (endWork_going hw hphase _ _)

end Sys2Proof.Machine

/-! ## The descriptors of serving (O20) -/

namespace Sys2Proof.Machine

open State

namespace State

section
variable {s : State} {w : Work}

/-! ### SERVE_CONFIG (R136, R137) -/

/-- An operation that looks up the segment tables goes on where Chamois is ready, or fenced. -/
theorem atChamois_open {f : State → State} {x : Waiter} (h : s.domReady Dom.chamois = true ∨ s.isFenced Dom.chamois = true) :
    s.atChamois x f = f s := by
  have hgo : (needDomain x Dom.chamois).exec s = (.ok (), s) := by
    have hor : (s.domReady Dom.chamois || s.isFenced Dom.chamois) = true := by simpa using h
    change (if (s.domReady Dom.chamois || s.isFenced Dom.chamois) = true then (pure () : M Unit) else _).exec s = _
    rw [if_pos hor]
    rfl
  simp only [atChamois, hgo]

theorem runServeConfig_fenced (hf : s.isFenced Dom.ibex = true) : s.runServeConfig w = s.endWork w.id St.DEVICE_ERROR 0 := if_pos hf

section
variable (hf : s.isFenced Dom.ibex = false)
include hf

theorem runServeConfig_denied (hn : w.fn ≠ 0) : s.runServeConfig w = s.endWork w.id Sv.DENIED 0 :=
  (if_neg (Bool.eq_false_iff.1 hf)).trans (if_pos hn)

variable (hn : w.fn = 0)
include hn

theorem runServeConfig_stops (ho : descNat w.desc 49 1 % 2 = 0) (hr : s.bt.reqs = []) :
    s.runServeConfig w = (s.modBt fun t => { t with serving := false }).endWork w.id St.SUCCESS 0 :=
  (if_neg (Bool.eq_false_iff.1 hf)).trans ((if_neg (not_not.2 hn)).trans ((if_pos ho).trans (if_pos hr)))

theorem runServeConfig_serves_on (ho : descNat w.desc 49 1 % 2 = 0) (hr : s.bt.reqs ≠ []) :
    s.runServeConfig w = s.endWork w.id Sv.STATE 0 :=
  (if_neg (Bool.eq_false_iff.1 hf)).trans ((if_neg (not_not.2 hn)).trans ((if_pos ho).trans (if_neg hr)))

section
variable (ho : descNat w.desc 49 1 % 2 = 1)
include ho

theorem runServeConfig_wrong_state (h : s.ib.active = false ∨ s.bt.serving = true) : s.runServeConfig w = s.endWork w.id Sv.STATE 0 :=
  (if_neg (Bool.eq_false_iff.1 hf)).trans ((if_neg (not_not.2 hn)).trans ((if_neg (by omega)).trans (if_pos (by simpa using h))))

variable (ha : s.ib.active = true) (hv : s.bt.serving = false) (hc : s.domReady Dom.chamois = true ∨ s.isFenced Dom.chamois = true)
include ha hv hc

theorem runServeConfig_bad (hb : s.serveBad w = true) : s.runServeConfig w = s.endWork w.id St.FORMAT_ERROR 0 := by
  refine (if_neg (Bool.eq_false_iff.1 hf)).trans ((if_neg (not_not.2 hn)).trans ((if_neg (by omega)).trans ((if_neg (by simp [ha, hv])).trans ?_)))
  exact (atChamois_open hc).trans (if_pos hb)

/-- Serving begins, with the logits at device address `da` (R136 Table 1). -/
def beginServing (w : Work) (da : Nat) (t : State) : State :=
  let d := w.desc
  let q0 := fld (descNat d 52 2) 48 ||| fld (descNat d 50 2) 32 ||| fld (descNat d 48 1) 24 ||| w64 (descNat d 44 4)
  let q1 := fld (descNat d 54 2) 49 ||| fld (descNat d 56 4) 32 ||| w64 (descNat d 40 4)
  let r := ((t.setReg Reg.BT_SERVE q0).setReg (Reg.BT_SERVE + 8) q1).setReg (Reg.BT_SERVE + 16) (descQ d 32)
  (r.btStart.modBt fun t => { t with serving := true, ctx := w.ctx, logits := da }).endWork w.id St.SUCCESS 0

theorem runServeConfig_begins (hb : s.serveBad w = false) :
    let d := w.desc
    let len := descNat d 50 2 * descNat d 40 4
    let ending (st : Nat) (t : State) : State := t.endWork w.id st 0
    s.runServeConfig w = After ((operandAddr (s.workWho w) (dHandles d) (descQ d 32) len false).exec s) (fun a t =>
      if a.toNat % 64 ≠ 0 ∨ (t.segCheck w.ctx a len (some false)).isNone = true then ending St.FORMAT_ERROR t
      else After ((translate (s.workWho w) a len false).exec t) (fun x t => match x with
        | .device da _ =>
          if regionOf da ≠ .tier1 ∨ regionOf (da + len - 1) ≠ .tier1 then ending St.FORMAT_ERROR t else t.beginServing w da
        | _ => ending St.FORMAT_ERROR t) ending) ending := by
  refine (if_neg (Bool.eq_false_iff.1 hf)).trans ((if_neg (not_not.2 hn)).trans ((if_neg (by omega)).trans ((if_neg (by simp [ha, hv])).trans ?_)))
  refine (atChamois_open hc).trans ((if_neg (Bool.eq_false_iff.1 hb)).trans ?_)
  dsimp only
  refine eq_after (fun a t he => ?_) (fun st t he => by rw [he]) (fun t he => by rw [he])
  rw [he]
  refine if_congr Iff.rfl rfl ?_
  have hk : t.workWho w = s.workWho w := rfl
  rw [hk]
  refine eq_after (fun x u hx => ?_) (fun st u hx => by rw [hx]) (fun u hx => by rw [hx])
  rw [hx]
  cases x <;> rfl

end
end

/-! ### OPEN_REQUEST (R74, R140) -/

section
variable {q : Nat} {h : Head} (hh : s.headFor q 0x31 = some h)
include hh

/-- A queue whose head may start does not wait. -/
theorem fetching_of_headFor : (s.queue q).st = .fetching ∧ (s.queue q).head = some h ∧ dOpcode h.desc = 0x31 := by
  have hop := opcode_of_headFor hh
  simp only [headFor] at hh
  split at hh
  next x hx =>
    split at hh
    next hg =>
      cases hh
      simp only [Bool.and_eq_true, decide_eq_true_eq] at hg
      obtain ⟨⟨⟨⟨-, hs⟩, -⟩, -⟩, -⟩ := hg
      exact ⟨hs, hx, hop⟩
    · cases hh
  · cases hh

/-- An OPEN_REQUEST at the head of a queue that fetches is tried. -/
theorem tryOpen_head :
    s.tryOpen q = match s.openCheck (s.queue q).ctx h.desc with
      | some st => (s.takeHead q h .running 0).endWork s.qe.nextWork st 0
      | none => if !s.openRoom then s.waitResource q else (s.takeHead q h .running 0).runOpen (s.newWork q h .running 0) := by
  obtain ⟨hs, -, -⟩ := fetching_of_headFor hh
  simp only [tryOpen, hs, hh, reduceCtorEq, false_and, decide_false, Bool.false_and, Bool.false_eq_true, if_false] <;> rfl

theorem tryOpen_fails {st : Nat} (hc : s.openCheck (s.queue q).ctx h.desc = some st) :
    s.tryOpen q = (s.takeHead q h .running 0).endWork s.qe.nextWork st 0 := by rw [tryOpen_head hh, hc]

variable (hc : s.openCheck (s.queue q).ctx h.desc = none)
include hc

theorem tryOpen_full (hr : s.openRoom = false) : s.tryOpen q = s.waitResource q := by
  rw [tryOpen_head hh, hc, hr]
  rfl

theorem tryOpen_starts (hr : s.openRoom = true) : s.tryOpen q = (s.takeHead q h .running 0).runOpen (s.newWork q h .running 0) := by
  rw [tryOpen_head hh, hc, hr]
  rfl

end

theorem runOpen_running (hp : w.phase = .running) :
    s.runOpen w = match s.openCheck w.ctx w.desc with
      | some st => s.endWork w.id st 0
      | none => After ((openRead (s.workWho w) w.desc).exec s) (fun x t => (t.dropGot (.work w.id)).openAccept w x.1 x.2.1 x.2.2)
          fun st t => t.endWork w.id st 0 := by
  refine (if_neg (not_not.2 hp)).trans ?_
  cases s.openCheck w.ctx w.desc with
  | some st => rfl
  | none => exact eq_after (fun _ _ he => by rw [he]) (fun _ _ he => by rw [he]) (fun _ he => by rw [he])

/-- A waiting OPEN_REQUEST for which there is still no room goes on waiting. -/
theorem tryOpen_waits_on {q : Nat} {h : Head} (hs : (s.queue q).st = .waiting) (hk : (s.queue q).waitKind = .resource)
    (hh : (s.setQueue q { (s.queue q).noWait with st := .fetching }).headFor q 0x31 = some h)
    (hc : (s.setQueue q { (s.queue q).noWait with st := .fetching }).openCheck (s.queue q).ctx h.desc = none)
    (hr : (s.setQueue q { (s.queue q).noWait with st := .fetching }).openRoom = false) : s.tryOpen q = s := by
  obtain ⟨-, hhead, hop⟩ := fetching_of_headFor hh
  rw [queue_setQueue_enabled (by simp)] at hhead
  have hhead' : (s.queue q).head = some h := hhead
  simp only [tryOpen, hs, hk, hhead', hop, hh, hc, hr, and_self, decide_true, Option.map_some, Option.getD_some, Bool.and_self, if_true,
    Bool.not_false]

/-! ### CANCEL_REQUEST, SAMPLE and STEP (R143, R156, R160) -/

theorem runCancel_bad (h : 0xFFFF < descNat w.desc 32 4 ∨ descNat w.desc 36 28 ≠ 0) : s.runCancel w = s.endWork w.id St.FORMAT_ERROR 0 := if_pos h

section
variable (hr : descNat w.desc 32 4 ≤ 0xFFFF) (hz : descNat w.desc 36 28 = 0)
include hr hz

theorem cancelForm : ¬(0xFFFF < descNat w.desc 32 4 ∨ descNat w.desc 36 28 ≠ 0) := by simp [hz, hr]

theorem runCancel_not_open (hb : s.bReq? (descNat w.desc 32 4) = none) : s.runCancel w = s.endWork w.id Sv.NOT_OPEN 0 := by
  refine (if_neg (cancelForm hr hz)).trans ?_
  rw [hb]

variable {x : BReq} (hb : s.bReq? (descNat w.desc 32 4) = some x)
include hb

theorem runCancel_foreign (hx : x.ctx ≠ w.ctx) : s.runCancel w = s.endWork w.id Sv.NOT_OPEN 0 := by
  refine (if_neg (cancelForm hr hz)).trans ?_
  rw [hb]
  exact if_pos hx

theorem runCancel_own (hx : x.ctx = w.ctx) :
    s.runCancel w = (s.endRequest (descNat w.desc 32 4) St.CANCELLED).modBt fun t =>
      { t with cancels := t.cancels ++ [{ id := w.id, r := descNat w.desc 32 4, seq := x.seq, work := x.work, q := x.q }] } := by
  refine (if_neg (cancelForm hr hz)).trans ?_
  rw [hb]
  exact if_neg (not_not.2 hx)

end

/-- The form of a SAMPLE that R156 refuses. -/
def SampleBad (d : Desc) : Prop :=
  descBits d 56 18 0 < 2 ∨ 262144 < descBits d 56 18 0 ∨ 2 < descBits d 56 25 24 ∨ descBits d 56 23 19 ≠ 0 ∨ descBits d 56 31 26 ≠ 0 ∨
    (dHandles d = false ∧ (descNat d 32 8 % 64 ≠ 0 ∨ descNat d 40 8 % 16 ≠ 0))

theorem sampleGuard_iff (d : Desc) :
    (descBits d 56 18 0 < 2 ∨ 262144 < descBits d 56 18 0 ∨ 2 < descBits d 56 25 24 ∨ descBits d 56 23 19 ≠ 0 ∨ descBits d 56 31 26 ≠ 0 ∨
      ((!dHandles d) = true ∧ (descNat d 32 8 % 64 ≠ 0 ∨ descNat d 40 8 % 16 ≠ 0))) ↔ SampleBad d := by
  simp only [SampleBad, Bool.not_eq_true']

theorem runSample_bad (h : SampleBad w.desc) : s.runSample w = s.endWork w.id St.FORMAT_ERROR 0 := if_pos ((sampleGuard_iff _).2 h)

theorem runSample_waits (h : ¬ SampleBad w.desc) : s.runSample w = s.modBt fun t => { t with samples := t.samples ++ [w.id] } :=
  if_neg fun hg => h ((sampleGuard_iff _).1 hg)

theorem runStep_denied (h : (s.queue w.q).serve = false) : s.runStep w = s.endWork w.id Sv.DENIED 0 := if_pos (by rw [h]; rfl)

theorem runStep_bad (h : (s.queue w.q).serve = true) (hb : descNat w.desc 50 2 ≠ 0) : s.runStep w = s.endWork w.id St.FORMAT_ERROR 0 :=
  (if_neg (by rw [h]; decide)).trans (if_pos hb)

theorem runStep_offered (h : (s.queue w.q).serve = true) (hb : descNat w.desc 50 2 = 0) : s.runStep w = s.offer w :=
  (if_neg (by rw [h]; decide)).trans (if_neg (not_not.2 hb))

end

end State

/-- A command of the batcher on the granted head of a queue, with what its work does worked out. -/
theorem Ends.of_served {c : Instr} {s u : State} {op q : Nat} {h : Head} {f : Work → State → State}
    (hexec : exec c s = .next (s.whenClocked (s.done (s.inIbex (startWork op f q))))) (hs : s.IbexReady) (hh : s.headFor q op = some h)
    (hf : f (s.newWork q h .running 0) (s.takeHead q h .running 0) = u) : Ends c s u :=
  .of_inIbex hexec hs ((startWork_headFor hh f).trans hf)

/-- The same for a command that settles nothing. -/
theorem Nexts.of_started {c : Instr} {s u : State} {op q : Nat} {h : Head} {f : Work → State → State}
    (hexec : exec c s = .next (s.whenClocked (s.keep (s.startWork op f q)))) (hh : s.headFor q op = some h)
    (hf : f (s.newWork q h .running 0) (s.takeHead q h .running 0) = u) : Nexts c s (s.keep u) :=
  .of_clocked hexec (congrArg s.keep ((startWork_headFor hh f).trans hf))

/-- Settles O20: the failures of the five descriptors, and what is accepted. -/
theorem servingDescriptors : Obligations.ServingDescriptors := by
  intro q s h hs w b d ending
  refine ⟨fun hh => ⟨fun hf => ?_, fun hf => ⟨fun hn => ?_, fun hn ho hr => ?_, fun hn ho hr => ?_, fun hn ho ha => ?_,
      fun hn ho ha hv hc hb => ?_, fun hn ho ha hv hc hb => ?_⟩⟩,
    fun hh => ⟨fun st hc => ?_, fun hc hr => ?_, fun hc hr => ?_⟩, fun hw hk hh hc hr => ?_,
    fun hh => ⟨fun hb => ?_, fun hr hz hb => ?_, fun x hr hz hb hx => ?_, fun x hr hz hb hx => ?_⟩,
    fun hh => ⟨fun hb => ?_, fun hb => ?_⟩, fun hh => ⟨fun hv => ?_, fun hv hb => ?_, fun hv hb => ?_⟩⟩
  -- SERVE_CONFIG
  · exact .of_served rfl hs hh (runServeConfig_fenced hf)
  · exact .of_served rfl hs hh (runServeConfig_denied hf hn)
  · exact .of_served rfl hs hh (runServeConfig_stops hf hn (Nat.mod_two_ne_one.1 ho) hr)
  · exact .of_served rfl hs hh (runServeConfig_serves_on hf hn (Nat.mod_two_ne_one.1 ho) hr)
  · exact .of_served rfl hs hh (runServeConfig_wrong_state hf hn ho ha)
  · exact .of_served rfl hs hh (runServeConfig_bad hf hn ho ha hv hc hb)
  · exact .of_served rfl hs hh (runServeConfig_begins hf hn ho ha hv hc hb)
  -- OPEN_REQUEST
  · exact .of_inIbex rfl hs (tryOpen_fails hh hc)
  · exact .of_inIbex rfl hs (tryOpen_full hh hc hr)
  · exact .of_inIbex rfl hs ((tryOpen_starts hh hc hr).trans (runOpen_running rfl))
  · exact .of_inIbex rfl hs (tryOpen_waits_on hw hk hh hc hr)
  -- CANCEL_REQUEST
  · exact .of_served rfl hs hh (runCancel_bad hb)
  · exact .of_served rfl hs hh (runCancel_not_open hr hz hb)
  · exact .of_served rfl hs hh (runCancel_foreign hr hz hb hx)
  · exact .of_served rfl hs hh (runCancel_own (w := w) hr hz hb hx)
  -- SAMPLE and STEP
  · exact .of_started rfl hh (runSample_bad hb)
  · exact .of_started rfl hh (runSample_waits hb)
  · exact .of_started rfl hh (runStep_denied hv)
  · exact .of_started rfl hh (runStep_bad hv hb)
  · exact .of_started rfl hh (runStep_offered hv hb)

end Sys2Proof.Machine

/-! ## The requests of Fabric Ports (O28) -/

namespace Sys2Proof.Machine

open State

/-- A request's opcode, whether it takes an eviction credit, and its command. -/
def requestRows : List (Nat × Bool × (Req → Instr)) :=
  [(Op.RD_SHARED, false, Instr.rdShared), (Op.RD_OWN, false, Instr.rdOwn), (Op.RD_CUR, false, Instr.rdCur),
    (Op.RD_OWN_NODATA, false, Instr.rdOwnNodata), (Op.EVICT_CLEAN, true, Instr.evictClean), (Op.EVICT_DIRTY, true, Instr.evictDirty),
    (Op.ATOMIC, false, Instr.atomic), (Op.WR_UC, false, Instr.wrUc), (Op.WR_NT, false, Instr.wrNt), (Op.FENCE, false, Instr.fence),
    (Op.RSV_CHECK, false, Instr.rsvCheck)]

/-- The two notices of eviction take their own class of credits (Table 4 of spec/17). -/
theorem evict_of_fabricRequest {op : Nat} {ev : Bool} {c : Req → Instr} (h : (op, ev, c) ∈ requestRows) :
    decide (op = Op.EVICT_CLEAN ∨ op = Op.EVICT_DIRTY) = ev := by
  simp only [requestRows, List.mem_cons, List.not_mem_nil, or_false, Prod.mk.injEq] at h
  rcases h with ⟨rfl, rfl, -⟩ | ⟨rfl, rfl, -⟩ | ⟨rfl, rfl, -⟩ | ⟨rfl, rfl, -⟩ | ⟨rfl, rfl, -⟩ | ⟨rfl, rfl, -⟩ | ⟨rfl, rfl, -⟩ |
    ⟨rfl, rfl, -⟩ | ⟨rfl, rfl, -⟩ | ⟨rfl, rfl, -⟩ | ⟨rfl, rfl, -⟩ <;> decide

/-- Each request goes to its port through the crossing of its home's domain. -/
theorem exec_fabricRequest {op : Nat} {ev : Bool} {c : Req → Instr} (h : (op, ev, c) ∈ requestRows) (m : Req) (s : State) :
    exec (c m) s = .next (s.done (s.reqOp op (c m) m)) := by
  simp only [requestRows, List.mem_cons, List.not_mem_nil, or_false, Prod.mk.injEq] at h
  rcases h with ⟨rfl, -, rfl⟩ | ⟨rfl, -, rfl⟩ | ⟨rfl, -, rfl⟩ | ⟨rfl, -, rfl⟩ | ⟨rfl, -, rfl⟩ | ⟨rfl, -, rfl⟩ | ⟨rfl, -, rfl⟩ |
    ⟨rfl, -, rfl⟩ | ⟨rfl, -, rfl⟩ | ⟨rfl, -, rfl⟩ | ⟨rfl, -, rfl⟩ <;> rfl

namespace State

/-! ### Requests at their port (R424, R425, R427, R430) -/

section
variable {op : Nat} {m : Req} {s : State}

theorem arriveReq_off (h : s.portOn m.port.val = false) : s.arriveReq op m = s := by
  have hp : s.portTakes m.port.val m.agent.toNat = false := by simp only [portTakes, h, Bool.false_and]
  simp only [arriveReq, hp, h, Bool.not_false, Bool.false_eq_true, if_true, if_false]

theorem arriveReq_refused (hp : s.portTakes m.port.val m.agent.toNat = false) (hon : s.portOn m.port.val = true) :
    s.arriveReq op m = s.badMsg m.agent.toNat := by
  simp only [arriveReq, hp, hon, Bool.not_false, if_true]

variable {ev : Bool} (hev : decide (op = Op.EVICT_CLEAN ∨ op = Op.EVICT_DIRTY) = ev) (hp : s.portTakes m.port.val m.agent.toNat = true)
include hev hp

theorem arriveReq_beyond_credits (hc : (if ev then s.evCredits m.port.val else s.reqCredits m.port.val) = 0) :
    s.arriveReq op m = s.creditErr m.agent.toNat := by
  simp only [arriveReq, hp, hev, hc, Bool.not_true, Bool.false_eq_true, if_false, if_true]

theorem arriveReq_taken (hc : (if ev then s.evCredits m.port.val else s.reqCredits m.port.val) ≠ 0) :
    s.arriveReq op m = ((s.takeCredit ev m.port.val).bump Reg.FP_STAT_REQ).modFp fun f => { f with reqs := f.reqs ++ [{ op := op, m := m }] } := by
  simp only [arriveReq, hp, hev, hc, Bool.not_true, Bool.false_eq_true, if_false]

end

/-! ### What leaving the ingress keeps (R425) -/

theorem sendCrd_nt (port : Nat) (m : Msg) (s : State) : (s.sendCrd port m).fp.nt = s.fp.nt := by
  unfold sendCrd; split <;> rfl

theorem sendCrd_rb (port : Nat) (m : Msg) (s : State) : (s.sendCrd port m).rb = s.rb := by
  unfold sendCrd; split <;> rfl

theorem giveCredit_nt (ev : Bool) (port : Nat) (s : State) : (s.giveCredit ev port).fp.nt = s.fp.nt := by
  unfold giveCredit; split <;> exact sendCrd_nt ..

theorem giveCredit_rb (ev : Bool) (port : Nat) (s : State) : (s.giveCredit ev port).rb = s.rb := by
  unfold giveCredit; split <;> exact sendCrd_rb ..

theorem takeOut_nt (p : PendReq) (s : State) : (s.takeOut p).fp.nt = s.fp.nt := by
  simp only [takeOut]
  split
  · split
    · exact sendCrd_nt ..
    · rfl
  · rfl

theorem takeOut_rb (p : PendReq) (s : State) : (s.takeOut p).rb = s.rb := by
  simp only [takeOut]
  split
  · split
    · exact sendCrd_rb ..
    · rfl
  · rfl

theorem leaveIngress_nt (p : PendReq) (s : State) : (s.leaveIngress p).fp.nt = s.fp.nt := (giveCredit_nt ..).trans (takeOut_nt p s)

theorem leaveIngress_rb (p : PendReq) (s : State) : (s.leaveIngress p).rb = s.rb := (giveCredit_rb ..).trans (takeOut_rb p s)

/-- The mode of a context decides what a FENCE covers. -/
theorem fenceCovers_leaveIngress (m : Req) (p : PendReq) (s : State) : (s.leaveIngress p).fenceCovers m = s.fenceCovers m := by
  funext x
  simp only [fenceCovers, ctxOf, leaveIngress_rb]

/-! ### Requests from the ingress -/

section
variable {p : PendReq} {s : State}

/-- Only a line of the core peer window waits for the segment tables. -/
theorem serveReq_elsewhere (h : s.lineKind p.m.addr.toNat ≠ 3) : s.serveReq p = s.serveReqNow p := by
  refine if_neg fun hc => h ?_
  simp only [lineKind, hc.2]

theorem serveReq_aperture_read (hop : p.op = Op.RD_CUR) (hk : s.lineKind p.m.addr.toNat = 2) :
    s.serveReq p = ((s.leaveIngress p).emit (.dat p.m.port.val p.m.agent.toNat p.m.txn.toNat 0 0 false false)).emit
      (.rsp p.m.port.val p.m.agent.toNat p.m.txn.toNat .goI false false 0) := by
  rw [serveReq_elsewhere (by omega)]
  exact (if_neg (by rw [hop]; decide)).trans (if_pos ⟨hop, hk⟩)

theorem serveReq_hole (hop : p.op ≠ Op.FENCE) (hk : s.lineKind p.m.addr.toNat = 4) :
    s.serveReq p = (s.leaveIngress p).holeResponse p.op p.m := by
  rw [serveReq_elsewhere (by omega)]
  refine (if_neg hop).trans ((if_neg (by omega)).trans ((if_neg (by omega)).trans ((if_pos (.inl (by omega))).trans ?_)))
  exact (if_neg (by omega)).trans (if_pos hk)

/-- A FENCE that covers no entry of its port's combining buffer only waits for the writes it covers. -/
theorem serveReq_fence (hop : p.op = Op.FENCE)
    (hn : (s.fp.nt.any fun e => decide (e.port = p.m.port.val) && e.ids.any (s.fenceCovers p.m)) = false) :
    s.serveReq p = (s.leaveIngress p).modFp fun f => { f with
      fences := f.fences ++ [{ m := p.m, failed := f.ntLost.any (s.fenceCovers p.m) }],
      ntLost := f.ntLost.filter fun x => !s.fenceCovers p.m x } := by
  have hnone : (s.fp.nt.filter fun e => decide (e.port = p.m.port.val) && e.ids.any (s.fenceCovers p.m)) = [] :=
    List.filter_eq_nil_iff.2 (List.any_eq_false.1 hn)
  refine (if_neg fun h => h.1 hop).trans ((if_pos hop).trans ?_)
  simp only [leaveIngress_nt, fenceCovers_leaveIngress, hnone, List.foldl_nil]

section
variable (hk : s.lineKind p.m.addr.toNat = 0)
include hk

/-- A request to device memory is not refused for its address. -/
theorem not_rejected_to_memory {P : Prop} [Decidable P] {Q : Prop} [Decidable Q] :
    ¬(4 ≤ s.lineKind p.m.addr.toNat ∨ (!decide (s.lineKind p.m.addr.toNat ≤ 1) && decide P && decide Q) = true) := by
  simp [hk]

/-- A non-temporal write to memory merges and is answered at once (R254). -/
theorem serveReq_nonTemporal {d : Dat} (hop : p.op = Op.WR_NT) (hd : s.datOf p.m = some d) :
    s.serveReq p = ((s.leaveIngress p).mergeNt p.m.port.val p.m.addr.toNat (s.reqId p.m) d).emit
      (.rsp p.m.port.val p.m.agent.toNat p.m.txn.toNat .cmp false false 0) := by
  rw [serveReq_elsewhere (by omega)]
  refine (if_neg (by rw [hop]; decide)).trans ((if_neg (by omega)).trans ((if_neg (by omega)).trans ?_))
  refine (if_neg (not_rejected_to_memory hk)).trans ((if_pos hop).trans ?_)
  rw [hd]

/-- A reservation check of a line that no write of the port waits for (R263). -/
theorem serveReq_rsvCheck (hop : p.op = Op.RSV_CHECK) (hnt : s.fp.nt = []) (huc : s.fp.ucs = []) :
    let m := p.m
    let ok := s.fp.rsv.any fun r => decide (r.agent = m.agent.toNat ∧ r.thread = m.thread.toNat ∧ r.line = m.addr.toNat)
    let t := (s.leaveIngress p).modFp fun f => { f with rsv := f.rsv.filter fun r => !decide (r.agent = m.agent.toNat ∧ r.thread = m.thread.toNat) }
    s.serveReq p = (if ok then t.breakRsv m.addr.toNat (some (s.reqId m)) else t.bump Reg.FP_STAT_RSV_FAIL).emit
      (.rsp m.port.val m.agent.toNat m.txn.toNat .cmp false ok 0) := by
  have hflush : s.flushNtLine p.m.port.val p.m.addr.toNat = s := flushNtLine_absent (by rw [hnt]; rfl)
  have hno {n : Nat} (h : Op.RSV_CHECK ≠ n) : p.op ≠ n := hop ▸ h
  rw [serveReq_elsewhere (by omega)]
  refine (if_neg (hno (by decide))).trans ((if_neg (by omega)).trans ((if_neg (by omega)).trans ?_))
  refine (if_neg (not_rejected_to_memory hk)).trans ((if_neg (hno (by decide))).trans ?_)
  dsimp only
  rw [hflush, huc]
  refine (if_neg (by simp)).trans ((if_neg (hno (by decide))).trans ((if_neg (hno (by decide))).trans ((if_neg (hno (by decide))).trans ?_)))
  exact (if_neg (hno (by decide))).trans ((if_neg (hno (by decide))).trans ((if_neg (hno (by decide))).trans (if_pos hop)))

end
end

end State

/-- Settles O28: the eleven requests at their port, and what leaves the ingress. -/
theorem fabricRequests : Obligations.FabricRequests := by
  refine ⟨fun op ev c hc m s ho => ?_, fun p s => ⟨serveReq_aperture_read, serveReq_hole, serveReq_fence,
    fun d hop hk hd => serveReq_nonTemporal hk hop hd, fun hop hk hnt huc => serveReq_rsvCheck hk hop hnt huc⟩⟩
  have hev := evict_of_fabricRequest hc
  have hends {u : State} (hu : s.arriveReq op m = u) : Ends (c m) s u :=
    .of_done (exec_fabricRequest hc m s) ((crossE_open _ _ _ ho.1 ho.2).trans hu)
  exact ⟨fun hp hn => hends (arriveReq_taken hev hp hn), fun hp hn => hends (arriveReq_beyond_credits hev hp hn),
    fun hp hon => hends (arriveReq_refused hp hon), fun hoff => hends (arriveReq_off hoff)⟩

end Sys2Proof.Machine
